-- ==== Sys2Proof/Word.lean ====
section
/-! DEFINITION. The word types of the TS88 block, the paths a register access comes by, and the frames of the shuttle. -/

namespace Sys2Proof

/-- One byte of a payload, a buffer or a page. -/
abbrev Byte := BitVec 8

/-- One 32-bit register (R18). -/
abbrev Word := BitVec 32

/-- One 64-bit register pair. -/
abbrev DWord := BitVec 64

/-- The path a register access comes by (R25, R400, R471): the two PCIe windows, SPI, I2C, the CP of a die, and the
stitch engine of a unit. -/
inductive Path | bar0 | bar2 | spi | i2c | cp (d : Nat) | stitch
deriving DecidableEq, Repr

/-- A frame on a shuttle link, by what it carries (R336, R339). -/
inductive Frame
  /-- The phase word of stream `stream` that closed window `k` (class 0). -/
  | word (stream k : Nat)
  /-- A timebase marker of the two-way exchange (class 0, R343). -/
  | marker
  /-- A register write of `val` at package address `addr` (class 1). -/
  | write (addr : Nat) (val : Word)
  /-- A register read at package address `addr` (class 1). -/
  | read (addr : Nat)
  /-- The syntonising rate `u` of time domain `t` (class 1). -/
  | rate (t : Nat) (u : Int)
  /-- A forwarded request of mailbox channel `c` for die `d` (class 1). -/
  | request (c d : Nat)
  /-- The unit image streamed to follower `d` (class 1, R389, R394). -/
  | image (d : Nat)
  /-- Event or stitch records of 16 bytes (class 2). -/
  | records (recs : List (BitVec 128))
deriving DecidableEq, Repr

/-- The traffic class of a frame (R26, R54, R336). -/
def Frame.cls : Frame → Nat
  | .word _ _ => 0 | .marker => 0 | .write _ _ => 1 | .read _ => 1 | .rate _ _ => 1 | .request _ _ => 1 | .image _ => 1 | .records _ => 2

/-- The size of a frame on the link in bytes; a class-1 frame carries one register access, one value or one segment (R336). -/
def Frame.size : Frame → Nat
  | .records rs => 16 + 16 * rs.length
  | .request _ _ => 64
  | .image _ => 64
  | _ => 16

end Sys2Proof
end

