-- ==== Sys2Proof/Syntax.lean ====
section
/-! DEFINITION. The commands of the TS88 block: one constructor per row of spec/opcode_table.json.
A Unest command names the mailbox channel that carries it; its payload is the message taken on that channel. A register
write names the path it comes by. An event names the unit it happens to and carries what the environment decides. -/

namespace Sys2Proof

/-- The commands, one constructor per row of the opcode table. -/
inductive Instr
  /-- NOP (R442): Returns the payload bytes unchanged, to test a channel and the lead CP. -/
  | nop (c : Nat)
  /-- GET_CAPS (R443): Returns the 64-byte capability descriptor of the part. -/
  | getCaps (c : Nat)
  /-- GET_VERSION (R444): Returns the firmware, ROM, slot and interface version information. -/
  | getVersion (c : Nat)
  /-- RESET (R445): Schedules a reset of the part or of one follower die DELAY_MS after the acknowledge. -/
  | reset (c : Nat)
  /-- GET_ABORT_STATUS (R446): Returns the current abort status and the history of recent aborts. -/
  | getAbortStatus (c : Nat)
  /-- EVENT_SUBSCRIBE (R454): Sets the channel's event subscription mask and optionally flushes its queue. -/
  | eventSubscribe (c : Nat)
  /-- EVENT_READ (R455): Removes and returns up to MAX of the oldest event entries of the channel. -/
  | eventRead (c : Nat)
  /-- LOG_GET (R458): Returns entries of the RAM or NV log from a given sequence number. -/
  | logGet (c : Nat)
  /-- LOG_CLEAR (R459): Empties the named logs while keeping their sequence counting. -/
  | logClear (c : Nat)
  /-- SESSION_OPEN (R447): Opens or takes over a session on the channel and optionally draws a nonce. -/
  | sessionOpen (c : Nat)
  /-- SESSION_AUTH (R448): Checks the MAC over the nonce and authenticates the SPI or I2C port. -/
  | sessionAuth (c : Nat)
  /-- SESSION_CLOSE (R449): Ends the channel's session. -/
  | sessionClose (c : Nat)
  /-- PORT_KEY_PROGRAM (R450): Programs the port key into the OTP of die 0. -/
  | portKeyProgram (c : Nat)
  /-- CHANNEL_POLICY (R451): Makes mailbox channels 4 to 7 read-only or not. -/
  | channelPolicy (c : Nat)
  /-- TB_SET_MASTER (R44): Changes the package master oscillator and starts a timebase restart. -/
  | tbSetMaster (c : Nat)
  /-- INPUT_CONFIG (R73): Declares an input, loads its monitor defaults and disqualifies it with cause CONFIG. -/
  | inputConfig (c : Nat)
  /-- INPUT_SET_MONITORS (R84): Changes an input's monitor settings, effective at the next decision tick. -/
  | inputSetMonitors (c : Nat)
  /-- INPUT_GET_STATUS (R97): Returns an input's state, cause, monitors and drift and phase-jump data. -/
  | inputGetStatus (c : Nat)
  /-- INPUT_CLEAR (R98): Ends a running wait-to-restore time or discards the drift reference. -/
  | inputClear (c : Nat)
  /-- TDC_GET_PICOT (R136): Returns a range of picot table entries of one core. -/
  | tdcGetPicot (c : Nat)
  /-- TDC_SAVE_SEED (R137): Writes the picot seed record of each named die. -/
  | tdcSaveSeed (c : Nat)
  /-- TDC_CORE_RESET (R138): Clears a retired or calibrating core's rejection count and starts a fill of it. -/
  | tdcCoreReset (c : Nat)
  /-- DPLL_CONFIG (R175): Sets a disabled DPLL's role, OPLL set and feedback and loads the default loop table. -/
  | dpllConfig (c : Nat)
  /-- DPLL_SET_LOOP (R155): Writes one loop-table row, loaded at the next update boundary. -/
  | dpllSetLoop (c : Nat)
  /-- DPLL_GET_LOOP (R176): Returns one loop-table row. -/
  | dpllGetLoop (c : Nat)
  /-- DPLL_SET_STEER (R165): Sets the host steering offset applied in FREERUN and HOLDOVER. -/
  | dpllSetSteer (c : Nat)
  /-- DPLL_PHASE_ADJUST (R166): Moves a DPLL's outputs by an offset through BO and RES at the next update boundary. -/
  | dpllPhaseAdjust (c : Nat)
  /-- DPLL_GET_STATUS (R179): Returns a DPLL's state and values at one update boundary. -/
  | dpllGetStatus (c : Nat)
  /-- DPLL_GET_CANDIDATES (R180): Returns the DPLL's view of each candidate list entry. -/
  | dpllGetCandidates (c : Nat)
  /-- DPLL_SET_CANDIDATES (R182): Gives a selecting DPLL a new candidate list, effective at the next decision tick. -/
  | dpllSetCandidates (c : Nat)
  /-- DPLL_SET_SELECTION (R212): Sets selection mode, hooks, manual input, hold-off and return allowance. -/
  | dpllSetSelection (c : Nat)
  /-- DPLL_GET_SWITCH_LOG (R213): Returns the DPLL's logged changes of selected reference. -/
  | dpllGetSwitchLog (c : Nat)
  /-- CAIRN_SET_MEMBER (R247): Declares, updates or removes an oscillator port as an ensemble member. -/
  | cairnSetMember (c : Nat)
  /-- CAIRN_SET_CONFIG (R248): Sets the cairn engine's learning, rejection and persistence parameters. -/
  | cairnSetConfig (c : Nat)
  /-- CAIRN_GET_MODEL (R249): Returns a port's model coefficients, variance terms and states. -/
  | cairnGetModel (c : Nat)
  /-- CAIRN_SAVE (R250): Saves the QUALIFIED model of each named port. -/
  | cairnSave (c : Nat)
  /-- CAIRN_FORGET (R250): Clears a port's model and voids its record. -/
  | cairnForget (c : Nat)
  /-- DPLL_SET_HOLDOVER (R251): Sets a DPLL's holdover basis, history tick, averaging window and guard. -/
  | dpllSetHoldover (c : Nat)
  /-- DPLL_GET_HOLDOVER (R252): Returns a DPLL's holdover window, word and time-error bound. -/
  | dpllGetHoldover (c : Nat)
  /-- OPLL_CONFIG (R287): Sets a disabled OPLL's reference port and frequency plan. -/
  | opllConfig (c : Nat)
  /-- OPLL_SET_FREQ (R280): Ramps an unsteered LOCKED OPLL to a new frequency, or quiesces it for a large change. -/
  | opllSetFreq (c : Nat)
  /-- OPLL_ALIGN (R288): Runs a measured alignment of a LOCKED OPLL's outputs without an aligned reset. -/
  | opllAlign (c : Nat)
  /-- OUTPUT_CONFIG (R289): Configures an OFF or STOPPED output's source, format, divider, phase and bypass. -/
  | outputConfig (c : Nat)
  /-- OUTPUT_RUN (R290): Stops, starts at a common T0, or returns from bypass the named outputs of one die. -/
  | outputRun (c : Nat)
  /-- TD_CONFIG (R327): Sets a time domain's servo, syntonisation and step settings and clears FROZEN and PARITY_HOLD. -/
  | tdConfig (c : Nat)
  /-- TD_GET_CONFIG (R327): Returns a time domain's settings in force. -/
  | tdGetConfig (c : Nat)
  /-- TD_SET_TIME (R296): Writes absolute or relative time, applied as a step at the next update boundary. -/
  | tdSetTime (c : Nat)
  /-- TD_GET_TIME (R329): Returns a domain's time, MTS and rate at one update boundary. -/
  | tdGetTime (c : Nat)
  /-- TD_SET_TOD (R330): Sets a domain's time-of-day format, GPIO, delay and leap settings from the next crossing. -/
  | tdSetTod (c : Nat)
  /-- STITCH_LOAD (R380): Loads one 32-word segment into an engine's staging buffer. -/
  | stitchLoad (c : Nat)
  /-- STITCH_COMMIT (R375): Verifies the staged program under R374 and installs it when the engine is idle. -/
  | stitchCommit (c : Nat)
  /-- STITCH_DEFAULT (R382): Installs the default program of an engine. -/
  | stitchDefault (c : Nat)
  /-- STITCH_RUN (R382): Triggers the HOST point of a class TD or OUT engine with four arguments. -/
  | stitchRun (c : Nat)
  /-- BOOT_LOAD (R416): Carries one chunk of a lead or unit image to the part. -/
  | bootLoad (c : Nat)
  /-- BOOT_START (R417): Checks the downloaded images and starts them. -/
  | bootStart (c : Nat)
  /-- FW_FLASH (R410): Erases, programs or reads the slot that is not running. -/
  | fwFlash (c : Nat)
  /-- BOOT_CONFIRM (R409): Marks the running slot GOOD, or puts the other slot in TRIAL. -/
  | bootConfirm (c : Nat)
  /-- BOOT_PROFILE_SET (R420): Edits, commits or erases a die's boot profile. -/
  | bootProfileSet (c : Nat)
  /-- DMA_RING_CONFIG (R494): Configures and enables or disables a DMA ring. -/
  | dmaRingConfig (c : Nat)
  /-- DMA_GET_STATUS (R495): Returns a ring's pointers, drop count and write-back state. -/
  | dmaGetStatus (c : Nat)
  /-- IRQ_ROUTE (R496): Routes an interrupt source to an MSI-X vector and pins. -/
  | irqRoute (c : Nat)
  /-- NV_READ (R520): Reads bytes of a user partition. -/
  | nvRead (c : Nat)
  /-- NV_WRITE (R521): Writes bytes within one page of a user partition and verifies them. -/
  | nvWrite (c : Nat)
  /-- NV_LOGIN (R522): Grants or ends a session's read or write access to a partition by password. -/
  | nvLogin (c : Nat)
  /-- NV_SET_PASSWORD (R523): Changes a partition password, or erases the partition and clears its lock. -/
  | nvSetPassword (c : Nat)
  /-- NV_GET_STATUS (R524): Returns a die's NV store status, counts, grants and supply levels. -/
  | nvGetStatus (c : Nat)
  /-- BELAY_CONFIG (R550): Sets wake interval, debounce, MAIN_FAILn enable and auto-save. -/
  | belayConfig (c : Nat)
  /-- BELAY_ENTER (R551): Commands entry into belay, with an optional duration. -/
  | belayEnter (c : Nat)
  /-- POWER_GET_STATUS (R552): Returns belay phase, counts and the time-error bound of the latest belay. -/
  | powerGetStatus (c : Nat)
  /-- MARGIN_GET_PLAN (R553): Returns a die's margin plan in force. -/
  | marginGetPlan (c : Nat)
  /-- AGEING_GET_STATUS (R554): Returns a die's ageing measurements and oscillator projections. -/
  | ageingGetStatus (c : Nat)
  /-- HALT (R359): Ends a stitch invocation once the write queue is empty. -/
  | halt (e : Nat)
  /-- WAIT_EVENT (R361): Stitch instruction that waits until an event in MASK is pending. -/
  | waitEvent (e : Nat)
  /-- WAIT_TIME (R361): Stitch instruction that waits N microseconds, boundaries or milliseconds. -/
  | waitTime (e : Nat)
  /-- SET_FIELD (R361): Stitch instruction that queues a write of a register field from a general register. -/
  | setField (e : Nat)
  /-- CLR_FIELD (R361): Stitch instruction that queues a write of zeros into a register field. -/
  | clrField (e : Nat)
  /-- READ (R361): Stitch instruction that loads a view field into a general register. -/
  | read (e : Nat)
  /-- CMP (R361): Stitch instruction that compares and sets the flags. -/
  | cmp (e : Nat)
  /-- BRANCH (R361): Stitch instruction that jumps when its condition holds. -/
  | branch (e : Nat)
  /-- ADD (R361): Stitch instruction that adds or loads an operand and sets the flags. -/
  | add (e : Nat)
  /-- LOOP (R361): Stitch instruction that decrements a register and jumps while it is not zero. -/
  | loop (e : Nat)
  /-- EMIT (R363): Stitch instruction that raises a doorbell or forms a stitch record. -/
  | emit (e : Nat)
  /-- TB_EN_SET (R35): A write setting TB_EN starts the package timebase, or is refused under R42. -/
  | tbEnSet (p : Path) (w : Word)
  /-- TB_EN_CLEAR (R585): A write clearing TB_EN turns off the timebase, links and TDC channels. -/
  | tbEnClear (p : Path) (w : Word)
  /-- TB_CONFIG_WRITE (R41): A write of MASTER or OSC_FREQ, ignored with CFG_REJ while TB_EN = 1. -/
  | tbConfigWrite (p : Path) (w : Word)
  /-- INPUT_ENABLE (R87): ENABLE written 1 starts an input's monitors once measurements are valid. -/
  | inputEnable (p : Path) (n : Nat)
  /-- INPUT_DISABLE (R87): ENABLE written 0 stops the monitors and disqualifies the input with cause DISABLED. -/
  | inputDisable (p : Path) (n : Nat)
  /-- FORCE_DISQ_WRITE (R86): A write of FORCE_DISQ makes the FORCED cause present or absent. -/
  | forceDisqWrite (p : Path) (n : Nat) (b : Bool)
  /-- RANK_PRIORITY_WRITE (R93): A write of an input's rank or priority, effective at the next decision tick. -/
  | rankPriorityWrite (p : Path) (n : Nat) (rank : Nat) (prio : Nat)
  /-- DPLL_ENABLE (R160): ENABLE written 1 takes a configured DPLL to FREERUN on its free-run word. -/
  | dpllEnable (p : Path) (n : Nat)
  /-- DPLL_DISABLE (R160): ENABLE written 0 takes a DPLL to disabled FREERUN with its OPLLs holding STEER. -/
  | dpllDisable (p : Path) (n : Nat)
  /-- FORCE_FREERUN (R160): FORCE written 1 takes an enabled DPLL to FREERUN. -/
  | forceFreerun (p : Path) (n : Nat)
  /-- FORCE_HOLDOVER (R160): FORCE written 2 takes an enabled DPLL to HOLDOVER, or FREERUN without valid history. -/
  | forceHoldover (p : Path) (n : Nat)
  /-- FORCE_AUTOMATIC (R160): FORCE written 0 lets selection resume at the next decision tick. -/
  | forceAutomatic (p : Path) (n : Nat)
  /-- SEL_RETBLK_CLEAR (R201): Writing 1 to a SEL_RETBLK bit accepts a returned phase and unblocks the entry. -/
  | selRetblkClear (p : Path) (n : Nat) (w : Word)
  /-- SEL_HOOK_VERDICT_WRITE (R192): A write of the before-switch verdict, counted only while the hook runs for that switch. -/
  | selHookVerdictWrite (p : Path) (n : Nat) (w : Word)
  /-- OPLL_ENABLE (R263): ENABLE written 1 starts band calibration, or FAULT without an active reference. -/
  | opllEnable (p : Path) (n : Nat)
  /-- OPLL_DISABLE (R263): ENABLE written 0 stops the OPLL's outputs and takes it through QUIESCE to OFF. -/
  | opllDisable (p : Path) (n : Nat)
  /-- OUTPUT_ENABLE (R273): ENABLE written 1 takes a configured output to STOPPED with its divider joined. -/
  | outputEnable (p : Path) (n : Nat)
  /-- OUTPUT_DISABLE (R273): ENABLE written 0 stops the output and takes it to OFF. -/
  | outputDisable (p : Path) (n : Nat)
  /-- OUT_RUN_START (R276): RUN written 1 starts a STOPPED output on its clock source within 2 us. -/
  | outRunStart (p : Path) (n : Nat)
  /-- OUT_RUN_STOP (R273): RUN written 0 takes a starting or running output to STOPPED or STOPPING. -/
  | outRunStop (p : Path) (n : Nat)
  /-- OUT_PHASE_WRITE (R269): A write of COARSE or FINE, applied at the next rising edge as a delay. -/
  | outPhaseWrite (p : Path) (n : Nat) (r : Nat) (w : Word)
  /-- TD_ENABLE (R302): ENABLE written 1 resumes a domain's counter in UNSET with the first-offset condition. -/
  | tdEnable (p : Path) (n : Nat)
  /-- TD_DISABLE (R302): ENABLE written 0 holds the counter and discards the pending offset. -/
  | tdDisable (p : Path) (n : Nat)
  /-- TD_OFS_COMMIT (R299): COMMIT written 1 posts an offset for the next update boundary, replacing any pending one. -/
  | tdOfsCommit (p : Path) (n : Nat)
  /-- EV_CONFIG_WRITE (R318): A write of EV_CTRL or EV_RATE, effective at the next boundary, discarding unpaired edges on a MODE change. -/
  | evConfigWrite (p : Path) (n : Nat) (r : Nat) (w : Word)
  /-- STITCH_ENABLE_WRITE (R378): A write of an engine's ENABLE, letting a running invocation finish when cleared. -/
  | stitchEnableWrite (p : Path) (n : Nat) (b : Bool)
  /-- STITCH_SIGNAL (R362): SIGNAL written 1 raises event 15 of a running invocation. -/
  | stitchSignal (p : Path) (n : Nat)
  /-- MBX_H2C_DOORBELL (R401): Setting H2C doorbell bit 0 posts a message and sets H2C_FULL. -/
  | mbxH2cDoorbell (p : Path) (c : Nat)
  /-- MBX_C2H_CLEAR (R401): Clearing C2H doorbell bit 0 releases C2H_BUF and clears C2H_FULL. -/
  | mbxC2hClear (p : Path) (c : Nat)
  /-- H2C_BUF_WRITE (R402): A host write to H2C_BUF, setting COLLISION when H2C_FULL = 1. -/
  | h2cBufWrite (p : Path) (c : Nat) (i : Nat) (w : Word)
  /-- ABORT_REQ_WRITE (R405): A write of ABORT_REQ starts an abort of one function, or is rejected or ignored. -/
  | abortReqWrite (p : Path) (w : Word)
  /-- SEM_READ_ACQUIRE (R478): A base-view read of a semaphore acquires it when free or returns the owner. -/
  | semReadAcquire (p : Path) (n : Nat)
  /-- SEM_RELEASE (R480): The owner's write of 0 releases a semaphore; other writers set SEM_VIOL_H. -/
  | semRelease (p : Path) (n : Nat)
  /-- SEM_HELD_RELEASE (R480): A secure write of 1 to SEM_HELD releases a semaphore whoever holds it. -/
  | semHeldRelease (p : Path) (r : Nat) (w : Word)
  /-- IRQ_VEC_ACK_WRITE (R482): Acknowledges an MSI-X vector and resends a message while its sources are asserted. -/
  | irqVecAckWrite (p : Path) (w : Word)
  /-- IND_DATA_ACCESS (R476): A read or write of IND_DATA accesses the word at IND_ADDR and may advance it. -/
  | indDataAccess (p : Path) (write : Bool) (w : Word)
  /-- RING_RD_PTR_WRITE (R485): A host write of a ring's read pointer, ignored with PTR_ERR_H when out of range. -/
  | ringRdPtrWrite (p : Path) (r : Nat) (w : Word)
  /-- BG_EN_WRITE (R120): Clearing BG_EN freezes a die's tables; setting it starts new background cycles. -/
  | bgEnWrite (p : Path) (d : Nat) (b : Bool)
  /-- ALIAS_WRITE (R464): A set, clear or toggle alias write performs an atomic read-modify-write of RW bits. -/
  | aliasWrite (p : Path) (a : Nat) (w : Word)
  /-- SAT_COUNTER_CLEAR (R57): Writing 1 to a SAT bit clears it and the counters it covers. -/
  | satCounterClear (p : Path) (a : Nat) (w : Word)
  /-- REGISTER_WRITE (R19): A write of a register that has no row of its own, under the access codes. -/
  | registerWrite (p : Path) (a : Nat) (w : Word)
  /-- SPI_STATUS (R468): The SPI status operation returns write-queue and overflow state. -/
  | spiStatus
  /-- SPI_CS_RISE (R469): The rise of SPI_CSn ends a transaction and drops a partial word. -/
  | spiCsRise
  /-- LATE_ACCESS (R341): A follower or slow register access not complete after 2 us ends late. -/
  | lateAccess (p : Path)
  /-- REMOTE_ACCESS_COMPLETE (R340): The response of a follower register access reaches die 0. -/
  | remoteAccessComplete (p : Path)
  /-- SLOW_WRITE_DRAIN (R473): The always-on domain applies the next write from the slow-register bridge queue. -/
  | slowWriteDrain
  /-- PCIE_LINK_LOSS (R488): Link loss, PERSTn, FLR or Bus Master Enable cleared disables every ring. -/
  | pcieLinkLoss (k : Nat)
  /-- POWER_ON_RESET (R528): VDD_AON below 1.55 V, or its power-up, clears the whole part. -/
  | powerOnReset (cut : List (Nat × Nat))
  /-- RESETN (R527): A low pulse on RESETn resets the part, keeping the always-on state of R528. -/
  | resetn
  /-- RESET_DELAY_EXPIRE (R445): The delay of a RESET command expires and the part or die resets. -/
  | resetDelayExpire
  /-- BELAY_TRIGGER (R531): MAIN_FAILn low for four AONCLK cycles, or BELAY_ENTER, starts belay entry. -/
  | belayTrigger (mainFail : Bool)
  /-- BELAY_CAPTURE (R532): At B_e every live die captures time, DPLL and model state and the always-on count. -/
  | belayCapture
  /-- BELAY_POWER_DOWN (R532): Once outputs rest and saves end, links go DOWN and all but the always-on domains power down. -/
  | belayPowerDown
  /-- BELAY_WAKE (R536): The periodic wake reads temperature, updates belay steering and makes queued NV writes. -/
  | belayWake (cnt : Nat) (temp : Option Int)
  /-- BELAY_OUTPUT_PULSE (R537): The always-on generator emits a belay 1PPS pulse at a carried crossing. -/
  | belayOutputPulse (m : Nat)
  /-- BELAY_EXIT (R540): The exit criterion is met and the part restores configuration, timebase and outputs. -/
  | belayExit (cnt : Nat)
  /-- SYSPLL_LOCK (R262): The SYSPLL declares lock 1.5 ms after enable. -/
  | syspllLock (d : Nat)
  /-- BOOT_ROM_START (R389): The ROM reads straps, OTP, boot record and profile, and checks the slot images. -/
  | bootRomStart (strap : Nat)
  /-- UNIT_IMAGE_STREAMED (R389): The unit body has been streamed to every follower whose links are UP. -/
  | unitImageStreamed
  /-- FOLLOWER_IMAGE_START (R394): A follower ROM checks the unit image and starts it or enters safe mode. -/
  | followerImageStart (d : Nat)
  /-- LEAD_IMAGE_START (R389): The lead body is loaded and checked and the lead image starts. -/
  | leadImageStart
  /-- MAILBOX_OPEN (R403): Firmware opens the mailbox channels and queues RESTART entries. -/
  | mailboxOpen
  /-- TBPLL_LOCK (R35): A die's TBPLL declares lock, MCLK becomes valid and the forwarded clock is relayed. -/
  | tbpllLock (d : Nat)
  /-- TIMEBASE_RESTART_END (R45): A timebase restart completes and RESTART falls. -/
  | timebaseRestartEnd
  /-- PORT_ACTIVITY_LOSS (R216): An oscillator port's edges stop for more than 1 us and the port goes inactive. -/
  | portActivityLoss (o : Nat)
  /-- PORT_START (R216): After 10 ms of unbroken activity a port starts and s_on resets. -/
  | portStart (o : Nat)
  /-- LINK_TRAIN_DONE (R346): Training completes and the link enters ALIGN. -/
  | linkTrainDone (d : Nat) (l : Nat)
  /-- LINK_TRAIN_TIMEOUT (R346): Training incomplete after 0.5 ms returns the link to DOWN. -/
  | linkTrainTimeout (d : Nat) (l : Nat)
  /-- LINK_RETRAIN_RETRY (R346): A new training attempt starts 10 ms after a failed one. -/
  | linkRetrainRetry (d : Nat) (l : Nat)
  /-- LINK_ALIGN_DONE (R346): After 32 exchanges the link is UP and the die's skew becomes valid. -/
  | linkAlignDone (d : Nat) (l : Nat)
  /-- LINK_RESET_SIGNAL (R346): A link fault, lane lock loss or reset from the other side takes a link to RESYNC or DOWN. -/
  | linkResetSignal (d : Nat) (l : Nat)
  /-- LANE_LOCK_LOSS (R346): The link loses lane lock and leaves UP. -/
  | laneLockLoss (d : Nat) (l : Nat)
  /-- RESYNC_DONE (R346): The pointer handshake completes and the link returns to UP. -/
  | resyncDone (d : Nat) (l : Nat)
  /-- RESYNC_TIMEOUT (R346): A handshake incomplete after 1 ms takes the link to DOWN. -/
  | resyncTimeout (d : Nat) (l : Nat)
  /-- REPARENT_RELOCK (R345): A follower whose parent link is DOWN relocks to another neighbour and retakes its skew. -/
  | reparentRelock (d : Nat)
  /-- TWO_WAY_EXCHANGE (R343): A marker exchange on an UP link measures the child's offset. -/
  | twoWayExchange (d : Nat) (l : Nat) (t1 : Nat) (t2 : Nat) (t3 : Nat) (t4 : Nat)
  /-- SKEW_UPDATE (R344): Once a second TB_SKEW moves toward the mean of the last 64 exchanges. -/
  | skewUpdate (d : Nat)
  /-- SHUTTLE_FRAME_RECEIVE (R339): A frame arrives at a die, is CRC-checked and delivered or discarded. -/
  | shuttleFrameReceive (d : Nat) (l : Nat) (ok : Bool) (f : Frame)
  /-- FRAME_RETRANSMIT (R339): A class-1 or class-2 frame not acknowledged within 1 us is resent. -/
  | frameRetransmit (d : Nat) (l : Nat)
  /-- SLOT_PLAN_ADOPT (R337): Every die adopts a rebuilt slot plan at one common update boundary. -/
  | slotPlanAdopt
  /-- CDC_VALUE_DELIVER (R350): A hold-and-flag transfer completes and any pending value is launched. -/
  | cdcValueDeliver (d : Nat) (x : Nat) (pulses : Nat) (vals : List (BitVec 128))
  /-- TDC_EDGE_CAPTURE (R104): A TDC channel timestamps an input, feedback or event edge against MCLK. The
  edge is its MCLK count and whether it rises; `code0` and `code1` are the codes of both cores. -/
  | tdcEdgeCapture (d : Nat) (c : Nat) (edge : Nat × Bool) (code0 : Nat) (code1 : Nat)
  /-- TDC_FILL_END (R116): A 20 ms fill ends, a table is formed with seed checks and the channel becomes valid. -/
  | tdcFillEnd (d : Nat) (c : Nat) (h0 : List Nat) (h1 : List Nat)
  /-- BG_HISTOGRAM_DONE (R113): A background histogram completes and its candidate table is accepted or rejected. -/
  | bgHistogramDone (d : Nat) (c : Nat) (h : List Nat)
  /-- CORE_SWAP (R114): At the end of an overlap window the overlapping core becomes active with offset correction. -/
  | coreSwap (d : Nat) (c : Nat) (pulses : Int)
  /-- SEED_SAVE (R119): Firmware writes a die's picot seed record after calibration or every SEED_SAVE_H hours. -/
  | seedSave (d : Nat)
  /-- UPDATE_BOUNDARY (R121): Every 31.25 us, windows close and every unit of the signal path updates. -/
  | updateBoundary
  /-- DECISION_TICK (R74): Every 1 ms, qualification, WTR and selection are evaluated. -/
  | decisionTick
  /-- WTR_EXPIRE (R87): WTR_LEFT reaches 0 and the input becomes QUALIFIED. -/
  | wtrExpire (n : Nat)
  /-- HOLDOFF_EXPIRE (R190): Hold-off after a switch ends. -/
  | holdoffExpire (n : Nat)
  /-- SWITCH_EXECUTE (R193): At S the switch takes effect atomically with BO and RES set under R195. -/
  | switchExecute (n : Nat)
  /-- LOS_TIMEOUT (R74): No active edge for LOS_N half-periods sets LOS. -/
  | losTimeout (n : Nat)
  /-- LOS_CLEAR (R74): Edges for 16 consecutive periods clear LOS and start a FREQ gate. -/
  | losClear (n : Nat)
  /-- FREQ_GATE_END (R76): A FREQ gate ends and the input's offset sets or clears FREQ. -/
  | freqGateEnd (n : Nat)
  /-- DRIFT_EVALUATION (R77): Once a second DRIFT forms a sample, compares its window mean and updates the reference. -/
  | driftEvaluation (n : Nat)
  /-- STALE_TIMEOUT (R91): No accepted offset for STALE_S sets STALE on a virtual input. -/
  | staleTimeout (n : Nat)
  /-- STREAM_TIMEOUT (R90): No word of a remote input for 1 ms makes cause STREAM present. -/
  | streamTimeout (k : Nat) (n : Nat)
  /-- NOT_VALID_TIMEOUT (R86): Invalid measurements for more than 10 ms make cause NOT_VALID present. -/
  | notValidTimeout (n : Nat)
  /-- LOCK_GATE_END (R156): A DPLL lock gate ends and is judged for passing, lock or unlock. -/
  | lockGateEnd (n : Nat)
  /-- MIRROR_LEADER_LOST (R48): No usable leader word for 32 windows sets MIRROR_LOST and holdover or free-run. -/
  | mirrorLeaderLost (n : Nat)
  /-- FB_FAULT_TIMEOUT (R153): Feedback words unusable for over 10 ms raise FB_FAULT. -/
  | fbFaultTimeout (n : Nat)
  /-- FREERUN_WORD_REFRESH (R161): Once a second the free-run word is refreshed from the model correction. -/
  | freerunWordRefresh (n : Nat)
  /-- HOLDOVER_WORD_REFRESH (R235): Once a second in HOLDOVER the holdover word is re-formed. -/
  | holdoverWordRefresh (n : Nat)
  /-- HISTORY_SAMPLE (R232): At each history tick a holdover sample is stored and judged valid. -/
  | historySample (n : Nat)
  /-- PORT_METER_SAMPLE (R215): Each port meter forms its 1 s frequency sample. -/
  | portMeterSample (o : Nat) (m : Int)
  /-- THERMISTOR_READ (R217): Once a second each enabled thermistor is read and converted. -/
  | thermistorRead (o : Nat) (ohms : Nat)
  /-- CAIRN_SECOND (R226): Once a second the engine forms Y, tests members and takes learning observations. -/
  | cairnSecond
  /-- LEARNING_MEAN (R222): A 64 s mean is fitted and the model state updated. -/
  | learningMean (o : Nat)
  /-- RESTORE_VERIFY (R225): After RESTORE_VERIFY_S a restored model is verified or discarded. -/
  | restoreVerify (o : Nat)
  /-- MODEL_SAVE (R237): Every SAVE_MIN minutes a QUALIFIED model is saved. -/
  | modelSave (o : Nat)
  /-- OPLL_BAND_CAL_DONE (R263): Band calibration ends with a band chosen or a BAND fault. -/
  | opllBandCalDone (n : Nat) (band : Nat) (cover : Nat) (drift : Int)
  /-- OPLL_GATE_END (R260): A 10 us OPLL gate ends and is judged for lock or loss of lock. -/
  | opllGateEnd (n : Nat) (count : Nat) (inGuard : Bool)
  /-- OPLL_CYCLE_SLIP (R261): A phase-detector cycle slip declares loss of lock and takes the OPLL to FAULT. -/
  | opllCycleSlip (n : Nat)
  /-- OPLL_LOCKING_TIMEOUT (R263): No lock 1 ms after LOCKING returns the OPLL to BAND_CAL. -/
  | opllLockingTimeout (n : Nat)
  /-- OPLL_FAULT_RETRY (R263): 10 ms after FAULT with an active reference the OPLL retries BAND_CAL. -/
  | opllFaultRetry (n : Nat)
  /-- OPLL_ALIGN_SLOT (R270): An alignment tap measurement slot ends and sets FD_CORR, or repeats. -/
  | opllAlignSlot (n : Nat) (ok : Bool) (corr : Int)
  /-- OUTPUT_FIRST_EDGE (R273): A STARTING output drives the source's first rising edge and becomes RUNNING. -/
  | outputFirstEdge (n : Nat)
  /-- OUTPUT_STOP_LEVEL (R275): A stopping output reaches its stop level and becomes STOPPED or OFF. -/
  | outputStopLevel (n : Nat)
  /-- WHOLE_SECOND_CROSSING (R293): A domain's NS reaches one second and SEC increments. -/
  | wholeSecondCrossing (t : Nat)
  /-- TOD_MESSAGE_START (R312): DELAY_MS after a crossing the formatter starts its time-of-day message. -/
  | todMessageStart (t : Nat)
  /-- TD_HOLD_EXPIRE (R302): HOLD_MS without an offset takes a TRACKING domain to FREERUN. -/
  | tdHoldExpire (t : Nat)
  /-- STITCH_INVOKE (R365): A trigger starts an engine invocation at its point's entry address. -/
  | stitchInvoke (e : Nat)
  /-- STITCH_WAIT_RESUME (R361): A waiting engine resumes when its event or time arrives. -/
  | stitchWaitResume (e : Nat)
  /-- STITCH_OVERRUN (R367): An invocation reaching 4096 steps ends and its queued writes are discarded. -/
  | stitchOverrun (e : Nat)
  /-- STITCH_UNIT_WRITE (R359): The head of an engine's write queue is applied to its unit whole. -/
  | stitchUnitWrite (e : Nat)
  /-- MBX_MESSAGE_TAKE (R401): The CP copies a posted message and checks its framing and session. -/
  | mbxMessageTake (c : Nat)
  /-- RESPONSE_POST (R402): A held response is written once C2H_FULL falls. -/
  | responsePost (c : Nat)
  /-- FORWARDED_REQUEST (R60): A follower CP serves a forwarded request in arrival order. -/
  | forwardedRequest (d : Nat)
  /-- CP_PERIODIC_TASK (R59): Each 1 ms window a CP runs its periodic tasks and heartbeat. -/
  | cpPeriodicTask (d : Nat)
  /-- CP_HALT (R385): An uncorrectable ECC error or unhandled exception halts a CP. -/
  | cpHalt (d : Nat)
  /-- FLASH_OPERATION_DONE (R435): The flash reports an erase or program done and FW_FLASH completes. -/
  | flashOperationDone (ok : Bool)
  /-- ABORT_REQUEST_ARRIVE (R406): The abort request reaches its die and the abort timer and clean-up start. -/
  | abortRequestArrive
  /-- ABORT_CLEANUP_DONE (R406): Firmware reports clean-up complete within its window. -/
  | abortCleanupDone
  /-- ABORT_FORCE (R407): Hardware forces the function to its abort state after transfers finish. -/
  | abortForce
  /-- ABORT_COMPLETION (R406): The abort completion reaches die 0 and RESULT is set. -/
  | abortCompletion
  /-- ABORT_UNCONFIRMED (R406): No completion 1 ms after the request sets RESULT to UNCONFIRMED. -/
  | abortUnconfirmed
  /-- NV_PAGE_WRITE (R502): The NV controller takes the next queued page write and programs it under its journal. -/
  | nvPageWrite (d : Nat) (aonMv : Nat) (choldMv : Nat) (good : Nat)
  /-- MARGIN_SCAN (R516): The controller reads written pages at a shifted level and refreshes weak ones. -/
  | marginScan (d : Nat) (page : Nat) (weak : Bool)
  /-- MARGIN_PLAN_EVAL (R547): Every 24 h firmware evaluates the ageing sources and saves a new margin plan. -/
  | marginPlanEval (d : Nat) (wear : Nat)
  /-- CONFIG_SCRUB (R477): Each 1 ms the scrubber checks configuration parity and records faults. -/
  | configScrub (d : Nat) (bad : List Nat)
  /-- FABRIC_UNIT_SLEEP (R529): A fabric unit idle for 256 cycles goes to sleep. -/
  | fabricUnitSleep (d : Nat) (u : Nat)
  /-- RING_RECORD_WRITE (R484): A record reaching die 0 is routed to a ring or the local ring, or dropped on overflow. -/
  | ringRecordWrite (r : Nat)
  /-- WRITEBACK_TIMER_EXPIRE (R487): WB_TIMER_US after the first unreported entry a write-back block is written. -/
  | writebackTimerExpire (r : Nat)
  /-- OSC_RETURN (R231): Edges return on an oscillator port, making it active again and, for the package master, clearing OSC_LOSS so the cairn engine resumes from its held values. -/
  | oscReturn (o : Nat)
  /-- MAIN_FAILN_RISE (R539): MAIN_FAILn goes high, starting the debounce that ends belay after DEBOUNCE_MS. -/
  | mainFailnRise
  /-- I2C_STOP (R470): A STOP condition on the I2C bus ends the transaction and drops any partial word. -/
  | i2cStop
  /-- PCIE_LINK_UP (R488): The PCIe link trains up after reset, PERSTn release or a loss, so rings may be enabled again. -/
  | pcieLinkUp
  /-- PCIE_CONFIG_WRITE (R482): A host write to PCIe configuration space sets Bus Master Enable, MSI-X Enable or the MSI-X function mask. -/
  | pcieConfigWrite (bme : Bool) (msix : Bool) (mask : Bool)
  /-- PHASE_PREDICTOR_VALID (R352): After 1 024 receiving cycles of stable clocks a crossing's phase predictor becomes valid and the crossing moves from its fall-back synchroniser to its main path. -/
  | phasePredictorValid (d : Nat) (x : Nat)
deriving DecidableEq, Repr

end Sys2Proof
end

