-- ==== Sys2Proof/Decode.lean ====
section
/-! DEFINITION. Words of the command table: the table of this block gives no row any bits, so no word spells a command. The
instruction words of the stitch engines, which the spec does encode, are decoded in Machine/StitchIsa.lean. -/

namespace Sys2Proof

/-- The command that a word spells by the table's bits: the table gives none. DESIGN CHOICE, safe: log entry 2. -/
def decodeTableWord (_nbits _w : Nat) : Option Instr := none

end Sys2Proof
end

