-- ==== Sys2Proof/Config.lean ====
section
/-! DEFINITION. What the spec leaves open as values: opaque constants, without a body, that no proof can evaluate.
Every one of them is named in the assumption log (notes/assumptions). -/

namespace Sys2Proof.Config

/-- The free value of draw number `k`: the spec says that some value results and not which (nonces, random bytes).
DESIGN CHOICE, safe: log entry 6. -/
opaque freeWord : Nat → BitVec 64

/-- A signed result that falls outside its `bits`-bit format: the spec states no result there (R22).
Arguments: the width and the exact result. DESIGN CHOICE, safe: log entry 7. -/
opaque outOfFormat : Nat → Int → Int

/-- The error of the part's fixed-point square root, before it is bounded (R147, R236 state the root and no rounding).
DESIGN CHOICE, unsafe: log entry 8. -/
opaque sqrtErr : Rat → Rat

/-- The error of the part's fixed-point natural logarithm, before it is bounded (R217, R219, R241).
DESIGN CHOICE, unsafe: log entry 8. -/
opaque lnErr : Rat → Rat

/-- The error of the part's fixed-point exponential, before it is bounded (R219, R230, R241).
DESIGN CHOICE, unsafe: log entry 8. -/
opaque expErr : Rat → Rat

/-- The phase in 2^-16 ns that steering words already written will produce and the feedback words do not show yet (R150):
the spec gives no formula. Arguments: the word in force and the one before it. DESIGN CHOICE, safe: log entry 10. -/
opaque steerAhead : Int → Int → Rat

/-- What R222 leaves open of a fit, for term number `i`: the retrace time constant, which is no linear term, and the estimators of QRW and ST.
Arguments: the number of the fit, the term, the old coefficients, and the residuals of the last day with the mean's offset, temperature, model
age, time since the port's start and forgetting time before them. DESIGN CHOICE, safe: log entry 11. -/
opaque fitTerm : Nat → Nat → List Int → List Rat → Int

/-- The covariance with which term `i` starts its recursive fit (R222): the spec gives none.
DESIGN CHOICE, safe: log entry 11. -/
opaque fitCov : Nat → Rat

/-- The noise variance that turns the fit covariance into standard errors (R222), from the residuals: the spec gives no estimator.
DESIGN CHOICE, safe: log entry 11. -/
opaque fitNoise : List Rat → Rat

/-- Whether a supply monitor (0 AON_OK, 1 CHOLD_OK) passes at a level in mV that lies between its limits of R559.
DESIGN CHOICE, safe: log entry 13. -/
opaque monitorTrips : Nat → Nat → Bool

/-- The SHA-384 hash held in a key slot of a die's OTP, first byte most significant, fused at manufacture (R391). Arguments: the die and the slot.
DESIGN CHOICE, safe: log entry 9. -/
opaque keyHash : Nat → Nat → BitVec 384

/-- The trend of POP_CODES per 30 days from the counts of a die's channels at successive evaluations (R545, R554): the spec
names the figure and gives no estimator. DESIGN CHOICE, safe: log entry 12. -/
opaque popTrend : List (List Nat) → Int

/-- The format in which a firmware version keeps the cairn model record: the spec names the format and does not tell the versions
apart (R238). Argument: FW_VERSION. DESIGN CHOICE, safe: log entry 9. -/
opaque recFormat : Nat → Nat

/-- Bytes of a CP's SRAM, within which an image must lie (R391): the spec gives no figure. DESIGN CHOICE, safe: log entry 9. -/
opaque sramBytes : Nat

/-- The boot ROM's version (R444). DESIGN CHOICE, safe: log entry 9. -/
opaque romVersion : BitVec 32

end Sys2Proof.Config
end

