-- ==== Sys2Proof/Machine/Data.lean ====
section
/-! DEFINITION. Plain data helpers the whole model shares: sparse tables in canonical form, rounding, number formats,
bit fields and little-endian byte strings. -/

namespace Sys2Proof.Machine
open Sys2Proof

/-! ## Sparse tables

A table is a list of (key, value) pairs with strictly rising keys and no entry equal to the default, so equal tables are
equal lists. The default is what an unlisted key reads as. -/

/-- A sparse table keyed by a natural number. -/
abbrev Tbl (α : Type) := List (Nat × α)

/-- What key `k` reads as, `d` being what an unlisted key reads as. DESIGN CHOICE, unsafe: log entry 4. -/
def tget {α : Type} (d : α) : Tbl α → Nat → α
  | [], _ => d
  | (k', v) :: t, k => if k = k' then v else tget d t k

/-- A table with every entry of key `k` taken out. -/
def trem {α : Type} (k : Nat) : Tbl α → Tbl α
  | [] => []
  | (k', v) :: t => if k' = k then trem k t else (k', v) :: trem k t

/-- The entry of a key that is not listed, put in its place. -/
def tins {α : Type} (k : Nat) (v : α) : Tbl α → Tbl α
  | [] => [(k, v)]
  | (k', v') :: t => if k < k' then (k, v) :: (k', v') :: t else (k', v') :: tins k v t

/-- The table with key `k` reading `v`, the entry listed whatever `v` is. -/
def tput {α : Type} (t : Tbl α) (k : Nat) (v : α) : Tbl α := tins k v (trem k t)

/-- The table with key `k` reading `v`; writing the default removes the entry. DESIGN CHOICE, unsafe: log entry 4. -/
def tset {α : Type} [DecidableEq α] (d : α) (t : Tbl α) (k : Nat) (v : α) : Tbl α :=
  if v = d then trem k t else tput t k v

/-- Canonical form: keys strictly above `lo` (when given) and strictly rising, no entry equal to the default. -/
def tcanon {α : Type} [DecidableEq α] (d : α) (lo : Option Nat) : Tbl α → Bool
  | [] => true
  | (k, v) :: t => (match lo with | none => true | some l => decide (l < k)) && decide (v ≠ d) && tcanon d (some k) t

/-- The table of `f` on the keys of `ks`, which rise strictly: entries equal to the default are left out. -/
def ttab {α : Type} [DecidableEq α] (d : α) (f : Nat → α) : List Nat → Tbl α
  | [] => []
  | k :: ks => if f k = d then ttab d f ks else (k, f k) :: ttab d f ks

/-- Reads key `k`, applies `f`, and stores the result. -/
def tmod {α : Type} [DecidableEq α] (d : α) (t : Tbl α) (k : Nat) (f : α → α) : Tbl α :=
  tset d t k (f (tget d t k))

/-! ## Rounding and formats -/

/-- `n / d` to the nearest integer, halves away from zero (the rounding of R104). -/
def divRound (n : Int) (d : Nat) : Int :=
  if n < 0 then - ((2 * n.natAbs + d) / (2 * d) : Nat) else ((2 * n.natAbs + d) / (2 * d) : Nat)

/-- A rational to the nearest integer, halves away from zero. DESIGN CHOICE, unsafe: log entry 8. -/
def ratRound (q : Rat) : Int := divRound q.num q.den

/-- The absolute value of a rational. -/
def ratAbs (q : Rat) : Rat := if q < 0 then -q else q

/-- `x` in a signed format of `bits` bits; outside it the spec states no result (R22). DESIGN CHOICE, safe: log entry 7. -/
def fmtS (bits : Nat) (x : Int) : Int :=
  if - (2 ^ (bits - 1) : Int) ≤ x ∧ x < (2 ^ (bits - 1) : Int) then x else Config.outOfFormat bits x

/-- A signed integer clamped to `[lo, hi]`. -/
def clampI (lo hi x : Int) : Int := if x < lo then lo else if hi < x then hi else x

/-- A rational clamped to `[lo, hi]`. -/
def clampQ (lo hi x : Rat) : Rat := if x < lo then lo else if hi < x then hi else x

/-- The signed difference `a - b` of two values that wrap at `m`: in `[-m/2, m/2)` (R23). -/
def wrapDiff (m : Nat) (a b : Nat) : Int :=
  let x : Nat := ((a % m) + m - (b % m)) % m
  if 2 * x < m then (x : Int) else (x : Int) - (m : Int)

/-- An integer reduced into `[0, m)`. -/
def wrapNat (m : Nat) (x : Int) : Nat := (x % (m : Int)).toNat

/-- A 32-bit diagnostic counter, one up, saturating (R23). -/
def satInc (n : Nat) : Nat := if n < 0xFFFFFFFF then n + 1 else 0xFFFFFFFF

/-- A 32-bit diagnostic counter, `k` up, saturating (R23). -/
def satAdd (n k : Nat) : Nat := if n + k < 0xFFFFFFFF then n + k else 0xFFFFFFFF

/-! ## Root, logarithm and exponential

The spec states these as real functions; the part evaluates them in fixed point. Each is computed here to 2^-64 and carries a
free error of at most `evalErr`. -/

/-- Bound of the part's evaluation error: relative for the root and the exponential, absolute for the logarithm.
DESIGN CHOICE, unsafe: log entry 8. -/
def evalErr : Rat := 1 / (2 ^ 40 : Nat)

/-- The integer square root: bits from `b - 1` down are tried on the root `r` found so far. -/
def isqrtBits (n : Nat) : Nat → Nat → Nat
  | 0, r => r
  | b + 1, r => if (r + 2 ^ b) * (r + 2 ^ b) ≤ n then isqrtBits n b (r + 2 ^ b) else isqrtBits n b r

/-- The integer square root of `n`. -/
def isqrt (n : Nat) : Nat := isqrtBits n (Nat.log2 n / 2 + 1) 0

/-- The square root of a non-negative rational. DESIGN CHOICE, unsafe: log entry 8. -/
def sqrtQ (x : Rat) : Rat :=
  if x ≤ 0 then 0
  else ((isqrt (x.num.natAbs * x.den * 2 ^ 128) : Nat) : Rat) / ((x.den * 2 ^ 64 : Nat) : Rat) *
    (1 + clampQ (-evalErr) evalErr (Config.sqrtErr x))

/-- Fixed point with 128 fraction bits. -/
def fx : Nat := 2 ^ 128

/-- ln 2 in fixed point. -/
def fxLn2 : Nat := 235865763225513294137944142764154484399

/-- 2 atanh(t) for |t| at most 1/3 in fixed point: terms of index `i` and above, `pw` being t^(2i+1). -/
def fxAtanh (t2 : Int) : Nat → Nat → Int → Int
  | 0, _, _ => 0
  | n + 1, i, pw => 2 * pw / ((2 * i + 1 : Nat) : Int) + fxAtanh t2 n (i + 1) (pw * t2 / (fx : Int))

/-- The natural logarithm of a positive rational. DESIGN CHOICE, unsafe: log entry 8. -/
def lnQ (x : Rat) : Rat :=
  if x ≤ 0 then 0
  else
    let e : Int := (Nat.log2 x.num.natAbs : Int) - (Nat.log2 x.den : Int)
    let m : Rat := if 0 ≤ e then x / ((2 ^ e.toNat : Nat) : Rat) else x * ((2 ^ (-e).toNat : Nat) : Rat)
    let t : Int := ((m - 1) / (m + 1) * (fx : Rat)).floor
    ((e * (fxLn2 : Int) + fxAtanh (t * t / (fx : Int)) 48 0 t : Int) : Rat) / (fx : Rat) + clampQ (-evalErr) evalErr (Config.lnErr x)

/-- exp(r) in fixed point: terms of index `i` and above, `tm` being r^i / i!. -/
def fxExp (r : Int) : Nat → Nat → Int → Int
  | 0, _, _ => 0
  | n + 1, i, tm => tm + fxExp r n (i + 1) (tm * r / (fx : Int) / ((i + 1 : Nat) : Int))

/-- The exponential of a rational that is not positive; below -1000 it is 0. DESIGN CHOICE, unsafe: log entry 8. -/
def expQ (x : Rat) : Rat :=
  if x < -1000 then 0
  else
    let v : Int := (x * (fx : Rat)).floor
    let k : Int := v / (fxLn2 : Int)
    let y : Rat := ((fxExp (v - k * (fxLn2 : Int)) 48 0 (fx : Int) : Int) : Rat) / (fx : Rat)
    (if k < 0 then y / ((2 ^ (-k).toNat : Nat) : Rat) else y * ((2 ^ k.toNat : Nat) : Rat)) * (1 + clampQ (-evalErr) evalErr (Config.expErr x))

/-- pi to 40 digits. -/
def piQ : Rat := 31415926535897932384626433832795028841972 / 10000000000000000000000000000000000000000

/-- 1 for true. -/
def b2n (b : Bool) : Nat := if b then 1 else 0

/-! ## Bits of registers -/

/-- Bit `i` of a register. -/
def bit (w : Word) (i : Nat) : Bool := w.getLsbD i

/-- Field `[lo + n - 1 : lo]` of a register. -/
def fld (w : Word) (lo n : Nat) : Nat := (w.toNat / 2 ^ lo) % 2 ^ n

/-- A mask of the single bit `i`. -/
def bm (i : Nat) : Word := BitVec.ofNat 32 (2 ^ i)

/-- A mask of the bits `[hi : lo]`. -/
def fm (hi lo : Nat) : Word := BitVec.ofNat 32 (2 ^ (hi + 1) - 2 ^ lo)

/-- A register with bit `i` set. -/
def setb (w : Word) (i : Nat) : Word := w ||| bm i

/-- A register with bit `i` set when `b`. -/
def setbIf (w : Word) (i : Nat) (b : Bool) : Word := if b then w ||| bm i else w

/-- A field value placed at bit `lo`. -/
def put (lo n v : Nat) : Word := BitVec.ofNat 32 ((v % 2 ^ n) * 2 ^ lo)

/-- A flag placed at bit `i`. -/
def putb (i : Nat) (b : Bool) : Word := if b then bm i else 0

/-- The sticky bits of `w` that a write of `v` leaves: writing 1 clears, over the write-1-to-clear bits of `mask` (R19). -/
def w1c (w v mask : Word) : Word := w &&& ~~~(v &&& mask)

/-- A signed value as the low word of a 64-bit register pair. -/
def loWord (x : Int) : Word := BitVec.ofInt 32 x

/-- A signed value as the high word of a 64-bit register pair. -/
def hiWord (x : Int) : Word := BitVec.ofInt 32 (x / (2 ^ 32 : Int))

/-! ## Little-endian byte strings -/

/-- `n` bytes of a value, least significant first. -/
def leBytes : Nat → Nat → List Byte
  | 0, _ => []
  | n + 1, v => BitVec.ofNat 8 (v % 256) :: leBytes n (v / 256)

/-- `n` bytes of a signed value in two's complement, least significant first. -/
def leBytesI (n : Nat) (x : Int) : List Byte := leBytes n (wrapNat (2 ^ (8 * n)) x)

/-- The value of a little-endian byte string. -/
def leVal : List Byte → Nat
  | [] => 0
  | b :: bs => b.toNat + 256 * leVal bs

/-- The unsigned field of `n` bytes at `off` of a payload. -/
def uAt (p : List Byte) (off n : Nat) : Nat := leVal ((p.drop off).take n)

/-- The signed field of `n` bytes at `off` of a payload. -/
def sAt (p : List Byte) (off n : Nat) : Int :=
  let v := uAt p off n
  if v < 2 ^ (8 * n - 1) then (v : Int) else (v : Int) - (2 ^ (8 * n) : Int)

/-- `n` zero bytes. -/
def zeros (n : Nat) : List Byte := List.replicate n 0

/-- A list with element `i` replaced (no effect outside it). -/
def lset {α : Type} (l : List α) (i : Nat) (v : α) : List α := l.set i v

/-- The last `n` elements of a list. -/
def lastN {α : Type} (n : Nat) (l : List α) : List α := l.drop (l.length - n)

/-- The sum of a list of integers. -/
def sumI (l : List Int) : Int := l.foldl (· + ·) 0

/-- The sum of a list of naturals. -/
def sumN (l : List Nat) : Nat := l.foldl (· + ·) 0

/-- The sum of a list of rationals. -/
def sumQ (l : List Rat) : Rat := l.foldl (· + ·) 0

/-- A happening of a unit that the event scan has to report (R452, R453): its subtype, its DATA, and its MTS where the part records one. -/
structure Happening where
  sub : Nat
  data : Nat := 0
  mts : Option Nat := none
deriving DecidableEq, Repr

/-- A happening is noted if `c`. -/
def noteIf (l : List Happening) (c : Bool) (h : Happening) : List Happening := if c then l ++ [h] else l

end Sys2Proof.Machine
end

