-- ==== Sys2Proof/Machine/Crypto.lean ====
section
/-! DEFINITION. The cryptographic functions that the spec fixes by name: SHA-256, SHA-384, HMAC-SHA-256 and the check of an ECDSA P-384
signature (R391, R432). Their definitions are those of the public standards (log entry 57). -/

namespace Sys2Proof.Machine
open Sys2Proof

/-! ## SHA-2 -/

/-- The value of a byte string, first byte most significant. -/
def beVal (l : List Byte) : Nat := l.foldl (fun a b => a * 256 + b.toNat) 0

/-- What tells two members of the SHA-2 family apart: the word width, the rotation amounts of the four sigma functions (the third of a small
sigma is a shift), and the round constants, eight to a number. -/
structure Sha2 where
  width : Nat
  big0 : Nat × Nat × Nat
  big1 : Nat × Nat × Nat
  small0 : Nat × Nat × Nat
  small1 : Nat × Nat × Nat
  rounds : Nat
  consts : List Nat
deriving DecidableEq, Repr

/-- The round constants of SHA-256. PRESUMED, unsafe: log entry 57. -/
def sha256Consts : List Nat :=
  [0x428a2f9871374491b5c0fbcfe9b5dba53956c25b59f111f1923f82a4ab1c5ed5,
   0xd807aa9812835b01243185be550c7dc372be5d7480deb1fe9bdc06a7c19bf174,
   0xe49b69c1efbe47860fc19dc6240ca1cc2de92c6f4a7484aa5cb0a9dc76f988da,
   0x983e5152a831c66db00327c8bf597fc7c6e00bf3d5a7914706ca635114292967,
   0x27b70a852e1b21384d2c6dfc53380d13650a7354766a0abb81c2c92e92722c85,
   0xa2bfe8a1a81a664bc24b8b70c76c51a3d192e819d6990624f40e3585106aa070,
   0x19a4c1161e376c082748774c34b0bcb5391c0cb34ed8aa4a5b9cca4f682e6ff3,
   0x748f82ee78a5636f84c878148cc7020890befffaa4506cebbef9a3f7c67178f2]

/-- The round constants of SHA-512 and SHA-384. PRESUMED, unsafe: log entry 57. -/
def sha512Consts : List Nat :=
  [0x428a2f98d728ae227137449123ef65cdb5c0fbcfec4d3b2fe9b5dba58189dbbc3956c25bf348b53859f111f1b605d019923f82a4af194f9bab1c5ed5da6d8118,
   0xd807aa98a303024212835b0145706fbe243185be4ee4b28c550c7dc3d5ffb4e272be5d74f27b896f80deb1fe3b1696b19bdc06a725c71235c19bf174cf692694,
   0xe49b69c19ef14ad2efbe4786384f25e30fc19dc68b8cd5b5240ca1cc77ac9c652de92c6f592b02754a7484aa6ea6e4835cb0a9dcbd41fbd476f988da831153b5,
   0x983e5152ee66dfaba831c66d2db43210b00327c898fb213fbf597fc7beef0ee4c6e00bf33da88fc2d5a79147930aa72506ca6351e003826f142929670a0e6e70,
   0x27b70a8546d22ffc2e1b21385c26c9264d2c6dfc5ac42aed53380d139d95b3df650a73548baf63de766a0abb3c77b2a881c2c92e47edaee692722c851482353b,
   0xa2bfe8a14cf10364a81a664bbc423001c24b8b70d0f89791c76c51a30654be30d192e819d6ef5218d69906245565a910f40e35855771202a106aa07032bbd1b8,
   0x19a4c116b8d2d0c81e376c085141ab532748774cdf8eeb9934b0bcb5e19b48a8391c0cb3c5c95a634ed8aa4ae3418acb5b9cca4f7763e373682e6ff3d6b2b8a3,
   0x748f82ee5defb2fc78a5636f43172f6084c87814a1f0ab728cc702081a6439ec90befffa23631e28a4506cebde82bde9bef9a3f7b2c67915c67178f2e372532b,
   0xca273eceea26619cd186b8c721c0c207eada7dd6cde0eb1ef57d4f7fee6ed17806f067aa72176fba0a637dc5a2c898a6113f9804bef90dae1b710b35131c471b,
   0x28db77f523047d8432caab7b40c724933c9ebe0a15c9bebc431d67c49c100d4c4cc5d4becb3e42b6597f299cfc657e2a5fcb6fab3ad6faec6c44198c4a475817]

/-- PRESUMED, unsafe: log entry 57. -/
def sha256Of : Sha2 :=
  { width := 32, big0 := (2, 13, 22), big1 := (6, 11, 25), small0 := (7, 18, 3), small1 := (17, 19, 10), rounds := 64, consts := sha256Consts }

/-- PRESUMED, unsafe: log entry 57. -/
def sha512Of : Sha2 :=
  { width := 64, big0 := (28, 34, 39), big1 := (14, 18, 41), small0 := (1, 8, 7), small1 := (19, 61, 6), rounds := 80, consts := sha512Consts }

/-- Word `i`, counted from the most significant, of a number of `n` words of `w` bits. -/
def wordOf (w n x i : Nat) : Nat := x / 2 ^ (w * (n - 1 - i)) % 2 ^ w

/-- A rotation right of a word of `P` by `n`. -/
def Sha2.rotr (P : Sha2) (x n : Nat) : Nat := (x >>> n ||| x <<< (P.width - n)) % 2 ^ P.width

def Sha2.bigSigma (P : Sha2) (r : Nat × Nat × Nat) (x : Nat) : Nat := P.rotr x r.1 ^^^ P.rotr x r.2.1 ^^^ P.rotr x r.2.2
def Sha2.smallSigma (P : Sha2) (r : Nat × Nat × Nat) (x : Nat) : Nat := P.rotr x r.1 ^^^ P.rotr x r.2.1 ^^^ (x >>> r.2.2)

/-- The message schedule of a block, newest word first. -/
def Sha2.schedule (P : Sha2) (block : List Nat) : List Nat :=
  (List.range (P.rounds - 16)).foldl (init := block.reverse) fun l _ =>
    (P.smallSigma P.small1 (l.getD 1 0) + l.getD 6 0 + P.smallSigma P.small0 (l.getD 14 0) + l.getD 15 0) % 2 ^ P.width :: l

/-- The eight working variables. -/
structure ShaVars where
  a : Nat
  b : Nat
  c : Nat
  d : Nat
  e : Nat
  f : Nat
  g : Nat
  h : Nat
deriving DecidableEq, Repr

def ShaVars.of (w x : Nat) : ShaVars :=
  ⟨wordOf w 8 x 0, wordOf w 8 x 1, wordOf w 8 x 2, wordOf w 8 x 3, wordOf w 8 x 4, wordOf w 8 x 5, wordOf w 8 x 6, wordOf w 8 x 7⟩

/-- The variables as one number, each added to those of `u`. -/
def ShaVars.sum (v u : ShaVars) (w : Nat) : Nat :=
  [(v.a, u.a), (v.b, u.b), (v.c, u.c), (v.d, u.d), (v.e, u.e), (v.f, u.f), (v.g, u.g), (v.h, u.h)].foldl
    (fun x p => x * 2 ^ w + (p.1 + p.2) % 2 ^ w) 0

/-- Round `t` on the word `x` of the schedule. -/
def Sha2.round (P : Sha2) (v : ShaVars) (x t : Nat) : ShaVars :=
  let m := 2 ^ P.width
  let ch := (v.e &&& v.f) ^^^ ((m - 1 - v.e) &&& v.g)
  let maj := (v.a &&& v.b) ^^^ (v.a &&& v.c) ^^^ (v.b &&& v.c)
  let t1 := v.h + P.bigSigma P.big1 v.e + ch + wordOf P.width 8 (P.consts.getD (t / 8) 0) (t % 8) + x
  let t2 := P.bigSigma P.big0 v.a + maj
  ⟨(t1 + t2) % m, v.a, v.b, v.c, (v.d + t1) % m, v.e, v.f, v.g⟩

/-- The chaining value after one block. -/
def Sha2.compress (P : Sha2) (h : Nat) (block : List Nat) : Nat :=
  let v := ShaVars.of P.width h
  ((P.schedule block).reverse.zipIdx.foldl (fun u x => P.round u x.1 x.2) v).sum v P.width

/-- A message padded: a 1 bit, zeros, and its length in bits in two words. -/
def Sha2.pad (P : Sha2) (m : List Byte) : List Byte :=
  let size := 2 * P.width
  let len := P.width / 4
  let gap := (2 * size - (m.length + 1 + len) % size) % size
  m ++ [0x80] ++ List.replicate gap 0 ++ (leBytes len (8 * m.length)).reverse

/-- The chaining value after a message, from the initial value `h`. -/
def Sha2.hash (P : Sha2) (h : Nat) (m : List Byte) : Nat :=
  let p := P.pad m
  let size := 2 * P.width
  (List.range (p.length / size)).foldl (init := h) fun x i =>
    let block := beVal ((p.drop (size * i)).take size)
    P.compress x ((List.range 16).map (wordOf P.width 16 block))

/-- SHA-256 of a byte string, as a number whose most significant byte is the first. PRESUMED, unsafe: log entry 57. -/
def sha256 (m : List Byte) : Nat := sha256Of.hash 0x6a09e667bb67ae853c6ef372a54ff53a510e527f9b05688c1f83d9ab5be0cd19 m

/-- SHA-384 of a byte string, as a number whose most significant byte is the first. PRESUMED, unsafe: log entry 57. -/
def sha384 (m : List Byte) : Nat :=
  sha512Of.hash 0xcbbb9d5dc1059ed8629a292a367cd5079159015a3070dd17152fecd8f70e593967332667ffc00b318eb44a8768581511db0c2e0d64f98fa747b5481dbefa4fa4 m
    / 2 ^ 128

/-- HMAC-SHA-256 of a message under a key of at most 64 bytes (R432). PRESUMED, unsafe: log entry 57. -/
def hmacSha256 (key m : List Byte) : Nat :=
  let k := key ++ List.replicate (64 - key.length) 0
  sha256 (k.map (· ^^^ 0x5C) ++ (leBytes 32 (sha256 (k.map (· ^^^ 0x36) ++ m))).reverse)

/-! ## ECDSA on P-384 -/

/-- The field, the order and the coefficient b of P-384, and its base point. PRESUMED, unsafe: log entry 57. -/
def p384 : Nat := 2 ^ 384 - 2 ^ 128 - 2 ^ 96 + 2 ^ 32 - 1
/-- PRESUMED, unsafe: log entry 57. -/
def n384 : Nat := 0xffffffffffffffffffffffffffffffffffffffffffffffffc7634d81f4372ddf581a0db248b0a77aecec196accc52973
/-- PRESUMED, unsafe: log entry 57. -/
def b384 : Nat := 0xb3312fa7e23ee7e4988e056be3f82d19181d9c6efe8141120314088f5013875ac656398d8a2ed19d2a85c8edd3ec2aef
/-- PRESUMED, unsafe: log entry 57. -/
def g384 : Nat × Nat :=
  (0xaa87ca22be8b05378eb1c71ef320ad746e1d3b628ba79b9859f741e082542a385502f25dbf55296c3a545e3872760ab7,
   0x3617de4a96262c6f5d9e98bf9292dc29f8f41dbd289a147ce9da3113b5f0b8c00a60b1ce1d7e819d7a431d7c90ea0e5f)

/-- `x` to the power `e` modulo `m`, for an exponent of 384 bits. -/
def powMod (x e m : Nat) : Nat :=
  (List.range 384).foldl (init := 1) fun a i => a * a % m * (if e.testBit (383 - i) then x else 1) % m

/-- The inverse of `x` modulo a prime `m`. -/
def invMod (x m : Nat) : Nat := powMod (x % m) (m - 2) m

/-- A point of the curve; none is the point at infinity. -/
abbrev Point := Option (Nat × Nat)

/-- `x - y` modulo the field. -/
def subMod (x y : Nat) : Nat := (x % p384 + (p384 - y % p384)) % p384

/-- The sum of two points, where the slope of their line is `l`. -/
def chord (l : Nat) (a b : Nat × Nat) : Nat × Nat :=
  let x := subMod (l * l) (a.1 + b.1)
  (x, subMod (l * subMod a.1 x) a.2)

/-- The group law of P-384, with a = -3. -/
def Point.add : Point → Point → Point
  | none, q => q
  | p, none => p
  | some a, some b =>
    if a.1 = b.1 then
      if (a.2 + b.2) % p384 = 0 then none else some (chord (subMod (3 * a.1 * a.1) 3 * invMod (2 * a.2) p384 % p384) a b)
    else some (chord (subMod b.2 a.2 * invMod (subMod b.1 a.1) p384 % p384) a b)

/-- `k` times a point. -/
def Point.mul (k : Nat) (q : Point) : Point :=
  (List.range 384).foldl (init := (none : Point)) fun a i =>
    let d := a.add a
    if k.testBit (383 - i) then d.add q else d

/-- The check of a signature, r then s, over a digest under an uncompressed public key (R390, R391).
PRESUMED, unsafe: log entry 57. -/
def ecdsaOk (digest : Nat) (key sig : List Byte) : Bool :=
  let x := beVal ((key.drop 1).take 48)
  let y := beVal ((key.drop 49).take 48)
  let r := beVal (sig.take 48)
  let t := beVal ((sig.drop 48).take 48)
  let onCurve := decide (key.head? = some 4) && decide (x < p384) && decide (y < p384) && decide (y * y % p384 = subMod (x * x * x + b384) (3 * x))
  let w := invMod t n384
  let sum := (Point.mul (digest % n384 * w % n384) (some g384)).add (Point.mul (r * w % n384) (some (x, y)))
  onCurve && decide (0 < r) && decide (r < n384) && decide (0 < t) && decide (t < n384) &&
    (match sum with | some a => decide (a.1 % n384 = r) | none => false)

end Sys2Proof.Machine
end

