-- ==== Sys2Proof/Machine/Units.lean ====
section
/-! DEFINITION. The state of the signal-path units: timebase, inputs, TDC channels, DPLLs with their selection and
holdover, oscillator ports, cairn engine, OPLLs, outputs, time domains, event channels. Plain data; every field names
the rule of the spec that gives it. -/

namespace Sys2Proof.Machine
open Sys2Proof

/-! ## Part and timebase (chapters 00, 01, 09) -/

/-- The fused identity of the part (R1 to R3, R8). -/
structure Part where
  /-- DIES_LOG2: 0 to 3. -/
  diesLog2 : Nat := 3
  featE : Bool := true
  featK : Bool := true
  featX : Bool := true
  stepMajor : Nat := 2
  stepMinor : Nat := 1
deriving DecidableEq, Repr

/-- The package timebase (R32 to R45, R585). -/
structure Timebase where
  /-- TB_CTRL.MASTER. -/
  master : Bool := false
  /-- TB_CTRL.TB_EN. -/
  tbEn : Bool := false
  /-- TB_CTRL.OSC_FREQ. -/
  oscFreq : Nat := 0
  /-- TB_STAT.OSC_LOSS. -/
  oscLoss : Bool := false
  /-- TB_STAT.OSC_LOSS_H. -/
  oscLossH : Bool := false
  /-- TB_STAT.CFG_REJ. -/
  cfgRej : Bool := false
  /-- TB_STAT.RESTART. -/
  restart : Bool := false
  /-- The coarse counters have started (R103): the die-0 TBPLL has locked since the last clearing reset. -/
  started : Bool := false
  /-- Update boundaries passed since the coarse counters were cleared: MTS = 128 000 000 times this (R103, R121). -/
  k : Nat := 0
  /-- A measurement gap (restart) fell inside the open window (R118, R124). -/
  gapInWindow : Bool := false
  /-- EVX_DROP[d] (R57), by die. -/
  evxDrop : List Nat := List.replicate 8 0
  /-- EVX_SAT. -/
  evxSat : Word := 0
deriving DecidableEq, Repr

/-- The states of a shuttle link port (R346). -/
inductive LinkSt | down | training | align | up | resync
deriving DecidableEq, Repr

/-- The STATE code of SHT_LINK (R354). -/
def LinkSt.code : LinkSt → Nat
  | .down => 0 | .training => 1 | .align => 2 | .up => 3 | .resync => 4

/-- One shuttle link port of a die (R333, R342 to R348, R354). -/
structure LinkPort where
  state : LinkSt := .down
  /-- The port faces the clock parent (SHT_LINK.PARENT). -/
  parent : Bool := false
  /-- The forwarded clock lane is received in lock. -/
  clkLock : Bool := false
  /-- Consecutive frames that failed the CRC check (R339). -/
  crcRun : Nat := 0
  /-- Offsets of the latest exchanges, newest last, at most 64, unit 2^-12 ns (R343, R344). -/
  exch : List Rat := []
  /-- Exchanges made since the link entered ALIGN, or since RESTART rose (R344, R353). -/
  exchCnt : Nat := 0
  /-- SHT_LINK_SKEW: the latest mean offset. -/
  skew : Int := 0
  /-- Frames sent and not yet acknowledged (R339, R347), oldest first. -/
  replay : List Frame := []
  /-- A failed training waits for its next attempt (R346). -/
  retryWait : Bool := false
  /-- Frames sent on the lane and not yet received: the first is in transmission, the others wait by class, then by age
  (R54, R339). -/
  lane : List Frame := []
  /-- The streams the adopted slot plan sends out of this port in every window (R55, R337). -/
  slots : List Nat := []
deriving DecidableEq, Repr

/-- A die's seed record as the model keeps it: the profile, and 64 segment widths for each core. -/
structure SeedRec where
  profile : List Nat := []
  segW : List (List Nat) := []
deriving DecidableEq, Repr

/-- What a die holds of the timebase and the fabric (R34 to R40, R57, R103, R346, R354, R134, R135). -/
structure Die where
  /-- The die's TBPLL is locked (FOL_TB_LOCK bit). -/
  tbLock : Bool := false
  /-- The die's SYSPLL has declared lock (R262). -/
  sysLock : Bool := false
  /-- AONCLK runs from the internal RC oscillator (R34). -/
  aonRc : Bool := true
  /-- CAPS1.DIE_UP. -/
  up : Bool := false
  /-- The die has booted (R37). -/
  booted : Bool := false
  /-- TB_SKEW[d] is valid (R39, R118). -/
  skewValid : Bool := false
  /-- TB_SKEW[d], unit 2^-12 ns (R40). -/
  skew : Int := 0
  /-- The mean TB_SKEW[d] moves toward, one unit per boundary (R344). -/
  skewTarget : Int := 0
  /-- The die takes its offset anew after a re-parent or a return (R345, R63). -/
  reparent : Bool := false
  /-- The die lost every path to die 0; steps 3 to 5 of R35 are due once a path has returned (R62, R63). -/
  cutOff : Bool := false
  /-- A path has returned to a die that was cut off: the exchanges that retake TB_SKEW run (R63). -/
  rerun : Bool := false
  /-- Frames of class 1 that wait at this die for a route to their destination (R334). -/
  waiting : List Frame := []
  links : List LinkPort := List.replicate 4 {}
  /-- The happenings of R452 so far that leave no state of their own for a scan to compare, oldest first (R453). -/
  happened : List Happening := []
  shtHist : Word := 0
  shtIen : Word := 0
  /-- SHT_LATE. -/
  late : Nat := 0
  crcCnt : Nat := 0
  resyncCnt : Nat := 0
  rtLateCnt : Nat := 0
  cdcOvfCnt : Nat := 0
  /-- Streams whose words of the open window have arrived at this die (R30, R31). -/
  arrived : List Nat := []
  /-- Streams the adopted slot plan brings to this die (R337). -/
  planned : List Nat := []
  /-- Event and stitch records queued in the export buffer, oldest first (R56). -/
  exportQ : List (BitVec 128) := []
  /-- Records of this die that have reached die 0 and wait for the DMA engine's intake (R56, R484). -/
  intake : List (BitVec 128) := []
  /-- Register accesses on their way to this die, oldest first (R340, R341). -/
  inbound : List Frame := []
  /-- TDC_CAL_CTRL.BG_EN, HITS_LOG2, SEED_SAVE_H (R134). -/
  bgEn : Bool := true
  hitsLog2 : Nat := 26
  seedSaveH : Nat := 24
  /-- Tables frozen at the last boundary (R120). -/
  bgFrozen : Bool := false
  /-- TDC_CAL_STAT sticky bits [9:8] and SEED_PRESENT (R135). -/
  calHist : Word := 0
  seedPresent : Bool := false
  /-- The seed record the die read at boot, or wrote since (R111, R119). -/
  seedRec : SeedRec := {}
  tdcIen : Word := 0
  /-- The die's coarse counter at the latest boundary, in MCLK cycles (R103). -/
  mclk : Nat := 0
  /-- The counter has started on die 0, or has been loaded from die 0 in an exchange (R103). -/
  mclkOk : Bool := false
  /-- Boundary at which every channel of the die had first reached CALIBRATED or SINGLE (R119). -/
  reachedK : Option Nat := none
  /-- The first seed save after that has been made, or is not called for (R119). -/
  seedDone : Bool := false
  /-- A seed was present at power-up; some channel has set SEED_REJ (R119). -/
  seedAtBoot : Bool := false
  seedRejAny : Bool := false
  /-- Boundary of the latest save that SEED_SAVE_H paces (R119). -/
  seedAt : Nat := 0
deriving DecidableEq, Repr

/-! ## Reference inputs (chapter 02) -/

/-- The own-die states of an input; SELECTED is QUALIFIED with some DPLL selecting it (R87, R94). -/
inductive InSt | disqualified | qualifying | qualified
deriving DecidableEq, Repr

/-- An input's declaration, as INPUT_CONFIG gives it (R72). -/
structure InDecl where
  mode : Nat := 0
  type : Nat := 0
  prediv : Nat := 0
  term : Bool := false
  falling : Bool := false
  vth : Nat := 0
  num : Nat := 0
  den : Nat := 0
  boardDelay : Int := 0
deriving DecidableEq, Repr

/-- An input's monitor settings (R84). -/
structure MonSet where
  disqMask : Nat := 0
  losN : Nat := 0
  freqSet : Nat := 0
  freqClr : Nat := 0
  freqGate : Nat := 0
  driftBasis : Nat := 0
  driftWin : Nat := 0
  driftSet : Nat := 0
  driftClr : Nat := 0
  driftTau : Nat := 14
  glitchTol : Nat := 0
  glitchN : Nat := 0
  glitchWin : Nat := 0
  wtr : Nat := 0
  pjThresh : Nat := 0
  staleS : Nat := 0
deriving DecidableEq, Repr

/-- One phase word (R124): 96 bits, EDGE_T in 2^-16 ns. -/
structure PhaseWord where
  edgeT : Nat := 0
  edges : Nat := 0
  state : Nat := 0
  cause : Nat := 0
  valid : Bool := false
  glitch : Bool := false
  merge : Bool := false
  step : Bool := false
  missing : Bool := false
  numeric : Bool := false
deriving DecidableEq, Repr

/-- The DRIFT monitor of an input (R77 to R79). -/
structure Drift where
  /-- Samples of the windowed mean, newest last: the boundary at which each began, and its value in 2^-10 ppt. -/
  samples : List (Nat × Rat) := []
  /-- The drift reference, when armed (R77). -/
  ref : Option Rat := none
  /-- Arming: samples are gathered for a new reference. -/
  arming : Bool := false
  /-- Windowed mean minus reference (INPUT_GET_STATUS.DRIFT_DEV). -/
  dev : Rat := 0
  /-- MTS at the start of the window whose mean crossed DRIFT_SET; 0 if DRIFT has not set since arming. -/
  t0 : Nat := 0
  /-- The word that opened the second: EDGE_T and cycle index, and the boundary at which it stood. -/
  opened : Option (Nat × Nat) := none
  openedK : Nat := 0
  /-- IN_STAT.BASIS_FB. -/
  basisFb : Bool := false
deriving DecidableEq, Repr

/-- One reference input, physical or virtual (R72 to R98). -/
structure InputUnit where
  enable : Bool := false
  forceDisq : Bool := false
  rank : Nat := 0xFF
  prio : Nat := 0x1F
  /-- Rank and priority in force since the latest decision tick (R71, R93). -/
  rankEff : Nat := 0xFF
  prioEff : Nat := 0x1F
  configured : Bool := false
  decl : InDecl := {}
  mon : MonSet := {}
  /-- Settings that apply at the next decision tick (R85). -/
  monPend : Option MonSet := none
  /-- BOARD_DELAY changed; the next word carries STEP (R124). -/
  stepMark : Bool := false
  /-- Monitors have started (R87). -/
  running : Bool := false
  /-- Between an accepted INPUT_CONFIG and the start of the monitors (R86). -/
  cfgBusy : Bool := false
  /-- Cause NOT_VALID present (R86). -/
  notValid : Bool := false
  state : InSt := .disqualified
  cause : Nat := 1
  los : Bool := false
  freq : Bool := false
  drift : Bool := false
  glitch : Bool := false
  pj : Bool := false
  stale : Bool := false
  /-- An offset was accepted in a measurement gap, which leaves STALE as it was (R88, R91). -/
  staleEnd : Bool := false
  /-- Remaining wait-to-restore time in decision ticks of 1 ms (R88). -/
  wtrLeft : Nat := 0
  /-- Wait-to-restore time served in the present QUALIFYING, in ms (R85). -/
  wtrServed : Nat := 0
  /-- END_WTR requested (R98). -/
  endWtr : Bool := false
  hist : Word := 0
  ien : Word := 0
  glitchCnt : Nat := 0
  pjCnt : Nat := 0
  disqCnt : Nat := 0
  /-- IN_FOFS in 2^-10 ppt. -/
  fofs : Int := 0
  /-- The word that opened the FREQ gate: EDGE_T and cycle index (R76). -/
  gateOpen : Option (Nat × Nat) := none
  /-- Boundary at which that word stood. -/
  gateK : Nat := 0
  dm : Drift := {}
  /-- Decision-tick numbers of glitch events within the window, newest last (R74, R80). -/
  glitchAt : List Nat := []
  /-- PJ prediction base: EDGE_T and cycle index of the last accepted word (R81). -/
  pjBase : Option (Nat × Nat) := none
  /-- Boundary at which that word stood (R82). -/
  pjK : Nat := 0
  /-- Consecutive words that fit since the last phase-jump event (R74, R91). -/
  pjFit : Nat := 0
  /-- Steps of the domain of a virtual input that came in a measurement gap, which leaves PJ as it was (R88, R91). -/
  pjHeld : List Int := []
  pjSize : Int := 0
  pjMts : Nat := 0
  /-- Boundaries without a valid measurement, without a break (R86, R88). -/
  invalidRun : Nat := 0
  /-- Consecutive periods in which edges have arrived with no gap longer than LOS_N half-periods (R74). -/
  edgeRun : Nat := 0
  /-- A disqualification has been counted since the latest enable (R86). -/
  disqSince : Bool := false
deriving DecidableEq, Repr

/-! ## TDC channels (chapter 03) -/

/-- The calibration states of a channel (R116, R132). -/
inductive CalSt | idle | fill | fillOnly | calibrated | single
deriving DecidableEq, Repr

/-- TDC_CH_STAT.CAL_STATE (R132). -/
def CalSt.code : CalSt → Nat
  | .idle => 0 | .fill => 1 | .fillOnly => 2 | .calibrated => 3 | .single => 4

/-- What a core of a channel does (R100, R113 to R117). -/
inductive CoreRole
  | idle | filling | active | calibrating
  /-- Candidate accepted; the overlap begins at the next boundary. -/
  | overlapNext
  /-- In its overlap window. -/
  | overlap
  /-- The overlap window has closed; the swap is due (R114). -/
  | overlapEnd
  | retired
deriving DecidableEq, Repr

/-- One of the two cores of a TDC channel (R100, R107, R113). -/
structure Core where
  role : CoreRole := .idle
  /-- The picot table: 1 152 widths in 2^-20 MCLK period; empty before the first fill. -/
  table : List Nat := []
  /-- Total hits of the table. -/
  hits : Nat := 0
  /-- Consecutive rejected candidates. -/
  rej : Nat := 0
  /-- A background candidate has been accepted since the fill. -/
  accepted : Bool := false
  /-- The seed loaded for the fill: 64 segment widths; empty when none is present. -/
  seed : List Nat := []
  /-- The core fills alone after TDC_CORE_RESET (R116). -/
  alone : Bool := false
deriving DecidableEq, Repr

/-- One TDC channel (R99 to R133). -/
structure TdcChan where
  cal : CalSt := .idle
  active : Nat := 0
  c0 : Core := {}
  c1 : Core := {}
  /-- Accumulated core offset added to every timestamp, in 2^-20 MCLK (R114). -/
  delta : Int := 0
  /-- Overlap measurement: sum of differences and edges counted. -/
  ovlSum : Int := 0
  ovlCnt : Nat := 0
  seedRej : Bool := false
  sat : Bool := false
  merged : Nat := 0
  swapCnt : Nat := 0
  calRejCnt : Nat := 0
  calAge : Nat := 0
  /-- Last accepted edge, extended time (R106). -/
  last : Option Nat := none
  /-- Accepted edges of the open window, extended times, oldest first (R122). -/
  win : List Nat := []
  glitchMark : Bool := false
  mergeMark : Bool := false
  /-- The channel was valid when the open window began (R124). -/
  winValid : Bool := false
  /-- Last indexed edge of the closed windows: extended time and cycle index (R122). -/
  ref : Option (Nat × Nat) := none
  /-- The word of the last closed window, its cycle index and the fitted slope in 2^-16 ns per cycle. -/
  word : PhaseWord := {}
  wordIdx : Nat := 0
  slope : Rat := 0
  /-- Unpaired edge of an event pin: extended time (R127). -/
  unpaired : Option Nat := none
  /-- CALIBRATED or SINGLE has been reached since reset or belay (R119). -/
  reached : Bool := false
  /-- An edge has been accepted since the enable of the unit the channel serves (R123). -/
  seen : Bool := false
  /-- Captures whose window has not opened, or whose core waits for its swap: coarse count and codes, oldest first (R115, R121). -/
  ahead : List (Nat × Nat × Nat) := []
  /-- HITS_LOG2 of the background cycle in progress (R134). -/
  cyc : Option Nat := none
deriving DecidableEq, Repr

/-! ## DPLLs (chapters 04 to 06) -/

/-- The DPLL states (R159). -/
inductive DpllSt | freerun | acquiring | locked | holdover
deriving DecidableEq, Repr

/-- DPLL_STAT.STATE (R159). -/
def DpllSt.code : DpllSt → Nat
  | .freerun => 0 | .acquiring => 1 | .locked => 2 | .holdover => 3

/-- One row of a loop table, in the units of R176. -/
structure LoopRow where
  bo : Bool := false
  sa : Bool := false
  bw : Nat := 0
  damp : Nat := 0
  gate : Nat := 0
  acqBw : Nat := 0
  pullIn : Nat := 0
  psl : Nat := 0
  lockThr : Nat := 0
  phWin : Nat := 0
deriving DecidableEq, Repr

/-- A DPLL's configuration (R169, R174). -/
structure DpllCfg where
  role : Nat := 0
  opllMask : Nat := 0
  fbOpll : Nat := 0
  fbPrediv : Nat := 0
  fbOutput : Nat := 0
  leader : Nat := 0
  ncoNum : Nat := 0
  ncoDen : Nat := 0
deriving DecidableEq, Repr

/-- What a DPLL follows of one phase-word stream: the cycle count and the pairing of the virtual divider (R145). -/
structure Follow where
  /-- EDGE_T of the last word with EDGES at least 1, and its cycle index. -/
  last : Option (Nat × Int) := none
  /-- Feedback cycle that pairs with reference cycle 0 of this stream. -/
  origin : Option Int := none
  /-- EDGE_T and cycle index of the last 32 of those words since a declared step, newest last (R153). -/
  hist : List (Nat × Int) := []
deriving DecidableEq, Repr

/-- One entry of a candidate list with its estimates and records (R185, R199, R200, R90). Before any word of it has arrived an entry from
another die reads DISQUALIFIED with cause NOT_VALID. DESIGN CHOICE, unsafe: log entry 54. -/
structure Cand where
  input : Nat := 0x1FF
  fol : Follow := {}
  /-- The last 32 usable words: EDGE_T and phase with BO = 0, newest last (R185). -/
  pts : List (Nat × Rat) := []
  phOfs : Rat := 0
  fofs : Rat := 0
  usable : Bool := false
  /-- Words have been usable since the entry joined the list or the DPLL was enabled (R200). -/
  everUsable : Bool := false
  /-- A usable word with EDGES at least 1 since the words last became usable (R186). -/
  hadEdge : Bool := false
  /-- Boundary at which the words became unusable (R199, R200). -/
  goneAt : Option Nat := none
  /-- The prediction of R199: its value, F0 and S0. -/
  pred : Option (Rat × Rat × Rat) := none
  /-- A return check is awaited (R200). -/
  check : Bool := false
  /-- State and cause carried by the latest word that arrived (R90, R124). -/
  cState : Nat := 0
  cCause : Nat := 3
  /-- Remote view: windows without a word, STREAM present, remaining WTR in ms (R90). -/
  silent : Nat := 0
  stream : Bool := false
  dieDown : Bool := false
  remWtr : Nat := 0
  /-- The latest remote cause, 11 STREAM or 12 DIE_DOWN: the view's cause while it serves `remWtr` (R86, R90). -/
  rCause : Nat := 0
deriving DecidableEq, Repr

/-- One change of SEL_INPUT in the switch log (R213). 0xFFFF stands for none. -/
structure SwLog where
  mts : Nat := 0
  src : Nat := 0xFFFF
  dst : Nat := 0xFFFF
  reason : Nat := 0
  mode : Nat := 0
  boFlag : Bool := false
  state : Nat := 0
  boStep : Int := 0
  resAfter : Int := 0
deriving DecidableEq, Repr

/-- The settings DPLL_SET_SELECTION gives (R204, R205, R212). -/
structure SelSet where
  mode : Nat := 0
  hookChg : Bool := false
  hookSw : Bool := false
  retBlock : Bool := true
  manual : Nat := 0x1FF
  holdoffMs : Nat := 0
  retAllow : Nat := 10
  /-- A list accepted since has left MANUAL_INPUT out (R212). -/
  gone : Bool := false
deriving DecidableEq, Repr

/-- A switch decided at D and not yet executed at S (R193). -/
structure PendSwitch where
  want : Nat
  reason : Nat
  /-- The before-switch hook was invoked for this switch (R191). -/
  hook : Bool
  /-- The hook has halted without overrun (R192). -/
  halted : Bool := false
  /-- The boundary of D (R193). -/
  atK : Nat := 0
  /-- The verdict written while the hook ran, and its input (R192). -/
  verdict : Nat := 0
  input : Nat := 0
deriving DecidableEq, Repr

/-- The selection state of a DPLL (R182 to R214). -/
structure Sel where
  set : SelSet := {}
  /-- Settings in force since the latest tick (R212). -/
  eff : SelSet := {}
  cands : List Cand := []
  /-- A new list that waits for the next tick (R183). -/
  listPend : Option (List Nat) := none
  best : Nat := 0x1FF
  noCand : Bool := false
  /-- Entries eligible at the latest tick, as list-index bits (R191). -/
  elig : Nat := 0
  prevBest : Nat := 0x1FF
  prevElig : Nat := 0
  /-- The inputs eligible at the latest tick and at the one before (R191). -/
  eligIn : List Nat := []
  prevIn : List Nat := []
  pend : Option PendSwitch := none
  /-- Boundary at which the hold-off ends; 0 when none is active (R190). -/
  holdoff : Nat := 0
  driftExcl : Bool := false
  /-- The inputs whose DRIFT keeps the exclusion in progress (R197, R198). -/
  driftIn : List Nat := []
  lockout : Nat := 0
  /-- SEL_LOCKOUT in force since the latest tick (R208). -/
  lockEff : Nat := 0
  retblk : Nat := 0
  verdict : Nat := 0
  verdictInput : Nat := 0
  hist : Word := 0
  ien : Word := 0
  switchCnt : Nat := 0
  vetoCnt : Nat := 0
  retjumpCnt : Nat := 0
  cancelCnt : Nat := 0
  /-- Last 16 changes, newest first (R213). -/
  log : List SwLog := []
  /-- The happenings of R452 so far that leave no state of their own for a scan to compare, oldest first (R453). -/
  happened : List Happening := []
deriving DecidableEq, Repr

/-- One holdover history sample, frequencies in 2^-10 ppt (R232, R233). -/
structure HoSample where
  u : Rat := 0
  y : Rat := 0
  c : Bool := false
  s : Rat := 0
  valid : Bool := false
  /-- Boundary that ended its tick. -/
  tickEnd : Nat := 0
  /-- Inputs selected during any part of the tick (R197). -/
  inputs : List Nat := []
deriving DecidableEq, Repr

/-- The means of R235 that a DPLL retains through belay, with their spreads: the history itself is lost (R533, R541). -/
structure HoKept where
  v : Rat := 0
  u : Rat := 0
  s : Rat := 0
  /-- Every sample had C = 1. -/
  c : Bool := false
  sv : Rat := 0
  su : Rat := 0
  ss : Rat := 0
deriving DecidableEq, Repr

/-- The holdover side of a DPLL (R232 to R236, R245, R251, R252). -/
structure Hold where
  /-- HOLD_BASIS, W and G as set (R245, R251). -/
  basis : Nat := 0
  avgS : Nat := 600
  guardS : Nat := 600
  /-- HOLD_BASIS, W and G in force (R242). -/
  basisE : Nat := 0
  avgE : Nat := 600
  guardE : Nat := 600
  /-- They were set in HOLDOVER: the next entry takes them (R242). -/
  late : Bool := false
  /-- The tick in use, and a change of it that waits until HOLDOVER is left (R242). -/
  tick : Nat := 0
  tickPend : Option Nat := none
  /-- The history, newest last, at most 8 192 samples. -/
  ring : List HoSample := []
  valid : Bool := false
  /-- E: the boundary at which the window ends, when fixed (R234). -/
  frozenE : Option Nat := none
  basisInUse : Nat := 0
  word : Int := 0
  te : Int := 0
  /-- Seconds in the present HOLDOVER. -/
  holdS : Nat := 0
  /-- Sum of sigma over the seconds of the present HOLDOVER, in 2^-10 ppt (R236). -/
  sigSum : Rat := 0
  /-- No qualified model provides the sigma (R236). -/
  noSig : Bool := false
  mean : Rat := 0
  sigmaV : Rat := 0
  /-- The tick in progress: sums of STEER and of u over its boundaries, their count, conditions kept, inputs seen. -/
  accS : Rat := 0
  accU : Rat := 0
  accN : Nat := 0
  accOk : Bool := false
  accC : Bool := false
  accY : Rat := 0
  accIn : List Nat := []
  /-- Boundary at which the tick in progress began. -/
  tickStart : Nat := 0
  /-- The word of the present HOLDOVER has been formed (R235). -/
  formed : Bool := false
  /-- The retained means of a HOLDOVER that began at an exit from belay (R541). -/
  kept : Option HoKept := none
deriving DecidableEq, Repr

/-- Where the reference and the feedback of a DPLL stand at a boundary: EDGE_T and cycle index of the latest word of each, and the
correction of the feedback's under R271 (R156). -/
structure GatePt where
  k : Nat := 0
  refT : Nat := 0
  refN : Int := 0
  fbT : Nat := 0
  fbOfs : Rat := 0
  fbN : Int := 0
deriving DecidableEq, Repr

/-- The lock-gate state of a DPLL (R156 to R158). -/
structure Gate where
  running : Bool := false
  /-- Boundary at which the gate started. -/
  startK : Nat := 0
  /-- The counts at its start. -/
  start : Option GatePt := none
  /-- The gate has held an unusable word. -/
  bad : Bool := false
  /-- LOCK_GATES. -/
  passed : Nat := 0
deriving DecidableEq, Repr

/-- One DPLL (R140 to R181). DESIGN CHOICE, unsafe: log entry 3. -/
structure DpllUnit where
  cfg : DpllCfg := {}
  enable : Bool := false
  force : Nat := 0
  glitchUse : Bool := false
  rows : List LoopRow := List.replicate 7 {}
  /-- A row that waits for the first boundary after DPLL_SET_LOOP (R155): row number and row. -/
  rowPend : List (Nat × LoopRow) := []
  /-- The rows that the evaluations of the latest boundary use (R155). -/
  rowsEval : List LoopRow := List.replicate 7 {}
  state : DpllSt := .freerun
  selInput : Nat := 0x1FF
  row : Nat := 0
  pullinLimit : Bool := false
  fbFault : Bool := false
  /-- FB_FAULT stays until a DPLL_CONFIG names a valid feedback (R164). -/
  fbReconf : Bool := false
  mirrorLost : Bool := false
  frozen : Bool := false
  parityHold : Bool := false
  acqFast : Bool := false
  /-- The DPLL has moved from ACQ_BW to BW since it entered ACQUIRING (R157). -/
  acqMoved : Bool := false
  /-- PHERR at the latest phase update (R156, R172, R195). -/
  phLast : Rat := 0
  frBasis : Bool := false
  bwClamp : Bool := false
  hist : Word := 0
  ien : Word := 0
  /-- Integrator, in 2^-10 ppt (R147). -/
  integ : Rat := 0
  /-- PHERR, BO and RES, in 2^-16 ns (R145, R146). -/
  pherr : Rat := 0
  bo : Rat := 0
  res : Rat := 0
  /-- STEER in force and the one before it, in 2^-10 ppt (R147, R150). -/
  steer : Int := 0
  steerPrev : Int := 0
  /-- The free-run word without the host offset, in 2^-10 ppt (R161). -/
  freeWord : Int := 0
  hostSteer : Int := 0
  /-- DPLL_PHASE_ADJUST waiting for the next boundary (R166). -/
  adjust : Option Int := none
  ffo : Int := 0
  /-- Feedback word and index at the start of the FFO second, and the sum of STEER over it (R172). -/
  ffoOpen : Option (Nat × Nat) := none
  ffoSum : Int := 0
  ffoN : Nat := 0
  locklossCnt : Nat := 0
  missCnt : Nat := 0
  holdCnt : Nat := 0
  /-- Step pending (R153) with the word it is measured from: EDGE_T and cycle index. -/
  stepPend : Bool := false
  ref : Follow := {}
  /-- The latest usable feedback word: EDGE_T, its correction, cycle index (R156). -/
  fb : Option (Nat × Rat × Int) := none
  /-- RES takes PHERR at the next phase update: the DPLL has come from FREERUN, or is a mirror that has found its leader (R160, R163). -/
  fresh : Bool := false
  /-- Boundary of the previous phase update, or of the entry into ACQUIRING (R147). -/
  lastUpd : Option Nat := none
  acqAt : Nat := 0
  gate : Gate := {}
  /-- Boundary of entry into the present state (R179 TIME_IN_STATE). -/
  stateAt : Nat := 0
  lastLockMts : Nat := 0
  lastHoldMts : Nat := 0
  everLocked : Bool := false
  /-- Mirror: a usable leader word since enable; windows without one; STEER history for R163, newest last. -/
  mirrorHad : Bool := false
  mirrorSilent : Nat := 0
  steerHist : List Int := []
  /-- Feedback words unusable, and usable, without a break, in windows (R153). -/
  fbBadRun : Nat := 0
  fbGoodRun : Nat := 0
  /-- Numeric accumulator: cycles completed, whole and fraction (R143). -/
  ncoCyc : Nat := 0
  ncoFrac : Rat := 0
  /-- The feedback word of a numeric DPLL, with its cycle index. -/
  ncoWord : PhaseWord := {}
  ncoIdx : Nat := 0
  /-- STEER in force over the window of that word (R143, R145). -/
  ncoSteer : Int := 0
  /-- Within the second in progress the DPLL has not met the conditions of the learning DPLL (R221). -/
  learnBad : Bool := false
  sel : Sel := {}
  ho : Hold := {}
deriving DecidableEq, Repr

/-! ## Oscillator ports and the cairn engine (chapter 06) -/

/-- One oscillator port (R215 to R217, R243). -/
structure OscPort where
  /-- Edges arrive: ACTIVE (R216, R244). -/
  active : Bool := false
  /-- Edges have arrived without a break for 10 ms: the port has started (R216). -/
  started : Bool := false
  lossH : Bool := false
  tempValid : Bool := false
  tempFaultH : Bool := false
  /-- OSC_TEMP in 1/128 degree. -/
  temp : Int := 0
  /-- The last 16 meter samples, newest last, in 2^-10 ppt. -/
  meter : List Rat := []
  /-- A meter sample of the latest second was valid. -/
  meterOk : Bool := false
  ien : Word := 0
  /-- Seconds since the latest start (R216). -/
  sOn : Nat := 0
  /-- Starts of the port since power-up (R216). -/
  startCnt : Nat := 0
  faults : Nat := 0
  goods : Nat := 0
deriving DecidableEq, Repr

/-- The states of a model (R224), with the codes of CAIRN_MBR. -/
inductive ModelSt | none | learning | qualified | restored
deriving DecidableEq, Repr

/-- MODEL_STATE (R244). -/
def ModelSt.code : ModelSt → Nat
  | .none => 0 | .learning => 1 | .qualified => 2 | .restored => 3

/-- The coefficients and variance terms of a model, in the units of R249. -/
structure Model where
  a0 : Int := 0
  a1 : Int := 0
  al : Int := 0
  c1 : Int := 0
  c2 : Int := 0
  c3 : Int := 0
  tref : Int := 0
  tmin : Int := 0
  tmax : Int := 0
  w : Int := 0
  tauR : Nat := 0
  sp : Nat := 0
  qrw : Nat := 0
  sa : Nat := 0
  st : Nat := 0
  sr : Nat := 0
deriving DecidableEq, Repr

/-- What the engine keeps of one oscillator port's model (R219 to R225, R237 to R239, R246, R249). -/
structure PortModel where
  state : ModelSt := .none
  oscId : Nat := 0
  tempOrderMax : Nat := 0
  originDays : Nat := 0
  tsense : Bool := false
  r25 : Nat := 0
  beta : Nat := 0
  tofs : Int := 0
  resMax : Nat := 0
  m : Model := {}
  /-- A learning mean has been taken (TREF is set). -/
  hasTref : Bool := false
  starts : Nat := 0
  /-- Model age in seconds since the first learning mean, without ORIGIN_DAYS (R239). -/
  ageS : Nat := 0
  learnS : Nat := 0
  sinceLearn : Nat := 0
  /-- A learning mean has been taken since the latest save (R532). -/
  unsaved : Bool := false
  /-- r of R223: no learning mean since the latest start. -/
  sinceStart : Bool := false
  /-- Learning seconds since the latest start, and that a start has been followed by 24 h of learning (R220). -/
  startLearn : Nat := 0
  start24 : Bool := false
  /-- Sum of the squares, and count, of the offsets of the first hour after each of the last 8 starts, newest last (R222). -/
  hours : List (Rat × Nat) := []
  /-- The coefficients of the fit before they are rounded, a0, a1, al, c1, c2, c3, w, and their covariance (R222); empty before the first. -/
  theta : List Rat := []
  cov : List (List Rat) := []
  /-- The port's starts that the latest save of the model has counted (R216, R237). -/
  startMark : Nat := 0
  /-- The age of the last learning at the restore, without the power-off interval, in seconds; a mean has been kept since (R238, R239). -/
  restAge : Nat := 0
  learntSince : Bool := false
  /-- Observations of the 64 s mean in progress: (x, predicted, temperature), newest last, and seconds elapsed. -/
  obs : List (Rat × Rat × Int) := []
  obsSec : Nat := 0
  /-- Residuals of the means of the last day with the second of each, newest last (R222, R224). -/
  resid : List (Nat × Rat) := []
  /-- Sum and count of observations and of predictions since restore (R225). -/
  verX : Rat := 0
  verP : Rat := 0
  verN : Nat := 0
  verVar : Rat := 0
  /-- The power-off interval is not yet known (R239): the SAVE_SEC of the record restored from. -/
  saveSec : Option Nat := none
  /-- Times the restore of the model has failed, and records of another identity found (R224, R452). -/
  failCnt : Nat := 0
  mismatchCnt : Nat := 0
deriving DecidableEq, Repr

/-- A member slot (R227, R228, R244). -/
structure Member where
  port : Nat := 0
  used : Bool := false
  state : Nat := 0
  rejected : Bool := false
  /-- Consecutive seconds of passing while REJECTED. -/
  passS : Nat := 0
  /-- WEIGHT as w. -/
  weight : Rat := 0
  /-- The last 64 seconds of the member's 1 s meter, newest last (R228). -/
  m64 : List Rat := []
  /-- e of the latest second, in 2^-10 ppt, held while frozen. -/
  e : Rat := 0
  var : Rat := 0
deriving DecidableEq, Repr

/-- The cairn engine (R226 to R231, R244, R248). -/
structure Cairn where
  learnDpll : List Nat := [0xFF, 0xFF, 0xFF, 0xFF]
  learnRankMax : Nat := 254
  kRej : Nat := 64
  rejoinS : Nat := 3600
  learnMin : Nat := 240
  saveMin : Nat := 60
  maxAgeD : Nat := 90
  timeDomain : Nat := 0
  learnTauD : Nat := 30
  ztauS : Nat := 3600
  restoreVerifyS : Nat := 600
  slots : List Member := List.replicate 4 {}
  valid : Bool := false
  split : Bool := false
  tbHeld : Bool := false
  learning : Bool := false
  learnUse : Nat := 0x7F
  /-- Seconds of the engine since reset. -/
  secs : Nat := 0
  hist : Word := 0
  ien : Word := 0
  /-- Y, sigma_C and Z in 2^-10 ppt. -/
  y : Rat := 0
  sigma : Rat := 0
  z : Rat := 0
  /-- Ports of the ACTIVE members of the latest second (R230). -/
  activeSet : List Nat := []
  /-- A rejection changed the ACTIVE set (R230: not carried in Z). -/
  rejNow : Bool := false
deriving DecidableEq, Repr

/-! ## OPLLs and outputs (chapter 07) -/

/-- The OPLL states (R263). -/
inductive OpllSt | off | bandCal | locking | aligning | locked | fault | quiesce
deriving DecidableEq, Repr

/-- OPLL_STAT.STATE (R285). -/
def OpllSt.code : OpllSt → Nat
  | .off => 0 | .bandCal => 1 | .locking => 2 | .aligning => 3 | .locked => 4 | .fault => 5 | .quiesce => 6

/-- An alignment measurement in progress (R270, R271). -/
structure AlignRun where
  /-- Outputs still to measure, ascending. -/
  todo : List Nat := []
  /-- Outputs measured so far, each with its correction, or none after a slot that failed: they are set when the run ends (R270, R284). -/
  done : List (Nat × Option Int) := []
  /-- Repetitions of the slot in progress. -/
  rep : Nat := 0
  /-- A slot has failed three repetitions. -/
  failed : Bool := false
  /-- The run measures every enabled output of the OPLL (R271). -/
  full : Bool := false
  /-- The mailbox channels that await the end (OPLL_ALIGN). -/
  chans : List Nat := []
deriving DecidableEq, Repr

/-- The third-order fraction modulator of an OPLL: three 40-bit accumulators, the carries of the second and the third that its output
still needs, and the divider it commands in the present phase-detector cycle (R257, R259). PRESUMED, unsafe: log entry 55. -/
structure FracMod where
  a1 : Nat := 0
  a2 : Nat := 0
  a3 : Nat := 0
  y2 : Int := 0
  y3 : Int := 0
  z3 : Int := 0
  div : Int := 0
deriving DecidableEq, Repr

/-- One OPLL (R254 to R265, R280, R285). -/
structure OpllUnit where
  enable : Bool := false
  configured : Bool := false
  refPort : Nat := 0
  dbl : Bool := false
  dither : Bool := true
  lbw : Nat := 1
  rdiv : Nat := 1
  int : Nat := 0
  frac : Nat := 0
  refHz : Nat := 0
  seed : Nat := 0x6B5F2C91
  /-- The LFSR of the dither, the modulator, and the part of a phase-detector cycle that has passed (R259). -/
  lfsr : Nat := 0
  fm : FracMod := {}
  pdFrac : Rat := 0
  state : OpllSt := .off
  /-- n_cur in units of 2^-40 and the residue accumulator (R257). -/
  nCur : Nat := 0
  acc : Rat := 0
  /-- n_nom in units of 2^-40 while ramping (R280). -/
  nNom : Rat := 0
  rampTo : Option Nat := none
  rate : Nat := 2000
  /-- INT and FRAC to load at BAND_CAL after a QUIESCE for a frequency change (R263, R280). -/
  newFreq : Option (Nat × Nat) := none
  offPend : Bool := false
  /-- The STEER that a DPLL last wrote and no OPLL_SET_FREQ has replaced (R257, R281). -/
  steer : Int := 0
  parityHold : Bool := false
  band : Nat := 0
  faultCause : Nat := 0
  hist : Word := 0
  ien : Word := 0
  locklossCnt : Nat := 0
  relockCnt : Nat := 0
  /-- Consecutive passing gates. -/
  gates : Nat := 0
  /-- The phase-detector error that counts as a cycle slip, in degrees: the plan's at the latest entry into LOCKING (R546). -/
  slipThr : Nat := 150
  align : Option AlignRun := none
  /-- A measured alignment has been made since the last entry into LOCKED (R271). -/
  measured : Bool := false
deriving DecidableEq, Repr

/-- The output states (R273). -/
inductive OutSt | off | stopped | starting | running | stopping
deriving DecidableEq, Repr

/-- OUT_STAT.STATE (R286). -/
def OutSt.code : OutSt → Nat
  | .off => 0 | .stopped => 1 | .starting => 2 | .running => 3 | .stopping => 4

/-- What a leg of an output's pin pair carries (R275, R282): nothing, a level, or the clock or the 1PPS pulses, in phase or inverted. -/
inductive Leg | hiZ | low | high | clock | inverted
deriving DecidableEq, Repr

/-- One output (R266 to R279, R286, R289). -/
structure OutUnit where
  enable : Bool := false
  run : Bool := false
  stopLvl : Nat := 2
  bypRet : Bool := false
  belay : Bool := false
  src : Nat := 0
  format : Nat := 0
  pps : Bool := false
  pre : Nat := 0
  swing : Nat := 0
  nMode : Nat := 0
  drive : Nat := 0
  bypSrc : Nat := 0
  bypOut : Nat := 0
  ppsTd : Nat := 0
  configured : Bool := false
  div : Nat := 0
  bypDiv : Nat := 0
  ppsWidth : Nat := 0
  /-- OUT_COARSE_HI as written, and COARSE (34 bits) and FINE as written (R286). -/
  coarseHi : Nat := 0
  coarse : Nat := 0
  fine : Nat := 0
  /-- COARSE and FINE applied at a rising edge (R269), in force. -/
  coarseEff : Nat := 0
  fineEff : Nat := 0
  /-- The boundary by which the rising edge that applies a written phase has come (R269). -/
  phaseDue : Option Nat := none
  /-- The boundary by which a switch to or from the bypass clock has reached the new clock's first rising edge (R278, R284). -/
  switchDue : Option Nat := none
  /-- The delay by which the latest change lengthened a low phase, in 2^-16 ns (R269). -/
  phaseDelay : Option Rat := none
  /-- The coarse count and the fine delay in force, in VCO periods and 0.5 ps, after whole periods have moved between them (R268). -/
  delayC : Int := 0
  delayF : Rat := 0
  fdCorr : Int := 0
  state : OutSt := .off
  /-- The latest stop was forced and the output has not started since (R452). -/
  forced : Bool := false
  /-- Alignments in which this output's slot failed (R271, R452). -/
  alignFails : Nat := 0
  offPend : Bool := false
  onBypass : Bool := false
  aligned : Bool := false
  hist : Word := 0
  ien : Word := 0
  /-- Start waiting for the common instant T0: MTS (R276). -/
  startAt : Option Nat := none
  /-- SEC of the last pulsed crossing, and its rising-edge MTS (R309). -/
  lastSec : Option Nat := none
  lastRise : Option Nat := none
  /-- Width in ns of the pulse in progress or last emitted (R370). -/
  pulseNs : Nat := 0
  /-- Pulses emitted (the model's own count of what left the ball). -/
  pulses : Nat := 0
deriving DecidableEq, Repr

/-! ## Time domains and event channels (chapter 08) -/

/-- The time-domain states (R302). -/
inductive TdSt | off | unset | tracking | freerun
deriving DecidableEq, Repr

/-- TD_STAT.STATE (R325). -/
def TdSt.code : TdSt → Nat
  | .off => 0 | .unset => 1 | .tracking => 2 | .freerun => 3

/-- A time domain's servo and syntonisation settings (R327). -/
structure TdSet where
  syn : Bool := false
  firstStep : Bool := true
  synDpll : Nat := 0
  kp : Nat := 32768
  ki : Nat := 1048576
  slewMax : Nat := 10000
  holdMs : Nat := 3000
  maxAgeMs : Nat := 1000
  stepThr : Nat := 6553600000
deriving DecidableEq, Repr

/-- A time domain's time-of-day settings (R330). -/
structure TodSet where
  format : Nat := 0
  baud : Nat := 0
  gpio : Nat := 0
  lead : Bool := false
  leapPend : Bool := false
  leapNeg : Bool := false
  delayMs : Nat := 0
  utcOfs : Int := 0
  talker : Nat := 0
deriving DecidableEq, Repr

/-- A time write that waits for the next boundary (R296, R328). Times in 2^-48 ns. -/
inductive TimeWrite
  /-- Make the domain read `val` at `atMts` (0: the boundary itself). -/
  | absolute (val : Nat) (atMts : Nat)
  /-- Move by `delta`, in 2^-16 ns. -/
  | relative (delta : Int)
deriving DecidableEq, Repr

/-- One time domain (R292 to R317, R325). Times are counted in 2^-48 ns. -/
structure TdUnit where
  enable : Bool := false
  set : TdSet := {}
  setPend : Option TdSet := none
  tod : TodSet := {}
  todPend : Option TodSet := none
  state : TdSt := .off
  /-- SEC, and NS with the internal fraction in 2^-48 ns (R292). -/
  sec : Nat := 0
  sub : Nat := 0
  /-- Nanoseconds after the latest boundary at which SEC and NS stand: 0, or the offset of a crossing (R293). -/
  ahead : Rat := 0
  /-- What the counter has counted at its rate, steps apart, in 2^-48 ns: the mean rate over a gate follows from it (R76, R91). -/
  run : Nat := 0
  /-- The whole counter at the latest boundary, in 2^-48 ns (R305, R319). -/
  base : Nat := 0
  /-- Residue of the increment below 2^-48 ns, as a fraction (R294). -/
  resid : Rat := 0
  synLost : Bool := false
  frozen : Bool := false
  parityHold : Bool := false
  slewLimit : Bool := false
  stepSeq : Nat := 0
  hist : Word := 0
  ien : Word := 0
  snapSeq : Nat := 0
  snapSec : Nat := 0
  snapNs : Nat := 0
  snapFrac : Nat := 0
  snapMts : Nat := 0
  /-- TD_OFS, TD_OFS_MTS and COMMIT as written (R299). -/
  ofs : Int := 0
  ofsMts : Nat := 0
  commit : Bool := false
  pendOfs : Option (Int × Nat) := none
  rate : Int := 0
  /-- Integrator and servo output, in 2^-10 ppt (R301). -/
  integ : Rat := 0
  y : Rat := 0
  uk : Int := 0
  /-- A value of u_k arrived in the open window (R303). -/
  ukArrived : Bool := false
  stepCnt : Nat := 0
  ofsCnt : Nat := 0
  ofsRejCnt : Nat := 0
  ppsMissCnt : Nat := 0
  ppsMissOut : Nat := 0
  /-- The happenings of R452 so far that leave no state of their own for a scan to compare, oldest first (R453). -/
  happened : List Happening := []
  timeWrite : List TimeWrite := []
  firstOfs : Bool := false
  /-- A time has been written or an offset received since enable (R91, R302). -/
  given : Bool := false
  lastTm : Option Nat := none
  lastAccK : Option Nat := none
  stepK : Option Nat := none
  /-- Boundary of the latest enable, and of the latest accepted offset, for STALE (R91). -/
  enableK : Nat := 0
  /-- Step applied in the open window, for the word of the virtual input (R297). -/
  stepMark : List Int := []
  /-- The SEC reached exactly at the latest boundary: its crossing belongs to the open window (R121, R125). -/
  atSec : Option Nat := none
  /-- Latest whole-second crossing of the open window: MTS in 2^-16 ns (R125, R306). -/
  crossT : Option Nat := none
  /-- Highest SEC reached by counting (R309, R312). -/
  maxCross : Option Nat := none
  /-- Crossing whose message or pulse is due: SEC and crossing time (R306). -/
  crossSec : Nat := 0
  todSeq : Nat := 0
  /-- The last message the formatter sent: (crossing SEC, bytes). -/
  todOut : List Byte := []
  /-- A message is due DELAY_MS after the crossing (R312), whose MTS is this. -/
  todDue : Bool := false
  crossMts : Nat := 0
  /-- The bits of that message as the formatter's GPIO carries them, first to last; the line is high before and after them (R311). -/
  todLine : List Bool := []
  /-- The word of the virtual input that closed the latest window (R125). -/
  word : PhaseWord := {}
deriving DecidableEq, Repr

/-- One event channel (R318 to R323, R326). -/
structure EvUnit where
  enable : Bool := false
  mode : Bool := false
  edge : Bool := false
  mtsOnly : Bool := false
  td : Nat := 0
  rateLim : Nat := 1000000
  decim : Nat := 1
  /-- EV_CTRL and EV_RATE in force since the latest boundary (R318). -/
  effEnable : Bool := false
  effMode : Bool := false
  effEdge : Bool := false
  effMtsOnly : Bool := false
  effTd : Nat := 0
  effRate : Nat := 1000000
  effDecim : Nat := 1
  hist : Word := 0
  ien : Word := 0
  cnt : Nat := 0
  rdropCnt : Nat := 0
  /-- Tokens in the bucket, each 1 310 720 000 000 000 units: the gain of one record per second over one second of extended
  time (R322). -/
  tokens : Nat := 256 * 1310720000000000
  /-- Extended time into the open window up to which the bucket has gained. -/
  tokAt : Nat := 0
  decimCnt : Nat := 0
  droppedMark : Bool := false
  mergedMark : Bool := false
  /-- Edges of the open window that form records: their time, the start edge's time, and of a pair the interval and the NS of its start edge,
  oldest first. -/
  edges : List (Nat × Nat × Option (Int × Nat)) := []
  /-- NS of the pin's unpaired edge, converted with its own window's value and rate (R319, R320). -/
  ref : Nat := 0
  /-- On the even pin of a pair: edges of the open window, extended time and pin, that wait to be paired in time order (R127). -/
  pairQ : List (Nat × Nat) := []
deriving DecidableEq, Repr

end Sys2Proof.Machine
end

