-- ==== Sys2Proof/Machine/HostUnits.lean ====
section
/-! DEFINITION. The state of the host side and of the firmware: mailboxes and sessions, events and logs, boot and images,
abort, host ports, semaphores and interrupts, DMA rings, the non-volatile store, belay and ageing (chapters 11 to 15). -/

namespace Sys2Proof.Machine
open Sys2Proof

/-! ## Mailboxes, sessions, events, logs (chapters 11, 12) -/

/-- One event entry (R453). -/
structure EventEntry where
  mts : Nat := 0
  cls : Nat := 0
  sub : Nat := 0
  exact : Bool := false
  unit : Nat := 0
  data : Nat := 0
deriving DecidableEq, Repr

/-- One log entry (R457). -/
structure LogEntry where
  seq : Nat := 0
  up : Nat := 0
  sev : Nat := 0
  die : Nat := 0
  owner : Nat := 0
  ev : EventEntry := {}
deriving DecidableEq, Repr

/-- A session (R428 to R432, R510). -/
structure Session where
  /-- 0 PCIe, 1 SPI, 2 I2C. -/
  port : Nat := 0
  owner : Nat := 0
  id : Nat := 0
  nextSeq : Nat := 0
  /-- Classes 1 to 14 subscribed; RESTART always is (R454). -/
  mask : Nat := 0
  nonce : Option (List Byte) := none
  /-- The session passed SESSION_AUTH (R433). -/
  authed : Bool := false
  /-- Partition grants: die, partition, write (R510). -/
  grants : List (Nat × Nat × Bool) := []
deriving DecidableEq, Repr

/-- A message the CP has copied and not yet answered (R401). -/
structure Msg where
  op : Nat := 0
  seq : Nat := 0
  payload : List Byte := []
  port : Nat := 0
  /-- The channel was read-only at the copy (R451). -/
  ro : Bool := false
  /-- The follower that has not yet taken the forwarded request (R60). -/
  fwd : Option Nat := none
  /-- The command has executed; its acknowledge waits for a later event. -/
  held : Bool := false
  /-- The return code gathered while the acknowledge waits. -/
  code : Nat := 0
deriving DecidableEq, Repr

/-- One mailbox channel (R399 to R403, R414). -/
structure Mbx where
  h2c : List Byte := List.replicate 256 0
  c2h : List Byte := List.replicate 256 0
  h2cFull : Bool := false
  c2hFull : Bool := false
  collision : Bool := false
  h2cDb : Word := 0
  h2cMask : Word := 0xFFFFFFFF
  c2hDb : Word := 0
  c2hMask : Word := 0xFFFFFFFF
  ack : Word := 0
  /-- The port whose write set MBX_H2C_DB bit 0 (R426). -/
  port : Nat := 0
  sess : Option Session := none
  queue : List EventEntry := []
  lost : Nat := 0
  msg : Option Msg := none
  /-- Responses held while C2H_FULL is 1: return code, sequence, bytes (R402). -/
  held : List (Nat × Nat × List Byte) := []
  /-- A channel policy and a subscription mask that come into force once the response of their command is written (R451, R454). -/
  roDue : Option Nat := none
  maskDue : Option Nat := none
deriving DecidableEq, Repr

/-- A boot profile (R396). -/
structure Profile where
  tb : Option Nat := none
  /-- OPLL_CONFIG payloads by die-local OPLL. -/
  oplls : Tbl (List Byte) := []
  /-- OUTPUT_CONFIG payloads with their RUN flags by die-local output. -/
  outs : Tbl (Bool × List Byte) := []
deriving DecidableEq, Repr

/-- The boot record (R388): states 0 UNKNOWN, 1 TRIAL, 2 GOOD, 3 BAD. -/
structure BootRec where
  pref : Nat := 0
  stA : Nat := 0
  stB : Nat := 0
  cntA : Nat := 0
  cntB : Nat := 0
deriving DecidableEq, Repr

/-- A margin plan (R546, R553). -/
structure Plan where
  stored : Bool := false
  version : Nat := 0
  evalHours : Nat := 0
  fm : Nat := 256
  slip : Nat := 150
  hits : Nat := 28
  band : Nat := 2500
  verify : Nat := 2
  scanH : Nat := 168
  evalMts : Nat := 0
deriving DecidableEq, Repr

/-- What the model keeps of an accepted image's manifest (R390). -/
structure Manifest where
  fw : Nat := 0
  svn : Nat := 0
  major : Nat := 0
  minor : Nat := 0
  bodyLen : Nat := 0
  hash : Nat := 0
  tested : List Nat := []
  revoke : Nat := 0
  keySlot : Nat := 0
deriving DecidableEq, Repr

/-- Boot and images of die 0 (R386 to R398, R413, R416). -/
structure Boot where
  safe : Bool := false
  download : Bool := false
  untested : Bool := false
  slot : Nat := 0
  srcHost : Bool := false
  trial : Bool := false
  profile : Bool := false
  profileErr : Bool := false
  failCause : Nat := 0
  major : Nat := 0
  minor : Nat := 0
  folSafe : Nat := 0
  folNoimg : Nat := 0
  ovrSrc : Nat := 0
  ovrValid : Bool := false
  /-- Step of R389: 0 reset, 1 a pair has been checked, 2 unit body streamed, 3 lead image runs, 4 channels open. -/
  step : Nat := 0
  lead : Option Manifest := none
  unit : Option Manifest := none
  /-- Images received in download mode, or the unit image under R394. -/
  leadBuf : List Byte := []
  unitBuf : List Byte := []
  /-- Milliseconds since firmware start (R457). -/
  uptime : Nat := 0
  /-- The running slot was not the preferred one (R452 class 11). -/
  fallback : Bool := false
  /-- The source code of R386 in force, and the slots that have failed in this boot (R388, R392). -/
  src : Nat := 0
  tried : List Nat := []
deriving DecidableEq, Repr

/-- One-time programmable state of a die (R391, R432). -/
structure Otp where
  /-- Key slots programmed, and revoked, as bits. -/
  keys : Nat := 1
  revoked : Nat := 0
  rollback : Nat := 0
  /-- Port key of die 0: programmed, programmed in part, and its 32 bytes. -/
  portKey : Bool := false
  portPart : Bool := false
  key : List Byte := []
deriving DecidableEq, Repr

/-- One abort in the history (R446). -/
structure AbortLog where
  mts : Nat := 0
  cls : Nat := 0
  idx : Nat := 0
  result : Nat := 0
  path : Nat := 0
  cleanUs : Nat := 0
  totalUs : Nat := 0
deriving DecidableEq, Repr

/-- The abort unit (R405 to R408, R415, R446). -/
structure Abort where
  req : Nat := 0
  result : Nat := 0
  doneH : Bool := false
  reqIgn : Bool := false
  func : Nat := 0
  ien : Word := 0
  path : Nat := 0
  mts : Nat := 0
  /-- Progress at the target die: 0 none, 1 requested, 2 arrived, 3 window over, 4 forced. -/
  stage : Nat := 0
  clean : Bool := false
  /-- Completed aborts, newest first, at most 8. -/
  log : List AbortLog := []
  total : Nat := 0
deriving DecidableEq, Repr

/-! ## The non-volatile store (chapter 14) -/

/-- The body of a record (R512). -/
inductive RecBody
  | none
  | seed (r : SeedRec)
  /-- The model with CLOCK_VALID and SAVE_SEC of the save (R237). -/
  | model (m : PortModel) (sec : Option Nat) (fw : Nat)
  | plan (p : Plan)
  | profile (p : Profile)
  | boot (b : BootRec)
  | log (l : List LogEntry) (next : Nat)
  /-- Read and write passwords of partitions 1 to 7. -/
  | pass (p : List (List Byte))
deriving DecidableEq, Repr

/-- One copy of a record (R513). -/
structure RecCopy where
  /-- Its ID is not 0xFFFF. -/
  written : Bool := false
  seq : Nat := 0
  void : Bool := false
  /-- Its CRC matches. -/
  ok : Bool := false
  /-- One of its pages was reported TORN at this boot. -/
  torn : Bool := false
  body : RecBody := .none
deriving DecidableEq, Repr

/-- What a queued page write does (R501, R515, R516, R523). -/
inductive NvWork
  /-- Bytes of a user partition, from a cell address. -/
  | cells (addr : Nat) (data : List Byte)
  /-- Erase of a user partition: pages left. -/
  | erase (part left : Nat)
  /-- A record copy: record, copy B, SEQ, void, body, pages in all, pages left. -/
  | record (id : Nat) (b : Bool) (seq : Nat) (void : Bool) (body : RecBody) (pages left : Nat)
  /-- A margin refresh of a page. -/
  | refresh (page : Nat)
deriving DecidableEq, Repr

/-- What happens with the last page of a job (R409, R510, R523). -/
inductive NvFin
  | none
  /-- The password of a partition of the die has changed: grants of that kind end. -/
  | grants (part : Nat) (write : Bool)
  /-- The partition has been erased: its lock and its count clear. -/
  | unlock (part : Nat)
  /-- BOOT_CONFIRM: the OTP writes. -/
  | confirm
  /-- FW_FLASH: the slot reads UNKNOWN, and the operation goes to the flash (R410): operation, slot, offset, data. -/
  | flash (op slot off : Nat) (data : List Byte)
  /-- LOG_CLEAR: the NV log below a SEQ, and with it the RAM log. -/
  | clearLog (ram : Bool) (upTo : Nat)
deriving DecidableEq, Repr

/-- A queued page write and the channel whose command waits for it. -/
structure NvJob where
  work : NvWork
  chan : Option Nat := none
  fin : NvFin := .none
deriving DecidableEq, Repr

/-- The store of one die (R499 to R519). -/
structure NvDie where
  /-- Cells of the user partitions by address (partition - 1) * 24 576 + offset; a cell never written reads 0xFF. -/
  cells : Tbl Byte := []
  /-- Copies A and B of the vendor records, by ID. -/
  recA : Tbl RecCopy := []
  recB : Tbl RecCopy := []
  queue : List NvJob := []
  /-- What the partition that an erase is clearing held before it: its number and its cells (R437, R503, R523). -/
  undo : Option (Nat × Tbl Byte) := none
  /-- The journal holds INTENT with this page. -/
  journal : Option Nat := none
  torn : Option Nat := none
  hist : Word := 0
  locked : Nat := 0
  wrong : Tbl Nat := []
  spares : Nat := 320
  remap : Tbl Nat := []
  writeCnt : Nat := 0
  rejCnt : Nat := 0
  refreshCnt : Nat := 0
  remapCnt : Nat := 0
  /-- Supply levels at the latest page write, in mV. -/
  aonMv : Nat := 0
  choldMv : Nat := 0
deriving DecidableEq, Repr

/-- What a die's ageing sources hold (R544, R545, R554). -/
structure Age where
  /-- Update windows with TB_EN = 1. -/
  onWin : Nat := 0
  /-- D of the latest evaluation, in units of 0.01 %. -/
  wear : Nat := 0
  /-- The departure in ppm of the band centre found at the latest BAND_CAL of each OPLL, by die-local index (R545). -/
  drifts : Tbl Int := []
  /-- Background candidates of the last 24 h: the value of onWin at each, and whether it was rejected, oldest first. -/
  cands : List (Nat × Bool) := []
  /-- POP_CODES of the die's channels at the latest evaluations, newest last, at most 31 (R545). -/
  pops : List (List Nat) := []
  /-- Margin scan: last page read, this scan refreshed a page; hours of refreshing scans and of refreshes. -/
  scanPage : Nat := 0
  scanWeak : Bool := false
  scans : List Nat := []
  refreshes : List Nat := []
  /-- Milliseconds of powered operation outside belay, and those at the latest evaluation of the plan (R547). -/
  opMs : Nat := 0
  evalAt : Option Nat := none
deriving DecidableEq, Repr

/-- The CP, store, plan, parity and sleep state of one die. -/
structure DieX where
  /-- CP_STAT.MODE and HEARTBEAT (R412). -/
  mode : Nat := 0
  heartbeat : Nat := 0
  /-- The ROM has started (R389). -/
  rom : Bool := false
  /-- The die has booted since power-up (R460). -/
  bootedOnce : Bool := false
  /-- The unit image has reached this follower whole (R389, R394). -/
  gotImage : Bool := false
  /-- Bytes of a unit image in BOOT_LOAD that have reached this follower without a gap (R416). -/
  gotBytes : Nat := 0
  /-- That image came by BOOT_LOAD and not from the running slot (R394, R416). -/
  gotHost : Bool := false
  /-- Forwarded requests in arrival order, by channel (R60). -/
  fwdQ : List Nat := []
  /-- Forwarded requests taken and not yet executed, in arrival order (R60). -/
  fwdRun : List Nat := []
  nv : NvDie := {}
  otp : Otp := {}
  plan : Plan := {}
  age : Age := {}
  /-- The staging copy of the boot profile (R420), and the profile applied. -/
  staging : Profile := {}
  applied : Bool := false
  /-- Register offsets whose parity is bad; those whose safe state is due at the next boundary (R477). -/
  bad : List Nat := []
  parDue : List Nat := []
  parStat : Word := 0
  parLog : Nat := 0
  parCnt : Nat := 0
  /-- The register offset of each parity fault so far, oldest first (R452, R477). -/
  parFaults : List Nat := []
  parIen : Word := 0
  /-- Fabric units asleep (R529). -/
  asleep : List Nat := []
deriving DecidableEq, Repr

/-! ## Host ports, interrupts, rings (chapter 13) -/

/-- A register access: its path, its package address, a write or a read, and the value (R340, R462). -/
structure Access where
  path : Path
  addr : Nat
  write : Bool
  val : Word
  /-- Its frame has been lost with a link: it ends as a late access (R348). -/
  lost : Bool := false
deriving DecidableEq, Repr

/-- One host port: PCIe, SPI or I2C (R476, R469, R433). -/
structure Port where
  indAddr : Nat := 0
  indInc : Bool := false
  /-- Data of the latest read. -/
  rd : Word := 0
  /-- The access that stalls the port, if any (R340, R473). -/
  busy : Option Access := none
  /-- Writes that wait behind it (R467, R469). -/
  queue : List Access := []
  /-- Bytes of a partial word have arrived (R469, R470). -/
  partWord : Bool := false
  authFails : Nat := 0
  authLocked : Bool := false
deriving DecidableEq, Repr

/-- One DMA ring (R484 to R488, R493). -/
structure Ring where
  enable : Bool := false
  size : Nat := 0
  source : Nat := 0
  weight : Nat := 0
  base : Nat := 0
  wb : Nat := 0
  lo : Nat := 0
  hi : Nat := 0
  thresh : Nat := 0
  timer : Nat := 0
  wr : Nat := 0
  rd : Nat := 0
  hist : Word := 0
  ien : Word := 0
  drop : Nat := 0
  written : Nat := 0
  lastWb : Nat := 0
  /-- Entries written since the last block. -/
  unreported : Nat := 0
  /-- Records routed to the ring and not yet written, oldest first (R484, R488). -/
  q : List (BitVec 128) := []
  /-- What the part has written to host memory: entries by index, and the latest block. -/
  mem : Tbl (BitVec 128) := []
  block : BitVec 128 := 0
deriving DecidableEq, Repr

/-- The host side of die 0. -/
structure HostSide where
  ports : List Port := List.replicate 3 {}
  spiAuth : Bool := false
  i2cAuth : Bool := false
  violH : Bool := false
  hpStat : Word := 0
  hpIen : Word := 0
  /-- Writes in the slow-register bridge queue, oldest first (R473). -/
  slowQ : List (Nat × Word) := []
  /-- The byte of the latest SPI status operation (R468). -/
  spiStatus : Nat := 0
  /-- Owners of the semaphores; 0 is free (R478). -/
  sem : Tbl Nat := []
  /-- IRQ_ROUTE by source (R492). -/
  route : Tbl Word := []
  vecAck : Word := 0
  /-- The OR of each vector's routed sources at the latest evaluation. -/
  vecOr : Nat := 0
  /-- MSI-X messages sent (the model's own count of what left the part). -/
  msgs : Nat := 0
  /-- MSI-X pending bits, per-vector mask bits, and the address and data words of the table (R482). -/
  pba : Nat := 0
  vecMask : Nat := 0xFFFFFFFF
  msixTab : Tbl Word := []
  linkUp : Bool := false
  bme : Bool := false
  msix : Bool := false
  funcMask : Bool := false
  rings : Tbl Ring := []
  /-- The local ring: SIZE_LOG2 16. -/
  loc : Ring := { size := 16 }
  /-- The die whose record was admitted last (R56), and the ring the engine serves with the records left of its turn (R58, R484). -/
  rrDie : Nat := 7
  wrrRing : Nat := 15
  wrrLeft : Nat := 0
  /-- The channel whose message was taken last (R59). -/
  rrChan : Nat := 7
  mbx : Tbl Mbx := []
  sessions : Nat := 0
  roMask : Nat := 0
  /-- The resets that RESET has asked for (R445): die, the firmware time in ms at which it is due, the channel, and the OWNER of its session. -/
  resetReq : List (Nat × Nat × Nat × Nat) := []
  boot : Boot := {}
  abort : Abort := {}
  /-- The flash by address; an unlisted byte reads 0xFF (R387). -/
  flash : Tbl Byte := []
  /-- A FW_FLASH operation in progress: operation, slot, offset, data, channel (R410). -/
  flashOp : Option (Nat × Nat × Nat × List Byte × Nat) := none
  ramLog : List LogEntry := []
  ramSeq : Nat := 0
  /-- The NV log as firmware holds it, and its next SEQ (R456). -/
  nvLog : List LogEntry := []
  nvSeq : Nat := 0
  /-- What the latest event scans observed, by key (R453). -/
  scan : Tbl Nat := []
  /-- Commands since the latest scan: opcode group, unit, OWNER of the session (R457). -/
  cause : List (Nat × Nat × Nat) := []
deriving DecidableEq, Repr

/-! ## Belay (chapter 15) -/

/-- What one domain carries through belay: its time in 2^-48 ns, and the rate at capture (R534). -/
structure Carried where
  total : Nat := 0
  rate : Int := 0
deriving DecidableEq, Repr

/-- What a DPLL retains through belay: HOLDOVER_VALID, the means, and a mirror's word in force (R541). -/
structure Retained where
  valid : Bool := false
  means : HoKept := {}
  word : Int := 0
deriving DecidableEq, Repr

/-- Power and belay (R526 to R543, R549). -/
structure Belay where
  wakeS : Nat := 60
  mainfailEn : Bool := true
  autoSave : Bool := true
  debounceMs : Nat := 100
  phase : Nat := 0
  mainFail : Bool := false
  cmd : Bool := false
  modelSteer : Bool := false
  rstCause : Nat := 0
  hist : Word := 0
  /-- Belay outputs, at most two, ascending (R530). -/
  outs : List Nat := []
  seconds : Nat := 0
  cnt : Nat := 0
  duration : Nat := 0
  /-- The channel of a BELAY_ENTER that has been accepted: entry is due once its acknowledge is written (R531). -/
  armed : Option Nat := none
  /-- Boundary of the trigger, and B_e once captured. -/
  trigK : Nat := 0
  entryK : Option Nat := none
  entryMts : Nat := 0
  /-- MAIN_FAILn has been low during this belay, or has risen again (R539). -/
  sawLow : Bool := false
  rose : Bool := false
  /-- Always-on count since C_e, in master cycles (R534). -/
  count : Nat := 0
  carried : Tbl Carried := []
  retained : Tbl Retained := []
  /-- Dies captured at B_e (R532), and TB_EN as retained (R533). -/
  live : List Nat := []
  tbEn : Bool := false
  /-- DPLLs, domains and OPLLs whose return is still due (R540, R541). -/
  dpllsDue : List Nat := []
  tdsDue : List Nat := []
  opllsDue : List Nat := []
  /-- The restart edge: its time in update windows, and whether the coarse counter still waits to be loaded (R534). -/
  edge : Rat := 0
  loadDue : Bool := false
  y : Rat := 0
  /-- p_M at capture, dy in force, the last valid temperature (R535, R538). -/
  pE : Rat := 0
  dy : Rat := 0
  temp : Int := 0
  masterLost : Bool := false
  /-- Crossing increment of each belay output, in 2^-32 master cycles (R537), and pulses it has emitted. -/
  inc : Tbl Nat := []
  pulses : Tbl Nat := []
  /-- The next carried crossing of each belay output with its 1PPS delay, in 2^-32 master cycles from C_e, and the master edge its
  latest pulse rose at (R537). -/
  cross : Tbl Nat := []
  edges : Tbl Nat := []
  /-- Belay outputs whose pulses come from the always-on generator: from B_e until their OPLL takes over (R537, R540). -/
  gen : List Nat := []
  /-- Sum over each second of the master model's standard deviation (R552). -/
  sumSd : Rat := 0
  /-- Page writes left in the latest periodic wake (R536). -/
  budget : Nat := 0
deriving DecidableEq, Repr

end Sys2Proof.Machine
end

