-- ==== Sys2Proof/Machine/StitchState.lean ====
section
/-! DEFINITION. The state of a stitch engine (chapter 10) and of a clock-domain crossing (chapter 09). -/

namespace Sys2Proof.Machine
open Sys2Proof

/-- What a waiting engine waits for (R361). -/
inductive Wait
  | none
  /-- WAIT_EVENT: destination register and MASK. -/
  | event (gd mask : Nat)
  /-- WAIT_TIME: unit code and units left. -/
  | time (unit n : Nat)
deriving DecidableEq, Repr

/-- A queued unit write (R359, R361): the view word, the bits it replaces and their new values. -/
structure UnitWrite where
  word : Nat
  mask : Word
  val : Word
deriving DecidableEq, Repr

/-- An accepted STITCH_COMMIT or STITCH_DEFAULT that waits for its engine (R375, R378): the channel that awaits it, and what it installs. -/
structure CommitWait where
  chan : Nat
  prog : List Word
  entries : List Nat
  tag : Word
  dflt : Bool
  /-- It found the engine idle with a trigger, which runs first on the old program (R378). -/
  first : Bool
deriving DecidableEq, Repr

/-- One stitch engine (R355 to R379). -/
structure Stitch where
  enable : Bool := false
  dbChan : Nat := 4
  loaded : Bool := false
  dflt : Bool := false
  /-- Program memory; words past the end of the list read 0. -/
  prog : List Word := []
  /-- Addresses whose parity bit is wrong (R358, R367). -/
  badParity : List Nat := []
  /-- Entry address of each point; 0xFF = none. -/
  entries : List Nat := [0xFF, 0xFF, 0xFF, 0xFF]
  /-- Staged words (R373); words past the end read 0. -/
  staging : List Word := []
  g : List Word := List.replicate 8 0
  fz : Bool := false
  fn : Bool := false
  fc : Bool := false
  fv : Bool := false
  pc : Nat := 0
  busy : Bool := false
  point : Nat := 0
  wait : Wait := .none
  wq : List UnitWrite := []
  /-- HALT issued: the queue drains (R359). -/
  draining : Bool := false
  loc : List Word := List.replicate 32 0
  ctx : List Word := List.replicate 32 0
  steps : Nat := 0
  /-- Triggers not yet started, with the context words given at the trigger (R366), lowest point first. -/
  trig : List (Nat × List Word) := []
  /-- Pending events (R362). -/
  events : Nat := 0
  emit0 : Nat := 0
  emit1 : Nat := 0
  seq : Nat := 0
  hist : Word := 0
  ien : Word := 0
  tag : Word := 0
  runCnt : Nat := 0
  skipCnt : Nat := 0
  /-- The happenings of R452 so far that leave no state of their own for a scan to compare, oldest first (R453). -/
  happened : List Happening := []
  maxStep : Nat := 0
  /-- The latest invocation ended by overrun (R369). -/
  overrun : Bool := false
  /-- The crossing MTS, low word first, whose CROSSING invocation is the latest to have halted without overrun (R317, R369). -/
  crossDone : List Word := []
  /-- The installs that wait for the engine to be idle, oldest first (R375). -/
  commitBy : List CommitWait := []
deriving DecidableEq, Repr

/-- One clock-domain crossing (R349 to R352). -/
structure Crossing where
  holding : BitVec 128 := 0
  inFlight : Bool := false
  pending : Option (BitVec 128) := none
  received : BitVec 128 := 0
  /-- Pulses in the count being transferred, and in the next count (R351). -/
  sent : Nat := 0
  next : Nat := 0
  /-- Pulses the receiver has counted. -/
  recvCnt : Nat := 0
  /-- The phase predictor is valid: the crossing uses its main path (R352). -/
  predictor : Bool := false
deriving DecidableEq, Repr

end Sys2Proof.Machine
end

