-- ==== Sys2Proof/Machine/State.lean ====
section
/-! DEFINITION. The state of the block, its reset value, and the reasons a step can stop. -/

namespace Sys2Proof.Machine
open Sys2Proof

/-- Values fused at manufacture (R105, R271, R343): no reset changes them. -/
structure Fused where
  /-- Path offset of a TDC channel, by global channel, in 2^-20 MCLK (R105). -/
  pathOffset : Tbl Int := []
  /-- Driver delay of an output, by global output, in 2^-16 ns (R271). -/
  driverDelay : Tbl Int := []
  /-- ASYM of a link pair, by child die * 4 + port, in 2^-12 ns (R343). -/
  asym : Tbl Int := []
  /-- PART_ID reported by GET_CAPS. -/
  partId : Nat := 0
deriving DecidableEq, Repr

/-- The state of the block. -/
structure State where
  part : Part
  fused : Fused
  tb : Timebase
  dies : Tbl Die
  inputs : Tbl InputUnit
  chans : Tbl TdcChan
  dplls : Tbl DpllUnit
  oscs : Tbl OscPort
  models : Tbl PortModel
  cairn : Cairn
  oplls : Tbl OpllUnit
  outs : Tbl OutUnit
  tds : Tbl TdUnit
  evs : Tbl EvUnit
  stitches : Tbl Stitch
  crossings : Tbl Crossing
  /-- CP, store, plan, parity and sleep state of each die. -/
  xs : Tbl DieX
  host : HostSide
  belay : Belay
  /-- Commands that wait, first in first out. -/
  pending : List Instr
  /-- Draw number of the next free value (the model's own). -/
  fresh : Nat
deriving DecidableEq, Repr

/-- The reasons a step faults. No command of this block ends in a fault: the inductive has one constructor, which no
meaning raises. -/
inductive Fault
  /-- Raised by no command; kept so that the type has a member. Safe. -/
  | none
deriving DecidableEq, Repr

/-- The reasons a step is refused. -/
inductive Refusal
  /-- A command whose meaning is not modelled yet, by mnemonic; raised by exec's arms only. Safe. -/
  | notModelled (mnemonic : String)
deriving DecidableEq, Repr

/-- The block right after a power-on reset. DESIGN CHOICE, unsafe: log entry 3. DESIGN CHOICE, unsafe: log entry 5. -/
def State.reset : State where
  part := {}
  fused := {}
  tb := {}
  dies := [(0, { up := true })]
  inputs := []
  chans := []
  dplls := []
  oscs := []
  models := []
  cairn := {}
  oplls := []
  outs := []
  tds := []
  evs := []
  stitches := []
  crossings := []
  xs := []
  host := {}
  belay := {}
  pending := []
  fresh := 0

end Sys2Proof.Machine
end

