-- ==== Sys2Proof/Machine/Ops.lean ====
section
/-! DEFINITION. The named operations over the state: unit accessors, absence, the timebase instants, and the shape of a
command's reply. -/

namespace Sys2Proof.Machine
open Sys2Proof

/-! ## Units by global index -/

def State.input (s : State) (n : Nat) : InputUnit := tget {} s.inputs n
def State.setInput (s : State) (n : Nat) (u : InputUnit) : State := { s with inputs := tset {} s.inputs n u }
def State.modInput (s : State) (n : Nat) (f : InputUnit → InputUnit) : State := s.setInput n (f (s.input n))

def State.chan (s : State) (n : Nat) : TdcChan := tget {} s.chans n
def State.setChan (s : State) (n : Nat) (u : TdcChan) : State := { s with chans := tset {} s.chans n u }
def State.modChan (s : State) (n : Nat) (f : TdcChan → TdcChan) : State := s.setChan n (f (s.chan n))

def State.dpll (s : State) (n : Nat) : DpllUnit := tget {} s.dplls n
def State.setDpll (s : State) (n : Nat) (u : DpllUnit) : State := { s with dplls := tset {} s.dplls n u }
def State.modDpll (s : State) (n : Nat) (f : DpllUnit → DpllUnit) : State := s.setDpll n (f (s.dpll n))

def State.osc (s : State) (n : Nat) : OscPort := tget {} s.oscs n
def State.setOsc (s : State) (n : Nat) (u : OscPort) : State := { s with oscs := tset {} s.oscs n u }
def State.modOsc (s : State) (n : Nat) (f : OscPort → OscPort) : State := s.setOsc n (f (s.osc n))

def State.model (s : State) (n : Nat) : PortModel := tget {} s.models n
def State.setModel (s : State) (n : Nat) (u : PortModel) : State := { s with models := tset {} s.models n u }
def State.modModel (s : State) (n : Nat) (f : PortModel → PortModel) : State := s.setModel n (f (s.model n))

def State.opll (s : State) (n : Nat) : OpllUnit := tget {} s.oplls n
def State.setOpll (s : State) (n : Nat) (u : OpllUnit) : State := { s with oplls := tset {} s.oplls n u }
def State.modOpll (s : State) (n : Nat) (f : OpllUnit → OpllUnit) : State := s.setOpll n (f (s.opll n))

def State.out (s : State) (n : Nat) : OutUnit := tget {} s.outs n
def State.setOut (s : State) (n : Nat) (u : OutUnit) : State := { s with outs := tset {} s.outs n u }
def State.modOut (s : State) (n : Nat) (f : OutUnit → OutUnit) : State := s.setOut n (f (s.out n))

def State.td (s : State) (n : Nat) : TdUnit := tget {} s.tds n
def State.setTd (s : State) (n : Nat) (u : TdUnit) : State := { s with tds := tset {} s.tds n u }
def State.modTd (s : State) (n : Nat) (f : TdUnit → TdUnit) : State := s.setTd n (f (s.td n))
def State.modBelay (s : State) (f : Belay → Belay) : State := { s with belay := f s.belay }

def State.ev (s : State) (n : Nat) : EvUnit := tget {} s.evs n
def State.setEv (s : State) (n : Nat) (u : EvUnit) : State := { s with evs := tset {} s.evs n u }
def State.modEv (s : State) (n : Nat) (f : EvUnit → EvUnit) : State := s.setEv n (f (s.ev n))

def State.stitch (s : State) (n : Nat) : Stitch := tget {} s.stitches n
def State.setStitch (s : State) (n : Nat) (u : Stitch) : State := { s with stitches := tset {} s.stitches n u }
def State.modStitch (s : State) (n : Nat) (f : Stitch → Stitch) : State := s.setStitch n (f (s.stitch n))

def State.crossing (s : State) (n : Nat) : Crossing := tget {} s.crossings n
def State.setCrossing (s : State) (n : Nat) (u : Crossing) : State := { s with crossings := tset {} s.crossings n u }

/-- Die `d`; a die that is not fitted reads as one in reset. -/
def State.die (s : State) (d : Nat) : Die := tget {} s.dies d
def State.setDie (s : State) (d : Nat) (u : Die) : State := { s with dies := tput s.dies d u }
def State.modDie (s : State) (d : Nat) (f : Die → Die) : State := s.setDie d (f (s.die d))

/-- Port `l` of die `d`. -/
def State.link (s : State) (d l : Nat) : LinkPort := (s.die d).links.getD l {}
def State.modLink (s : State) (d l : Nat) (f : LinkPort → LinkPort) : State :=
  s.modDie d fun u => { u with links := u.links.set l (f (u.links.getD l {})) }

/-! ## Accessors of the host side -/

def State.dx (s : State) (d : Nat) : DieX := tget {} s.xs d
def State.modDx (s : State) (d : Nat) (f : DieX → DieX) : State := { s with xs := tput s.xs d (f (s.dx d)) }
def State.modHost (s : State) (f : HostSide → HostSide) : State := { s with host := f s.host }
def State.mbx (s : State) (c : Nat) : Mbx := tget {} s.host.mbx c
def State.setMbx (s : State) (c : Nat) (m : Mbx) : State := { s with host := { s.host with mbx := tset {} s.host.mbx c m } }
def State.modMbx (s : State) (c : Nat) (f : Mbx → Mbx) : State := s.setMbx c (f (s.mbx c))
def State.modNv (s : State) (d : Nat) (f : NvDie → NvDie) : State := s.modDx d fun x => { x with nv := f x.nv }
def State.ring (s : State) (r : Nat) : Ring := tget {} s.host.rings r
def State.modRing (s : State) (r : Nat) (f : Ring → Ring) : State :=
  { s with host := { s.host with rings := tset {} s.host.rings r (f (s.ring r)) } }
def State.modBoot (s : State) (f : Boot → Boot) : State := { s with host := { s.host with boot := f s.host.boot } }
def State.modAbort (s : State) (f : Abort → Abort) : State := { s with host := { s.host with abort := f s.host.abort } }

/-- Applies `f` to each of a list of numbers in turn. -/
def State.forEach (s : State) (ns : List Nat) (f : State → Nat → State) : State := ns.foldl f s

/-! ## What is present (R1, R11 to R16) -/

/-- The number of dies fitted (R1, R8). -/
def State.nDies (s : State) : Nat := 2 ^ s.part.diesLog2

/-- Die `d` is fitted. -/
def State.fitted (s : State) (d : Nat) : Bool := decide (d < s.nDies)

/-- Die `d` is fitted and its DIE_UP bit reads 1 (R9, R10). -/
def State.dieUp (s : State) (d : Nat) : Bool := s.fitted d && (s.die d).up

/-- The die that holds input `n`, physical or virtual (R15, R16). -/
def dieOfInput (n : Nat) : Nat := if n < 192 then n / 24 else (n - 192) / 16

/-- Input `n` is present (R16). -/
def State.hasInput (s : State) (n : Nat) : Bool := decide (n < 320) && s.fitted (dieOfInput n)

def dieOfDpll (n : Nat) : Nat := n / 8
def dieOfOpll (n : Nat) : Nat := n / 4
def dieOfOut (n : Nat) : Nat := n / 16
def dieOfTd (n : Nat) : Nat := n / 16
def dieOfOsc (n : Nat) : Nat := n / 2
def dieOfChan (n : Nat) : Nat := n / 48
def dieOfStitch (n : Nat) : Nat := n / 28

def State.hasDpll (s : State) (n : Nat) : Bool := s.fitted (dieOfDpll n)
def State.hasOpll (s : State) (n : Nat) : Bool := s.fitted (dieOfOpll n)
def State.hasOut (s : State) (n : Nat) : Bool := s.fitted (dieOfOut n)
def State.hasTd (s : State) (n : Nat) : Bool := s.fitted (dieOfTd n)
def State.hasOsc (s : State) (n : Nat) : Bool := s.fitted (dieOfOsc n)

/-- TDC channel `n` is present: event channels need the feature letter E (R3, R99). -/
def State.hasChan (s : State) (n : Nat) : Bool := s.fitted (dieOfChan n) && (decide (n % 48 < 32) || s.part.featE)

/-- Event channel `n` is present (R3). -/
def State.hasEv (s : State) (n : Nat) : Bool := s.fitted (n / 16) && s.part.featE

def State.hasStitch (s : State) (n : Nat) : Bool := s.fitted (dieOfStitch n)

/-- The TDC channel of physical input `n`, of DPLL `n`'s feedback TDC, and of event pin `n` (R99, R141). -/
def chanOfInput (n : Nat) : Nat := 48 * (n / 24) + n % 24
def chanOfFb (n : Nat) : Nat := 48 * (n / 8) + 24 + n % 8
def chanOfEv (n : Nat) : Nat := 48 * (n / 16) + 32 + n % 16

/-- All indices of a kind of unit that has `per` of them per die. -/
def State.all (s : State) (per : Nat) : List Nat := List.range (per * s.nDies)

/-- All present inputs. -/
def State.allInputs (s : State) : List Nat := s.all 24 ++ (s.all 16).map (· + 192)

/-! ## Instants -/

/-- 31.25 us in 2^-12 ns: the spacing of update boundaries in MTS (R121). -/
def mtsPerWindow : Nat := 128000000

/-- The MTS of update boundary `k` (R121). DEDUCED, unsafe: log entry 31. -/
def mtsOf (k : Nat) : Nat := (k * mtsPerWindow) % 2 ^ 64

/-- The MTS of the latest boundary. DESIGN CHOICE, safe: log entry 14. DEDUCED, unsafe: log entry 31. -/
def State.mts (s : State) : Nat := mtsOf s.tb.k

/-- EDGE_T wraps at 2^68 of 2^-16 ns (R124). -/
def edgeMod : Nat := 2 ^ 68

/-- Boundary `k` in EDGE_T units. -/
def edgeOf (k : Nat) : Nat := (k * mtsPerWindow * 16) % edgeMod

/-- Extended time wraps at 5 * 2^70 (R104). -/
def extMod : Nat := 5 * 2 ^ 70

/-- Boundary `k` in extended-time units of 2^-20 MCLK. -/
def extOf (k : Nat) : Nat := (k * mtsPerWindow * 320) % extMod

/-- The MCLK cycles counted up to boundary `k` (R103, R121). -/
def mclkOf (k : Nat) : Nat := (k * mtsPerWindow * 320 / 2 ^ 20) % (5 * 2 ^ 50)

/-- The coarse counter of a die counts on to boundary `k`, once it has started or has been loaded (R103). -/
def Die.count (u : Die) (k : Nat) : Die := if u.mclkOk && u.tbLock then { u with mclk := mclkOf k } else u

/-- Update windows in a second, in a millisecond and in 16 seconds. -/
def winPerSec : Nat := 32000
def winPerMs : Nat := 32

/-- The timebase runs: TB_EN is 1 and the coarse counters count (R103, R585). -/
def State.running (s : State) : Bool := s.tb.tbEn && (s.die 0).tbLock

/-- TB_STAT.SKEW_VALID: valid for every fitted die (R39). -/
def State.skewAllValid (s : State) : Bool := (List.range s.nDies).all fun d => (s.die d).skewValid

/-! ## Which DPLL holds which unit (R28, R141, R285) -/

/-- DPLL `k` is configured and holds OPLL `o` in its set. -/
def State.holds (s : State) (k o : Nat) : Bool :=
  decide ((s.dpll k).cfg.role ≠ 0) && decide (dieOfDpll k = dieOfOpll o) && (s.dpll k).cfg.opllMask.testBit (o % 4)

/-- The DPLL that has OPLL `o` in its set, if any (R28). -/
def State.holderOf (s : State) (o : Nat) : Option Nat :=
  ((List.range 8).map (· + 8 * dieOfOpll o)).find? fun k => s.holds k o

/-- The enabled DPLL that steers OPLL `o`, if any (STEERED_BY). DEDUCED, unsafe: log entry 52. -/
def State.steererOf (s : State) (o : Nat) : Option Nat :=
  match s.holderOf o with
  | some k => if (s.dpll k).enable then some k else none
  | none => none

/-- A DPLL with an empty OPLL set is numeric (R29). -/
def DpllUnit.numeric (u : DpllUnit) : Bool := decide (u.cfg.opllMask = 0)

/-- The feedback OPLL of DPLL `k`. -/
def State.fbOpllOf (s : State) (k : Nat) : Nat := 4 * dieOfDpll k + (s.dpll k).cfg.fbOpll

/-- The global oscillator port an OPLL takes its reference from (R254). -/
def State.portOfOpll (s : State) (o : Nat) : Nat := 2 * dieOfOpll o + (s.opll o).refPort

/-- The package master oscillator's port (R32). -/
def State.masterPort (s : State) : Nat := if s.tb.master then 1 else 0

/-- Port j of R232: the one that clocks the DPLL's output. -/
def State.portOfDpll (s : State) (k : Nat) : Nat :=
  if (s.dpll k).numeric then s.masterPort else s.portOfOpll (s.fbOpllOf k)

/-- DPLL `k` has input `n` selected. -/
def State.selects (s : State) (k n : Nat) : Bool := decide ((s.dpll k).selInput = n)

/-- Some DPLL has input `n` selected (R87). -/
def State.selected (s : State) (n : Nat) : Bool := (s.all 8).any fun k => s.selects k n

/-- IN_STAT.STATE of input `n` (R94). -/
def State.inState (s : State) (n : Nat) : Nat :=
  match (s.input n).state with
  | .disqualified => 0
  | .qualifying => 1
  | .qualified => if s.selected n then 3 else 2

/-- The key of an observed value of the event scan: class, subtype and unit (R453). -/
def obsKey (cls sub unit : Nat) : Nat := (cls * 16 + sub) * 4096 + unit % 4096

/-! ## Free values -/

/-- Draws the next free value. DESIGN CHOICE, safe: log entry 6. -/
def State.draw (s : State) : BitVec 64 × State := (Config.freeWord s.fresh, { s with fresh := s.fresh + 1 })

/-! ## Replies of commands -/

/-- What a Unest command answers: its return code, its response bytes and the state it leaves. `wait` asks for the
acknowledge to be held until a later event gives it. -/
structure Reply where
  ret : Nat
  bytes : List Byte := []
  s : State
  wait : Bool := false

/-- The ordinary end of a meaning: the next state. -/
def done (s : State) : Host.Outcome State Fault Refusal := .next s

end Sys2Proof.Machine
end

