-- ==== Sys2Proof/Machine/Operands.lean ====
section
/-! DEFINITION. Operand forms of the commands: return codes and their order (R437), payload checks, and the numeric
formats of R22. -/

namespace Sys2Proof.Machine
open Sys2Proof

/-! ## Return codes (R437) -/

def retOK : Nat := 0x0000
def retFrame : Nat := 0x0001
def retBadOpcode : Nat := 0x0002
def retUnsupported : Nat := 0x0003
def retSession : Nat := 0x0004
def retSeq : Nat := 0x0005
def retAbsent : Nat := 0x0006
def retDenied : Nat := 0x0007
def retNotReady : Nat := 0x0008
def retBadParam : Nat := 0x0009
def retBusy : Nat := 0x000A
def retAuth : Nat := 0x000B
def retImage : Nat := 0x000C
def retCollision : Nat := 0x000D
def retNv : Nat := 0x000E

/-- The first code whose condition holds. DEDUCED, unsafe: log entry 15. -/
def firstErr : List (Bool × Nat) → Option Nat
  | [] => none
  | (b, r) :: t => if b then some r else firstErr t

/-- A command's body: the first failing check gives the code and changes nothing (R437); otherwise `ok`.
DEDUCED, unsafe: log entry 15. -/
def guarded (s : State) (checks : List (Bool × Nat)) (ok : Reply) : Reply :=
  match firstErr checks with
  | some r => { ret := r, s := s }
  | none => ok

/-- An accepted command without response bytes. -/
def okReply (s : State) : Reply := { ret := retOK, s := s }

/-- An accepted command with response bytes. -/
def okWith (bytes : List Byte) (s : State) : Reply := { ret := retOK, bytes := bytes, s := s }

/-- Every byte of `[off, off + n)` of a payload is 0. -/
def rsv (p : List Byte) (off n : Nat) : Bool := decide (uAt p off n = 0)

/-- A mailbox channel that is not one of the secure channels 0 to 3 (R440). -/
def notSec (c : Nat) : Bool := decide (4 ≤ c)

/-! ## Formats (R22) -/

/-- 2^-16 ns in a second. -/
def edgePerSec : Nat := 65536 * 1000000000

/-- 2^-20 MCLK in a second. -/
def extPerSec : Nat := 1250000000 * 1048576

/-- Word units of 2^-10 ppt in the fraction 1. -/
def wordOne : Rat := 1024 * 1000000000000

/-- A fraction as a frequency word of 2^-10 ppt, rounded. -/
def fracWord (q : Rat) : Int := ratRound (q * wordOne)

/-- ppt as word units. -/
def pptWord (n : Nat) : Rat := 1024 * (n : Rat)

/-- A frequency offset in its 40-bit format. -/
def fmtFreq (x : Rat) : Int := fmtS 40 (ratRound x)

/-- A phase offset in its 64-bit format. -/
def fmtPhase (x : Rat) : Int := fmtS 64 (ratRound x)

/-- 0x1FF as a 16-bit none (R179, R213). -/
def none16 (n : Nat) : Nat := if n = 0x1FF then 0xFFFF else n

/-- FROM and TO of a SELECT happening, as its DATA (R452). -/
def fromTo (a b : Nat) : Nat := none16 a + 65536 * none16 b

end Sys2Proof.Machine
end

