-- ==== Sys2Proof/Machine/Flags.lean ====
section
/-! DEFINITION. Flag computations: sticky bits with their saturating counters, and the flags of the stitch engines. -/

namespace Sys2Proof.Machine
open Sys2Proof

/-- Sets the SAT bit of a sticky register when a counter has saturated (R23). -/
def satFlag (h : Word) (i cnt : Nat) : Word := setbIf h i (decide (0xFFFFFFFF ≤ cnt))

/-- The result and the flags Z, N, C, V of a stitch addition (R361). -/
structure AluOut where
  res : Word
  z : Bool
  n : Bool
  c : Bool
  v : Bool
deriving DecidableEq, Repr

/-- ADD: Z, N, carry out and signed overflow of `a + b` (R361). -/
def aluAdd (a b : Word) : AluOut :=
  let r := a + b
  { res := r, z := decide (r = 0), n := r.msb, c := decide (2 ^ 32 ≤ a.toNat + b.toNat),
    v := decide (a.msb = b.msb) && decide (r.msb ≠ a.msb) }

/-- CMP: the flags of `a - b`; C is no borrow (R361). -/
def aluCmp (a b : Word) : AluOut :=
  let r := a - b
  { res := r, z := decide (r = 0), n := r.msb, c := decide (b.toNat ≤ a.toNat),
    v := decide (a.msb ≠ b.msb) && decide (r.msb ≠ a.msb) }

/-- COND of BRANCH (R361); code 7 is not used. -/
def condHolds (z n c v : Bool) : Nat → Bool
  | 0 => true
  | 1 => z
  | 2 => !z
  | 3 => n != v
  | 4 => n == v
  | 5 => !c
  | 6 => c
  | _ => false

end Sys2Proof.Machine
end

