-- ==== Sys2Proof/Machine/Inputs.lean ====
section
/-! DEFINITION. Reference inputs: declaration, monitors, qualification and the input commands (chapter 02). -/

namespace Sys2Proof.Machine
open Sys2Proof

/-! ## Declaration (R64 to R73) -/

/-- The pre-divider's ratio (R66). -/
def InDecl.ratio (d : InDecl) : Nat := 2 ^ d.prediv

/-- The divided nominal frequency in Hz; 1 Hz on a virtual input (R67, R69, R91). -/
def InDecl.freq (d : InDecl) : Rat := if d.type = 6 then 1 else (d.num : Rat) / ((d.den * d.ratio : Nat) : Rat)

/-- The divided nominal period in 2^-16 ns. -/
def InDecl.period (d : InDecl) : Rat := if d.type = 6 then (edgePerSec : Rat) else
  ((edgePerSec * d.den * d.ratio : Nat) : Rat) / (d.num : Rat)

/-- The frequency range of an electrical mode in units of 0.5 Hz (R64). -/
def modeRange : Nat → Nat × Nat
  | 1 => (1, 3200000000)
  | 2 => (1, 800000000)
  | 3 => (2000000, 3200000000)
  | 4 => (1, 500000000)
  | _ => (0, 0)

/-- The quotient lies in the range of the mode, and divided by the pre-divider obeys 390 MHz (R64, R66, R69). -/
def quotientOk (mode num den ratio : Nat) : Bool :=
  decide (mode = 0) ||
    (decide ((modeRange mode).1 * den ≤ 2 * num) && decide (2 * num ≤ (modeRange mode).2 * den) &&
      decide (num ≤ 390000000 * ratio * den))

/-- The gate lengths of the FREQ_GATE codes in ms (R76). -/
def gateMs : Nat → Nat
  | 0 => 1 | 1 => 10 | 2 => 100 | 3 => 1000 | 4 => 10000 | _ => 16000

/-- A gate lasts at least four divided nominal periods (R76). -/
def gateOk (d : InDecl) (code : Nat) : Bool := decide (4 * 1000 * d.den * d.ratio ≤ gateMs code * d.num)

/-- The default gate, lengthened under R76 on a physical input. DESIGN CHOICE, unsafe: log entry 54. -/
def gateFor (d : InDecl) (code : Nat) : Nat :=
  if d.type = 6 then code
  else ((List.range 6).filter fun g => decide (code ≤ g) && gateOk d g).headD 5

/-- The monitor defaults of a type (R83). FREQ in 0.01 ppm, PJ in 2^-4 ns. -/
def monDefaults (d : InDecl) : MonSet :=
  match d.type with
  | 1 => { disqMask := 7, losN := 8, freqSet := 1200, freqClr := 1000, freqGate := gateFor d 2, driftWin := 64,
           driftSet := 200, driftClr := 100, glitchTol := 32, glitchN := 4, glitchWin := 10, wtr := 300, pjThresh := 1600 }
  | 2 => { disqMask := 7, losN := 8, freqSet := 1200, freqClr := 1000, freqGate := gateFor d 2, driftWin := 64,
           driftSet := 200, driftClr := 100, glitchTol := 32, glitchN := 4, glitchWin := 10, wtr := 300, pjThresh := 1600 }
  | 3 => { disqMask := 15, losN := 3, freqSet := 100, freqClr := 80, freqGate := gateFor d 5, driftWin := 1024,
           driftSet := 20, driftClr := 10, glitchTol := 1, glitchN := 1, glitchWin := 4000, wtr := 60, pjThresh := 800 }
  | 4 => { disqMask := 3, losN := 8, freqSet := 1200, freqClr := 1000, freqGate := gateFor d 3, driftWin := 256,
           driftSet := 1000, driftClr := 500, glitchTol := 64, glitchN := 8, glitchWin := 100, wtr := 300, pjThresh := 16000 }
  | 5 => { disqMask := 5, losN := 8, freqSet := 10000, freqClr := 8000, freqGate := gateFor d 1, driftWin := 64,
           driftSet := 0, driftClr := 0, glitchTol := 32, glitchN := 4, glitchWin := 10, wtr := 10, pjThresh := 0 }
  | _ => { disqMask := 3, losN := 0, freqSet := 1000, freqClr := 800, freqGate := 3, driftWin := 1024,
           driftSet := 50, driftClr := 25, glitchTol := 0, glitchN := 1, glitchWin := 1, wtr := 10, pjThresh := 1600,
           staleS := 16 }

/-! ## Causes and states (R86 to R89) -/

/-- The disqualifying causes present, lowest code first (R86). -/
def InputUnit.causes (u : InputUnit) : List Nat :=
  (if u.enable then [] else [1]) ++
  (if u.configured && !u.cfgBusy then [] else [2]) ++
  (if u.notValid then [3] else []) ++
  (if u.forceDisq then [4] else []) ++
  (if u.los then [5] else []) ++
  (if u.stale then [6] else []) ++
  (if u.freq && u.mon.disqMask.testBit 0 then [7] else []) ++
  (if u.glitch && u.mon.disqMask.testBit 2 then [8] else []) ++
  (if u.pj && u.mon.disqMask.testBit 3 then [9] else []) ++
  (if u.drift && u.mon.disqMask.testBit 1 then [10] else [])

/-- Leaves QUALIFYING or QUALIFIED for DISQUALIFIED with cause `c`: DISQ_H and one count; an input already
DISQUALIFIED counts nothing (R87). -/
def InputUnit.disqualify (u : InputUnit) (c : Nat) : InputUnit :=
  if u.state = .disqualified then { u with cause := c, wtrLeft := 0, wtrServed := 0, endWtr := false }
  else
    let n := satInc u.disqCnt
    { u with state := .disqualified, cause := c, wtrLeft := 0, wtrServed := 0, endWtr := false, disqCnt := n, disqSince := true,
             hist := satFlag (setb u.hist 8) 9 n }

/-- Evaluates disqualification: the lowest cause present disqualifies, or updates CAUSE (R86, R87). -/
def InputUnit.evalDisq (u : InputUnit) : InputUnit :=
  match u.causes with
  | [] => u
  | c :: _ => u.disqualify c

/-- Enters QUALIFIED: QUAL_H, and DRIFT arms when it has no reference (R77, R87). -/
def InputUnit.qualify (u : InputUnit) : InputUnit :=
  { u with state := .qualified, wtrLeft := 0, endWtr := false, hist := setb u.hist 10,
           dm := if u.dm.ref.isNone then { u.dm with arming := true, samples := [] } else u.dm }

/-- Discards the drift reference (R78); it arms again at once in QUALIFIED (R77). -/
def InputUnit.driftDiscard (u : InputUnit) : InputUnit :=
  { u with drift := false,
           dm := { u.dm with ref := none, samples := [], dev := 0, t0 := 0, opened := none,
                             arming := decide (u.state = .qualified) } }

/-- Live bits of the monitors read 0, and what they measured is dropped (R87). -/
def InputUnit.clearLive (u : InputUnit) : InputUnit :=
  { u with los := false, freq := false, drift := false, glitch := false, pj := false, stale := false, staleEnd := false, pjHeld := [], glitchAt := [],
           pjBase := none, pjFit := 0, gateOpen := none, edgeRun := 0, dm := { u.dm with opened := none } }

/-- FREQ becomes 1, with its sticky bit (R74, R75). -/
def InputUnit.freqOn (u : InputUnit) : InputUnit := { u with freq := true, gateOpen := none, hist := setb u.hist 3 }

/-- ENABLE written 0 (R87). -/
def InputUnit.turnOff (u : InputUnit) : InputUnit :=
  if u.enable then
    let v := { u.clearLive with enable := false, running := false }
    (v.disqualify 1)
  else u

/-- ENABLE written 1: monitors start once measurements are valid, and FREQ reads 1 until its first gate (R86, R87). -/
def InputUnit.turnOn (u : InputUnit) : InputUnit :=
  if u.enable then u
  else
    let v := { u.clearLive.freqOn with enable := true, running := false, notValid := true, invalidRun := 0, disqSince := false }
    v.evalDisq

/-- The counters of R96 are cleared; CAUSE then reads NONE when no disqualification has been counted since the enable (R86). -/
def InputUnit.clearCounts (u : InputUnit) : InputUnit :=
  let v := { u with glitchCnt := 0, pjCnt := 0, disqCnt := 0 }
  if u.enable && !u.disqSince then ({ v with cause := 0 } : InputUnit).evalDisq else v

/-- A write of IN_CTRL (R93): the fields of `w` on the unit. -/
def InputUnit.writeCtrl (u : InputUnit) (w : Word) : InputUnit :=
  let u := if bit w 0 then u.turnOn else u.turnOff
  { u with forceDisq := bit w 1, rank := fld w 8 8, prio := fld w 16 5 }

/-- IN_CTRL as it reads (R93). -/
def InputUnit.ctrl (u : InputUnit) : Word :=
  putb 0 u.enable ||| putb 1 u.forceDisq ||| put 8 8 u.rank ||| put 16 5 u.prio

/-- Wait-to-restore time in seconds, rounded up (R94). -/
def InputUnit.wtrSec (u : InputUnit) : Nat := (u.wtrLeft + 999) / 1000

/-! ## The monitors (R74 to R82, R91) -/

/-- The monitors start: the CONFIG cause ends, an input in MODE OFF has LOS present (R64, R86, R87). -/
def InputUnit.startMonitors (u : InputUnit) : InputUnit :=
  let los := decide (u.decl.mode = 0 ∧ u.decl.type ≠ 6)
  { u with running := true, cfgBusy := false, notValid := false, invalidRun := 0, los := u.los || los, hist := setbIf u.hist 2 los }

/-- A glitch event at decision tick `t` (R80). -/
def InputUnit.glitchEvent (u : InputUnit) (t : Nat) : InputUnit :=
  if u.running && !u.los then
    let n := satInc u.glitchCnt
    { u with glitchCnt := n, hist := satFlag u.hist 9 n, glitchAt := lastN 256 (u.glitchAt ++ [t]) }
  else u

/-- LOS sets, and with it LOS_H (R74, R95); the other monitors are suspended, their live bits held, and what they were measuring is dropped (R75).
DESIGN CHOICE, unsafe: log entry 54. -/
def InputUnit.losOn (u : InputUnit) : InputUnit :=
  if u.running then
    { u with los := true, hist := setb u.hist 2, gateOpen := none, pjFit := 0, edgeRun := 0, dm := { u.dm with opened := none } }
  else u

/-- Edges for as many consecutive periods as a clear of LOS takes: 16, or 2 below 1 kHz (R74). -/
def InputUnit.losNeed (u : InputUnit) : Nat := if u.decl.freq < 1000 then 2 else 16

/-- An active edge `dx` after the one before it, or the first, over a nominal period `p`, both in one unit (R74). -/
def InputUnit.edgePeriod (u : InputUnit) (dx : Option Rat) (p : Rat) : InputUnit :=
  match dx with
  | none => { u with edgeRun := 0 }
  | some x => { u with edgeRun := if 2 * x ≤ (u.mon.losN : Rat) * p then u.edgeRun + 1 else 0 }

/-- A measurement gap of 10 ms or less, so far: the input's state and live bits stay as they are (R88). -/
def InputUnit.inGap (u : InputUnit) (meas : Bool) : Bool := u.running && !meas && !u.notValid

/-- LOS clears, and FREQ reads 1 until a full gate completes (R75). -/
def InputUnit.losOff (u : InputUnit) : InputUnit :=
  if u.running && u.los && !(decide (u.decl.mode = 0) && decide (u.decl.type ≠ 6)) then
    ({ u with los := false } : InputUnit).freqOn
  else u

/-- The offset between two words in 2^-10 ppt: cycles times the nominal period over the elapsed time, less 1 (R76).
DEDUCED, unsafe: log entry 25. -/
def gateOffset (period : Rat) (a b : Nat × Nat) : Rat :=
  let dt : Rat := ((wrapDiff edgeMod b.1 a.1 : Int) : Rat)
  if dt = 0 then 0 else ((((b.2 : Int) - (a.2 : Int) : Int) : Rat) * period / dt - 1) * wordOne

/-- A FREQ gate opens at `b`, a time and a count of periods, at boundary `k` (R76). -/
def InputUnit.openGate (u : InputUnit) (b : Nat × Nat) (k : Nat) : InputUnit :=
  if u.running && !u.los && u.gateOpen.isNone then { u with gateOpen := some b, gateK := k } else u

/-- A FREQ gate that has lasted its length ends at `b` and boundary `k`, on periods `per`: FREQ sets above FREQ_SET and clears at
FREQ_CLR or below, whatever the format of IN_FOFS holds; the next gate opens there (R74, R76). FREQ_H sets at every gate end above FREQ_SET (R95).
DEDUCED, unsafe: log entry 25. DESIGN CHOICE, unsafe: log entry 54. -/
def InputUnit.gateEnd (u : InputUnit) (per : Rat) (b : Nat × Nat) (k : Nat) : InputUnit :=
  match u.gateOpen with
  | none => u
  | some a =>
    if u.running && !u.los && decide (a ≠ b) && decide (u.gateK + winPerMs * gateMs u.mon.freqGate ≤ k) then
      let q := gateOffset per a b
      let x := fmtFreq q
      let mag : Rat := ((ratRound q).natAbs : Rat)
      let set : Bool := decide (pptWord (10000 * u.mon.freqSet) < mag)
      let clr : Bool := decide (mag ≤ pptWord (10000 * u.mon.freqClr))
      { u with fofs := x, gateOpen := some b, gateK := k, freq := set || (u.freq && !clr), hist := setbIf u.hist 3 set }
    else u

/-- The phase-jump detector on a new word `b` with EDGES at least 1, of the window that closes at boundary `k` (R81, R82). While LOS is set
it is suspended and keeps its last accepted word (R75). DEDUCED, unsafe: log entry 25. DESIGN CHOICE, unsafe: log entry 54. -/
def InputUnit.pjWord (u : InputUnit) (b : Nat × Nat) (exempt : Bool) (k : Nat) : InputUnit :=
  if u.los || !u.running then u
  else
  let v := { u with pjBase := some b, pjK := k }
  match u.pjBase with
  | none => v
  | some a =>
    let gap : Int := wrapDiff edgeMod b.1 a.1
    let per : Rat := u.decl.period / (1 + (u.fofs : Rat) / wordOne)
    let dep : Int := gap - ratRound ((((b.2 : Int) - (a.2 : Int) : Int) : Rat) * per)
    if u.mon.pjThresh = 0 then { v with pj := false }
    else if exempt || decide ((16 * edgePerSec : Nat) < gap) || decide (u.pjK + 17 * winPerSec < k) then v
    else if (u.mon.pjThresh * 4096 : Nat) ≤ dep.natAbs then
      let n := satInc u.pjCnt
      { v with pj := true, pjFit := 0, pjSize := dep, pjMts := mtsOf k, pjCnt := n, hist := satFlag (setb u.hist 6) 9 n }
    else
      { v with pjFit := u.pjFit + 1, pj := u.pj && decide (u.pjFit + 1 < 16) }

/-- The phase-jump detector of a virtual input on a word with `edges` edges and the step `sz` it carries, in 2^-16 ns, at the
boundary `mts`: a step of PJ_THRESH or more is an event, and 16 further words that each carry a crossing clear PJ; it is
suspended while LOS is set (R75, R91). DEDUCED, unsafe: log entry 24. -/
def InputUnit.pjStep (u : InputUnit) (edges : Nat) (sz : Option Int) (mts : Nat) : InputUnit :=
  if u.los || !u.running then u
  else if u.mon.pjThresh = 0 then { u with pj := false }
  else if u.mon.pjThresh * 4096 ≤ (sz.getD 0).natAbs then
    let n := satInc u.pjCnt
    { u with pj := true, pjFit := 0, pjSize := fmtS 64 (sz.getD 0), pjMts := mts, pjCnt := n, hist := satFlag (setb u.hist 6) 9 n }
  else if u.pj && decide (edges = 1) then { u with pjFit := u.pjFit + 1, pj := decide (u.pjFit + 1 < 16) }
  else u

/-- The detector on a word that carries several steps: each is judged (R91, R297). -/
def InputUnit.pjSteps (u : InputUnit) (edges : Nat) (l : List Int) (mts : Nat) : InputUnit :=
  match l with
  | [] => u.pjStep edges none mts
  | x :: xs => xs.foldl (fun v y => v.pjStep 0 (some y) mts) (u.pjStep edges (some x) mts)

/-- The detector on the steps `l` of a domain: those of a measurement gap are judged when it has ended (R88, R91). -/
def InputUnit.pjDomain (u : InputUnit) (gap : Bool) (edges : Nat) (l : List Int) (mts : Nat) : InputUnit :=
  if gap then { u with pjHeld := u.pjHeld ++ l } else { (u.pjSteps edges (u.pjHeld ++ l) mts) with pjHeld := [] }

/-- The mean of a list of rationals. -/
def meanQ (l : List Rat) : Rat := if l.isEmpty then 0 else sumQ l / (l.length : Rat)

/-- One DRIFT evaluation on a sample (2^-10 ppt) that began at boundary `k` (R77 to R79). DRIFT_T0 is the start of the first sample of the
window that crossed, whatever gap fell into it. DRIFT_DEV is the deviation of the latest comparison, against
the reference as it was before this second's update (R97); DRIFT_H sets at every evaluation that finds DRIFT at 1 (R95).
DEDUCED, unsafe: log entry 25. DESIGN CHOICE, unsafe: log entry 54. -/
def InputUnit.driftSample (u : InputUnit) (x : Rat) (fb : Bool) (k : Nat) : InputUnit :=
  let dm := { u.dm with basisFb := fb, samples := lastN u.mon.driftWin (u.dm.samples ++ [(k, x)]) }
  let full := decide (dm.samples.length = u.mon.driftWin)
  let mean := meanQ (dm.samples.map (·.2))
  match dm.ref with
  | none =>
    if dm.arming && full then { u with dm := { dm with ref := some mean, arming := false, dev := 0 } } else { u with dm := dm }
  | some r =>
    if !full then { u with dm := dm }
    else
      let dev := mean - r
      let sets := decide (u.mon.driftSet ≠ 0) && decide (pptWord u.mon.driftSet ≤ ratAbs dev)
      let inside := decide (ratAbs dev ≤ pptWord u.mon.driftClr)
      let drift := decide (u.mon.driftSet ≠ 0) && (if u.drift then !inside else sets)
      let r' := if !drift && decide (u.state = .qualified) then r + (x - r) / ((2 ^ u.mon.driftTau : Nat) : Rat) else r
      { u with drift := drift, hist := setbIf u.hist 4 drift,
               dm := { dm with dev := dev, ref := some r',
                               t0 := if drift && !u.drift then mtsOf (dm.samples.headD (k, 0)).1 else dm.t0 } }

/-- GLITCH at decision tick `t`: events of the preceding GLITCH_WIN ms (R74). GLITCH_H sets at every tick whose events reach GLITCH_N (R95).
DESIGN CHOICE, unsafe: log entry 54. -/
def InputUnit.glitchTick (u : InputUnit) (t : Nat) : InputUnit :=
  if u.los || !u.running then u
  else
    let live := u.glitchAt.filter fun x => decide (t ≤ x + u.mon.glitchWin)
    let set := decide (u.mon.glitchTol ≠ 0) && decide (u.mon.glitchN ≤ live.length) && decide (0 < live.length)
    let g := set || (u.glitch && !live.isEmpty && decide (u.mon.glitchTol ≠ 0))
    { u with glitchAt := live, glitch := g, hist := setbIf u.hist 5 set }

/-- New monitor settings take effect; a monitor's live bit waits for its next evaluation (R78, R85).
DESIGN CHOICE, unsafe: log entry 54. -/
def InputUnit.applyMon (u : InputUnit) : InputUnit :=
  match u.monPend with
  | none => u
  | some m =>
    let disc := decide (m.driftWin ≠ u.mon.driftWin ∨ m.driftTau ≠ u.mon.driftTau ∨ m.driftBasis ≠ u.mon.driftBasis)
    let wtr := if u.state = .qualifying ∧ m.wtr ≠ u.mon.wtr then m.wtr * 1000 - u.wtrServed else u.wtrLeft
    let v := { u with mon := m, monPend := none, wtrLeft := wtr,
                      gateOpen := if m.freqGate = u.mon.freqGate then u.gateOpen else none }
    if disc then v.driftDiscard else v

/-- One decision tick of an input at tick number `t`; `meas` says that its measurements are valid (R74, R85, R87 to R89). -/
def InputUnit.tick (u : InputUnit) (t : Nat) (meas : Bool) : InputUnit :=
  let u := u.applyMon
  let gap := u.inGap meas
  let u := if gap then u else u.glitchTick t
  let u := { u with rankEff := u.rank, prioEff := u.prio }
  let u := u.evalDisq
  if gap then u
  else match u.state with
  | .disqualified =>
    if u.causes.isEmpty then { u with state := .qualifying, wtrLeft := u.mon.wtr * 1000, wtrServed := 0, endWtr := false }
    else u
  | .qualifying =>
    if u.endWtr || decide (u.wtrLeft = 0) || (meas && decide (u.wtrLeft = 1)) then u.qualify
    else if meas then { u with wtrLeft := u.wtrLeft - 1, wtrServed := u.wtrServed + 1 }
    else u
  | .qualified => u

/-! ## The commands of chapter 02 -/

/-- The declaration INPUT_CONFIG carries (R72). -/
def declOf (p : List Byte) : InDecl :=
  { mode := uAt p 2 1, type := uAt p 3 1, prediv := uAt p 4 1, term := (uAt p 5 1).testBit 0,
    falling := (uAt p 5 1).testBit 1, vth := uAt p 6 1, num := uAt p 8 8, den := uAt p 16 4, boardDelay := sAt p 24 8 }

/-- A declaration that R73 rejects. -/
def declBad (n : Nat) (p : List Byte) : Bool :=
  let d := declOf p
  let virt := decide (192 ≤ n)
  let fl := uAt p 5 1
  decide (d.type = 0) || decide (6 < d.type) || (decide (d.type = 6) != virt) || decide (4 < d.mode) ||
    (virt && (decide (d.mode ≠ 0) || decide (d.prediv ≠ 0) || decide (fl ≠ 0) || decide (d.vth ≠ 0) ||
      decide (d.num ≠ 0) || decide (d.den ≠ 0))) ||
    decide (3 < d.prediv) || decide (4 ≤ fl) ||
    (!virt && (decide (d.num = 0) || decide (2 ^ 40 ≤ d.num) || decide (d.den = 0) || decide (2 ^ 24 ≤ d.den) ||
      !quotientOk d.mode d.num d.den d.ratio)) ||
    (decide (d.type = 3) && decide (d.prediv ≠ 0)) ||
    (d.term && (decide (d.mode = 2) || decide (d.mode = 4))) ||
    decide (2 < d.vth) || (decide (d.vth ≠ 0) && decide (d.mode ≠ 4)) ||
    decide (65536000000 < d.boardDelay.natAbs) || !rsv p 7 1 || !rsv p 20 4

/-- The effect of an accepted INPUT_CONFIG on the input (R73, R87). IN_FOFS goes back to 0 here, and at no later enable (R76).
DESIGN CHOICE, unsafe: log entry 54. -/
def InputUnit.config (u : InputUnit) (d : InDecl) : InputUnit :=
  let step := u.configured && decide (d.boardDelay ≠ u.decl.boardDelay)
  let v := ({ u with configured := true, decl := d, mon := monDefaults d, monPend := none,
                     cfgBusy := true, stepMark := u.stepMark || step } : InputUnit)
  let v := v.driftDiscard
  let v := if v.enable then { v.clearLive.freqOn with running := false } else v
  let v := v.disqualify (if v.enable then 2 else 1)
  { v with dm := { v.dm with arming := false }, fofs := 0 }

/-- Checks common to the input commands: family range, absence, die (R10, R12, R438). -/
def inputChecks (s : State) (n : Nat) : List (Bool × Nat) :=
  [(decide (n < 320) && !s.hasInput n, retAbsent), (decide (n < 320) && !s.dieUp (dieOfInput n), retNotReady),
   (decide (320 ≤ n), retBadParam)]

def inputConfigReply (_c : Nat) (p : List Byte) (s : State) : Reply :=
  let n := uAt p 0 2
  guarded s (inputChecks s n ++ [(declBad n p, retBadParam)])
    (okReply (s.modInput n fun u => u.config (declOf p)))

/-- The settings INPUT_SET_MONITORS carries (R84). -/
def monOf (p : List Byte) : MonSet :=
  { disqMask := uAt p 2 1, losN := uAt p 3 1, freqSet := uAt p 4 2, freqClr := uAt p 6 2, freqGate := uAt p 8 1,
    driftBasis := uAt p 9 1, driftWin := uAt p 10 2, driftSet := uAt p 12 2, driftClr := uAt p 14 2,
    driftTau := uAt p 16 1, glitchTol := uAt p 17 1, glitchN := uAt p 18 1, glitchWin := uAt p 20 2, wtr := uAt p 22 2,
    pjThresh := uAt p 24 4, staleS := uAt p 28 4 }

/-- Settings that R85 rejects. -/
def monBad (n : Nat) (d : InDecl) (p : List Byte) : Bool :=
  let m := monOf p
  let virt := decide (192 ≤ n)
  decide (16 ≤ m.disqMask) || (if virt then decide (m.losN ≠ 0) else decide (m.losN < 2)) ||
    decide (m.freqSet = 0) || decide (m.freqSet ≤ m.freqClr) || decide (5 < m.freqGate) ||
    (!virt && !gateOk d m.freqGate) || decide (1 < m.driftBasis) || decide (m.driftWin < 4) || decide (4096 < m.driftWin) ||
    (decide (m.driftSet ≠ 0) && decide (m.driftSet ≤ m.driftClr)) || decide (m.driftTau < 10) || decide (20 < m.driftTau) ||
    decide (127 < m.glitchTol) || (virt && decide (m.glitchTol ≠ 0)) || decide (m.glitchN = 0) ||
    decide (m.glitchWin = 0) || decide (3600 < m.wtr) || decide (2 ^ 24 < m.pjThresh) ||
    (if virt then decide (86400 < m.staleS) else decide (m.staleS ≠ 0)) || !rsv p 19 1

def inputSetMonitorsReply (_c : Nat) (p : List Byte) (s : State) : Reply :=
  let n := uAt p 0 2
  guarded s ((inputChecks s n).take 2 ++
      [(decide (n < 320) && !(s.input n).configured, retNotReady), (decide (320 ≤ n), retBadParam),
       (monBad n (s.input n).decl p, retBadParam)])
    (okReply (s.modInput n fun u => { u with monPend := some (monOf p) }))

/-- SEL_DPLLS: the DPLLs that have the input selected (R97). -/
def State.selDplls (s : State) (n : Nat) : Nat :=
  ((s.all 8).filter fun k => s.selects k n).foldl (fun a k => a + 2 ^ k) 0

/-- IN_STAT.MEAS_VALID is computed by the measurement array; `meas` gives it here (R118, R125). -/
def State.inStat (s : State) (n : Nat) (meas : Bool) : Word :=
  let u := s.input n
  put 0 2 (s.inState n) ||| putb 2 u.los ||| putb 3 u.freq ||| putb 4 u.drift ||| putb 5 u.glitch ||| putb 6 u.pj |||
    putb 7 u.stale ||| putb 8 u.dm.ref.isSome ||| putb 9 u.dm.basisFb ||| putb 10 meas ||| putb 11 u.configured |||
    put 12 4 u.cause ||| put 16 12 u.wtrSec

/-- The INPUT_GET_STATUS response (R97). -/
def inputStatusBytes (s : State) (n : Nat) (meas : Bool) : List Byte :=
  let u := s.input n
  let st := (s.inStat n meas).toNat
  leBytes 2 n ++ leBytes 1 (s.inState n) ++ leBytes 1 u.cause ++ leBytes 4 (st % 2048) ++ leBytes 4 u.wtrLeft ++ zeros 4 ++
    leBytesI 8 u.fofs ++ leBytesI 8 (if u.dm.ref.isSome then ratRound u.dm.dev else 0) ++ leBytes 8 u.dm.t0 ++
    leBytesI 8 u.pjSize ++ leBytes 8 u.pjMts ++ leBytes 8 (s.selDplls n)

def inputClearReply (_c : Nat) (p : List Byte) (s : State) : Reply :=
  let n := uAt p 0 2
  let a := uAt p 2 1
  guarded s (inputChecks s n ++ [(decide (4 ≤ a) || decide (a = 0) || !rsv p 3 1, retBadParam)])
    (okReply (s.modInput n fun u =>
      let u := if a.testBit 0 && decide (u.state = .qualifying) then { u with endWtr := true } else u
      if a.testBit 1 then u.driftDiscard else u))

end Sys2Proof.Machine
end

