-- ==== Sys2Proof/Machine/Tdc.lean ====
section
/-! DEFINITION. The phase measurement array: timestamps, picot calibration, phase words, intervals (chapter 03). -/

namespace Sys2Proof.Machine
open Sys2Proof

/-! ## Tables and timestamps (R102 to R108) -/

/-- 2^20: the sum of a picot table (R107). -/
def tableSum : Nat := 1048576

/-- cum(code): the sum of the widths below `code` (R104). -/
def cumw (t : List Nat) (code : Nat) : Nat := sumN (t.take code)

/-- P of R104, half units dropped with the halves rounded away from zero in X. -/
def codeP (t : List Nat) (code : Nat) : Nat := cumw t code + t.getD code 0 / 2

/-- X of R104 before correction: (C + 1) * 2^20 - P. -/
def rawExt (t : List Nat) (coarse code : Nat) : Int := ((coarse + 1) * tableSum : Nat) - (codeP t code : Int)

/-- An extended time in MTS units (R104). -/
def extToMts (x : Nat) : Nat := wrapNat (2 ^ 64) (divRound x 320)

/-- An extended time in EDGE_T units (R104). -/
def extToEdge (x : Nat) : Nat := wrapNat edgeMod (divRound x 20)

/-- The table of a histogram of `hist` with `h` hits in total (R108), from cumulative hits `c`. -/
def tableFrom (h c : Nat) : List Nat → List Nat
  | [] => []
  | x :: xs =>
    (((c + x) * tableSum * 2 + h) / (2 * h) - (c * tableSum * 2 + h) / (2 * h)) :: tableFrom h (c + x) xs

/-- The picot table of a histogram (R108). -/
def tableOf (hist : List Nat) : List Nat :=
  let h := sumN hist
  if h = 0 then List.replicate hist.length 0 else tableFrom h 0 hist

/-- Codes of non-zero width (POP_CODES). -/
def popCodes (t : List Nat) : Nat := (t.filter fun w => decide (w ≠ 0)).length

/-- The 64 segment widths of a table: codes 18 s to 18 s + 17 (R111). -/
def segs (t : List Nat) : List Nat := (List.range 64).map fun s => sumN ((t.drop (18 * s)).take 18)

/-- Every segment of `a` lies within `1 / tol` of the same segment of `b` (R112, R113). -/
def segsAgree (tol : Nat) (a b : List Nat) : Bool :=
  (List.range 64).all fun s =>
    let x : Int := a.getD s 0
    let y : Int := b.getD s 0
    decide ((x - y).natAbs * tol ≤ b.getD s 0)

/-- Spreads a width `w` over codes in the proportions `h`, by the cumulative rounding of R108. -/
def spread (w : Nat) (h : List Nat) : List Nat :=
  let tot := sumN h
  if tot = 0 then h.map fun _ => 0
  else (List.range h.length).map fun i =>
    ((sumN (h.take (i + 1))) * w * 2 + tot) / (2 * tot) - ((sumN (h.take i)) * w * 2 + tot) / (2 * tot)

/-- The table of a fill whose seed agrees (R112): the seed's segment widths, spread by the fill's histogram, or by the
die profile where a populated segment took no hits. -/
def seededTable (seed hist profile : List Nat) : List Nat :=
  (List.range 64).flatMap fun s =>
    let h := (hist.drop (18 * s)).take 18
    let pr := (profile.drop (18 * s)).take 18
    spread (seed.getD s 0) (if sumN h = 0 then pr else h)

/-! ## Cores and channels -/

def TdcChan.core (u : TdcChan) (i : Nat) : Core := if i = 0 then u.c0 else u.c1
def TdcChan.setCore (u : TdcChan) (i : Nat) (c : Core) : TdcChan := if i = 0 then { u with c0 := c } else { u with c1 := c }

/-- Core `i` is retired (RET0, RET1). -/
def TdcChan.retired (u : TdcChan) (i : Nat) : Bool := decide ((u.core i).role = .retired)

/-- The states in which a channel measures (R118). -/
def CalSt.measures : CalSt → Bool
  | .fillOnly => true | .calibrated => true | .single => true | _ => false

/-- TDC_CH_STAT.VALID of channel `n` (R118). -/
def State.chanValid (s : State) (n : Nat) : Bool :=
  s.hasChan n && (s.chan n).cal.measures && !s.tb.restart && (s.die (dieOfChan n)).skewValid &&
    !(s.die (dieOfChan n)).reparent

/-- VALID of a numeric word of die `d` (R125). -/
def State.numericValid (s : State) (d : Nat) : Bool := s.tb.tbEn && !s.tb.restart && (s.die d).skewValid

/-- IN_STAT.MEAS_VALID of input `n` (R118, R125). -/
def State.measValid (s : State) (n : Nat) : Bool :=
  if n < 192 then s.chanValid (chanOfInput n) else s.numericValid (dieOfInput n)

/-- A core starts filling with a seed (R116). -/
def Core.startFill (c : Core) (seed : List Nat) : Core :=
  { c with role := .filling, rej := 0, accepted := false, alone := false, seed := seed }

/-- IDLE to FILL: every core that is not retired fills; its seed comes from the calibration RAM when a table stands there, else from
`nv`, the stored seed of each core (R116). -/
def TdcChan.startFill (u : TdcChan) (nv : Nat → List Nat) : TdcChan :=
  if u.cal = .idle then
    let f := fun i => if u.retired i then u.core i
      else (u.core i).startFill (if (u.core i).table.isEmpty then nv i else segs (u.core i).table)
    { u with cal := .fill, c0 := f 0, c1 := f 1 }
  else u

/-- A core of the channel fills. -/
def TdcChan.filling (u : TdcChan) : Bool :=
  decide (u.cal = .fill) || (u.cal.measures && (decide (u.c0.role = .filling) || decide (u.c1.role = .filling)))

/-- A calibrating core that starts a new cycle collects 2^HITS_LOG2 hits, `h` as it now stands (R113, R134). -/
def TdcChan.begun (u : TdcChan) (h : Nat) : TdcChan :=
  if u.cyc.isNone && (decide (u.c0.role = .calibrating) || decide (u.c1.role = .calibrating)) then { u with cyc := some h } else u

/-- HITS_LOG2 for a cycle that starts on die `d`: the register's, or the margin plan's lower limit (R134, R546). -/
def State.bgHits (s : State) (d : Nat) : Nat := min (s.die d).hitsLog2 (s.dx d).plan.hits

/-- A core's fill ends on histogram `hist`; true when it agreed with its seed (R112). -/
def Core.endFill (c : Core) (hist profile : List Nat) : Core × Bool × Bool :=
  let own := tableOf hist
  if c.seed.isEmpty then ({ c with table := own, hits := sumN hist }, false, false)
  else if segsAgree 25 (segs own) c.seed then
    ({ c with table := seededTable c.seed hist profile, hits := sumN hist }, true, false)
  else ({ c with table := own, hits := sumN hist }, false, true)

/-- A fill of the channel ends (R112, R116); the accumulated offset of R114 starts again at 0.
DESIGN CHOICE, unsafe: log entry 54. -/
def TdcChan.endFill (u : TdcChan) (h0 h1 profile : List Nat) : TdcChan :=
  match u.cal with
  | .fill =>
    if u.retired 0 || u.retired 1 then
      let i := if u.retired 0 then 1 else 0
      let r := (u.core i).endFill (if i = 0 then h0 else h1) profile
      let v := u.setCore i { r.1 with role := .active }
      { v with cal := .single, active := i, seedRej := r.2.2, calAge := 0, reached := true, delta := 0 }
    else
      let a := u.c0.endFill h0 profile
      let b := u.c1.endFill h1 profile
      let ok := a.2.1 && b.2.1
      { u with cal := if ok then .calibrated else .fillOnly, active := 0, seedRej := a.2.2 || b.2.2, calAge := 0, delta := 0, cyc := none,
               c0 := { a.1 with role := .active }, c1 := { b.1 with role := .calibrating }, reached := u.reached || ok }
  | .idle => u
  | _ =>
    let f := fun (i : Nat) (h : List Nat) (v : TdcChan) =>
      if decide ((v.core i).role = .filling) && (v.core i).alone then
        let r := (v.core i).endFill h profile
        { v.setCore i { r.1 with role := .calibrating, alone := false } with seedRej := r.2.2, cyc := none }
      else v
    f 1 h1 (f 0 h0 u)

/-- The third consecutive rejection retires a core (R113, R116, R117): the other core is active, at once or after the
overlap it is in. -/
def TdcChan.retire (u : TdcChan) (i : Nat) : TdcChan :=
  let j := 1 - i
  let v := u.setCore i { u.core i with role := .retired, rej := 0, alone := false }
  let v := v.setCore j { v.core j with role := .active }
  { v with cal := .single, active := j, reached := true }

/-- A background histogram of the calibrating core `i` completes (R113). DEDUCED, unsafe: log entry 27. -/
def TdcChan.histogram (u : TdcChan) (i : Nat) (h : List Nat) : TdcChan :=
  let c := u.core i
  let t := tableOf h
  if segsAgree 50 (segs t) (segs c.table) then
    let v : TdcChan := { u.setCore i { c with table := t, hits := sumN h, rej := 0, accepted := true, role := .overlapNext } with cyc := none }
    if u.cal = .fillOnly ∧ v.c0.accepted ∧ v.c1.accepted then { v with cal := .calibrated, reached := true } else v
  else
    let n := satInc u.calRejCnt
    let v : TdcChan := { u.setCore i { c with rej := c.rej + 1 } with calRejCnt := n, sat := u.sat || decide (0xFFFFFFFF ≤ n), cyc := none }
    if 3 ≤ c.rej + 1 then v.retire i else v

/-- The swap at the boundary that ends an overlap (R114): the overlapping core becomes active, its offset accumulates,
the other core starts calibrating. `pulses` sums the 256 pairing-pulse differences. DESIGN CHOICE, unsafe: log entry 54. -/
def TdcChan.swap (u : TdcChan) (pulses : Int) : TdcChan :=
  let i := 1 - u.active
  if (u.core i).role = .overlapEnd then
    let d := if 256 ≤ u.ovlCnt then divRound u.ovlSum u.ovlCnt else divRound pulses 256
    let n := satInc u.swapCnt
    let v := u.setCore i { u.core i with role := .active }
    let v := v.setCore u.active { v.core u.active with role := if u.retired u.active then .retired else .calibrating }
    { v with active := i, delta := u.delta + d, ovlSum := 0, ovlCnt := 0, swapCnt := n, calAge := 0, cyc := none,
             sat := u.sat || decide (0xFFFFFFFF ≤ n),
             cal := if u.cal = .single ∧ ¬ u.retired u.active then .calibrated else u.cal }
  else u

/-- The roles at a boundary: an accepted candidate enters its overlap, a closed overlap awaits its swap; a frozen die
abandons both (R114, R120). -/
def Core.boundary (c : Core) (frozen : Bool) : Core :=
  match c.role with
  | .overlapNext => { c with role := if frozen then .calibrating else .overlap }
  | .overlap => { c with role := if frozen then .calibrating else .overlapEnd }
  | .overlapEnd => { c with role := if frozen then .calibrating else .overlapEnd }
  | _ => c

/-- RESTART rises: histograms and overlaps are discarded, lone fills abandoned (R116). DEDUCED, unsafe: log entry 27. -/
def Core.onRestart (c : Core) : Core :=
  match c.role with
  | .overlapNext | .overlap | .overlapEnd => { c with role := .calibrating }
  | _ => c

/-- An overlap that has been given up leaves no sums behind (R114, R120, R130). -/
def TdcChan.dropOverlap (u : TdcChan) : TdcChan :=
  if u.c0.role = .overlap ∨ u.c0.role = .overlapEnd ∨ u.c1.role = .overlap ∨ u.c1.role = .overlapEnd then u
  else { u with ovlSum := 0, ovlCnt := 0 }

/-- TB_EN written 0: the channel goes to IDLE, tables kept, retirement kept (R116). DESIGN CHOICE, unsafe: log entry 54. -/
def TdcChan.toIdle (u : TdcChan) : TdcChan :=
  let f := fun (c : Core) => if c.role = .retired then c else { c with role := .idle, alone := false }
  { u with cal := .idle, c0 := f u.c0, c1 := f u.c1, win := [], ahead := [], word := { u.word with edgeT := 0, valid := false }, ref := none,
           last := none, unpaired := none, seen := false, ovlSum := 0, ovlCnt := 0, winValid := false, cyc := none }

/-- The unit the channel serves is enabled: its words start anew, EDGE_T and VALID at 0, and earlier edges of the open window have no part
in them (R123). -/
def TdcChan.newEnable (u : TdcChan) : TdcChan := { u with seen := false, word := {}, win := [], glitchMark := false, mergeMark := false }

/-! ## Edges (R104 to R106, R127 to R129) -/

/-- The correction a die and a channel apply to every extended time: offset of the core, path offset, skew (R36, R105,
R114). -/
def State.extCorr (s : State) (n : Nat) : Int :=
  (s.chan n).delta - tget 0 s.fused.pathOffset n - 320 * (s.die (dieOfChan n)).skew

/-- The corrected extended time of a capture on channel `n` by core `i`. -/
def State.extOfCapture (s : State) (n i coarse code : Nat) : Nat :=
  wrapNat extMod (rawExt ((s.chan n).core i).table coarse code + s.extCorr n)

/-- 2.5 ns in extended-time units, and the spacing test of R106. -/
def mergeGap : Nat := 3276800

/-- The channel takes an edge at `x`: dropped and counted when it is too close to the last accepted one (R106). The
result says whether it was accepted. DEDUCED, unsafe: log entry 25. -/
def TdcChan.takeEdge (u : TdcChan) (x : Nat) : TdcChan × Bool :=
  let close := match u.last with
    | none => false
    | some l => decide ((wrapDiff extMod x l).natAbs < mergeGap)
  if close then
    let n := satInc u.merged
    ({ u with merged := n, sat := u.sat || decide (0xFFFFFFFF ≤ n), mergeMark := true }, false)
  else ({ u with last := some x, win := u.win ++ [x], seen := true }, true)

/-- The overlap measures both cores on the same accepted edge (R114). -/
def TdcChan.overlapEdge (u : TdcChan) (coarse code0 code1 : Nat) : TdcChan :=
  let i := 1 - u.active
  if (u.core i).role = .overlap then
    let xa := rawExt (u.core u.active).table coarse (if u.active = 0 then code0 else code1)
    let xb := rawExt (u.core i).table coarse (if i = 0 then code0 else code1)
    { u with ovlSum := u.ovlSum + (xa - xb), ovlCnt := u.ovlCnt + 1 }
  else u

/-- An interval of `x1 - x0` as its 64-bit field (R128). DEDUCED, unsafe: log entry 27. -/
def intervalOf (dx : Int) : Nat :=
  let m := dx.natAbs
  let sign := if dx < 0 then 2 ^ 44 else 0
  if 2 ^ 44 ≤ m then 2 ^ 45 + sign + (2 ^ 44 - 1) else sign + m

/-- The nominal period of a channel's edges in extended-time units: input, feedback or event channel. -/
def State.chanPeriod (s : State) (n : Nat) (fbFreq : Rat) : Rat :=
  let c := n % 48
  if c < 24 then 20 * ((s.input (24 * dieOfChan n + c)).decl.period)
  else if fbFreq = 0 then 0 else (extPerSec : Rat) / fbFreq

/-! ## Phase words (R121 to R125) -/

/-- The indexed edges of a window: the first has index 0, each later one the previous index plus round(dt / Pnom); an edge whose
rounding gives 0 is left out of the fit (R122 steps 2 and 3). `prev` is the previous edge in time order with its index.
DEDUCED, unsafe: log entry 27. -/
def indexEdges (pnom : Rat) : Option (Nat × Nat) → List Nat → List (Nat × Nat)
  | _, [] => []
  | none, x :: xs => (x, 0) :: indexEdges pnom (some (x, 0)) xs
  | some (px, pi), x :: xs =>
    let st := if pnom = 0 then 1 else ratRound (((wrapDiff extMod x px : Int) : Rat) / pnom)
    let i := pi + st.toNat
    if st ≤ 0 then indexEdges pnom (some (x, pi)) xs else (x, i) :: indexEdges pnom (some (x, i)) xs

/-- The cycle index of the first edge `x` of a window, counted on from the last indexed edge of the windows before. -/
def firstIndex (pnom : Rat) (ref : Option (Nat × Nat)) (x : Nat) : Nat :=
  match ref with
  | none => 0
  | some (px, pi) => pi + (if pnom = 0 then 1 else (ratRound (((wrapDiff extMod x px : Int) : Rat) / pnom)).toNat)

/-- The least-squares line through points (index, time): value at `at` and slope (R122 step 4). -/
def lineFit (pts : List (Rat × Rat)) (at' : Rat) : Rat × Rat :=
  let n : Rat := pts.length
  let si := sumQ (pts.map (·.1))
  let st := sumQ (pts.map (·.2))
  let sii := sumQ (pts.map fun p => p.1 * p.1)
  let sit := sumQ (pts.map fun p => p.1 * p.2)
  let den := n * sii - si * si
  if den = 0 then (if n = 0 then 0 else st / n, 0)
  else
    let b := (n * sit - si * st) / den
    ((st - b * si) / n + b * at', b)

/-- The word of a channel whose window closes at boundary `k` (R122 to R124): `board` is the board delay in 2^-16 ns,
`step` marks a change of it, `st` and `cs` are the input's state and cause. MISSING reads 0 before an accepted edge (R123).
DESIGN CHOICE, unsafe: log entry 54. -/
def TdcChan.closeWindow (u : TdcChan) (k : Nat) (pnom : Rat) (valid : Bool) (board : Int) (step : Bool) (st cs : Nat) :
    TdcChan :=
  let seq := indexEdges pnom none u.win
  let base := match seq with | [] => 0 | e :: _ => e.1
  let pts : List (Rat × Rat) := seq.map fun e => ((e.2 : Rat), ((wrapDiff extMod e.1 base : Int) : Rat))
  let mid := seq.getD ((seq.length - 1) / 2) (0, 0)
  let fit := lineFit pts (mid.2 : Rat)
  let i0 := firstIndex pnom u.ref base
  let gap : Rat := match u.last with
    | none => 0
    | some l => ((wrapDiff extMod (extOf k) l : Int) : Rat)
  let missing := u.seen && u.last.isSome && decide (3 * pnom < 2 * gap)
  let w0 : PhaseWord := { u.word with state := st, cause := cs, glitch := u.glitchMark, merge := u.mergeMark, step := step,
                                      missing := missing, numeric := false, edges := u.win.length,
                                      valid := valid && u.winValid && u.seen }
  if seq.isEmpty then { u with word := w0, win := [], glitchMark := false, mergeMark := false }
  else
    { u with word := { w0 with edgeT := wrapNat edgeMod (ratRound (((base : Rat) + fit.1) / 20) - board) },
             wordIdx := i0 + mid.2, slope := (if seq.length ≤ 1 then pnom else fit.2) / 20,
             ref := (seq.getLast?).map fun e => (e.1, i0 + e.2), win := [], glitchMark := false, mergeMark := false }

/-! ## Seeds (R111, R119) -/

/-- The mean of a list of naturals, rounded. -/
def meanN (l : List Nat) : Nat := if l.isEmpty then 0 else (2 * sumN l + l.length) / (2 * l.length)

/-- The seed record of die `d`: the profile is the mean over the active tables of its cores that are not retired; a retired core, and
one without a table, keeps its widths of `old` (R111, R119). -/
def State.seedRecord (s : State) (d : Nat) (old : SeedRec) : SeedRec :=
  let cores := (List.range 96).map fun j => (s.chan (48 * d + j / 2)).core (j % 2)
  let act := (cores.filter fun c => decide (c.role ≠ .retired) && !c.table.isEmpty).map (·.table)
  { profile := (List.range 1152).map fun i => meanN (act.map fun t => t.getD i 0),
    segW := (List.range 96).map fun j =>
      let c := cores.getD j {}
      if decide (c.role = .retired) || c.table.isEmpty then old.segW.getD j [] else segs c.table }

/-! ## Commands (R136 to R139) -/

/-- ROLE of a core (R136). -/
def CoreRole.code : CoreRole → Nat
  | .active => 0 | .overlap => 2 | .overlapEnd => 2 | .retired => 3 | _ => 1

def tdcGetPicotReply (_c : Nat) (p : List Byte) (s : State) : Reply :=
  let n := uAt p 0 2
  let core := uAt p 2 1
  let start := uAt p 4 2
  let cnt := uAt p 6 1
  let u := s.chan n
  guarded s
    [(decide (n < 384) && !s.hasChan n, retAbsent), (decide (n < 384) && !s.dieUp (dieOfChan n), retNotReady),
     (decide (n < 384) && !u.cal.measures, retNotReady),
     (decide (384 ≤ n) || decide (1 < core) || !rsv p 3 1 || decide (1152 ≤ start) || decide (cnt = 0) || decide (32 < cnt) ||
        decide (1152 < start + cnt) || !rsv p 7 1, retBadParam)]
    (okWith (leBytes 2 n ++ leBytes 1 core ++ leBytes 1 (u.core core).role.code ++ leBytes 2 start ++ leBytes 1 cnt ++ zeros 1 ++
      leBytes 8 (u.core core).hits ++
      (List.range cnt).flatMap (fun i => leBytes 4 ((u.core core).table.getD (start + i) 0))) s)

/-- A core is reset: its rejection count clears, an overlap it is in is abandoned, and it fills alone with the stored seed `nv`
(R112, R116, R130, R138). -/
def TdcChan.resetCore (u : TdcChan) (i : Nat) (nv : List Nat) : TdcChan :=
  (u.setCore i { (u.core i).startFill nv with alone := true }).dropOverlap

def tdcCoreResetReply (_c : Nat) (p : List Byte) (s : State) : Reply :=
  let n := uAt p 0 2
  let core := uAt p 2 1
  let u := s.chan n
  guarded s
    [(decide (n < 384) && !s.hasChan n, retAbsent), (decide (n < 384) && !s.dieUp (dieOfChan n), retNotReady),
     (decide (n < 384) && !u.cal.measures, retNotReady),
     (decide (384 ≤ n) || decide (1 < core) || !rsv p 3 1, retBadParam), (decide (core = u.active), retBusy)]
    (okReply (s.modChan n fun u => u.resetCore core ((s.die (dieOfChan n)).seedRec.segW.getD (2 * (n % 48) + core) [])))

end Sys2Proof.Machine
end

