-- ==== Sys2Proof/Machine/Cairn.lean ====
section
/-! DEFINITION. Oscillator ports, oscillator models and the cairn engine (chapter 06, R215 to R231). Frequencies are in
word units of 2^-10 ppt, variances in their squares. -/

namespace Sys2Proof.Machine
open Sys2Proof

/-! ## Ports and thermistors (R215 to R217) -/

/-- The 16 s meter mean of port `o`; the package master reads 0 by construction (R215). -/
def State.meterMean (s : State) (o : Nat) : Rat :=
  if o = s.masterPort then 0 else meanQ (s.osc o).meter

/-- OSC_M of port `o` (R243). -/
def State.oscM (s : State) (o : Nat) : Int := fmtFreq (s.meterMean o)

/-- The meter of port `o` is valid (R215). -/
def State.meterValid (s : State) (o : Nat) : Bool :=
  s.hasOsc o && s.tb.tbEn && (s.die 0).tbLock && (s.osc o).active && !s.tb.restart && !s.tb.oscLoss && s.dieUp (dieOfOsc o)

/-- A thermistor reading is a fault outside R25 / 64 to R25 * 64 (R217). -/
def tempFault (r25 ohms : Nat) : Bool := decide (64 * ohms < r25) || decide (64 * r25 < ohms)

/-- The temperature of a resistance in 1/128 degree (R217). -/
def tempOf (r25 beta ohms : Nat) (tofs : Int) : Int :=
  let inv : Rat := 20 / 5963 + lnQ ((ohms : Rat) / (r25 : Rat)) / (beta : Rat)
  ratRound ((1 / inv - 5463 / 20) * 128) + tofs

/-- A thermistor reading of port `o` (R217, R243): ten faults in a row clear TEMP_VALID, ten good ones set it. -/
def OscPort.reading (u : OscPort) (m : PortModel) (ohms : Nat) : OscPort :=
  if !m.tsense then u
  else if tempFault m.r25 ohms then
    { u with faults := u.faults + 1, goods := 0, tempFaultH := true, tempValid := u.tempValid && decide (u.faults + 1 < 10) }
  else
    { u with goods := u.goods + 1, faults := 0, temp := fmtS 16 (tempOf m.r25 m.beta ohms m.tofs),
             tempValid := u.tempValid || decide (10 ≤ u.goods + 1) }

/-! ## Models (R219, R220, R223) -/

/-- The effective temperature order of a member (R220). -/
def PortModel.effOrder (m : PortModel) : Nat := if m.tsense then m.tempOrderMax else 0

/-- TEMP_ORDER: the highest order, up to the effective one, whose coefficient is not zero (R220). -/
def PortModel.orderInUse (m : PortModel) : Nat :=
  let e := m.effOrder
  if 3 ≤ e ∧ m.m.c3 ≠ 0 then 3 else if 2 ≤ e ∧ m.m.c2 ≠ 0 then 2 else if 1 ≤ e ∧ m.m.c1 ≠ 0 then 1 else 0

/-- Model age in days (R239). -/
def PortModel.ageDays (m : PortModel) : Rat := (m.originDays : Rat) + (m.ageS : Rat) / 86400

/-- th of R219 in degrees: the clamped temperature less TREF; 0 without a thermistor (R220). -/
def PortModel.th (m : PortModel) (temp : Int) : Rat :=
  if m.tsense then ((clampI (m.m.tmin - 256) (m.m.tmax + 256) temp - m.m.tref : Int) : Rat) / 128 else 0

/-- The temperature part of the prediction, up to the effective order (R219, R220). -/
def PortModel.tempPart (m : PortModel) (th : Rat) : Rat :=
  let e := m.effOrder
  (if 1 ≤ e then (m.m.c1 : Rat) * th else 0) + (if 2 ≤ e then (m.m.c2 : Rat) * th * th else 0) +
    (if 3 ≤ e then (m.m.c3 : Rat) * th * th * th else 0)

/-- p of R219 without its retrace term. -/
def PortModel.predBase (m : PortModel) (temp : Int) : Rat :=
  let d := m.ageDays
  (m.m.a0 : Rat) + (m.m.a1 : Rat) * d + (if m.m.al = 0 then 0 else (m.m.al : Rat) * lnQ (1 + d)) + m.tempPart (m.th temp)

/-- The prediction p of R219. -/
def PortModel.predict (m : PortModel) (temp : Int) (sOn : Nat) : Rat :=
  m.predBase temp + (if m.m.w = 0 ∨ m.m.tauR = 0 then 0 else (m.m.w : Rat) * expQ (-(sOn : Rat) / (m.m.tauR : Rat)))

/-- g of R223: the slope of the temperature part at the nearer end of the learnt interval. -/
def PortModel.slopeAt (m : PortModel) (th : Rat) : Rat :=
  let e := m.effOrder
  ratAbs ((if 1 ≤ e then (m.m.c1 : Rat) else 0) + (if 2 ≤ e then 2 * (m.m.c2 : Rat) * th else 0) +
    (if 3 ≤ e then 3 * (m.m.c3 : Rat) * th * th else 0))

/-- The predicted variance of R223, never below one word unit squared. -/
def PortModel.variance (m : PortModel) (temp : Int) : Rat :=
  let dl : Rat := (m.sinceLearn : Rat) / 86400
  let lo := m.m.tmin - 256
  let hi := m.m.tmax + 256
  let x : Rat := if !m.tsense then 0 else if temp < lo then ((lo - temp : Int) : Rat) / 128
    else if hi < temp then ((temp - hi : Int) : Rat) / 128 else 0
  let g := m.slopeAt (m.th temp)
  let v := (m.m.sp * m.m.sp : Nat) + 1024 * (m.m.qrw : Rat) * dl + ((m.m.sa : Rat) * dl) * ((m.m.sa : Rat) * dl) +
    (m.m.st * m.m.st : Nat) + (g * x) * (g * x) + (if m.sinceStart then ((m.m.sr * m.m.sr : Nat) : Rat) else 0)
  if v < 1 then 1 else v

/-- A model is qualified while QUALIFIED or RESTORED (R224). -/
def PortModel.isQualified (m : PortModel) : Bool := decide (m.state = .qualified) || decide (m.state = .restored)

/-- The prediction and the variance of port `o` now. -/
def State.predOf (s : State) (o : Nat) : Rat := (s.model o).predict (s.osc o).temp (s.osc o).sOn
def State.varOf (s : State) (o : Nat) : Rat := (s.model o).variance (s.osc o).temp

/-- Port `o` is an ensemble member. -/
def State.isMember (s : State) (o : Nat) : Bool := s.cairn.slots.any fun m => m.used && decide (m.port = o)

/-! ## The timescale (R226 to R231) -/

/-- A weighted sum: (e, var) of each ACTIVE member gives Y_raw and the sum of the inverse variances (R226). -/
def weighted (l : List (Rat × Rat)) : Rat × Rat :=
  let inv := sumQ (l.map fun x => 1 / x.2)
  (if inv = 0 then 0 else sumQ (l.map fun x => x.1 / x.2) / inv, inv)

/-- The departure of a member from the others, squared, against its bound, squared, for factor `k` (R228). -/
def departs (k : Rat) (me : Rat × Rat) (others : List (Rat × Rat)) : Rat × Rat :=
  let w := weighted others
  let d := me.1 - w.1
  (d * d, k * k * (me.2 + (if w.2 = 0 then 0 else 1 / w.2)))

/-- MEMBER_STATE of a slot by its conditions, apart from the rejection test (R227); while OSC_LOSS = 1 no member is LOST (R231). -/
def State.memberCond (s : State) (m : Member) : Nat :=
  let md := s.model m.port
  if !m.used then 0
  else if !s.meterValid m.port && !s.tb.oscLoss then 4
  else if md.tsense && decide (1 ≤ md.orderInUse) && !(s.osc m.port).tempValid then 5
  else if !md.isQualified then 2
  else if m.rejected then 3
  else 1

/-- Refreshes a slot's 64 s meter, its estimate and variance, and its state; seconds in which a rejected member is not tested break its run
of passing ones (R226 to R228). -/
def State.memberRefresh (s : State) (m : Member) : Member :=
  if !m.used then {}
  else
    let st := s.memberCond m
    let sample := match (s.osc m.port).meter.getLast? with | some x => (if m.port = s.masterPort then 0 else x) | none => 0
    let m := { m with passS := if st = 3 then m.passS else 0 }
    if st = 4 then { m with state := st, m64 := [] }
    else { m with state := st, m64 := lastN 64 (m.m64 ++ [sample]), var := s.varOf m.port,
                  e := s.predOf m.port - s.meterMean m.port }

/-- The estimate of a member on the 64 s mean of its meter (R228). DEDUCED, unsafe: log entry 52. -/
def State.e64 (s : State) (m : Member) : Rat × Rat := (s.predOf m.port - meanQ m.m64, m.var)

/-- (slot index, ratio of departure to bound, fails) of each slot that is ACTIVE (R228). -/
def State.failing (s : State) (k : Rat) (slots : List Member) : List (Nat × Rat) :=
  (List.range slots.length).flatMap fun i =>
    let m := slots.getD i {}
    if m.state = 1 then
      let others := (List.range slots.length).flatMap fun j =>
        if j ≠ i ∧ (slots.getD j {}).state = 1 then [s.e64 (slots.getD j {})] else []
      let d := departs k (s.e64 m) others
      if d.2 < d.1 then [(i, d.1 / d.2)] else []
    else []

/-- The entry of the largest ratio; the lower slot among equals. -/
def worst : List (Nat × Rat) → Option (Nat × Rat)
  | [] => none
  | x :: xs => match worst xs with
    | none => some x
    | some y => if x.2 < y.2 then some y else some x

/-- The rejected members are tested against the ACTIVE ones; a member that has passed REJOIN_S seconds is readmitted
(R228). -/
def State.rejoin (s : State) (k : Rat) (rejoinS : Nat) (slots : List Member) : List Member × Bool :=
  let act := slots.flatMap fun m => if m.state = 1 then [s.e64 m] else []
  let l := slots.map fun m =>
    if m.state = 3 then
      let d := departs k (s.e64 m) act
      let n := if d.2 < d.1 then 0 else m.passS + 1
      if rejoinS ≤ n then ({ m with rejected := false, passS := 0, state := 1 }, true) else ({ m with passS := n }, false)
    else (m, false)
  (l.map (·.1), l.any (·.2))

/-- One second of the engine (R226 to R231, R240). -/
def State.cairnStep (s : State) : Cairn :=
  let c := s.cairn
  if s.tb.oscLoss then { c with tbHeld := true, learning := false, learnUse := 0x7F }
  else
    let k : Rat := (c.kRej : Rat) / 16
    let slots := c.slots.map s.memberRefresh
    let rj := if s.part.featK then s.rejoin k c.rejoinS slots else (slots, false)
    let slots := rj.1
    let nAct := (slots.filter fun m => m.state = 1).length
    -- continuity: the old set and the new set, on the values of this second; a member that gives no estimate any more counts with its
    -- last one (R230)
    let val := fun (l : List Member) (p : Member → Bool) => l.flatMap fun m => if p m then [(m.e, m.var)] else []
    let newSet := slots.flatMap fun m => if m.state = 1 then [m.port] else []
    let held := (c.slots.filter fun m => m.used) ++ slots.filter fun m => m.used
    let oldVals := c.activeSet.flatMap fun o =>
      match (slots.find? fun m => m.used && decide (m.port = o) && (decide (m.state = 1) || decide (m.state = 3))) with
      | some m => [(m.e, m.var)]
      | none => match held.find? fun m => decide (m.port = o) with
        | some m => [(m.e, m.var)]
        | none => []
    let rawNew := weighted (val slots fun m => decide (m.state = 1))
    let carry := if decide (newSet ≠ c.activeSet) && s.part.featK && decide (c.ztauS ≠ 0) && !c.activeSet.isEmpty && !newSet.isEmpty
      then (weighted oldVals).1 - rawNew.1 else 0
    let decay : Rat := if c.ztauS = 0 then 0 else expQ (-1 / (c.ztauS : Rat))
    let z := if newSet.isEmpty ∨ c.ztauS = 0 ∨ !s.part.featK then 0 else if c.z = 0 then carry else c.z * decay + carry
    -- the test of the set (R228, R229)
    let fails := if s.part.featK && decide (2 ≤ nAct) then s.failing k slots else []
    let rejd := if 3 ≤ nAct then worst fails else none
    let slots := match rejd with
      | some (i, _) => slots.set i { (slots.getD i {}) with rejected := true, state := 3, passS := 0 }
      | none => slots
    let raw := weighted (val slots fun m => decide (m.state = 1))
    let split := decide (nAct = 2) && !fails.isEmpty
    let slots := slots.map fun m => { m with weight := if m.state = 1 ∧ raw.2 ≠ 0 then 1 / m.var / raw.2 else 0 }
    let active := slots.flatMap fun m => if m.state = 1 then [m.port] else []
    let valid := !active.isEmpty
    let h := setbIf (setbIf (setbIf (setbIf c.hist 0 rejd.isSome) 1 rj.2) 2 split) 7 (c.valid && !valid)
    { c with slots := slots, valid := valid, split := split, tbHeld := false, hist := h, activeSet := active,
             z := if valid then z else 0, y := if valid then raw.1 + z else 0,
             sigma := if raw.2 = 0 then 0 else sqrtQ (1 / raw.2) }

/-! ## Learning (R220 to R225) -/

/-- DPLL `k` qualifies as the learning DPLL over the latest second (R221). -/
def State.learnOk (s : State) (k : Nat) : Bool :=
  let u := s.dpll k
  !s.tb.restart && decide (k < 64) && s.hasDpll k && u.enable && decide (u.state = .locked) && decide (u.res = 0) && !u.acqFast &&
    !u.sel.driftExcl && !u.learnBad && decide (u.selInput < 320) && decide ((s.input u.selInput).rankEff ≤ s.cairn.learnRankMax)

/-- The learning DPLL in use, or none (R221). -/
def State.learnDpll (s : State) : Option Nat := s.cairn.learnDpll.find? fun k => s.learnOk k

/-- One second of a model's age, whatever the timebase does (R239). -/
def PortModel.older (m : PortModel) (n : Nat) : PortModel :=
  if m.state = .none then m
  else { m with ageS := if m.hasTref then m.ageS + n else m.ageS, sinceLearn := min 0xFFFFFFFF (m.sinceLearn + n), saveSec := m.saveSec.map (· + n) }

/-- The squares of the offsets of the first hour after the latest start (R222). -/
def addHour (x : Rat) : List (Rat × Nat) → List (Rat × Nat)
  | [] => []
  | [h] => [(h.1 + x * x, h.2 + 1)]
  | h :: t => h :: addHour x t

/-- A learning observation `x` against the prediction `p`, `b` being the prediction without its retrace term (R221, R222, R225). -/
def PortModel.observe (m : PortModel) (x p b : Rat) (temp : Int) (sOn : Nat) : PortModel :=
  let n := satInc m.startLearn
  { m with obs := m.obs ++ [(x, p, temp)], obsSec := m.obsSec + 1, learnS := satInc m.learnS, verX := m.verX + x, verP := m.verP + p,
           verN := m.verN + 1, startLearn := n, start24 := m.start24 || (decide (1 ≤ m.starts) && decide (86400 ≤ n)),
           hours := if sOn < 3600 then addHour (x - b) m.hours else m.hours }

/-- Port `o` is observed in the latest second: a DPLL serves, the meter and the thermistor allow (R221). -/
def State.learns (s : State) (o : Nat) : Bool :=
  s.isMember o && !s.tb.oscLoss && s.learnDpll.isSome && s.meterValid o && (!(s.model o).tsense || (s.osc o).tempValid)

/-- One second of a port's learning and ageing (R221, R222, R225, R239). -/
def State.modelSecond (s : State) (o : Nat) : PortModel :=
  let m := (s.model o).older 1
  if s.learns o then
    let smp : Rat := if o = s.masterPort then 0 else ((s.osc o).meter.getLast?).getD 0
    let x := smp - (match s.learnDpll with | some k => ((s.dpll k).ffo : Rat) | none => 0)
    m.observe x (s.predOf o) ((s.model o).predBase (s.osc o).temp) (s.osc o).temp (s.osc o).sOn
  else if s.isMember o && !s.tb.oscLoss then { m with obsSec := m.obsSec + 1 } else m

/-- The coefficients as a list, for the fit. -/
def Model.terms (m : Model) : List Int :=
  [m.a0, m.a1, m.al, m.c1, m.c2, m.c3, m.w, m.tauR, m.sp, m.qrw, m.sa, m.st, m.sr]

/-- SR of R222: |W| until a second start has been observed, then the rms of the offsets of the first hours. -/
def PortModel.srOf (m : PortModel) (w : Int) : Nat :=
  let n := sumN (m.hours.map (·.2))
  if m.starts < 2 then w.natAbs
  else if n = 0 then m.m.sr else (ratRound (sqrtQ (sumQ (m.hours.map (·.1)) / (n : Rat)))).natAbs

/-- The scalar product of two lists. -/
def dotQ (a b : List Rat) : Rat := sumQ (List.zipWith (· * ·) a b)

/-- One step of recursive least squares with forgetting factor `lam` (R222): the terms that `mask` names are fitted to `x` on the regressors
`phi`; the others, and their covariances, stay. -/
def rlsStep (lam : Rat) (mask : List Bool) (phi th : List Rat) (p : List (List Rat)) (x : Rat) : List Rat × List (List Rat) :=
  let g := p.map fun r => dotQ r phi
  let den := lam + dotQ phi g
  let k := List.zipWith (fun b v => if b && decide (den ≠ 0) then v / den else 0) mask g
  let e := x - dotQ phi th
  let on := fun (i : Nat) => mask.getD i false
  (List.zipWith (fun t c => t + c * e) th k,
   (List.range 7).map fun i => (List.range 7).map fun j =>
     let v := (p.getD i []).getD j 0
     if on i && on j && decide (lam ≠ 0) then (v - k.getD i 0 * g.getD j 0) / lam else v)

/-- The terms that a fit takes in on a span of temperatures, in the order a0, a1, al, c1, c2, c3, w (R220). -/
def PortModel.fitted (m : PortModel) (span : Int) : List Bool :=
  let e := m.effOrder
  let days3 := decide (3 * 86400 ≤ m.ageS)
  [true, days3, days3, decide (1 ≤ e) && decide (256 ≤ span), decide (2 ≤ e) && decide (640 ≤ span), decide (3 ≤ e) && decide (1280 ≤ span),
   m.start24]

/-- The coefficients as the fit takes them up: the exact ones of the last fit, else the stored ones; a term never fitted enters at 0 (R220,
R224). -/
def PortModel.thetaNow (m : PortModel) : List Rat :=
  if m.theta.isEmpty then [m.m.a0, m.m.a1, m.m.al, m.m.c1, m.m.c2, m.m.c3, m.m.w].map fun (x : Int) => (x : Rat) else m.theta

/-- The covariance as the fit takes it up. -/
def PortModel.covNow (m : PortModel) : List (List Rat) :=
  if m.cov.isEmpty then (List.range 7).map fun i => (List.range 7).map fun j => if i = j then Config.fitCov i else 0 else m.cov

/-- The fit on a kept mean (R220, R222): a step of recursive least squares with time constant LEARN_TAU_D on the terms R220 names; SP and SA
follow from the covariance, and what R222 gives no estimator for is free. `n` numbers the fit, `day` holds the residuals of the last day.
DESIGN CHOICE, safe: log entry 11. -/
def PortModel.fit (m : PortModel) (x : Rat) (temp : Int) (sOn tau n : Nat) (day : List Rat) : PortModel :=
  let q := m.m
  let tref := if m.hasTref then q.tref else temp
  let tmin := if m.hasTref then min q.tmin temp else temp
  let tmax := if m.hasTref then max q.tmax temp else temp
  let mask := m.fitted (tmax - tmin)
  let on := fun (i : Nat) => mask.getD i false
  let f := fun (i : Nat) => Config.fitTerm n i q.terms ([x, (temp : Rat), (m.ageS : Rat), (sOn : Rat), (tau : Rat)] ++ day)
  let tauR : Nat := if m.start24 then (clampI 600 86400 (f 7)).toNat else q.tauR
  let d := m.ageDays
  let th : Rat := if m.tsense then ((temp - tref : Int) : Rat) / 128 else 0
  let all : List Rat := [1, d, lnQ (1 + d), th, th * th, th * th * th, if tauR = 0 then 0 else expQ (-(sOn : Rat) / (tauR : Rat))]
  let phi := List.zipWith (fun (b : Bool) (v : Rat) => if b then v else 0) mask all
  let r := rlsStep (if tau = 0 then 0 else expQ (-64 / (86400 * (tau : Rat)))) mask phi m.thetaNow m.covNow x
  let c := fun (i : Nat) => ratRound (r.1.getD i 0)
  let e := m.effOrder
  let noise := ratAbs (Config.fitNoise day)
  let err := fun (v : Rat) => (ratRound (sqrtQ (noise * ratAbs v))).natAbs
  let w : Int := if on 6 then c 6 else 0
  { m with
    theta := r.1, cov := r.2
    m := { a0 := c 0, a1 := if on 1 then c 1 else 0, al := if on 2 then c 2 else 0,
           c1 := if 1 ≤ e then (if on 3 then c 3 else 0) else q.c1,
           c2 := if 2 ≤ e then (if on 4 then c 4 else 0) else q.c2,
           c3 := if 3 ≤ e then (if on 5 then c 5 else 0) else q.c3,
           tref := tref, tmin := tmin, tmax := tmax, w := w, tauR := tauR,
           sp := err (dotQ phi (r.2.map fun row => dotQ row phi)), sa := if on 1 then err ((r.2.getD 1 []).getD 1 0) else 0,
           qrw := (f 9).natAbs, st := (f 11).natAbs, sr := m.srOf w } }

/-- The rms of residuals exceeds `lim` ppt (compared by squares). -/
def rmsAbove (l : List Rat) (lim : Nat) : Bool :=
  decide ((l.length : Rat) * (pptWord lim * pptWord lim) < sumQ (l.map fun r => r * r))

/-- The end of a 64 s mean in second `sec` of the engine: fewer than 48 observations are discarded, otherwise the fit runs and the model
state moves (R222, R224). The flags are (QUAL_H, DEGRADED_H). -/
def PortModel.learn (m : PortModel) (learnMin tau sec sOn fitNo : Nat) : PortModel × Bool × Bool :=
  let n := m.obs.length
  let m0 := { m with obs := [], obsSec := 0 }
  if n < 48 ∨ m.state = .none ∨ m.state = .restored then (m0, false, false)
  else
    let x := meanQ (m.obs.map (·.1))
    let p := meanQ (m.obs.map fun o => o.2.1)
    let t := divRound (sumI (m.obs.map fun o => o.2.2)) n
    let res := (m.resid.filter fun r => decide (sec < r.1 + 86400)) ++ [(sec, x - p)]
    let rms := (res.filter fun r => decide (sec < r.1 + 3600)).map (·.2)
    let m1 := { m0.fit x t sOn tau fitNo (res.map (·.2)) with
      hasTref := true, sinceLearn := 0, learntSince := true, unsaved := true, sinceStart := false, resid := res }
    match m.state with
    | .learning =>
      if learnMin * 60 ≤ m.learnS ∧ !rmsAbove rms m.resMax then ({ m1 with state := .qualified }, true, false)
      else (m1, false, false)
    | .qualified =>
      if rmsAbove rms (4 * m.resMax) then ({ m1 with state := .learning, learnS := 0 }, false, true) else (m1, false, false)
    | _ => (m1, false, false)

/-- A model with its coefficients cleared, in state `st` (R224). -/
def PortModel.cleared (m : PortModel) (st : ModelSt) : PortModel :=
  { m with state := st, m := {}, hasTref := false, ageS := 0, learnS := 0, sinceLearn := 0, unsaved := false, obs := [], obsSec := 0, resid := [],
           startLearn := 0, start24 := false, hours := [], verX := 0, verP := 0, verN := 0, verVar := 0, saveSec := none,
           theta := [], cov := [], restAge := 0, learntSince := false }

/-- Verification of a restored model (R225): K * sqrt var against the difference of the means, compared by squares. -/
def PortModel.verified (m : PortModel) (kRej : Nat) : Bool :=
  let n : Rat := m.verN
  let d := if m.verN = 0 then 0 else (m.verX - m.verP) / n
  decide (256 * d * d ≤ (kRej * kRej : Nat) * m.verVar)

/-- A port starts (R216): the seconds since start and r of R223 begin again, one start is counted, its first hour is kept (R222). -/
def PortModel.onStart (m : PortModel) : PortModel :=
  if m.state = .none then m
  else { m with starts := min 255 (m.starts + 1), sinceStart := true, startLearn := 0, hours := lastN 8 (m.hours ++ [(0, 0)]) }

/-- `n` seconds of every active port since its start (R216). -/
def State.portSeconds (s : State) (n : Nat) : State :=
  s.forEach (s.all 2) fun t o => t.modOsc o fun u => if u.active then { u with sOn := u.sOn + n } else u

end Sys2Proof.Machine
end

