-- ==== Sys2Proof/Machine/Holdover.lean ====
section
/-! DEFINITION. Holdover history, window, word and bound of a DPLL (chapter 06, R232 to R236). -/

namespace Sys2Proof.Machine
open Sys2Proof

/-- A HIST_TICK code in seconds (R245). -/
def tickSec : Nat → Nat
  | 0 => 1 | 1 => 4 | _ => 16

/-- A HIST_TICK code in update windows. -/
def tickWin (t : Nat) : Nat := tickSec t * winPerSec

/-- The latest tick boundary at or before `t - g` (R234), in boundaries. -/
def tickFloor (tick t g : Nat) : Nat := ((t - g) / tickWin tick) * tickWin tick

/-- E of R234 at boundary `k`. -/
def DpllUnit.windowEnd (u : DpllUnit) (k : Nat) : Nat :=
  match u.ho.frozenE with
  | some e => e
  | none => tickFloor u.ho.tick k (u.ho.guardE * winPerSec)

/-- The samples of the averaging window (R234). -/
def DpllUnit.window (u : DpllUnit) (k : Nat) : List HoSample :=
  let e := u.windowEnd k
  u.ho.ring.filter fun x => decide (x.tickEnd ≤ e) && decide (e < x.tickEnd + u.ho.avgE * winPerSec)

/-- The valid samples of the window. -/
def DpllUnit.validSamples (u : DpllUnit) (k : Nat) : List HoSample := (u.window k).filter (·.valid)

/-- The threshold of R234: W / (2 HIST_TICK), rounded up. -/
def DpllUnit.sampleNeed (u : DpllUnit) : Nat := (u.ho.avgE + 2 * tickSec u.ho.tick - 1) / (2 * tickSec u.ho.tick)

/-- HOLDOVER_VALID of a selecting DPLL outside HOLDOVER (R234). -/
def DpllUnit.historyOk (u : DpllUnit) (k : Nat) : Bool := decide (u.sampleNeed ≤ (u.validSamples k).length)

/-- HOLDOVER_VALID as it reads (R159, R163, R234). -/
def DpllUnit.holdValid (u : DpllUnit) : Bool :=
  if u.cfg.role = 2 then decide (u.state = .locked) || (decide (u.state = .holdover) && u.ho.valid) else u.ho.valid

/-- Re-evaluates HOLDOVER_VALID outside HOLDOVER (R234). -/
def DpllUnit.refreshValid (u : DpllUnit) (k : Nat) : DpllUnit :=
  if u.state = .holdover ∨ u.cfg.role = 2 then u else { u with ho := { u.ho with valid := u.historyOk k } }

/-- The spread of the window's samples over the square root of their count: sigma_V of R236. -/
def sigmaV (l : List Rat) : Rat :=
  let n : Rat := l.length
  let m := meanQ l
  if l.isEmpty then 0 else sqrtQ (meanQ (l.map fun x => (x - m) * (x - m)) / n)

/-- The means of R235 over the window's valid samples, or those retained through belay (R541), with their spreads. -/
def DpllUnit.holdMeans (u : DpllUnit) (k : Nat) : HoKept :=
  match u.ho.kept with
  | some m => m
  | none =>
    let l := u.validSamples k
    let v := l.map fun x => x.u + x.y
    let w := l.map (·.u)
    let z := l.map (·.s)
    { v := meanQ v, u := meanQ w, s := meanQ z, c := l.all (·.c), sv := sigmaV v, su := sigmaV w, ss := sigmaV z }

/-- The holdover word of R235 before the host offset: basis in use, mean, word. -/
def State.holdWordOf (s : State) (k : Nat) : Nat × Rat × Rat :=
  let u := s.dpll k
  let m := u.holdMeans s.tb.k
  let j := s.portOfDpll k
  let cairn := decide (u.ho.basisE = 0) && m.c && s.cairn.valid
  let basis := if u.ho.basisE = 2 then 2 else if cairn then 0 else 1
  if basis = 0 then (0, m.v, m.v - s.cairn.y - s.meterMean j)
  else if basis = 1 then (1, m.u, m.u - s.meterMean j)
  else (2, m.s, m.s)

/-- sigma_C of the second under a basis; none when no qualified model provides it (R236). -/
def State.sigmaOf (s : State) (basis j : Nat) : Option Rat :=
  if basis = 0 then (if s.cairn.valid then some s.cairn.sigma else none)
  else
    let o := if basis = 1 then s.masterPort else j
    if (s.model o).isQualified then some (sqrtQ (s.varOf o)) else none

/-- HO_TE_BOUND after `tau` seconds (R236), in 2^-16 ns; `fm` is the holdover uncertainty factor. -/
def teBound (fm sv sum : Rat) (tau : Nat) : Int :=
  let t : Rat := tau
  let day : Rat := if 86400 ≤ tau then 1 else t / 86400
  fmtPhase (fm * (3 * (sv * t + sum) * (8 / 125) + 131072 * day))

/-- The value that means "no bound" (R236). -/
def teNone : Int := 0x7FFFFFFFFFFFFFFF

/-- Forms the holdover word and its registers (R235, R245); in HOLDOVER with the bound of `hold` seconds (R236).
DEDUCED, unsafe: log entry 23. -/
def State.formHold (s : State) (k hold : Nat) (add : Bool) (fm : Rat) : Hold :=
  let u := s.dpll k
  let w := s.holdWordOf k
  let m := u.holdMeans s.tb.k
  let sv := if w.1 = 0 then m.sv else if w.1 = 1 then m.su else m.ss
  let sg := s.sigmaOf w.1 (s.portOfDpll k)
  let sum := if add then u.ho.sigSum + sg.getD 0 else 0
  let bad := (add && u.ho.noSig) || (sg.isNone && decide (u.state = .holdover))
  { u.ho with basisInUse := w.1, mean := w.2.1, word := fmtFreq w.2.2, sigmaV := sv, holdS := hold, sigSum := sum, noSig := bad, formed := true,
              te := if u.state = .holdover then (if bad then teNone else teBound fm sv sum hold) else 0 }

/-- The holdover side as its registers show it: in force in HOLDOVER, else what entry would apply now (R245). A DPLL that is
not selecting shows what it holds. DEDUCED, unsafe: log entry 23. -/
def State.holdNow (s : State) (n : Nat) : Hold :=
  let u := s.dpll n
  if u.state = .holdover ∨ u.cfg.role ≠ 1 then u.ho else s.formHold n 0 false 1

/-- Ends a tick of the history: one sample is stored, valid under R233 (R232); `meter` is the latest sample of the port's meter. While E is
fixed, in HOLDOVER or by DRIFT_EXCL, an invalid sample takes no place of the ring, so that the window of R234 stays whole for as long as
the word and the bound are formed from it (R235, R236). -/
def DpllUnit.historySample (u : DpllUnit) (k : Nat) (meter : Bool) : DpllUnit :=
  let h := u.ho
  let n : Rat := if h.accN = 0 then 1 else (h.accN : Rat)
  let smp : HoSample := { u := h.accU / n, y := h.accY / n, c := h.accC, s := h.accS / n, tickEnd := k, inputs := h.accIn,
                          valid := h.accOk && meter && decide (h.accN = tickWin h.tick) }
  { u with ho := { h with ring := if h.frozenE.isSome && !smp.valid then h.ring else lastN 8192 (h.ring ++ [smp]), accS := 0, accU := 0, accY := 0, accN := 0, accOk := true,
                          accC := true, accIn := [], tickStart := k } }

/-- The history is discarded (R242, R175). -/
def Hold.discard (h : Hold) : Hold :=
  { h with ring := [], valid := false, frozenE := none, accS := 0, accU := 0, accY := 0, accN := 0, accOk := false, accC := true,
           accIn := [] }

/-- Excludes samples whose tick ends after boundary `from'` and during which input `n` was selected (R197). -/
def Hold.exclude (h : Hold) (n from' : Nat) : Hold :=
  { h with ring := h.ring.map fun x => if from' < x.tickEnd ∧ n ∈ x.inputs then { x with valid := false } else x }

/-- W, G and the basis as set come into force (R242). -/
def Hold.take (h : Hold) : Hold := { h with basisE := h.basis, avgE := h.avgS, guardE := h.guardS, late := false }

/-- HOLDOVER is left: a waiting change of HIST_TICK is made (R242). DEDUCED, unsafe: log entry 23. -/
def Hold.leave (h : Hold) : Hold :=
  let h := { h with frozenE := none, holdS := 0, sigSum := 0, noSig := false, te := 0, kept := none }
  match h.tickPend with
  | none => h
  | some t => { h.discard with tick := t, tickPend := none }

/-- The holdover side of a DPLL that leaves HOLDOVER; while DRIFT_EXCL = 1 the window end stays (R234). -/
def DpllUnit.leaveHold (u : DpllUnit) : Hold :=
  if u.state = .holdover then (if u.sel.driftExcl then { u.ho.leave with frozenE := u.ho.frozenE } else u.ho.leave) else u.ho

/-- An accepted DPLL_SET_HOLDOVER (R242, R251): what is set comes into force at the next tick, or at the next entry when it was set in
HOLDOVER; at once where no history runs. DEDUCED, unsafe: log entry 23. -/
def DpllUnit.setHoldover (u : DpllUnit) (b t a g : Nat) : DpllUnit :=
  let h := { u.ho with basis := b, avgS := a, guardS := g }
  if u.state = .holdover then { u with ho := { h with tickPend := if t = h.tick then none else some t, late := true } }
  else
    let h := { (if t = h.tick then h else { h.discard with tick := t }) with late := false }
    { u with ho := if u.enable ∧ u.cfg.role = 1 then h else h.take }

/-! ## Commands (R251, R252) -/

def dpllSetHoldoverReply (_c : Nat) (p : List Byte) (s : State) : Reply :=
  let n := uAt p 0 2
  let b := uAt p 2 1
  let t := uAt p 3 1
  let a := uAt p 4 4
  let g := uAt p 8 4
  let sec := tickSec t
  guarded s
    [(decide (n < 64) && !s.hasDpll n, retAbsent), (decide (n < 64) && !s.dieUp (dieOfDpll n), retNotReady),
     (decide (n < 64) && decide ((s.dpll n).cfg.role = 0), retNotReady),
     (decide (64 ≤ n) || decide (2 < b) || decide (2 < t) || decide (a = 0) || decide (a % sec ≠ 0) || decide (g % sec ≠ 0) ||
        decide (8192 * sec < a + g) || !rsv p 12 4, retBadParam)]
    (okReply (s.modDpll n fun u => u.setHoldover b t a g))

/-- The DPLL_GET_HOLDOVER response (R252). -/
def State.holdBytes (s : State) (n : Nat) : List Byte :=
  let u := s.dpll n
  let h := s.holdNow n
  let mir := decide (u.cfg.role = 2)
  let z := fun (b : List Byte) => if mir then zeros b.length else b
  leBytes 2 n ++ z (leBytes 1 h.basisInUse) ++
    leBytes 1 (b2n u.holdValid + (if mir then 0 else 2 * b2n u.ho.frozenE.isSome + 4 * b2n s.cairn.tbHeld)) ++
    z (leBytes 4 (u.validSamples s.tb.k).length) ++ z (leBytes 4 (u.ho.avgS / tickSec u.ho.tick)) ++ zeros 4 ++
    z (leBytesI 8 (fmtFreq h.mean)) ++ z (leBytesI 8 (fmtFreq h.sigmaV)) ++ z (leBytesI 8 h.word) ++
    z (leBytes 8 (mtsOf (u.windowEnd s.tb.k))) ++ z (leBytesI 8 u.ho.te) ++ z (leBytes 4 u.ho.holdS) ++ zeros 4

def dpllGetHoldoverReply (_c : Nat) (p : List Byte) (s : State) : Reply :=
  let n := uAt p 0 2
  guarded s
    [(decide (n < 64) && !s.hasDpll n, retAbsent), (decide (n < 64) && !s.dieUp (dieOfDpll n), retNotReady),
     (decide (n < 64) && decide ((s.dpll n).cfg.role = 0), retNotReady), (decide (64 ≤ n) || !rsv p 2 2, retBadParam)]
    (okWith (s.holdBytes n) s)

end Sys2Proof.Machine
end

