-- ==== Sys2Proof/Machine/Dpll.lean ====
section
/-! DEFINITION. DPLL channels: words, phase error, loop, lock, states and commands (chapter 04). Phases are in 2^-16 ns,
frequencies in 2^-10 ppt. -/

namespace Sys2Proof.Machine
open Sys2Proof

/-! ## Frequencies and words -/

/-- 2 ^ code of a pre-divider field. -/
def predivOf (c : Nat) : Nat := 2 ^ c

/-- The phase-detector frequency of an OPLL in Hz (R254). -/
def OpllUnit.fPfd (u : OpllUnit) : Rat := (u.refHz : Rat) * (if u.dbl then 2 else 1) / (if u.rdiv = 0 then 1 else (u.rdiv : Rat))

/-- The nominal VCO frequency in Hz (R255). -/
def OpllUnit.fVco (u : OpllUnit) : Rat := u.fPfd * ((u.int : Rat) + (u.frac : Rat) / (2 ^ 40 : Nat))

/-- The total division T of an output (R266). -/
def OutUnit.totalDiv (u : OutUnit) : Nat := 2 ^ u.pre * u.div

/-- The OPLL an output takes its clock from, by global index. -/
def State.opllOfOut (s : State) (m : Nat) : Nat := 4 * dieOfOut m + (s.out m).src

/-- The nominal frequency of an output in clock mode, in Hz (R266). -/
def State.outFreq (s : State) (m : Nat) : Rat :=
  if (s.out m).totalDiv = 0 then 0 else (s.opll (s.opllOfOut m)).fVco / ((s.out m).totalDiv : Rat)

/-- The VCO period of an output's OPLL in 2^-16 ns. -/
def State.vcoPeriod (s : State) (m : Nat) : Rat :=
  let f := (s.opll (s.opllOfOut m)).fVco
  if f = 0 then 0 else (edgePerSec : Rat) / f

/-- The phase of an output, COARSE VCO periods and FINE, in 2^-16 ns (R269). 0.5 ps is 32.768 units. -/
def State.outPhi (s : State) (m : Nat) : Rat :=
  ((s.out m).coarseEff : Rat) * s.vcoPeriod m + ((s.out m).fineEff : Rat) * (4096 / 125)

/-- The feedback nominal frequency of DPLL `k` in Hz (R142, R143). -/
def State.fbFreq (s : State) (k : Nat) : Rat :=
  let u := s.dpll k
  if u.numeric then (if u.cfg.ncoDen = 0 then 0 else (u.cfg.ncoNum : Rat) / (u.cfg.ncoDen : Rat))
  else s.outFreq u.cfg.fbOutput / (predivOf u.cfg.fbPrediv : Rat)

/-- DPLL `k` has feedback that a TDC channel measures: it is enabled, and not numeric (R141). -/
def State.fbUsed (s : State) (k : Nat) : Bool :=
  let u := s.dpll k
  u.enable && decide (u.cfg.role ≠ 0) && !u.numeric

/-- The nominal frequency of a phase-word stream in Hz: inputs 0 to 319, feedback of DPLL k at 320 + k (R145). -/
def State.streamFreq (s : State) (i : Nat) : Rat :=
  if i < 320 then (s.input i).decl.freq else s.fbFreq (i - 320)

/-- The die a stream is formed on (R27, R54). -/
def dieOfStream (i : Nat) : Nat := if i < 320 then dieOfInput i else dieOfDpll (i - 320)

/-- The word of a stream that closed the latest window (R124, R125, R143). -/
def State.streamWord (s : State) (i : Nat) : PhaseWord :=
  if i < 192 then (s.chan (chanOfInput i)).word
  else if i < 320 then (s.td (i - 192)).word
  else if (s.dpll (i - 320)).numeric then (s.dpll (i - 320)).ncoWord
  else (s.chan (chanOfFb (i - 320))).word

/-- The word of stream `i` has arrived at die `d` for use at the coming boundary (R30, R31). -/
def State.arrived (s : State) (d i : Nat) : Bool := decide (dieOfStream i = d) || (s.die d).arrived.contains i

/-- DPLL `k` exports feedback words: it is enabled (R144). -/
def State.exports (s : State) (i : Nat) : Bool := if i < 320 then true else (s.dpll (i - 320)).enable

/-- What a DPLL makes of a word (R153). -/
inductive Use | unusable | empty | usable
deriving DecidableEq, Repr

/-- The treatment of a word by the first matching row of R153; `disq` is the view's DISQUALIFIED. -/
def useOf (arrived disq glitchUse : Bool) (w : PhaseWord) : Use :=
  if !arrived || !w.valid || disq || w.missing || (w.glitch && !glitchUse) then .unusable
  else if w.edges = 0 then .empty else .usable

/-- A word not arrived, invalid, of a disqualified input or missing counts a miss; a glitched one only when unusable: in
every unusable case one miss is counted (R153). -/
def Use.miss (u : Use) : Bool := decide (u = .unusable)

/-- The cycle index of a usable word (R145). -/
def Follow.indexOf (f : Follow) (w : PhaseWord) (freq : Rat) : Int :=
  match f.last with
  | none => 0
  | some (t, i) => i + ratRound (((wrapDiff edgeMod w.edgeT t : Int) : Rat) * freq / (edgePerSec : Rat))

/-- The cycle count of a stream after a usable word (R145). -/
def Follow.step (f : Follow) (w : PhaseWord) (freq : Rat) (stepped : Bool) : Follow :=
  let n := f.indexOf w freq
  { f with last := some (w.edgeT, n), hist := if stepped then [(w.edgeT, n)] else lastN 32 (f.hist ++ [(w.edgeT, n)]) }

/-- The step S of R153 in 2^-16 ns: the word's EDGE_T minus the prediction from the last usable word before it, at the period that the
words up to it show. DEDUCED, unsafe: log entry 52. -/
def Follow.stepSize (f : Follow) (w : PhaseWord) (freq : Rat) : Rat :=
  match f.last with
  | none => 0
  | some (t, i) =>
    let nom : Rat := if freq = 0 then 0 else (edgePerSec : Rat) / freq
    let p := if f.hist.length ≤ 1 then nom
      else (lineFit (f.hist.map fun x => (((x.2 - i : Int) : Rat), ((wrapDiff edgeMod x.1 t : Int) : Rat))) 0).2
    ((wrapDiff edgeMod w.edgeT t : Int) : Rat) - ((f.indexOf w freq - i : Int) : Rat) * p

/-- The feedback of DPLL `k` for interpolation: EDGE_T corrected under R271, cycle index, time per cycle. -/
def State.fbPoint (s : State) (k : Nat) : Nat × Rat × Int × Rat :=
  let u := s.dpll k
  if u.numeric then
    let f := s.fbFreq k * (1 + (u.ncoSteer : Rat) / wordOne)
    (u.ncoWord.edgeT, 0, (u.ncoIdx : Int), if f = 0 then 0 else (edgePerSec : Rat) / f)
  else
    let c := s.chan (chanOfFb k)
    let m := u.cfg.fbOutput
    (c.word.edgeT, ((tget 0 s.fused.driverDelay m : Int) : Rat) - s.outPhi m, (c.wordIdx : Int), c.slope)

/-- A DPLL follows a reference: it is ACQUIRING or LOCKED. -/
def DpllUnit.tracks (u : DpllUnit) : Bool := decide (u.state = .acquiring) || decide (u.state = .locked)

/-- The phase that steering words already written to the OPLL of DPLL `n` will produce and the feedback words of the window before boundary
`k` do not show yet. They show a word in full that was written three boundaries before, or earlier: it was in force throughout their window
(R30). A numeric DPLL steers no OPLL (R150). DESIGN CHOICE, safe: log entry 10. -/
def State.ahead (s : State) (n k : Nat) : Rat :=
  let u := s.dpll n
  if u.numeric || (u.tracks && decide (u.lastUpd.getD u.acqAt + 3 ≤ k)) then 0 else Config.steerAhead u.steer u.steerPrev

/-- t_vfb - t_ref with BO = 0 for reference cycle `n` at `tref`, not reduced, with pairing `org` (R145). -/
def rawPhase (fb : Nat × Rat × Int × Rat) (q : Rat) (tref : Nat) (n org : Int) : Rat :=
  ((wrapDiff edgeMod fb.1 tref : Int) : Rat) + fb.2.1 + (q * (n : Rat) + (org : Rat) - (fb.2.2.1 : Rat)) * fb.2.2.2

/-- The pairing that leaves the phase nearest to `near`: 0 pairs with the nearest feedback edge (R160).
DEDUCED, unsafe: log entry 52. -/
def nearestOrigin (fb : Nat × Rat × Int × Rat) (q : Rat) (tref : Nat) (n : Int) (near : Rat) : Int :=
  if fb.2.2.2 = 0 then 0 else - ratRound ((rawPhase fb q tref n 0 - near) / fb.2.2.2)

/-- A phase reduced into [-P/2, P/2) (R145). -/
def reducePhase (p x : Rat) : Rat := if p = 0 then x else x - p * ((x / p + 1 / 2).floor : Int)

/-- The period of a frequency in Hz, in 2^-16 ns. -/
def periodOf (f : Rat) : Rat := if f = 0 then 0 else (edgePerSec : Rat) / f

/-! ## The loop (R147 to R152) -/

/-- Row `r` (1 to 7) of the loop table. -/
def DpllUnit.rowAt (u : DpllUnit) (r : Nat) : LoopRow := u.rows.getD (r - 1) {}

/-- The row in use (R151). -/
def DpllUnit.rowNow (u : DpllUnit) : LoopRow := u.rowAt (if u.row = 0 then 5 else u.row)

/-- The configured bandwidth in use, in 0.1 mHz: ACQ_BW while ACQ_FAST (R157). -/
def DpllUnit.bwCfg (u : DpllUnit) : Nat :=
  let r := u.rowNow
  if u.acqFast ∧ r.acqBw ≠ 0 then r.acqBw else r.bw

/-- The bandwidth limit of a reference, in 0.1 mHz: an eighth of min(32 000, f_ref) (R148). -/
def bwLimit (fref : Rat) : Rat := (if (32000 : Rat) < fref then 32000 else fref) * 10000 / 8

/-- The effective bandwidth in 0.1 mHz (R148). -/
def DpllUnit.bwEff (u : DpllUnit) (fref : Rat) : Rat :=
  let b : Rat := u.bwCfg
  if bwLimit fref < b then bwLimit fref else b

/-- kp and ki of R147 for a bandwidth in Hz and a damping factor. -/
def gains (b z : Rat) : Rat × Rat :=
  let a := 2 * z * z + 1
  let fn := b / sqrtQ (a + sqrtQ (a * a + 1))
  let wn := 2 * piQ * fn
  (2 * z * wn, wn * wn)

/-- The gains in use against a reference of `fref` Hz. -/
def DpllUnit.gainsNow (u : DpllUnit) (fref : Rat) : Rat × Rat :=
  gains (u.bwEff fref / 10000) ((u.rowNow.damp : Rat) / 64)

/-- The pull-in limit of the row in use in word units: PULL_IN is in 0.01 ppm (R152). -/
def DpllUnit.pullIn (u : DpllUnit) : Rat := pptWord (10000 * u.rowNow.pullIn)

/-- One phase update on the tracking error `e` in 2^-16 ns over `dt` seconds (R147, R149). -/
def DpllUnit.update (u : DpllUnit) (e dt fref : Rat) : DpllUnit :=
  let g := u.gainsNow fref
  let es := e / (edgePerSec : Rat)
  let lim := u.pullIn
  let i := u.integ + g.2 * es * dt * wordOne
  let y := i + g.1 * es * wordOne
  let sat := decide (lim < ratAbs y)
  let i' := if sat && decide ((0 < y ∧ u.integ < i) ∨ (y < 0 ∧ i < u.integ)) then u.integ else i
  { u with integ := i', steer := ratRound (clampQ (-lim) lim y), steerPrev := u.steer, pullinLimit := sat,
           hist := setbIf u.hist 5 sat }

/-- PSL in ps/s as the release of one window in 2^-16 ns: PSL * 31.25 us (R151). -/
def LoopRow.release (r : LoopRow) : Rat := (r.psl : Rat) * (256 / 125000)

/-- RES released at a boundary (R151). -/
def DpllUnit.releaseRes (u : DpllUnit) : DpllUnit :=
  let m := u.rowNow.release
  let r := u.res - clampQ (-m) m u.res
  { u with res := r, hist := setbIf u.hist 4 (decide (u.res ≠ 0)) }

/-- 200 ppm in word units (R165). -/
def ppm200 : Rat := pptWord 200000000

/-- STEER in FREERUN and HOLDOVER: the word plus the host offset plus the release of RES at PSL, clamped (R161, R162,
R165, R166). -/
def DpllUnit.openSteer (u : DpllUnit) (word : Int) : DpllUnit :=
  let psl : Rat := if u.res = 0 then 0 else if 0 < u.res then pptWord u.rowNow.psl else - pptWord u.rowNow.psl
  let x : Rat := (word : Rat) + (u.hostSteer : Rat) + psl
  let sat := decide (ppm200 < ratAbs x)
  { u with steer := ratRound (clampQ (-ppm200) ppm200 x), steerPrev := u.steer, pullinLimit := sat, hist := setbIf u.hist 5 sat }

/-! ## States (R160) -/

/-- Logs a change of SEL_INPUT (R209, R213). -/
def DpllUnit.logSwitch (u : DpllUnit) (k : Nat) (dst reason : Nat) (bo : Bool) (boBefore : Rat) : DpllUnit :=
  let n := satInc u.sel.switchCnt
  let e : SwLog := { mts := mtsOf k, src := none16 u.selInput, dst := none16 dst, reason := reason, mode := u.sel.eff.mode,
                     boFlag := bo, state := u.state.code, boStep := fmtPhase (u.bo - boBefore), resAfter := fmtPhase u.res }
  { u with selInput := dst,
           sel := { u.sel with log := (e :: u.sel.log).take 16, switchCnt := n, hist := satFlag u.sel.hist 8 n } }

/-- The input `i` ceases to hold the exclusion of R198: with the last of them the exclusion ends, and E with it outside HOLDOVER
(R198, R234). -/
def DpllUnit.driftDrop (u : DpllUnit) (i : Nat) : DpllUnit :=
  let l := u.sel.driftIn.filter fun x => decide (x ≠ i)
  if u.sel.driftExcl ∧ l.isEmpty then
    { u with sel := { u.sel with driftExcl := false, driftIn := [] }, ho := if u.state = .holdover then u.ho else { u.ho with frozenE := none } }
  else { u with sel := { u.sel with driftIn := l } }

/-- A selecting DPLL gives its reference up with `reason` (R160); `bo` is BO before the change (R213). -/
def DpllUnit.giveUp (u : DpllUnit) (k reason : Nat) (bo : Rat) : DpllUnit :=
  if u.cfg.role = 1 ∧ u.selInput ≠ 0x1FF then
    let v := (u.driftDrop u.selInput).logSwitch k 0x1FF reason false bo
    { v with sel := { v.sel with pend := none } }
  else u

/-- What every entry into FREERUN or HOLDOVER does to the loop: gates end, a pending step is discarded (R153, R156).
DEDUCED, unsafe: log entry 51. -/
def DpllUnit.open_ (u : DpllUnit) (k : Nat) : DpllUnit :=
  { u with gate := { u.gate with running := false, bad := false, start := none }, stepPend := false, acqFast := false,
           bwClamp := false, lastUpd := none, fb := none, fresh := false, stateAt := k }

/-- Entry of an enabled DPLL into FREERUN from another state (R160); `bo` is BO before it. -/
def DpllUnit.toFreerun (u : DpllUnit) (k reason : Nat) (bo : Rat) : DpllUnit :=
  let from' := decide (u.state ≠ .freerun)
  let v := { u with state := .freerun, ho := u.leaveHold }
  let v := (v.giveUp k reason bo).open_ k
  { v with hist := setbIf v.hist 3 from' }

/-- The mirror's holdover word: the mean of STEER over the 100 ms that end 1 ms before the last usable word (R163).
`steerHist` holds the words of the last windows, newest last. -/
def DpllUnit.mirrorWord (u : DpllUnit) : Int :=
  let l := (u.steerHist.take (u.steerHist.length - u.mirrorSilent - 32))
  let l := lastN 3200 l
  if l.isEmpty then u.steer else divRound (sumI l) l.length

/-- Entry into HOLDOVER (R160, R163, R234): E is fixed, HOLD_H and the count. -/
def DpllUnit.toHoldover (u : DpllUnit) (k reason : Nat) : DpllUnit :=
  if u.state = .holdover then u
  else
    let n := satInc u.holdCnt
    let valid := u.holdValid
    let u := { u with ho := if u.ho.late then u.ho.take else u.ho }
    let e := u.windowEnd k
    let v := { u with state := .holdover, holdCnt := n, lastHoldMts := mtsOf k, hist := satFlag (setb u.hist 2) 9 n }
    let v := (v.giveUp k reason u.bo).open_ k
    { v with ho := { v.ho with valid := valid, frozenE := some e, holdS := 0, sigSum := 0, noSig := false, formed := false,
                               word := if u.cfg.role = 2 then u.mirrorWord else v.ho.word } }

/-- Entry into ACQUIRING: gates start, the integrator is loaded with STEER (R147, R157, R160). -/
def DpllUnit.toAcquiring (u : DpllUnit) (k : Nat) : DpllUnit :=
  { u with state := .acquiring, integ := (u.steer : Rat), acqAt := k, lastUpd := none, stateAt := k, pullinLimit := false,
           acqFast := decide (u.rowNow.acqBw ≠ 0), acqMoved := false, stepPend := false, fb := none, ho := u.leaveHold,
           gate := { running := true, startK := k, start := none, bad := false, passed := 0 } }

/-- Loss of the reference or of the feedback: HOLDOVER when the history is valid, otherwise FREERUN (R160). -/
def DpllUnit.loseRef (u : DpllUnit) (k reason : Nat) : DpllUnit :=
  if u.state = .acquiring ∨ u.state = .locked then
    (if u.holdValid then u.toHoldover k reason else u.toFreerun k reason u.bo)
  else u

/-- FB_FAULT rises (R153, R160). Reason 9 is HELD. DESIGN CHOICE, unsafe: log entry 54. -/
def DpllUnit.fbFaultRise (u : DpllUnit) (k : Nat) : DpllUnit :=
  if u.enable then
    let v := { u with fbFault := true, hist := setb u.hist 6, fbGoodRun := 0 }
    v.loseRef k 9
  else u

/-- An entry whose DPLL is enabled, or disabled: its estimates and its record begin anew, the view stays (R180, R200). -/
def Cand.anew (c : Cand) : Cand :=
  { input := c.input, cState := c.cState, cCause := c.cCause, silent := c.silent, stream := c.stream, dieDown := c.dieDown, remWtr := c.remWtr,
    rCause := c.rCause }

/-- ENABLE written 1 (R160). `fw` is the free-run word and `fb` its FR_BASIS (R161). DEDUCED, unsafe: log entry 51. -/
def DpllUnit.turnOn (u : DpllUnit) (k : Nat) (fw : Int) (fb : Bool) : DpllUnit :=
  if u.enable ∨ u.cfg.role = 0 then u
  else
    let v := { u with enable := true, state := .freerun, integ := 0, bo := 0, res := 0, pherr := 0, freeWord := fw,
                      frBasis := fb, fresh := false, learnBad := true, row := if u.cfg.role = 2 then 7 else 5, stateAt := k, mirrorHad := false, mirrorSilent := 0,
                      mirrorLost := false, everLocked := false, ffo := 0, ffoOpen := none, ffoSum := 0, ffoN := 0, lastUpd := none,
                      ref := {}, fb := none, stepPend := false, ncoCyc := 0, ncoFrac := 0, ncoIdx := 0, ncoWord := {},
                      fbBadRun := 0, fbGoodRun := 0, steerHist := [], gate := { passed := u.gate.passed },
                      ho := { u.ho with accS := 0, accU := 0, accY := 0, accN := 0, accOk := false, accC := true, accIn := [] },
                      sel := { u.sel with holdoff := 0, pend := none, prevBest := 0x1FF, prevElig := 0, eligIn := [], prevIn := [],
                                          cands := u.sel.cands.map Cand.anew } }
    v.openSteer fw

/-- ENABLE written 0 (R160): disabled FREERUN, STEER held, FROZEN and PARITY_HOLD cleared. -/
def DpllUnit.turnOff (u : DpllUnit) (k : Nat) : DpllUnit :=
  if u.enable then
    let v := { u with state := .freerun, ho := u.leaveHold }
    let v := if u.state = .acquiring ∨ u.state = .locked then v.giveUp k 9 u.bo else v
    let v := v.open_ k
    { v with enable := false, frozen := false, parityHold := false, row := 0, pullinLimit := false, mirrorLost := false,
             sel := { v.sel with pend := none, best := 0x1FF, noCand := false, holdoff := 0, driftExcl := false, driftIn := [],
                                 cands := v.sel.cands.map Cand.anew },
             ho := { v.ho.take with frozenE := none } }
  else { u with frozen := false, parityHold := false }

/-- FORCE written `f` (R160); 3 acts as 0. A forced HOLDOVER without a valid history is FREERUN. -/
def DpllUnit.writeForce (u : DpllUnit) (k f : Nat) : DpllUnit :=
  let v := { u with force := f }
  if !u.enable || u.frozen || u.parityHold then v
  else if f = 1 ∨ (f = 2 ∧ !u.holdValid) then (if u.state = .freerun then v else v.toFreerun k 9 u.bo)
  else if f = 2 then v.toHoldover k 9
  else v

/-- A write of DPLL_CTRL (R168): ENABLE first, then FORCE, then GLITCH_USE. -/
def DpllUnit.writeCtrl (u : DpllUnit) (k : Nat) (w : Word) (fw : Int) (fb : Bool) : DpllUnit :=
  let v := if bit w 0 then u.turnOn k fw fb else u.turnOff k
  let v := v.writeForce k (fld w 1 2)
  { v with glitchUse := bit w 3 }

/-- DPLL_CTRL as it reads (R168). -/
def DpllUnit.ctrl (u : DpllUnit) : Word := putb 0 u.enable ||| put 1 2 u.force ||| putb 3 u.glitchUse

/-- Abort completes (R160): FROZEN, STEER held, loop cleared; the log tells BO and RES after it (R213). -/
def DpllUnit.abort (u : DpllUnit) (k : Nat) : DpllUnit :=
  let c := { u with integ := 0, bo := 0, res := 0 }
  let v := if u.enable then c.toFreerun k 9 u.bo else c
  { v with frozen := true, gate := { v.gate with passed := 0 } }

/-- A configuration parity fault of an enabled DPLL (R160). `word` is the holdover word. -/
def DpllUnit.parityFault (u : DpllUnit) (k : Nat) : DpllUnit :=
  if u.enable then { (u.toHoldover k 9) with parityHold := true } else u

/-- The free-run word of DPLL `k` and its basis (R161). -/
def State.freeWordOf (s : State) (k : Nat) : Int × Bool :=
  let j := s.portOfDpll k
  if (s.model j).isQualified && s.cairn.valid then (ratRound (-(s.cairn.y + s.meterMean j)), true) else (0, false)

/-! ## Lock gates (R156 to R158) -/

/-- The gate length of the row in use against a reference period, in tenths of a second (R156). -/
def DpllUnit.gateLen (u : DpllUnit) (fref : Rat) : Nat :=
  let four : Nat := if fref = 0 then 0 else (40 / fref).ceil.toNat
  max u.rowNow.gate four

/-- The counts as they stand at boundary `k`; none before the DPLL has followed a word of each stream (R156). -/
def DpllUnit.gateAt (u : DpllUnit) (k : Nat) : Option GatePt :=
  match u.ref.last, u.fb with
  | some r, some f => some { k := k, refT := r.1, refN := r.2, fbT := f.1, fbOfs := f.2.1, fbN := f.2.2 }
  | _, _ => none

/-- delta of R156 in ppt between two boundaries, `pr` and `pf` being the nominal periods in 2^-16 ns: each count runs from boundary to
boundary, its end fractions being the nominal ones from the latest edge. DEDUCED, unsafe: log entry 52. -/
def gateDelta (a b : GatePt) (pr pf : Rat) : Rat :=
  let r := ((b.refN - a.refN : Int) : Rat) * pr - ((wrapDiff edgeMod b.refT a.refT : Int) : Rat)
  let f := ((b.fbN - a.fbN : Int) : Rat) * pf - (((wrapDiff edgeMod b.fbT a.fbT : Int) : Rat) + (b.fbOfs - a.fbOfs))
  let t : Rat := ((b.k - a.k : Nat) : Rat) / (winPerSec : Rat)
  if t = 0 then 0 else (r - f) / (edgePerSec : Rat) / t * 1000000000000

/-- delta of the gate that ends at boundary `k`; none when its ends have not both been counted. -/
def DpllUnit.deltaAt (u : DpllUnit) (k : Nat) (pr pf : Rat) : Option Rat :=
  match u.gate.start, u.gateAt k with
  | some a, some b => some (gateDelta a b pr pf)
  | _, _ => none

/-- A gate starts at boundary `k`. -/
def DpllUnit.startGate (u : DpllUnit) (k passed : Nat) : DpllUnit :=
  { u with gate := { running := true, startK := k, start := u.gateAt k, bad := false, passed := passed } }

/-- A LOCKED DPLL counts as unlocked (R158, R160): ACQUIRING, at ACQ_BW where it differs from BW, the first phase update timed from here
(R147, R157). -/
def DpllUnit.unlock (u : DpllUnit) (k : Nat) : DpllUnit :=
  let n := satInc u.locklossCnt
  { (u.startGate k 0) with state := .acquiring, stateAt := k, locklossCnt := n, hist := satFlag (setb u.hist 1) 9 n,
                           acqFast := decide (u.rowNow.acqBw ≠ 0), acqMoved := false, acqAt := k, lastUpd := none }

/-- A lock gate ends at boundary `k` with `delta` (R156 to R158, R160); `fref` is the reference's nominal frequency. At the move from
ACQ_BW to BW the integrator is reloaded with STEER - kp e of the latest phase update, so that STEER stays (R157).
DESIGN CHOICE, unsafe: log entry 54. -/
def DpllUnit.gateEnd (u : DpllUnit) (k : Nat) (fref : Rat) (delta : Option Rat) : DpllUnit :=
  if !u.gate.running ∨ (u.state ≠ .acquiring ∧ u.state ≠ .locked) then u
  else
    let r := u.rowNow
    let within := fun (lim : Rat) => match delta with | some d => decide (ratAbs d ≤ lim) | none => false
    let thr : Rat := r.lockThr
    if u.state = .locked then
      let lim := 4 * thr + (if u.res = 0 then 0 else (r.psl : Rat))
      if delta.isSome && !within lim then u.unlock k else u.startGate k u.gate.passed
    else if u.acqFast then
      -- the first gate within LOCK_THR moves to BW without a step in STEER, and is not counted (R157)
      if within thr then
        let v := { u with acqFast := false, acqMoved := true }
        let g := v.gainsNow fref
        let v := { v with integ := (v.steer : Rat) - g.1 * ((v.pherr - v.res) / (edgePerSec : Rat)) * wordOne }
        v.startGate k 0
      else u.startGate k 0
    else if within thr && decide (u.res = 0) && decide (ratAbs u.phLast ≤ (r.phWin : Rat)) && !u.gate.bad then
      if 2 ≤ u.gate.passed then
        { (u.startGate k 3) with state := .locked, stateAt := k, lastLockMts := mtsOf k, everLocked := true, hist := setb u.hist 0 }
      else u.startGate k (u.gate.passed + 1)
    else u.startGate k 0

/-- The gate length that decides whether a gate ends at a boundary: by the rows in force before a DPLL_SET_LOOP whose boundary it is (R155,
R164). -/
def DpllUnit.gateLenEval (u : DpllUnit) (fref : Rat) : Nat := ({ u with rows := u.rowsEval } : DpllUnit).gateLen fref

/-- A gate end uses the rows in force before a DPLL_SET_LOOP whose boundary it is (R155). -/
def DpllUnit.gateEval (u : DpllUnit) (k : Nat) (fref : Rat) (delta : Option Rat) : DpllUnit :=
  { ({ u with rows := u.rowsEval } : DpllUnit).gateEnd k fref delta with rows := u.rows }

/-- A phase update that leaves |PHERR - RES| above 4 PH_WIN unlocks a LOCKED DPLL (R158). -/
def DpllUnit.checkUnlock (u : DpllUnit) (k : Nat) : DpllUnit :=
  if u.state = .locked ∧ 4 * (u.rowNow.phWin : Rat) < ratAbs (u.pherr - u.res) then u.unlock k else u

/-! ## The boundary (R143, R145 to R153, R163) -/

/-- The numeric accumulator over one window ending at boundary `k` (R143, R125). -/
def DpllUnit.advanceNco (u : DpllUnit) (k : Nat) (valid : Bool) : DpllUnit :=
  let f : Rat := if u.cfg.ncoDen = 0 then 0 else (u.cfg.ncoNum : Rat) / (u.cfg.ncoDen : Rat) * (1 + (u.steer : Rat) / wordOne)
  let adv := u.ncoFrac + f / (winPerSec : Rat)
  -- ideal edges at whole cycle counts in [frac, adv): the first is 0 when the fraction is 0, else 1
  let first : Nat := if u.ncoFrac = 0 then 0 else 1
  let fl : Nat := adv.floor.toNat
  let last : Nat := if (fl : Rat) = adv then fl - 1 else fl
  let n : Nat := last + 1 - first
  let mid := first + (n - 1) / 2
  let t : Rat := if f = 0 then 0 else ((mid : Rat) - u.ncoFrac) / f * (edgePerSec : Rat)
  let w : PhaseWord :=
    if n = 0 then { u.ncoWord with edges := 0, valid := valid, numeric := true }
    else { edgeT := wrapNat edgeMod ((edgeOf (k - 1) : Int) + ratRound t), edges := n, valid := valid, numeric := true }
  { u with ncoWord := w, ncoIdx := if n = 0 then u.ncoIdx else u.ncoCyc + mid, ncoCyc := u.ncoCyc + fl, ncoFrac := adv - (fl : Rat) }

/-- DPLL_PHASE_ADJUST at its boundary: the amount is reduced so that |RES| stays within 1 ms (R166, R178). -/
def DpllUnit.applyAdjust (u : DpllUnit) : DpllUnit :=
  match u.adjust with
  | none => u
  | some o =>
    let lim : Rat := 65536000000
    let r := clampQ (-lim) lim (u.res - (o : Rat))
    let d := u.res - r
    { u with adjust := none, bo := u.bo - d, res := r, hist := setbIf u.hist 4 (decide (r ≠ 0)) }

/-- Rows written by DPLL_SET_LOOP are loaded at the end of the boundary; its evaluations use those in force before (R155). -/
def DpllUnit.loadRows (u : DpllUnit) : DpllUnit :=
  { u with rowsEval := u.rows, rows := u.rowPend.foldl (fun rs r => rs.set (r.1 - 1) r.2) u.rows, rowPend := [] }

/-- ACQ_FAST under the row in force: while ACQ_BW differs from BW, an ACQUIRING DPLL that has not moved to BW runs at ACQ_BW (R157). -/
def DpllUnit.acqNow (u : DpllUnit) : DpllUnit :=
  { u with acqFast := decide (u.state = .acquiring) && !u.acqMoved && decide (u.rowNow.acqBw ≠ 0) }

/-- A declared step `sz` of the reference is absorbed in BO, or released through RES (R153). -/
def DpllUnit.takeStep (u : DpllUnit) (sz : Rat) : DpllUnit :=
  if u.rowNow.sa then { u with bo := u.bo + sz, stepPend := false }
  else { u with res := u.res - sz, stepPend := false, hist := setbIf u.hist 4 (decide (u.res - sz ≠ 0)) }

/-- What DPLL `n` makes of its feedback word, and of the word of stream `i` whose view is DISQUALIFIED or not (R153). -/
def State.fbUse (s : State) (n : Nat) : Use := useOf true false (s.dpll n).glitchUse (s.streamWord (320 + n))
def State.refUse (s : State) (n i : Nat) (disq : Bool) : Use :=
  useOf (s.arrived (dieOfDpll n) i && s.exports i) disq (s.dpll n).glitchUse (s.streamWord i)

/-- The reference stream of a DPLL: its selected input, or its leader's feedback (R140). -/
def DpllUnit.refStream (u : DpllUnit) : Nat := if u.cfg.role = 2 then 320 + u.cfg.leader else u.selInput

/-- The words of the closing window are judged in every state of an enabled DPLL: an unusable one counts, fails the gate, and marks a step
that it declares (R153, R156, R173). -/
def State.countWords (s : State) (n : Nat) (disq : Bool) : DpllUnit :=
  let u := s.dpll n
  let w := s.streamWord u.refStream
  let has := decide (u.cfg.role = 2) || decide (u.selInput ≠ 0x1FF)
  let rm := has && (s.refUse n u.refStream disq).miss
  let fm := (s.fbUse n).miss
  let m := satAdd u.missCnt (b2n rm + b2n fm)
  { u with missCnt := m, hist := satFlag u.hist 9 m, gate := { u.gate with bad := u.gate.bad || rm || fm },
           stepPend := u.stepPend || (u.tracks && w.step && decide (s.refUse n u.refStream disq ≠ .usable)) }

/-- The time since the previous phase update in seconds; at the first after an entry into ACQUIRING, since that entry, from one window to
the longer of one window and one nominal period of the reference (R147). -/
def DpllUnit.updateTime (u : DpllUnit) (k : Nat) (fref : Rat) : Rat :=
  match u.lastUpd with
  | some t => ((k - t : Nat) : Rat) / (winPerSec : Rat)
  | none =>
    let win : Rat := 1 / (winPerSec : Rat)
    let top : Rat := if fref = 0 ∨ 1 / fref < win then win else 1 / fref
    clampQ win top (((k - u.acqAt : Nat) : Rat) / (winPerSec : Rat))

/-- A phase update of DPLL `n` at boundary `k` on reference word `w`, its cycle being counted (R145 to R150, R158). -/
def State.phaseUpdate (s : State) (n k : Nat) (w : PhaseWord) (fref : Rat) (u : DpllUnit) : DpllUnit :=
  let period : Rat := if fref = 0 then 0 else (edgePerSec : Rat) / fref
  let fb := s.fbPoint n
  let q := s.fbFreq n / (if fref = 0 then 1 else fref)
  let nn := match u.ref.last with | some (_, b) => b | none => 0
  let ahead := s.ahead n k
  let near := if u.fresh then 0 else u.pherr - u.bo - ahead
  let org := match u.ref.origin with | some o => o | none => nearestOrigin fb q w.edgeT nn near
  let ph := reducePhase period (rawPhase fb q w.edgeT nn org + ahead + u.bo)
  let dt := u.updateTime k fref
  let cl := decide (bwLimit fref < (u.bwCfg : Rat))
  let v := { u with ref := { u.ref with origin := some org }, pherr := ph, phLast := ph, res := if u.fresh then ph else u.res, fresh := false,
                    bwClamp := cl, hist := setbIf u.hist 8 cl, lastUpd := some k }
  (v.update (ph - v.res) dt fref).checkUnlock k

/-- The reference word and the feedback word of an ACQUIRING or LOCKED DPLL at boundary `k` (R145 to R153): a usable reference word is
counted and may take a declared step; with a usable feedback word there is a phase update. `i` is the reference stream, `disq` its
view. -/
def State.dpllTrack (s : State) (n i : Nat) (disq : Bool) (k : Nat) : DpllUnit :=
  let u := s.dpll n
  let w := s.streamWord i
  let fref := s.streamFreq i
  let fb := s.fbPoint n
  let fu := s.fbUse n
  let u := if fu = .usable then { u with fb := some (fb.1, fb.2.1, fb.2.2.1) } else u
  let v :=
    if s.refUse n i disq = .usable then
      let stepNow := w.step || u.stepPend
      let v := if stepNow then u.takeStep (u.ref.stepSize w fref) else u
      let v := { v with ref := u.ref.step w fref stepNow }
      if fu = .usable then s.phaseUpdate n k w fref v else v
    else u
  if v.gate.running ∧ v.gate.start.isNone then { v with gate := { v.gate with start := v.gateAt k } } else v

/-- Feedback supervision at a boundary: the runs of usable and unusable words, and the clearing of FB_FAULT (R153). -/
def State.dpllFbRuns (s : State) (n : Nat) (u : DpllUnit) : DpllUnit :=
  let wf := s.streamWord (320 + n)
  let ok := decide (useOf true false u.glitchUse wf ≠ .unusable)
  let u := { u with fbBadRun := if ok then 0 else u.fbBadRun + 1, fbGoodRun := if ok then u.fbGoodRun + 1 else 0 }
  let o := s.opll (s.fbOpllOf n)
  let lockOk := u.numeric || (decide (o.state = .locked) && !o.parityHold)
  if u.fbFault && !u.fbReconf && lockOk && decide (winPerMs ≤ u.fbGoodRun) then { u with fbFault := false } else u

/-- A mirror at a boundary: leader words bring it to ACQUIRING, with RES = PHERR and BO kept; its own loop runs as any other. Through a
timebase restart it holds its state (R45, R48, R163). DESIGN CHOICE, unsafe: log entry 54. -/
def State.dpllMirror (s : State) (n k : Nat) (u : DpllUnit) : DpllUnit :=
  let ok := decide (s.refUse n u.refStream false ≠ .unusable)
  let held := u.frozen || u.parityHold || u.fbFault || decide (u.force = 1) || decide (u.force = 2)
  if s.tb.restart then u
  else if ok then
    let u := { u with mirrorSilent := 0, mirrorHad := true }
    if (u.state = .freerun ∨ u.state = .holdover) ∧ !held then
      { (u.toAcquiring k) with mirrorLost := false, ref := {}, fresh := true }
    else { u with mirrorLost := false }
  else { u with mirrorSilent := u.mirrorSilent + 1 }

/-- A mirror without leader words for 32 windows (R48, R163): one that has had such a word enters HOLDOVER, from FREERUN too, unless it is
FROZEN, held by parity or forced (R160). -/
def DpllUnit.mirrorLoss (u : DpllUnit) (k : Nat) : DpllUnit :=
  if u.enable ∧ u.cfg.role = 2 ∧ 0 < u.mirrorSilent then
    let u := { u with mirrorLost := true, hist := setb u.hist 7 }
    if u.mirrorHad ∧ !(u.frozen || u.parityHold || decide (u.force = 1) || decide (u.force = 2)) then u.toHoldover k 9 else u
  else u

/-- FFO (R172): the mean over the last whole second, refreshed at the boundary that ends it; `steer` was in force over the window that
ends. -/
def State.dpllFfo (s : State) (n k : Nat) (steer : Int) (u : DpllUnit) : DpllUnit :=
  let u := { u with ffoSum := u.ffoSum + steer, ffoN := u.ffoN + 1 }
  if k % winPerSec = 0 then
    let c := s.chan (chanOfFb n)
    let cur := (c.word.edgeT, c.wordIdx)
    let x : Int :=
      if u.numeric then (if u.ffoN = winPerSec then divRound u.ffoSum winPerSec else 0)
      else match u.ffoOpen with
        | none => 0
        | some a => fmtFreq (gateOffset (if s.fbFreq n = 0 then 0 else (edgePerSec : Rat) / s.fbFreq n) a cur)
    { u with ffo := x, ffoOpen := some cur, ffoSum := 0, ffoN := 0 }
  else u

/-! ## Commands (R154, R155, R165, R166, R174 to R181) -/

/-- The default loop table (R154). -/
def defaultRows : List LoopRow :=
  [{ bo := true, sa := true, bw := 30000, damp := 320, gate := 10, acqBw := 300000, pullIn := 2000, psl := 1000000, lockThr := 1000,
     phWin := 655360 },
   { bo := true, sa := true, bw := 1000, damp := 320, gate := 10, acqBw := 10000, pullIn := 2000, psl := 1000000, lockThr := 1000,
     phWin := 6553600 },
   { bw := 100, damp := 128, gate := 160, acqBw := 1000, pullIn := 1000, psl := 100000, lockThr := 1000, phWin := 6553600 },
   { bo := true, sa := true, bw := 10, damp := 320, gate := 100, acqBw := 1000, pullIn := 2000, psl := 1000000, lockThr := 1000,
     phWin := 65536000 },
   { bo := true, sa := true, bw := 1000000, damp := 64, gate := 10, acqBw := 0, pullIn := 20000, psl := 1000000, lockThr := 100000,
     phWin := 655360 },
   { bw := 100, damp := 128, gate := 160, acqBw := 1000, pullIn := 2000, psl := 100000, lockThr := 1000, phWin := 6553600 },
   { bw := 10000000, damp := 64, gate := 10, acqBw := 0, pullIn := 20000, psl := 10000, lockThr := 1000, phWin := 65536 }]

/-- The configuration DPLL_CONFIG carries (R174). -/
def dpllCfgOf (p : List Byte) : DpllCfg :=
  { role := uAt p 2 1, opllMask := uAt p 3 1, fbOpll := uAt p 4 1, fbPrediv := uAt p 5 1, fbOutput := uAt p 6 2, leader := uAt p 8 2,
    ncoNum := uAt p 16 8, ncoDen := uAt p 24 4 }

/-- The feedback frequency a configuration would have, in Hz. -/
def State.fbFreqOf (s : State) (c : DpllCfg) : Rat :=
  if c.opllMask = 0 then (if c.ncoDen = 0 then 0 else (c.ncoNum : Rat) / (c.ncoDen : Rat))
  else s.outFreq c.fbOutput / (predivOf c.fbPrediv : Rat)

/-- A configuration that R181 rejects with ERR_BAD_PARAM (R47, R142, R143). -/
def State.dpllCfgBad (s : State) (n : Nat) (p : List Byte) : Bool :=
  let c := dpllCfgOf p
  let f := s.fbFreqOf c
  decide (2 < c.role) || decide (16 ≤ c.opllMask) || decide (3 < c.fbOpll) || decide (3 < c.fbPrediv) || decide (128 ≤ c.fbOutput) ||
    decide (64 ≤ c.leader) || !rsv p 10 6 || !rsv p 28 4 || decide (2 ^ 40 ≤ c.ncoNum) || decide (2 ^ 24 ≤ c.ncoDen) ||
    (decide (c.role = 0) && (decide (c.opllMask ≠ 0) || decide (c.fbOpll ≠ 0) || decide (c.fbPrediv ≠ 0) || decide (c.fbOutput ≠ 0) ||
      decide (c.leader ≠ 0) || decide (c.ncoNum ≠ 0) || decide (c.ncoDen ≠ 0))) ||
    (decide (c.role ≠ 2) && decide (c.leader ≠ 0)) ||
    (decide (c.opllMask = 0) && (decide (c.fbOpll ≠ 0) || decide (c.fbPrediv ≠ 0) || decide (c.fbOutput ≠ 0))) ||
    (decide (c.opllMask ≠ 0) && (decide (c.ncoNum ≠ 0) || decide (c.ncoDen ≠ 0) || !c.opllMask.testBit c.fbOpll ||
      decide (dieOfOut c.fbOutput ≠ dieOfDpll n) || decide ((s.out c.fbOutput).src ≠ c.fbOpll) || (s.out c.fbOutput).pps ||
      !(s.out c.fbOutput).configured || decide (f < 1000) || decide (390000000 < f))) ||
    (decide (c.opllMask = 0) && decide (c.role ≠ 0) && (decide (c.ncoDen = 0) || decide (f < 1000) || decide (400000000 < f))) ||
    (decide (c.role = 2) && (decide (c.leader = n) || decide ((s.dpll c.leader).cfg.role = 2) ||
      (s.all 8).any (fun k => decide (k ≠ n) && decide ((s.dpll k).cfg.role = 2) && decide ((s.dpll k).cfg.leader = n))))

/-- Checks common to the DPLL commands: family range, absence, die. -/
def dpllChecks (s : State) (n : Nat) : List (Bool × Nat) :=
  [(decide (n < 64) && !s.hasDpll n, retAbsent), (decide (n < 64) && !s.dieUp (dieOfDpll n), retNotReady),
   (decide (64 ≤ n), retBadParam)]

/-- The accepted DPLL_CONFIG (R175, R182, R213). -/
def DpllUnit.config (u : DpllUnit) (c : DpllCfg) (k : Nat) : DpllUnit :=
  let disc := decide (c.role ≠ u.cfg.role ∨ c.opllMask ≠ u.cfg.opllMask ∨ c.fbOpll ≠ u.cfg.fbOpll)
  { u with cfg := c, rows := defaultRows, rowsEval := defaultRows, rowPend := [], integ := 0, bo := 0, res := 0, gate := {}, hostSteer := 0, frozen := false,
           parityHold := false, fbFault := false, fbReconf := false, state := .freerun, stateAt := k, everLocked := false, adjust := none,
           row := 0, ho := if disc then u.ho.discard else u.ho,
           sel := if c.role = 1 then { u.sel with log := [] }
                  else { u.sel with log := [], cands := [], listPend := none, set := {}, eff := {}, best := 0x1FF, noCand := false,
                                    elig := 0, prevBest := 0x1FF, prevElig := 0, eligIn := [], prevIn := [], pend := none } }

/-- OPLL `o` is steered by another DPLL than `n` (R175). -/
def State.heldByOther (s : State) (n o : Nat) : Bool := match s.holderOf o with | some k => decide (k ≠ n) | none => false

def dpllConfigReply (_c : Nat) (p : List Byte) (s : State) : Reply :=
  let n := uAt p 0 2
  let c := dpllCfgOf p
  let absent := (decide (n < 64) && !s.hasDpll n) || (decide (c.opllMask ≠ 0) && decide (c.fbOutput < 128) && !s.hasOut c.fbOutput) ||
    (decide (c.role = 2) && decide (c.leader < 64) && !s.hasDpll c.leader)
  let busy := (s.dpll n).enable || (List.range 4).any fun o => c.opllMask.testBit o && s.heldByOther n (4 * dieOfDpll n + o)
  guarded s
    [(absent, retAbsent),
     ((decide (n < 64) && !s.dieUp (dieOfDpll n)) || (decide (c.role = 2) && decide (c.leader < 64) && !s.dieUp (dieOfDpll c.leader)), retNotReady),
     (decide (64 ≤ n) || s.dpllCfgBad n p, retBadParam), (busy, retBusy)]
    (okReply (s.modDpll n fun u => u.config c s.tb.k))

/-- The row DPLL_SET_LOOP carries; an ACQ_BW equal to BW is stored as 0 (R176). -/
def rowOf (p : List Byte) : LoopRow :=
  let bw := uAt p 4 4
  let acq := uAt p 12 4
  { bo := (uAt p 3 1).testBit 0, sa := (uAt p 3 1).testBit 1, bw := bw, damp := uAt p 8 2, gate := uAt p 10 2,
    acqBw := if acq = bw then 0 else acq, pullIn := uAt p 16 4, psl := uAt p 20 4, lockThr := uAt p 24 4, phWin := uAt p 32 8 }

/-- A row that R155 and R176 reject. -/
def rowBad (p : List Byte) : Bool :=
  let r := uAt p 2 1
  let q := rowOf p
  let acq := uAt p 12 4
  decide (r = 0) || decide (7 < r) || decide (4 ≤ uAt p 3 1) || decide (q.bw = 0) || decide (40000000 < q.bw) ||
    (decide (r = 7) && decide (q.bw < 1000000)) || decide (q.damp < 16) || decide (2048 < q.damp) || decide (q.gate = 0) ||
    decide (1000 < q.gate) || (decide (acq ≠ 0) && (decide (acq < q.bw) || decide (40000000 < acq))) || decide (q.pullIn = 0) ||
    decide (20000 < q.pullIn) || decide (q.psl = 0) || decide (1000000 < q.psl) || decide (q.lockThr = 0) ||
    decide (100000000 < q.lockThr) || decide (q.phWin < 656) || decide (65536000000 < q.phWin) || !rsv p 28 4

/-- The ROLE = 0 refusal of R181. -/
def roleOff (s : State) (n : Nat) : Bool × Nat := (decide (n < 64) && decide ((s.dpll n).cfg.role = 0), retNotReady)

def dpllSetLoopReply (_c : Nat) (p : List Byte) (s : State) : Reply :=
  let n := uAt p 0 2
  guarded s (roleOff s n |> fun r => (dpllChecks s n).take 2 ++ [r, (decide (64 ≤ n) || rowBad p, retBadParam)])
    (okReply (s.modDpll n fun u => { u with rowPend := u.rowPend ++ [(uAt p 2 1, rowOf p)] }))

/-- A row in the layout of R176. -/
def rowBytes (n r : Nat) (q : LoopRow) : List Byte :=
  leBytes 2 n ++ leBytes 1 r ++ leBytes 1 (b2n q.bo + 2 * b2n q.sa) ++ leBytes 4 q.bw ++ leBytes 2 q.damp ++ leBytes 2 q.gate ++
    leBytes 4 q.acqBw ++ leBytes 4 q.pullIn ++ leBytes 4 q.psl ++ leBytes 4 q.lockThr ++ zeros 4 ++ leBytes 8 q.phWin

def dpllGetLoopReply (_c : Nat) (p : List Byte) (s : State) : Reply :=
  let n := uAt p 0 2
  let r := uAt p 2 1
  guarded s (dpllChecks s n ++ [(decide (r = 0) || decide (7 < r) || !rsv p 3 1, retBadParam)])
    (okWith (rowBytes n r ((s.dpll n).rowAt r)) s)

def dpllSetSteerReply (_c : Nat) (p : List Byte) (s : State) : Reply :=
  let n := uAt p 0 2
  let o := sAt p 8 8
  guarded s ((dpllChecks s n).take 2 ++
      [roleOff s n, (decide (64 ≤ n) || !rsv p 2 6 || decide (204800000000 < o.natAbs), retBadParam)])
    (okReply (s.modDpll n fun u => { u with hostSteer := o }))

def dpllPhaseAdjustReply (_c : Nat) (p : List Byte) (s : State) : Reply :=
  let n := uAt p 0 2
  let o := sAt p 8 8
  guarded s ((dpllChecks s n).take 2 ++
      [roleOff s n, (decide (64 ≤ n) || !rsv p 2 6 || decide (65536000000 < o.natAbs) ||
        decide ((65536000000 : Rat) < ratAbs ((s.dpll n).res - (o : Rat))), retBadParam)])
    (okReply (s.modDpll n fun u => { u with adjust := some (u.adjust.getD 0 + o) }))

/-- DPLL_STAT (R170). -/
def DpllUnit.stat (u : DpllUnit) : Word :=
  put 0 2 u.state.code ||| putb 2 u.holdValid ||| putb 3 (decide (u.res ≠ 0)) ||| putb 4 u.pullinLimit ||| putb 5 u.fbFault |||
    putb 6 u.mirrorLost ||| putb 7 u.frozen ||| putb 8 u.parityHold ||| putb 9 u.acqFast ||| putb 10 u.frBasis ||| putb 11 u.bwClamp |||
    put 12 2 u.gate.passed ||| put 16 9 u.selInput ||| put 25 3 u.row

/-- BW_EFF of R179 for a reference frequency. -/
def DpllUnit.bwReport (u : DpllUnit) (fref : Rat) : Nat :=
  if u.enable ∧ (u.state = .acquiring ∨ u.state = .locked) then (u.bwEff fref).floor.toNat else 0

/-- The DPLL_GET_STATUS response (R179). -/
def State.dpllStatusBytes (s : State) (n : Nat) : List Byte :=
  let u := s.dpll n
  leBytes 2 n ++ leBytes 1 u.state.code ++ leBytes 1 u.cfg.role ++ leBytes 4 u.stat.toNat ++ leBytes 2 (none16 u.selInput) ++
    leBytes 1 u.row ++ zeros 1 ++ leBytes 4 (min 0xFFFFFFFF ((s.tb.k - u.stateAt) / winPerSec)) ++ leBytesI 8 (fmtPhase u.phLast) ++
    leBytesI 8 u.steer ++ leBytesI 8 u.ffo ++ leBytesI 8 (fmtPhase u.bo) ++ leBytesI 8 (fmtPhase u.res) ++
    leBytes 4 (u.bwReport (s.streamFreq u.refStream)) ++ zeros 4 ++ leBytes 8 u.lastLockMts ++ leBytes 8 u.lastHoldMts ++
    leBytes 4 u.locklossCnt ++ leBytes 4 u.missCnt ++ leBytes 4 u.holdCnt ++ zeros 4

def dpllGetStatusReply (_c : Nat) (p : List Byte) (s : State) : Reply :=
  let n := uAt p 0 2
  guarded s (dpllChecks s n ++ [(!rsv p 2 2, retBadParam)]) (okWith (s.dpllStatusBytes n) s)

end Sys2Proof.Machine
end

