-- ==== Sys2Proof/Machine/Trigger.lean ====
section
/-! DEFINITION. Triggers of the stitch engines (R365, R366) and the events they collect (R362). -/

namespace Sys2Proof.Machine
open Sys2Proof

/-- The engine of DPLL `n`, of time domain `t`, and of the group of output `m` (R355). -/
def engineOfDpll (n : Nat) : Nat := 28 * (n / 8) + n % 8
def engineOfTd (t : Nat) : Nat := 28 * (t / 16) + 8 + t % 16
def engineOfOut (m : Nat) : Nat := 28 * (m / 16) + 24 + m % 16 / 4

/-- The class of an engine: 0 DPLL, 1 TD, 2 OUT (R355). -/
def classOf (e : Nat) : Nat := if e % 28 < 8 then 0 else if e % 28 < 24 then 1 else 2

/-- An engine runs a program at point `p` (R365). -/
def Stitch.ready (u : Stitch) (p : Nat) : Bool := u.enable && u.loaded && decide (u.entries.getD p 0xFF ≠ 0xFF)

/-- Inserts a trigger in ascending order of its point. -/
def insTrig (p : Nat) (ctx : List Word) : List (Nat × List Word) → List (Nat × List Word)
  | [] => [(p, ctx)]
  | t :: ts => if p < t.1 then (p, ctx) :: t :: ts else t :: insTrig p ctx ts

/-- A trigger of point `p` with its context words (R365, R366): it waits for STITCH_INVOKE; one that finds its point
already pending is dropped and counted. -/
def Stitch.trigger (u : Stitch) (p : Nat) (ctx : List Word) : Stitch :=
  if u.ready p then
    if u.trig.any fun t => decide (t.1 = p) then
      let n := satInc u.skipCnt
      { u with skipCnt := n, hist := satFlag (setb u.hist 2) 6 n, happened := u.happened ++ [{ sub := 2, data := p }] }
    else { u with trig := insTrig p ctx u.trig }
  else u

/-- An event bit rises; it becomes pending only during an invocation (R362). -/
def Stitch.event (u : Stitch) (b : Nat) : Stitch :=
  if u.busy && !u.events.testBit b then { u with events := u.events + 2 ^ b } else u

/-- A natural number as a context word. -/
def cw (n : Nat) : Word := BitVec.ofNat 32 n

/-- The low and the high word of a 64-bit value. -/
def cw2 (n : Nat) : List Word := [cw (n % 2 ^ 32), cw (n / 2 ^ 32 % 2 ^ 32)]

/-- The low and the high word of a signed 64-bit value. -/
def cwI (x : Int) : List Word := [loWord x, hiWord x]

end Sys2Proof.Machine
end

