-- ==== Sys2Proof/Machine/Selection.lean ====
section
/-! DEFINITION. Reference selection and hitless switching of a DPLL (chapter 05): candidate views and estimates,
eligibility, the decision, the switch, the return check, drift exclusion, and the selection commands. -/

namespace Sys2Proof.Machine
open Sys2Proof

/-! ## Views (R90, R180) -/

/-- The view DPLL `n` has of entry `c`: state and cause (R90). DEDUCED, unsafe: log entry 51. -/
def State.candView (s : State) (n : Nat) (c : Cand) : Nat × Nat :=
  let d := dieOfInput c.input
  let own := if s.selects n c.input then 3 else 2
  if d = dieOfDpll n then
    match (s.input c.input).state with
    | .disqualified => (0, (s.input c.input).cause)
    | .qualifying => (1, (s.input c.input).cause)
    | .qualified => (own, (s.input c.input).cause)
  else if !s.dieUp d || c.dieDown then (0, 12)
  else if c.stream then (0, 11)
  else if c.cState = 0 then (0, c.cCause)
  else if 0 < c.remWtr then (1, c.rCause)
  else if c.cState = 1 then (1, c.cCause)
  else (own, c.cCause)

/-- Remaining wait-to-restore time of the view, in ms (R180). -/
def State.candWtr (s : State) (n : Nat) (c : Cand) : Nat :=
  match (s.candView n c).1 with
  | 1 => max c.remWtr (if (s.input c.input).state = .qualifying then (s.input c.input).wtrLeft else 0)
  | _ => 0

/-! ## Estimates (R185, R199) -/

/-- 16 s in update windows (R199, R200). -/
def win16s : Nat := 16 * winPerSec

/-- The fitted estimates at boundary `k` from the latest points: phase, not reduced, and slope (R185). -/
def fitCand (k : Nat) (pts : List (Nat × Rat)) : Rat × Rat :=
  let f := lineFit (pts.map fun p => (((wrapDiff edgeMod p.1 (edgeOf k) : Int) : Rat), p.2)) 0
  if pts.length ≤ 1 then (f.1, 0) else f

/-- The prediction advanced by one window under the steering word `steer` (R199). -/
def Cand.advance (c : Cand) (steer : Int) : Cand :=
  match c.pred with
  | none => c
  | some (x, f0, s0) =>
    { c with pred := some (x + (f0 - ((steer : Rat) - s0)) / wordOne * ((edgePerSec : Rat) / (winPerSec : Rat)), f0, s0) }

/-- A word of entry `c` is disqualified for DPLL `n`: by its STATE field or by the remote view (R153). -/
def State.candDisq (s : State) (n : Nat) (c : Cand) : Bool :=
  decide ((s.streamWord c.input).state = 0) ||
    (decide (dieOfInput c.input ≠ dieOfDpll n) && decide ((s.candView n c).1 = 0))

/-- The view of entry `c` after the words of a window: what the word carries, or one more window without a word (R90). -/
def State.candSeen (s : State) (n : Nat) (c : Cand) : Cand :=
  let w := s.streamWord c.input
  if s.arrived (dieOfDpll n) c.input then
    { c with cState := w.state, cCause := w.cause, silent := 0, stream := false,
             remWtr := if c.stream then (s.input c.input).mon.wtr * 1000 else c.remWtr }
  else { c with silent := if s.dieUp (dieOfInput c.input) then c.silent + 1 else 0 }

/-- Entry `c` of an enabled DPLL `n` at boundary `k`, its view being known: its point, its estimates and its prediction (R185, R199). A
usable word gives its point also against an empty feedback word; against an unusable one it gives none.
DEDUCED, unsafe: log entry 26. -/
def State.candBoundary (s : State) (n k : Nat) (c : Cand) : Cand :=
  let u := s.dpll n
  let w := s.streamWord c.input
  let disq := s.candDisq n c
  let use := useOf (s.arrived (dieOfDpll n) c.input) disq u.glitchUse w
  let fref := s.streamFreq c.input
  let period : Rat := if fref = 0 then 0 else (edgePerSec : Rat) / fref
  if use = .unusable then
    let c := if c.usable && c.everUsable && !c.check then { c with goneAt := some k, pred := some (c.phOfs, c.fofs, (u.steer : Rat)) }
             else c.advance u.steer
    { c with usable := false, hadEdge := false, pts := [] }
  else
    -- usable again: after 16 s or less no check follows (R199)
    let c := if c.usable || c.check then c
      else match c.goneAt with
        | none => c
        | some g => if k - g ≤ win16s then { c with goneAt := none, pred := none } else { c with check := true }
    let c := { c.advance u.steer with usable := true, everUsable := true }
    let c :=
      if use = .usable then
        let f := c.fol.step w fref w.step
        if s.fbUse n ≠ .unusable then
          let fb := s.fbPoint n
          let q := s.fbFreq n / (if fref = 0 then 1 else fref)
          let nn := match f.last with | some (_, b) => b | none => 0
          let org := match f.origin with | some o => o | none => nearestOrigin fb q w.edgeT nn 0
          { c with fol := { f with origin := some org }, hadEdge := true,
                   pts := lastN 32 (c.pts ++ [(w.edgeT, rawPhase fb q w.edgeT nn org + s.ahead n k)]) }
        else { c with fol := f, hadEdge := true }
      else if w.step then { c with fol := { c.fol with hist := [] } }
      else c
    if c.pts.isEmpty then c
    else
      let e := fitCand k c.pts
      { c with phOfs := reducePhase period e.1, fofs := e.2 * wordOne }

/-- All entries of DPLL `n` at boundary `k` (R184, R185); a disabled DPLL forms no estimates, its views stand (R180). -/
def State.selBoundary (s : State) (n k : Nat) : List Cand :=
  let u := s.dpll n
  if u.cfg.role = 1 then
    u.sel.cands.map fun c => if u.enable then s.candBoundary n k (s.candSeen n c) else s.candSeen n c
  else u.sel.cands

/-! ## Eligibility (R186) -/

/-- Rank of an entry as the latest tick took it (R71). -/
def State.rankOf (s : State) (i : Nat) : Nat := (s.input i).rankEff

/-- Every condition of R186 except the two register bits. -/
def State.candFit (s : State) (n : Nat) (c : Cand) : Bool :=
  decide (2 ≤ (s.candView n c).1) && decide (s.rankOf c.input ≠ 255) && c.usable && c.hadEdge

/-- Entry `i` of DPLL `n` is eligible (R186); a named input that a later list has left out is not (R212). -/
def State.eligibleAt (s : State) (n i : Nat) : Bool :=
  let q := (s.dpll n).sel
  match q.cands[i]? with
  | none => false
  | some c =>
    let named := decide (q.eff.mode = 3) && decide (c.input = q.eff.manual)
    let gone := q.eff.gone && decide (c.input = q.eff.manual)
    s.candFit n c && !gone && (named || (!q.lockEff.testBit i && !q.retblk.testBit i))

/-- Input `x` is an eligible entry of DPLL `n`. -/
def State.eligibleIn (s : State) (n x : Nat) : Bool :=
  (List.range 16).any fun i => s.eligibleAt n i && decide (((s.dpll n).sel.cands.getD i {}).input = x)

/-- Input `x` is still eligible at the switch boundary: in a timebase restart the words are invalid and the tick's answer stands, unless the
entry has been disqualified since (R194, R202). DEDUCED, unsafe: log entry 26. -/
def State.stillEligible (s : State) (n x : Nat) : Bool :=
  let q := (s.dpll n).sel
  if s.tb.restart then
    (List.range 16).any fun i => q.elig.testBit i && decide ((q.cands.getD i {}).input = x) && decide (2 ≤ (s.candView n (q.cands.getD i {})).1)
  else s.eligibleIn n x

/-- The eligible entries as list-index bits. -/
def State.eligBits (s : State) (n : Nat) : Nat := sumN ((List.range 16).map fun i => if s.eligibleAt n i then 2 ^ i else 0)

/-- Input `a` comes before input `b` by (rank, priority, global index) (R71, R189). -/
def State.better (s : State) (a b : Nat) : Bool :=
  let x := s.input a
  let y := s.input b
  decide (x.rankEff < y.rankEff) ||
    (decide (x.rankEff = y.rankEff) && (decide (x.prioEff < y.prioEff) || (decide (x.prioEff = y.prioEff) && decide (a < b))))

/-- The best of a list of inputs; 0x1FF for none (R189). -/
def State.bestOf (s : State) : List Nat → Nat
  | [] => 0x1FF
  | a :: l => let b := s.bestOf l
    if b = 0x1FF then a else if s.better a b then a else b

/-- The eligible inputs of DPLL `n`. -/
def State.eligInputs (s : State) (n : Nat) : List Nat :=
  (List.range 16).flatMap fun i => if s.eligibleAt n i then [((s.dpll n).sel.cands.getD i {}).input] else []

/-! ## The decision (R187 to R191) -/

/-- The want of R189 from the mode, the eligible inputs, the best, the current reference and the hold-off.
DEDUCED, unsafe: log entry 26. -/
def State.wantOf (s : State) (mode m cur : Nat) (elig : List Nat) (best : Nat) (hold : Bool) : Nat :=
  let curIn := decide (cur ≠ 0x1FF) && elig.contains cur
  let mIn := decide (m ≠ 0x1FF) && elig.contains m
  let keep := curIn && decide (s.rankOf cur ≤ s.rankOf best)
  let want := match mode with
    | 0 => best
    | 1 => if keep then cur else best
    | 2 => if mIn then m else if keep then cur else best
    | _ => if mIn then m else 0x1FF
  if decide (mode ≠ 3) && curIn && decide (want ≠ cur) && hold && !(decide (mode = 2) && decide (want = m)) then cur else want

/-- The reason of a switch (R213). DEDUCED, unsafe: log entry 26. -/
def State.reasonOf (s : State) (n cur want : Nat) : Nat :=
  let q := (s.dpll n).sel
  if want = 0x1FF then 6
  else if cur = 0x1FF then 8
  else if !(q.cands.any fun c => decide (c.input = cur)) then 7
  else if !s.eligibleIn n cur then 1
  else if decide (2 ≤ q.eff.mode) && decide (want = q.eff.manual) then 4
  else if s.rankOf want < s.rankOf cur then 3 else 2

/-- The conditions of R187 for taking a decision. -/
def State.decides (s : State) (n : Nat) : Bool :=
  let u := s.dpll n
  u.enable && decide (u.cfg.role = 1) && (decide (u.force = 0) || decide (u.force = 3)) && !u.frozen && !u.parityHold && !u.fbFault &&
    !s.tb.restart

/-- A new list takes effect: carried entries keep their estimates, records and bits (R183). DEDUCED, unsafe: log entry 26. -/
def Sel.newList (q : Sel) (l : List Nat) : Sel :=
  let idx := fun (i : Nat) => (List.range q.cands.length).find? fun j => decide ((q.cands.getD j {}).input = i)
  let bits := fun (w : Nat) => sumN ((List.range l.length).map fun j =>
    match idx (l.getD j 0x1FF) with
    | some o => if w.testBit o then 2 ^ j else 0
    | none => 0)
  { q with listPend := none,
           cands := l.map fun i => match idx i with | some o => q.cands.getD o {} | none => { input := i },
           lockout := bits q.lockout, retblk := bits q.retblk }

/-- The remote wait-to-restore times and the end of DIE_DOWN at a tick (R90). DEDUCED, unsafe: log entry 51. -/
def State.candTick (s : State) (n : Nat) (c : Cand) : Cand :=
  let d := dieOfInput c.input
  if d = dieOfDpll n then c
  else if !s.dieUp d then { c with dieDown := true, rCause := 12 }
  else if c.dieDown then { c with dieDown := false, remWtr := (s.input c.input).mon.wtr * 1000 }
  else if 0 < c.remWtr ∧ !c.stream then { c with remWtr := c.remWtr - 1 } else c

/-- The view of input entry `c` once its die `d` has gone down (R90). -/
def Cand.down (c : Cand) (d : Nat) : Cand := if dieOfInput c.input = d then { c with dieDown := true, rCause := 12 } else c

/-- DIE_UP of die `d` has fallen: every view of its inputs from another die has the cause DIE_DOWN, and serves its wait-to-restore time
once the die is up again (R90). -/
def State.viewsDown (s : State) (d : Nat) : State :=
  s.forEach (s.all 8) fun t n =>
    if dieOfDpll n = d then t
    else t.modDpll n fun u => { u with sel := { u.sel with cands := u.sel.cands.map fun (c : Cand) => c.down d } }

/-- The limit of the return check in 2^-16 ns (R200): PJ_THRESH in 2^-4 ns and RET_ALLOW in 0.1 ppb over `gap` windows. -/
def returnLimit (pj allow gap : Nat) : Rat :=
  (pj * 4096 : Nat) + (allow : Rat) * (gap : Rat) * (edgePerSec : Rat) / (winPerSec : Rat) / 10000000000

/-- The return checks of a tick (R200): entry `i` after its check. -/
def State.returnCheck (s : State) (n k : Nat) (q : Sel) (i : Nat) : Sel :=
  match q.cands[i]? with
  | none => q
  | some c =>
    if c.check && s.candFit n c && ((decide (q.eff.mode = 3) && decide (c.input = q.eff.manual)) || !q.lockEff.testBit i) then
      let fref := s.streamFreq c.input
      let period : Rat := if fref = 0 then 0 else (edgePerSec : Rat) / fref
      let pj := (s.input c.input).mon.pjThresh
      let d := match c.pred with | some p => reducePhase period (c.phOfs - p.1) | none => 0
      let gap := match c.goneAt with | some g => k - g | none => 0
      let jump := decide (pj ≠ 0) && decide (returnLimit pj q.eff.retAllow gap < ratAbs d)
      let q := { q with cands := q.cands.set i { c with check := false, goneAt := none, pred := none } }
      if jump then
        let m := satInc q.retjumpCnt
        { q with retjumpCnt := m, hist := satFlag (setb q.hist 2) 8 m, happened := q.happened ++ [{ sub := 2, data := fromTo (s.dpll n).selInput c.input }],
                 retblk := if q.eff.retBlock && !q.retblk.testBit i then q.retblk + 2 ^ i else q.retblk }
      else q
    else q

/-- The context words of the hooks (R365). -/
def State.hookCtx (s : State) (n k want : Nat) (prev : Nat) : List Word :=
  let u := s.dpll n
  let w := u.sel.cands.find? fun c => decide (c.input = want)
  [cw u.selInput, cw want, cw u.sel.best, cw u.sel.elig, cw u.sel.eff.mode] ++ cw2 (mtsOf k) ++ [cw prev] ++
    cwI (match w with | some c => fmtPhase c.phOfs | none => 0) ++ cwI (match w with | some c => fmtFreq c.fofs | none => 0)

/-- Triggers point `p` of DPLL `n`'s engine. -/
def State.trigger (s : State) (e p : Nat) (ctx : List Word) : State := s.modStitch e fun u => u.trigger p ctx

/-- The first half of a tick of DPLL `n`: settings and list take effect, views advance, checks are made, eligibility and
best are formed (R183, R186, R200, R212). -/
def State.selTick (s : State) (n k : Nat) : State :=
  let u := s.dpll n
  let q := { u.sel with eff := u.sel.set, lockEff := u.sel.lockout }
  let q := match q.listPend with
    | some l => let r := q.newList l
      { r with lockEff := r.lockout }
    | none => q
  let q := { q with cands := q.cands.map (s.candTick n), holdoff := if k < q.holdoff then q.holdoff else 0 }
  let s := s.setDpll n { u with sel := q }
  let q := if u.enable then (List.range 16).foldl (fun r i => s.returnCheck n k r i) q else q
  let s := s.setDpll n { u with sel := q }
  let l := s.eligInputs n
  let b := s.bestOf l
  s.setDpll n { u with sel := { q with prevBest := q.best, prevElig := q.elig, prevIn := q.eligIn, best := b, elig := s.eligBits n, eligIn := l,
                                       noCand := decide (b = 0x1FF), hist := setbIf q.hist 1 (decide (b = 0x1FF)) } }

/-- The decision of DPLL `n` at tick `k` (R187 to R193), after `selTick`. A forced want ignores lockout and blocking. -/
def State.selDecide (s : State) (n k : Nat) : State :=
  if s.decides n then
    let u := s.dpll n
    let q := u.sel
    let want := s.wantOf q.eff.mode q.eff.manual u.selInput (s.eligInputs n) q.best (decide (k < q.holdoff))
    let change := decide (want ≠ u.selInput)
    let hook := change && decide (want ≠ 0x1FF) && decide (q.eff.mode ≠ 3) && q.eff.hookSw && (s.stitch (engineOfDpll n)).ready 0
    let ctx := s.hookCtx n k want q.prevElig
    let s1 :=
      if change then
        s.setDpll n { u with sel := { q with pend := some { want := want, reason := s.reasonOf n u.selInput want, hook := hook, atK := k },
                                             verdict := if hook then 0 else q.verdict,
                                             verdictInput := if hook then 0 else q.verdictInput } }
      else s
    if hook then s1.trigger (engineOfDpll n) 0 (ctx.set 7 0) else s1
  else s

/-- Two ticks have the same eligible inputs; the order of the list carries no meaning (R182, R191). -/
def sameInputs (a b : List Nat) : Bool := (a.all fun x => b.contains x) && b.all fun x => a.contains x

/-- The on-change hook of DPLL `n` at tick `k`: it runs at every tick at which the best or the set of eligible entries has changed, whether
or not a decision is taken, except in FORCED mode (R188, R191). WANT is then the pending switch's, or the current reference.
DEDUCED, unsafe: log entry 26. -/
def State.selChange (s : State) (n k : Nat) : State :=
  let u := s.dpll n
  let q := u.sel
  let want := match q.pend with | some p => p.want | none => u.selInput
  if u.enable && q.eff.hookChg && decide (q.eff.mode ≠ 3) && (decide (q.best ≠ q.prevBest) || !sameInputs q.eligIn q.prevIn) then
    s.trigger (engineOfDpll n) 1 (s.hookCtx n k want q.prevElig)
  else s

/-- The whole decision tick of the selection of DPLL `n`: mirrors and disabled DPLLs take no decision (R46, R187). -/
def State.dpllTick (s : State) (n k : Nat) : State :=
  if (s.dpll n).cfg.role = 1 then
    let s1 := s.selTick n k
    let u := s1.dpll n
    let s1 := if u.enable then s1
      else s1.setDpll n { u with sel := { u.sel with best := 0x1FF, noCand := false, elig := 0, eligIn := [], hist := (s.dpll n).sel.hist } }
    (s1.selDecide n k).selChange n k
  else s

/-! ## The switch (R192 to R196) -/

/-- BO and RES after a switch under R195, and whether BO absorbs: `old` is PHERR_old, `new` PH_OFS_new. -/
def switchPhase (boFlag : Bool) (old new res : Rat) : Rat × Rat :=
  if boFlag then (old - new, res) else (0, new - (old - res))

/-- DPLL `n` takes input `t` at boundary `k` (R160, R193, R195). DEDUCED, unsafe: log entry 51. DEDUCED, unsafe: log entry 52. -/
def State.takeInput (s : State) (n t reason k : Nat) : DpllUnit :=
  let u := s.dpll n
  let c := (u.sel.cands.find? fun c => decide (c.input = t)).getD {}
  let o := u.sel.cands.find? fun c => decide (c.input = u.selInput)
  let row := (s.input t).decl.type
  let flag := (u.rowAt row).bo
  let old : Rat := if u.tracks then (match o with | some x => if x.usable then x.phOfs + u.bo else u.phLast | none => u.phLast) else u.res
  let fref := s.streamFreq t
  let period : Rat := if fref = 0 then 0 else (edgePerSec : Rat) / fref
  let until' := k + winPerMs * u.sel.eff.holdoffMs
  let v : DpllUnit :=
    if u.state = .freerun then
      let r := reducePhase period (reducePhase (s.fbPoint n).2.2.2 c.phOfs)
      { (u.toAcquiring k) with row := row, bo := 0, res := r, pherr := r, fresh := true, ref := { c.fol with origin := none } }
    else
      let p := switchPhase flag old c.phOfs u.res
      let v := if u.state = .holdover then u.toAcquiring k
        else { u with gate := { running := true, startK := k, start := none, bad := false, passed := if u.state = .locked then 3 else 0 } }
      { v with row := row, bo := p.1, res := p.2, pherr := reducePhase period (c.phOfs + p.1), fresh := false, ref := c.fol, stepPend := false }
  let v := { v.acqNow with gate := { v.gate with running := !s.tb.restart }, hist := setbIf v.hist 4 (decide (v.res ≠ 0)) }
  let w := (v.driftDrop u.selInput).logSwitch k t reason (flag && decide (u.state ≠ .freerun)) u.bo
  { w with sel := { w.sel with pend := none, holdoff := if u.sel.eff.holdoffMs = 0 then 0 else until', hist := setb w.sel.hist 0 } }

/-- A switch to no candidate: the outcome of R160. It sets SWITCH_H and starts no hold-off (R190, R207).
DEDUCED, unsafe: log entry 26. DESIGN CHOICE, unsafe: log entry 54. -/
def DpllUnit.noCandidate (u : DpllUnit) (k : Nat) : DpllUnit :=
  let v := u.loseRef k 6
  let v := { v with sel := { v.sel with pend := none } }
  if u.selInput ≠ v.selInput then { v with sel := { v.sel with hist := setb v.sel.hist 0 } } else v

/-- The switch of DPLL `n` executes at boundary `k` (R192 to R195). A SUBSTITUTE that names the current reference ends it without a switch: no SWITCH_H, no count, no entry of the log and no hold-off (R192).
DEDUCED, unsafe: log entry 26. DESIGN CHOICE, unsafe: log entry 54. -/
def State.switchNow (s : State) (n k : Nat) : DpllUnit :=
  let u := s.dpll n
  match u.sel.pend with
  | none => u
  | some p =>
    let held := u.frozen || u.parityHold || u.fbFault || decide (u.force = 1) || decide (u.force = 2) || !u.enable
    let u0 := { u with sel := { u.sel with pend := none } }
    if held then u0
    else
      let ver := if p.hook then p.verdict else 1
      let ovr := p.hook && decide (p.verdict = 0) && !p.halted
      let subOk := decide (ver = 3) && (List.range 16).any fun i =>
        u.sel.elig.testBit i && decide ((u.sel.cands.getD i {}).input = p.input)
      let bad := decide (ver = 3) && !subOk
      let u1 := { u with sel := { u.sel with hist := setbIf (setbIf u.sel.hist 4 ovr) 5 bad } }
      let s1 := s.setDpll n u1
      if ver = 2 ∧ p.want ≠ 0x1FF then
        if s.stillEligible n u.selInput then
          let m := satInc u1.sel.vetoCnt
          { u1 with sel := { u1.sel with pend := none, vetoCnt := m, hist := satFlag (setb u1.sel.hist 3) 8 m,
                                         happened := u1.sel.happened ++ [{ sub := 3, data := fromTo u.selInput p.want }] } }
        else u1.noCandidate k
      else
        let t := if subOk then p.input else p.want
        let reason := if subOk then 5 else p.reason
        if t = 0x1FF then u1.noCandidate k
        else if t = u.selInput then { u1 with sel := { u1.sel with pend := none } }
        else if !s.stillEligible n t then
          let m := satInc u1.sel.cancelCnt
          { u1 with sel := { u1.sel with pend := none, cancelCnt := m, hist := satFlag (setb u1.sel.hist 6) 8 m,
                                         happened := u1.sel.happened ++ [{ sub := 1, data := fromTo u.selInput t }] } }
        else s1.takeInput n t reason k

/-- The pending switch of DPLL `n`, decided before boundary `k`, executes at it on the estimates of that boundary (R193). -/
def State.switchAt (s : State) (n k : Nat) : DpllUnit :=
  match (s.dpll n).sel.pend with
  | some p => if p.atK < k then s.switchNow n k else s.dpll n
  | none => s.dpll n

/-- The hook's engine is aborted while the before-switch hook runs: the verdict reads NONE and acts as ACCEPT (R192, R202). -/
def DpllUnit.hookAborted (u : DpllUnit) : DpllUnit :=
  { u with sel := { u.sel with verdict := 0, pend := u.sel.pend.map fun p => if p.hook && !p.halted then { p with verdict := 0, halted := true } else p } }

/-- A write of SEL_HOOK_VERDICT (R192, R208): it counts only while the hook runs for the pending switch. -/
def DpllUnit.writeVerdict (u : DpllUnit) (w : Word) (hookRuns : Bool) : DpllUnit :=
  let v := fld w 0 2
  let i := fld w 16 9
  { u with sel := { u.sel with verdict := v, verdictInput := i,
                               pend := u.sel.pend.map fun p => if p.hook && !p.halted && hookRuns then { p with verdict := v, input := i } else p } }

/-! ## Drift (R197, R198) -/

/-- DRIFT has set on input `i` with the start of its window at boundary `t0`: DPLL `n`, having had it selected since the guard interval before
that, excludes its history; E freezes, and HOLDOVER_VALID follows (R197, R234, R242). A DPLL that has moved on to another reference keeps
the exclusion until DRIFT clears. DEDUCED, unsafe: log entry 26. -/
def State.driftExclude (s : State) (n i t0 k : Nat) : DpllUnit :=
  let u := s.dpll n
  let g := u.ho.guardE * winPerSec
  let had := decide (u.selInput = i) || u.ho.accIn.contains i || (u.ho.ring.any fun x => decide (t0 - g < x.tickEnd) && x.inputs.contains i)
  if had && decide (u.cfg.role = 1) then
    let ho := u.ho.exclude i (t0 - g)
    let ho := { ho with accOk := ho.accOk && !ho.accIn.contains i,
                        frozenE := if u.ho.frozenE.isNone then some (tickFloor u.ho.tick t0 g) else ho.frozenE }
    ({ u with ho := ho, sel := { u.sel with driftExcl := true, hist := setb u.sel.hist 7,
                                            driftIn := if u.sel.driftIn.contains i then u.sel.driftIn else u.sel.driftIn ++ [i] } } : DpllUnit).refreshValid k
  else u

/-! ## Commands (R180, R211 to R214) -/

/-- Refusal of a mirror (R214). -/
def isMirror (s : State) (n : Nat) : Bool := decide (n < 64) && decide ((s.dpll n).cfg.role = 2)

/-- The COUNT inputs a DPLL_SET_CANDIDATES payload names. -/
def candList (p : List Byte) : List Nat := (List.range (min 16 (uAt p 2 1))).map fun i => uAt p (4 + 2 * i) 2

/-- An accepted list waits for the next tick; one that omits MANUAL_INPUT leaves it ineligible from then on (R183, R212). -/
def Sel.setList (q : Sel) (l : List Nat) : Sel :=
  { q with listPend := some l, set := { q.set with gone := q.set.gone || (decide (2 ≤ q.set.mode) && !l.contains q.set.manual) } }

def dpllSetCandidatesReply (_c : Nat) (p : List Byte) (s : State) : Reply :=
  let n := uAt p 0 2
  let cnt := uAt p 2 1
  let l := candList p
  let bad := decide (16 < cnt) || !rsv p 3 1 || (l.any fun i => decide (320 ≤ i)) || decide (¬ l.Nodup) ||
    !rsv p (4 + 2 * cnt) (36 - (4 + 2 * cnt))
  guarded s
    [((decide (n < 64) && !s.hasDpll n) || l.any (fun i => decide (i < 320) && !s.hasInput i), retAbsent),
     (decide (n < 64) && !s.dieUp (dieOfDpll n), retNotReady), roleOff s n,
     (decide (64 ≤ n) || isMirror s n || bad, retBadParam)]
    (okReply (s.modDpll n fun u => { u with sel := u.sel.setList l }))

/-- The latest accepted list of a DPLL (R212). -/
def Sel.latest (q : Sel) : List Nat := match q.listPend with | some l => l | none => q.cands.map (·.input)

def dpllSetSelectionReply (_c : Nat) (p : List Byte) (s : State) : Reply :=
  let n := uAt p 0 2
  let mode := uAt p 2 1
  let fl := uAt p 3 1
  let m := uAt p 4 2
  let q := (s.dpll n).sel
  let bad := decide (3 < mode) || decide (8 ≤ fl) || !rsv p 10 6 || (decide (mode < 2) && decide (m ≠ 0x1FF)) ||
    (decide (2 ≤ mode) && !q.latest.contains m)
  guarded s
    [((decide (n < 64) && !s.hasDpll n) || (decide (2 ≤ mode) && decide (m < 320) && !s.hasInput m), retAbsent),
     (decide (n < 64) && !s.dieUp (dieOfDpll n), retNotReady), roleOff s n,
     (decide (64 ≤ n) || isMirror s n || bad, retBadParam)]
    (okReply (s.modDpll n fun u => { u with sel := { u.sel with
      set := { mode := mode, hookChg := fl.testBit 0, hookSw := fl.testBit 1, retBlock := fl.testBit 2, manual := m,
               holdoffMs := uAt p 6 2, retAllow := uAt p 8 2 } } }))

/-- One entry of DPLL_GET_CANDIDATES (R180). -/
def State.candBytes (s : State) (n : Nat) (c : Cand) : List Byte :=
  let v := s.candView n c
  leBytes 2 c.input ++ leBytes 1 v.1 ++ leBytes 1 v.2 ++ leBytes 4 (s.candWtr n c) ++
    leBytesI 8 (if c.usable then fmtPhase c.phOfs else 0) ++ leBytesI 8 (if c.usable then fmtFreq c.fofs else 0)

def dpllGetCandidatesReply (_c : Nat) (p : List Byte) (s : State) : Reply :=
  let n := uAt p 0 2
  let st := uAt p 2 1
  let cnt := uAt p 3 1
  let l := (s.dpll n).sel.cands
  let e := (l.drop st).take cnt
  guarded s ((dpllChecks s n).take 2 ++ [roleOff s n, (decide (64 ≤ n) || decide (cnt = 0) || decide (8 < cnt) || decide (l.length < st), retBadParam)])
    (okWith (leBytes 2 n ++ leBytes 1 st ++ leBytes 1 e.length ++ leBytes 1 l.length ++ zeros 3 ++ e.flatMap (s.candBytes n)) s)

/-- One entry of the switch log (R213). -/
def SwLog.bytes (e : SwLog) : List Byte :=
  leBytes 8 e.mts ++ leBytes 2 e.src ++ leBytes 2 e.dst ++ leBytes 1 e.reason ++ leBytes 1 e.mode ++ leBytes 1 (b2n e.boFlag) ++
    leBytes 1 e.state ++ leBytesI 8 e.boStep ++ leBytesI 8 e.resAfter

def dpllGetSwitchLogReply (_c : Nat) (p : List Byte) (s : State) : Reply :=
  let n := uAt p 0 2
  let st := uAt p 2 1
  let cnt := uAt p 3 1
  let l := (s.dpll n).sel.log
  let e := (l.drop st).take cnt
  guarded s ((dpllChecks s n).take 2 ++ [roleOff s n,
      (decide (64 ≤ n) || isMirror s n || decide (cnt = 0) || decide (7 < cnt) || decide (15 < st) ||
        (decide (0 < l.length) && decide (l.length - 1 < st)), retBadParam)])
    (okWith (leBytes 2 n ++ leBytes 1 st ++ leBytes 1 e.length ++ leBytes 1 l.length ++ zeros 3 ++ e.flatMap SwLog.bytes) s)

/-! ## Registers (R204 to R210) -/

def Sel.ctrl (q : Sel) : Word :=
  put 0 2 q.set.mode ||| putb 2 q.set.hookChg ||| putb 3 q.set.hookSw ||| putb 4 q.set.retBlock ||| put 16 9 q.set.manual

def Sel.cfg (q : Sel) : Word := put 0 16 q.set.holdoffMs ||| put 16 16 q.set.retAllow

/-- SEL_STAT at boundary `k`; `busy` says that a hook runs (R206). -/
def Sel.stat (q : Sel) (k : Nat) (busy : Bool) : Word :=
  put 0 9 q.best ||| putb 9 q.pend.isSome ||| putb 10 busy ||| putb 11 (decide (k < q.holdoff)) ||| putb 12 q.noCand |||
    putb 13 q.driftExcl ||| put 16 5 q.cands.length

end Sys2Proof.Machine
end

