-- ==== Sys2Proof/Machine/Synth.lean ====
section
/-! DEFINITION. Output PLLs and clock outputs (chapter 07). -/

namespace Sys2Proof.Machine
open Sys2Proof

/-- 2^40: one feedback-word unit of INT. -/
def one40 : Nat := 2 ^ 40

/-! ## Outputs: sources and states (R273, R277) -/

/-- Output `m` is fed by OPLL `o`. -/
def State.fedBy (s : State) (m o : Nat) : Bool := decide (s.opllOfOut m = o)

/-- The outputs of the die of OPLL `o` that it feeds, ascending. -/
def State.outsOf (s : State) (o : Nat) : List Nat :=
  ((List.range 16).map (· + 16 * dieOfOpll o)).filter fun m => s.fedBy m o

/-- The bypass clock of output `m` is usable (R277). -/
def State.bypassOk (s : State) (m : Nat) : Bool :=
  let u := s.out m
  match u.bypSrc with
  | 1 => (s.osc (s.portOfOpll (s.opllOfOut m))).active
  | 2 =>
    let b := 16 * dieOfOut m + u.bypOut
    (s.out b).enable && decide ((s.opll (s.opllOfOut b)).state = .locked) && !(s.out b).onBypass
  | _ => false

/-- A clock source exists (R273, SRC_OK). -/
def State.srcOk (s : State) (m : Nat) : Bool := (s.out m).onBypass || decide ((s.opll (s.opllOfOut m)).state = .locked)

/-- Stores output `m`; a change of its state is an event of its group's engine (R362). -/
def State.putOut (s : State) (m : Nat) (u : OutUnit) : State :=
  let s1 := s.setOut m u
  if (s.out m).state = u.state then s1 else s1.modStitch (engineOfOut m) fun e => e.event (4 + m % 4)

/-- STOPPED with RUN = 1 and a clock source: the output starts, unless it waits for T0, or a stop that its OPLL's QUIESCE or an entry to belay
imposes still holds (R263, R273, R276, R284, R371). DEDUCED, unsafe: log entry 29. -/
def State.tryStart (s : State) (m : Nat) : State :=
  let u := s.out m
  let free := decide ((s.opll (s.opllOfOut m)).state ≠ .quiesce) && (decide (s.belay.phase ≠ 1) || s.belay.outs.contains m)
  if u.state = .stopped ∧ u.run ∧ u.enable ∧ u.startAt = none ∧ s.srcOk m ∧ free then s.putOut m { u with state := .starting, forced := false } else s

/-- A stop: RUN written 0, or imposed by the part, which sets FORCED_STOP_H and leaves RUN (R273). -/
def State.stopOut (s : State) (m : Nat) (forced : Bool) : State :=
  let u := s.out m
  match u.state with
  | .starting => s.putOut m { u with state := .stopped, forced := forced, hist := setbIf u.hist 4 forced }
  | .running => s.putOut m { u with state := .stopping, forced := forced, hist := setbIf u.hist 4 forced }
  | _ => s

/-- An output on a bypass clock that is no longer usable stops; one that so comes to STOPPED with RUN = 1 starts again from its OPLL where
that is LOCKED (R273, R278). -/
def State.bypassLost (s : State) (m : Nat) : State :=
  if (s.out m).onBypass && !s.bypassOk m then ((s.modOut m fun u => { u with onBypass := false }).stopOut m true).tryStart m else s

/-- The bypass clocks of a die are checked again. -/
def State.bypassCheck (s : State) (d : Nat) : State := s.forEach ((List.range 16).map (· + 16 * d)) State.bypassLost

/-- The period of output `m` in 2^-16 ns on its OPLL: T periods of the VCO (R266). -/
def State.opllPeriod (s : State) (m : Nat) : Rat := ((s.out m).totalDiv : Rat) * s.vcoPeriod m

/-- The period of the bypass clock of output `m` in 2^-16 ns: the reference oscillator over BYP_DIV, or the pre-driver clock of BYP_OUT
(R277). -/
def State.bypPeriod (s : State) (m : Nat) : Rat :=
  let u := s.out m
  match u.bypSrc with
  | 1 => (u.bypDiv : Rat) * 65536000000000 / ((s.opll (s.opllOfOut m)).refHz : Rat)
  | 2 => s.opllPeriod (16 * dieOfOut m + u.bypOut)
  | _ => 0

/-- The period of the clock that output `m` takes, in 2^-16 ns (R266, R277). -/
def State.outPeriod (s : State) (m : Nat) : Rat := if (s.out m).onBypass then s.bypPeriod m else s.opllPeriod m

/-- The length of a time in 2^-16 ns, in whole windows. -/
def winsOf (p : Rat) : Nat := (p / (edgePerSec : Rat) * (winPerSec : Rat)).floor.toNat

/-- Output `m` goes to its bypass clock or back. A running output reaches the new clock's first rising edge within one period of the old
clock and two of the new; where in them is open (R278). DESIGN CHOICE, safe: log entry 6. -/
def State.toClock (s : State) (m : Nat) (byp : Bool) : State :=
  let s1 := s.modOut m fun u => { u with onBypass := byp }
  if (s.out m).state = .running ∧ (s.out m).onBypass ≠ byp then
    let r := s1.draw
    r.2.modOut m fun u => { u with switchDue := some (s.tb.k + 1 + r.1.toNat % (winsOf (s.outPeriod m + 2 * s1.outPeriod m) + 1)) }
  else s1

/-- Output `m` follows its OPLL into FAULT: to its bypass clock, or to a stop (R277, R284). The second result says that it
went to bypass. -/
def State.outFault (s : State) (m : Nat) : State × Bool :=
  let u := s.out m
  if u.enable || decide (u.state ≠ .off) then
    if s.bypassOk m then
      let s1 := (s.toClock m true).modOut m fun v => { v with hist := setb v.hist 2 }
      (s1.tryStart m, true)
    else (s.stopOut m true, false)
  else (s, false)

/-! ## OPLL transitions (R263) -/

/-- The nominal feedback word n_nom in units of 2^-40. -/
def OpllUnit.nomWord (u : OpllUnit) : Nat := u.int * one40 + u.frac

/-- Entry into BAND_CAL: the seed is loaded (R259), gates end. -/
def OpllUnit.bandCal (u : OpllUnit) : OpllUnit :=
  { u with state := .bandCal, gates := 0, align := none, lfsr := if u.dither then u.seed else u.lfsr }

/-- The engine-visible end of a QUIESCE: no output STARTING, RUNNING or STOPPING (R263). An OPLL that is then OFF leaves no output on
bypass (R284). -/
def State.quiesceEnd (s : State) (o : Nat) : State :=
  let u := s.opll o
  let busy := (s.outsOf o).any fun m =>
    decide ((s.out m).state = .starting) || decide ((s.out m).state = .running) || decide ((s.out m).state = .stopping)
  if u.state = .quiesce ∧ ¬ busy then
    if u.offPend then
      let s1 := s.forEach (s.outsOf o) fun t m => if (t.out m).onBypass then t.modOut m fun v => { v with onBypass := false } else t
      s1.setOpll o { u with state := .off, offPend := false, align := none, rampTo := none }
    else
      let v := match u.newFreq with
        | some (i, f) => { u with int := i, frac := f, newFreq := none, nNom := ((i * one40 + f : Nat) : Rat), nCur := i * one40 + f, acc := 0, steer := 0 }
        | none => u
      s.setOpll o v.bandCal
  else s

/-- Entry into QUIESCE: every output that is STARTING, RUNNING or STOPPING stops; what it served as a bypass clock is no longer usable
(R263, R273, R277, R278). -/
def State.toQuiesce (s : State) (o : Nat) (off : Bool) : State :=
  let s1 := s.modOpll o fun u => { u with state := .quiesce, offPend := off, align := none, rampTo := none, gates := 0 }
  let s2 := s1.forEach (s1.outsOf o) fun t m => t.stopOut m true
  (s2.bypassCheck (dieOfOpll o)).quiesceEnd o

/-- FB_FAULT rises on the DPLL whose feedback OPLL is `o` (R153, R279). -/
def State.fbFaultOf (s : State) (o : Nat) : State :=
  match s.steererOf o with
  | some k => if s.fbOpllOf k = o then s.modDpll k fun u => u.fbFaultRise s.tb.k else s
  | none => s

/-- Entry into FAULT with a cause; `byp` says that the row sends the outputs to bypass, `h` is the sticky bit (R263).
DEDUCED, unsafe: log entry 52. -/
def State.opllFault (s : State) (o cause h : Nat) (byp loss : Bool) : State :=
  let n := satInc (s.opll o).locklossCnt
  let s1 := s.modOpll o fun u =>
    { u with state := .fault, faultCause := cause, align := none, gates := 0, rampTo := none,
             locklossCnt := if loss then n else u.locklossCnt,
             hist := if loss then satFlag (setb u.hist h) 7 n else setb u.hist h }
  if byp then
    let r := (s1.outsOf o).foldl (fun (a : State × Bool) m => let x := a.1.outFault m; (x.1, a.2 || x.2)) (s1, false)
    let s2 := r.1.modOpll o fun u => { u with hist := setbIf u.hist 3 r.2 }
    (s2.bypassCheck (dieOfOpll o)).fbFaultOf o
  else s1

/-- OPLL entry from OFF on ENABLE written 1 (R263). DEDUCED, unsafe: log entry 52. -/
def State.opllOn (s : State) (o : Nat) : State :=
  let u := s.opll o
  if !u.configured then s
  else if u.state = .off then
    if (s.osc (s.portOfOpll o)).active then
      s.setOpll o { u.bandCal with enable := true, nNom := (u.nomWord : Rat), nCur := u.nomWord, acc := 0, steer := 0 }
    else s.setOpll o { u with enable := true, state := .fault, faultCause := 1 }
  else s.setOpll o { u with enable := true }

/-- ENABLE written 0 (R263). -/
def State.opllOff (s : State) (o : Nat) : State :=
  let s1 := s.modOpll o fun u => { u with enable := false }
  if (s.opll o).state = .off then s1 else s1.toQuiesce o true

/-- A write of OPLL_CTRL (R285). DEDUCED, unsafe: log entry 28. -/
def State.writeOpllCtrl (s : State) (o : Nat) (w : Word) : State := if bit w 0 then s.opllOn o else s.opllOff o

/-- The enabled, steering DPLL that holds OPLL `o` (R270). -/
def State.aligner (s : State) (o : Nat) : Option Nat := s.steererOf o

/-- The enabled outputs of an OPLL, ascending. -/
def State.enabledOuts (s : State) (o : Nat) : List Nat := (s.outsOf o).filter fun m => (s.out m).enable

/-- The OPLL enters LOCKED: outputs on bypass return, stopped outputs with RUN = 1 start (R263, R279). -/
def State.opllLocked (s : State) (o : Nat) : State :=
  let s1 := s.modOpll o fun u => { u with state := .locked, hist := setb u.hist 0, align := none }
  let s2 := s1.forEach (s1.outsOf o) fun t m =>
    if (t.out m).onBypass && !(t.out m).bypRet then (t.toClock m false).modOut m fun u => { u with hist := setb u.hist 3 } else t
  s2.forEach (s2.outsOf o) State.tryStart

/-- The fine delay of output `m` is FINE + FD_CORR, with the placement term `place` in 1PPS mode; where the sum leaves 0 ps to 255.5 ps whole
VCO periods move to the coarse count (R268). -/
def State.delayOf (s : State) (m : Nat) (place : Rat) : Int × Rat :=
  let u := s.out m
  let f : Rat := (u.fineEff : Rat) + (u.fdCorr : Rat) + place
  let p := s.vcoPeriod m * (125 / 4096)
  if p = 0 ∨ (0 ≤ f ∧ f ≤ 511) then ((u.coarseEff : Int), f)
  else ((u.coarseEff : Int) + (f / p).floor, f - p * ((f / p).floor : Int))

/-- The delay of R268 comes into force. -/
def State.setDelay (s : State) (m : Nat) (place : Rat) : State :=
  s.modOut m fun u => { u with delayC := (s.delayOf m place).1, delayF := (s.delayOf m place).2 }

/-- The corrections of a finished measurement are set together; an output whose slot failed keeps its own and is not ALIGNED (R270, R271). -/
def State.setCorr (s : State) (l : List (Nat × Option Int)) : State :=
  l.foldl (init := s) fun t x =>
    match x.2 with
    | some c => (t.modOut x.1 fun u => { u with fdCorr := c, aligned := true }).setDelay x.1 0
    | none => t.modOut x.1 fun u => { u with aligned := false, alignFails := u.alignFails + 1 }

/-- The end of the ALIGNING state when no measurement is left (R270, R271). DEDUCED, unsafe: log entry 39. -/
def State.alignEnd (s : State) (o : Nat) : State :=
  match (s.opll o).align with
  | none => s
  | some r =>
    let s1 := (s.setCorr r.done).modOpll o fun u => { u with align := none, measured := u.measured || r.full, hist := setbIf u.hist 4 r.failed }
    if (s.opll o).state = .aligning then (s1.opllLocked o).modOpll o fun u => { u with measured := false } else s1

/-- Starts a measured alignment of `ms` on OPLL `o`, or adds them to the one in progress, whose current slot goes on; `chan` awaits its end. The
rest is measured in ascending order; a run is full when it has all of the OPLL's enabled outputs to measure (R270, R271, R288).
DEDUCED, unsafe: log entry 39. -/
def State.startAlign (s : State) (o : Nat) (ms : List Nat) (chan : Option Nat) : State :=
  let full := fun (l : List Nat) => (s.enabledOuts o).all l.contains
  match (s.opll o).align with
  | some r =>
    let l := r.todo ++ ms
    let todo := l.take 1 ++ (s.outsOf o).filter fun m => (l.drop 1).contains m && !(r.todo.take 1).contains m
    s.modOpll o fun u => { u with align := some { r with todo := todo, full := r.full || full todo, chans := r.chans ++ chan.toList } }
  | none =>
    let s1 := s.modOpll o fun u => { u with align := some { todo := ms, chans := chan.toList, full := full ms } }
    if ms.isEmpty then s1.alignEnd o else s1

/-- A full measurement of OPLL `o` is in progress (R271). -/
def State.alignFull (s : State) (o : Nat) : Bool := match (s.opll o).align with | some r => r.full | none => false

/-- The third passing gate: the aligned reset, then the measured alignment where a steering DPLL holds the OPLL
(R266, R270). -/
def State.toAligning (s : State) (o : Nat) : State :=
  let s1 := s.modOpll o fun u => { u with state := .aligning, gates := 0, measured := false }
  let s2 := s1.forEach (s1.outsOf o) fun t m => t.modOut m fun u => { u with aligned := false }
  match s2.aligner o with
  | some _ => s2.startAlign o (s2.enabledOuts o) none
  | none => s2.opllLocked o

/-- An alignment tap of DPLL `k` is being measured: its feedback words are not valid (R270). -/
def State.tapBusy (s : State) (k : Nat) : Bool :=
  (List.range 4).any fun j => s.holds k (4 * dieOfDpll k + j) && (s.opll (4 * dieOfDpll k + j)).align.isSome

/-- E of R260: the expected count of a 10 us gate for n_cur. -/
def OpllUnit.expect (u : OpllUnit) : Nat := (ratRound (u.fPfd * ((u.nCur : Rat) / (one40 : Rat)) / 100000)).toNat

/-- A gate count passes (R260). -/
def OpllUnit.passes (u : OpllUnit) (count : Nat) : Bool :=
  let e := u.expect
  decide (((count : Int) - (e : Int)).natAbs ≤ (20 * e + 999999) / 1000000 + 1)

/-- A gate ends on `count`; `inGuard` says that the tuning lies within the band's guard (R260 to R264).
DEDUCED, unsafe: log entry 28. -/
def State.opllGate (s : State) (o count : Nat) (inGuard : Bool) : State :=
  let u := s.opll o
  match u.state with
  | .locking =>
    if u.passes count then
      if 2 ≤ u.gates then s.toAligning o else s.setOpll o { u with gates := u.gates + 1 }
    else s.setOpll o { u with gates := 0 }
  | .aligning => if u.passes count then s else s.opllFault o 2 1 true true
  | .locked =>
    if u.passes count then s.setOpll o { u with hist := setbIf u.hist 5 (!inGuard) }
    else s.opllFault o 2 1 true true
  | _ => s

/-- Band calibration ends: `cover` is the widest guard in ppm that some band leaves around f_vco (R263, R264).
DEDUCED, unsafe: log entry 28. -/
def State.bandDone (s : State) (o band cover guard : Nat) : State :=
  let u := s.opll o
  if u.state = .bandCal then
    if guard ≤ cover then s.setOpll o { u with state := .locking, band := band % 64, gates := 0, slipThr := (s.dx (dieOfOpll o)).plan.slip }
    else s.opllFault o 3 6 false false
  else s

/-- An attempt to lock again from LOCKING or FAULT (R263). -/
def OpllUnit.relock (u : OpllUnit) : OpllUnit :=
  let n := satInc u.relockCnt
  { u.bandCal with relockCnt := n, hist := satFlag u.hist 7 n }

/-- FD_CORR as a signed 9-bit field (R286). -/
def fdWrap (x : Int) : Int := let n := wrapNat 512 x; if n < 256 then (n : Int) else (n : Int) - 512

/-- One measurement slot of an alignment ends (R270, R271). DEDUCED, unsafe: log entry 39. -/
def State.alignSlot (s : State) (o : Nat) (ok : Bool) (corr : Int) : State :=
  match (s.opll o).align with
  | none => s
  | some r =>
    if s.tb.restart then s
    else match r.todo with
      | [] => s.alignEnd o
      | m :: ms =>
        let fb := match s.aligner o with | some k => decide ((s.dpll k).cfg.fbOutput = m) | none => false
        if !ok && decide (r.rep < 3) then s.modOpll o fun u => { u with align := some { r with rep := r.rep + 1 } }
        else
          let c := if ok then some (if fb then 0 else fdWrap corr) else none
          let s1 := s.modOpll o fun u => { u with align := some { r with todo := ms, rep := 0, done := r.done ++ [(m, c)], failed := r.failed || !ok } }
          if ms.isEmpty then s1.alignEnd o else s1

/-- n_nom moved toward the ramp's target by at most RATE (R280). DEDUCED, unsafe: log entry 52. -/
def OpllUnit.rampStep (u : OpllUnit) : OpllUnit :=
  match u.rampTo with
  | none => u
  | some t =>
    let lim : Rat := (u.rate : Rat) / 1000000000 * u.nNom
    let n := u.nNom + clampQ (-lim) lim ((t : Rat) - u.nNom)
    let fl := n.floor.toNat
    { u with nNom := n, int := fl / one40, frac := fl % one40 }

/-- The steering and the ramp of an OPLL at an update boundary (R257, R258, R280). `steer` is the word its DPLL writes; an
OPLL that is neither steered nor ramping keeps n_cur. The ramp ends once n_nom and n_cur have both arrived.
DEDUCED, unsafe: log entry 28. -/
def OpllUnit.boundary (u : OpllUnit) (steer : Option Int) : OpllUnit :=
  if u.state = .off ∨ u.parityHold then u
  else if steer = none ∧ u.rampTo = none then u
  else
    let v := match steer with
      | some w => { u.rampStep with steer := w }
      | none => u.rampStep
    let target := v.nNom * (1 + (v.steer : Rat) / wordOne)
    let lim := v.nNom * 2 / 1000000
    let want := target - (v.nCur : Rat)
    let a := v.acc + clampQ (-lim) lim want
    let fl : Int := a.floor
    let fin := match v.rampTo with | none => true | some t => decide (v.nNom = (t : Rat)) && decide (ratAbs want ≤ lim)
    { v with nCur := ((v.nCur : Int) + fl).toNat, acc := a - (fl : Rat), rampTo := if fin then none else v.rampTo }

/-- One step of the 32-bit LFSR x^32 + x^22 + x^2 + x + 1 (R259): the newest bit is the low one.
PRESUMED, unsafe: log entry 55. -/
def lfsrStep (x : Nat) : Nat :=
  x * 2 % 2 ^ 32 + (b2n (x.testBit 31) + b2n (x.testBit 21) + b2n (x.testBit 1) + b2n (x.testBit 0)) % 2

/-- One phase-detector cycle of the modulator on INT, FRAC and the dither bit (R259). PRESUMED, unsafe: log entry 55. -/
def FracMod.step (f : FracMod) (int frac dither : Nat) : FracMod :=
  let s1 := f.a1 + frac + dither
  let s2 := f.a2 + s1 % one40
  let s3 := f.a3 + s2 % one40
  let y2 : Int := (s2 / one40 : Nat)
  let y3 : Int := (s3 / one40 : Nat)
  { a1 := s1 % one40, a2 := s2 % one40, a3 := s3 % one40, y2 := y2, y3 := y3, z3 := f.y3,
    div := (int : Int) + (s1 / one40 : Nat) + (y2 - f.y2) + (y3 - 2 * f.y3 + f.z3) }

/-- One phase-detector cycle: the LFSR advances, and its low bit is added at the weight of one FRAC LSB when DITHER_EN = 1 (R259).
PRESUMED, unsafe: log entry 55. -/
def OpllUnit.pdCycle (u : OpllUnit) : OpllUnit :=
  let l := lfsrStep u.lfsr
  { u with lfsr := l, fm := u.fm.step (u.nCur / one40) (u.nCur % one40) (if u.dither then l % 2 else 0) }

/-- `n` phase-detector cycles. -/
def OpllUnit.pdCycles : Nat → OpllUnit → OpllUnit
  | 0, u => u
  | n + 1, u => OpllUnit.pdCycles n u.pdCycle

/-- The phase-detector cycles of one update window, at the declared reference frequency (R254, R259).
PRESUMED, unsafe: log entry 55. -/
def OpllUnit.modulate (u : OpllUnit) (active : Bool) : OpllUnit :=
  if u.state = .off ∨ !active then u
  else
    let x := u.pdFrac + u.fPfd / (winPerSec : Rat)
    { OpllUnit.pdCycles x.floor.toNat u with pdFrac := x - (x.floor : Rat) }

/-! ## Writes of an output's registers (R273, R276, R286) -/

/-- The DPLLs of a die whose feedback output is `m` (R142). -/
def State.fbUsers (s : State) (m : Nat) : List Nat :=
  ((List.range 8).map (· + 8 * dieOfOut m)).filter fun k =>
    decide ((s.dpll k).cfg.role ≠ 0) && !(s.dpll k).numeric && decide ((s.dpll k).cfg.fbOutput = m)

/-- The feedback output `m` is reconfigured or disabled: FB_FAULT stays until a DPLL_CONFIG (R164). -/
def State.fbReconf (s : State) (m : Nat) : State :=
  s.forEach (s.fbUsers m) fun t k => t.modDpll k fun u =>
    { (if u.fbFault then u else u.fbFaultRise t.tb.k) with fbReconf := true, fbFault := true, hist := setb u.hist 6 }

/-- Output `m` joins a steered OPLL that is ALIGNING or LOCKED: it is measured (R271). -/
def State.joinAlign (s : State) (m : Nat) : State :=
  let o := s.opllOfOut m
  if (s.aligner o).isSome && (decide ((s.opll o).state = .locked) || decide ((s.opll o).state = .aligning)) then s.startAlign o [m] none else s

/-- ENABLE of output `m` written 1: the divider joins; on a faulted OPLL a usable bypass is taken; on a steered OPLL the output is
measured (R266, R271, R273, R279). -/
def State.outOn (s : State) (m : Nat) : State :=
  let u := s.out m
  if !u.configured then s
  else if u.state = .off then
    let o := s.opllOfOut m
    let byp := decide ((s.opll o).state = .fault) && s.bypassOk m
    let s1 := s.putOut m { u with enable := true, state := .stopped, aligned := false, offPend := false, onBypass := byp }
    (s1.joinAlign m).tryStart m
  else s.setOut m { u with enable := true }

/-- ENABLE of output `m` written 0 (R273, R164). -/
def State.outOff (s : State) (m : Nat) : State :=
  let u := s.out m
  if u.enable then
    let s1 := match u.state with
      | .stopped => s.putOut m { u with enable := false, state := .off, onBypass := false, aligned := false }
      | .off => s.setOut m { u with enable := false }
      | _ => s.putOut m { u with enable := false, state := .stopping, offPend := true }
    (s1.fbReconf m).bypassCheck (dieOfOut m)
  else s

/-- RUN of output `m` written; an engine's START write before T0 waits for T0, a host write does not (R276, R371). -/
def State.outRun (s : State) (m : Nat) (run fromStitch : Bool) : State :=
  let u := s.out m
  let s1 := s.setOut m { u with run := run, startAt := if fromStitch && run then u.startAt else none }
  if run then s1.tryStart m else s1.stopOut m false

/-- A write of OUT_CTRL (R286): ENABLE, RUN, STOP_LVL, BYP_RET, BELAY. -/
def State.writeOutCtrl (s : State) (m : Nat) (w : Word) (fromStitch : Bool) : State :=
  let s1 := s.modOut m fun u => { u with stopLvl := fld w 2 2, bypRet := bit w 4, belay := bit w 5 }
  let s2 := if bit w 0 then s1.outOn m else s1.outOff m
  if (s.out m).run = bit w 1 then s2.tryStart m else s2.outRun m (bit w 1) fromStitch

/-- OUT_CTRL as it reads. -/
def OutUnit.ctrl (u : OutUnit) : Word := putb 0 u.enable ||| putb 1 u.run ||| put 2 2 u.stopLvl ||| putb 4 u.bypRet ||| putb 5 u.belay

/-- A written phase is applied: as a delay of (new - old) modulo the output period, lengthening one low phase (R269).
DESIGN CHOICE, safe: log entry 7. DEDUCED, unsafe: log entry 29. -/
def State.applyPhase (s : State) (m : Nat) : State :=
  let u := s.out m
  let old := s.outPhi m
  let s1 := s.setOut m { u with coarseEff := u.coarse, fineEff := u.fine, phaseDue := none }
  let p := s.outPeriod m
  let d := s1.outPhi m - old
  (s1.modOut m fun v => { v with phaseDelay := some (if p = 0 then d else d - p * ((d / p).floor : Int)) }).setDelay m 0

/-- COARSE or FINE of output `m` has been written: in clock mode the change waits for the next rising edge, which comes within one output
period; where in its period the output stands is open. A change written while a switch to or from the bypass clock is in progress waits for
the new clock's first rising edge. Without a running divider it is in force at once, and the pulses of a 1PPS output take it from the next
one on (R269, R284, R310). DESIGN CHOICE, safe: log entry 6. DEDUCED, unsafe: log entry 29. -/
def State.phaseWritten (s : State) (m : Nat) : State :=
  let u := s.out m
  if u.pps || !u.enable then s.applyPhase m
  else if u.switchDue.isSome then s.modOut m fun v => { v with phaseDue := v.switchDue }
  else if u.phaseDue.isSome then s
  else
    let r := s.draw
    r.2.modOut m fun v => { v with phaseDue := some (s.tb.k + 1 + r.1.toNat % (winsOf (s.outPeriod m) + 1)) }

/-- What output `m` waits for at boundary `k` has come: the rising edge that applies its phase, the new clock's first edge (R269, R278). -/
def State.phaseNow (s : State) (m k : Nat) : State :=
  let due := fun (t : Option Nat) => match t with | some n => decide (n ≤ k) | none => false
  let s1 := if due (s.out m).phaseDue then s.applyPhase m else s
  if due (s.out m).switchDue then s1.modOut m fun u => { u with switchDue := none } else s1

/-- A write of OUT_COARSE (+0x10), OUT_FINE (+0x14) or OUT_COARSE_HI (+0x28); COARSE at T or above is reduced (R268,
R269, R286). DEDUCED, unsafe: log entry 29. DEDUCED, unsafe: log entry 51. -/
def State.writePhase (s : State) (m off : Nat) (w : Word) : State :=
  if off = 0x28 then s.modOut m fun u => { u with coarseHi := fld w 0 2 }
  else if off = 0x10 then
    (s.modOut m fun u =>
      let c := u.coarseHi * 2 ^ 32 + w.toNat
      let r := if u.pps then (if c < 2 ^ 30 then c else wrapNat (2 ^ 30) (Config.outOfFormat 30 (c : Int)))
        else if u.totalDiv = 0 then c else c % u.totalDiv
      { u with coarse := r, coarseHi := r / 2 ^ 32 }).phaseWritten m
  else if off = 0x14 then (s.modOut m fun u => { u with fine := fld w 0 9 }).phaseWritten m
  else s

/-- The first rising edge of a starting output (R273, R274); a phase that waits for an edge is applied at it (R269, R284). -/
def State.firstEdge (s : State) (m : Nat) : State :=
  let u := s.out m
  if u.state = .starting ∧ u.startAt = none then
    let t := s.putOut m { u with state := .running, hist := setb u.hist 0 }
    if u.phaseDue.isSome then t.applyPhase m else t
  else s

/-- The leg that carries the complement: of a level, of the clock. High impedance is the same on both legs (R282). -/
def Leg.inv : Leg → Leg
  | .low => .high | .high => .low | .clock => .inverted | .inverted => .clock | .hiZ => .hiZ

/-- The level that STOP_LVL names: LOW, HIGH, or high impedance for 2 and 3 (R275, R286). -/
def OutUnit.restLeg (u : OutUnit) : Leg := match u.stopLvl with | 0 => .low | 1 => .high | _ => .hiZ

/-- What OUTm_P carries (R273 to R275, R282): high impedance while OFF or in format OFF; the level of STOP_LVL at rest; low ahead of the
first edge of an output that rested at high impedance; the clock, or the pulses, until a stop has reached its level. -/
def OutUnit.legP (u : OutUnit) : Leg :=
  if u.format = 0 then .hiZ
  else match u.state with
    | .off => .hiZ
    | .stopped => u.restLeg
    | .starting => if u.restLeg = .hiZ then .low else u.restLeg
    | .running => .clock
    | .stopping => .clock

/-- What OUTm_N carries (R282): the complement in a differential format; in LVCMOS nothing, the same or the complement, by N_MODE. -/
def OutUnit.legN (u : OutUnit) : Leg :=
  if u.format = 4 then (match u.nMode with | 1 => u.legP | 2 => u.legP.inv | _ => .hiZ) else u.legP.inv

/-- The legs P and N of output `m`: while the always-on generator makes the pulses of a belay output, P carries them as LVCMOS at DRIVE 0 and
N rests at the stop level (R537); with the master lost both rest (R538). In belay every other output is at high impedance (R561). -/
def State.legs (s : State) (m : Nat) : Leg × Leg :=
  let u := s.out m
  if s.belay.gen.contains m then (if s.belay.masterLost then u.restLeg else .clock, u.restLeg)
  else if s.belay.phase = 2 then (.hiZ, .hiZ)
  else (u.legP, u.legN)

/-- A stopping output reaches its stop level (R273, R275, R263). -/
def State.stopLevel (s : State) (m : Nat) : State :=
  let u := s.out m
  if u.state = .stopping then
    let s1 :=
      if u.offPend then s.putOut m { u with state := .off, offPend := false, onBypass := false, aligned := false }
      else (s.putOut m { u with state := .stopped, hist := setb u.hist 1 }).tryStart m
    s1.quiesceEnd (s.opllOfOut m)
  else s

/-- Outputs whose common start instant has come (R276, R371). DEDUCED, unsafe: log entry 29. -/
def State.startDue (s : State) (m k : Nat) : State :=
  match (s.out m).startAt with
  | some t => if t ≤ k then (s.modOut m fun u => { u with startAt := none }).tryStart m else s
  | none => s

/-! ## Commands (R287 to R291) -/

/-- The frequency range of a format in Hz; 0 stands for any (R282). -/
def formatOk (fmt : Nat) (f : Rat) : Bool :=
  match fmt with
  | 0 => true
  | 4 => decide (1 ≤ f) && decide (f ≤ 250000000)
  | _ => decide (1 ≤ f) && decide (f ≤ 2500000000)

/-- Every configured clock-mode output of OPLL `o` stays in its format's range under a VCO of `f` Hz (R291). -/
def State.outsInRange (s : State) (o : Nat) (f : Rat) : Bool :=
  (s.outsOf o).all fun m =>
    let u := s.out m
    !u.configured || u.pps || decide (u.totalDiv = 0) || formatOk u.format (f / (u.totalDiv : Rat))

/-- f_pfd and f_vco lie in range (R254, R255). -/
def pllOk (fp fv : Rat) : Bool :=
  decide (10000000 ≤ fp) && decide (fp ≤ 200000000) && decide (9800000000 ≤ fv) && decide (fv ≤ 10600000000)

def opllChecks (s : State) (n : Nat) : List (Bool × Nat) :=
  [(decide (n < 32) && !s.hasOpll n, retAbsent), (decide (n < 32) && !s.dieUp (dieOfOpll n), retNotReady)]

/-- The OPLL that OPLL_CONFIG describes, over the present one (R287). -/
def opllOf (u : OpllUnit) (p : List Byte) : OpllUnit :=
  let fl := uAt p 3 1
  let seed := uAt p 12 4
  { u with configured := true, refPort := uAt p 2 1, dbl := fl.testBit 0, dither := fl.testBit 1, lbw := fl / 4 % 4, refHz := uAt p 4 4,
           rdiv := uAt p 8 1, int := uAt p 10 2, frac := uAt p 16 8, seed := if seed = 0 then 0x6B5F2C91 else seed, parityHold := false,
           steer := 0, nNom := ((uAt p 10 2 * one40 + uAt p 16 8 : Nat) : Rat),
           nCur := uAt p 10 2 * one40 + uAt p 16 8, acc := 0 }

/-- A configuration R287 rejects with ERR_BAD_PARAM. -/
def State.opllBad (s : State) (n : Nat) (p : List Byte) : Bool :=
  let fl := uAt p 3 1
  let v := opllOf (s.opll n) p
  decide (1 < uAt p 2 1) || decide (16 ≤ fl) || decide (fl / 4 = 3) || decide (uAt p 4 4 < 10000000) ||
    decide (160000000 < uAt p 4 4) || decide (uAt p 8 1 = 0) || decide (16 < uAt p 8 1) || !rsv p 9 1 || decide (uAt p 10 2 < 24) ||
    decide (1100 < uAt p 10 2) || decide (one40 ≤ uAt p 16 8) || !rsv p 24 8 || !pllOk v.fPfd v.fVco || !s.outsInRange n v.fVco

def opllConfigReply (_c : Nat) (p : List Byte) (s : State) : Reply :=
  let n := uAt p 0 2
  guarded s (opllChecks s n ++ [(decide (32 ≤ n) || s.opllBad n p, retBadParam), ((s.opll n).enable, retBusy)])
    (okReply (s.setOpll n (opllOf (s.opll n) p)))

/-- The divider OPLL_SET_FREQ names, in 2^-40 (R288). -/
def freqOf (p : List Byte) : Nat := uAt p 4 2 * one40 + uAt p 8 8

/-- A frequency R288 rejects with ERR_BAD_PARAM. -/
def State.opllFreqBad (s : State) (n : Nat) (p : List Byte) : Bool :=
  let u := s.opll n
  let i := uAt p 4 2
  let fv : Rat := u.fPfd * ((freqOf p : Rat) / (one40 : Rat))
  decide (2000 < uAt p 2 2) || decide (i < 24) || decide (1100 < i) || !rsv p 6 2 || decide (one40 ≤ uAt p 8 8) || !pllOk u.fPfd fv ||
    !s.outsInRange n fv

def opllSetFreqReply (_c : Nat) (p : List Byte) (s : State) : Reply :=
  let n := uAt p 0 2
  let rate := uAt p 2 2
  let u := s.opll n
  let w := freqOf p
  let dev : Rat := ratAbs ((w : Rat) / u.nNom - 1)
  let v := { u with rate := if rate = 0 then 2000 else rate, steer := 0 }
  guarded s (opllChecks s n ++ [(decide (n < 32) && decide (u.state ≠ .locked), retNotReady), (decide (32 ≤ n) || s.opllFreqBad n p, retBadParam),
      ((s.steererOf n).isSome, retBusy)])
    (okReply (if dev ≤ 2 / 1000 then s.setOpll n { v with rampTo := if u.nNom = (w : Rat) ∧ u.nCur = w then none else some w }
      else (s.setOpll n { v with newFreq := some (uAt p 4 2, uAt p 8 8), rampTo := none }).toQuiesce n false))

/-- DEDUCED, unsafe: log entry 39. -/
def opllAlignReply (c : Nat) (p : List Byte) (s : State) : Reply :=
  let n := uAt p 0 2
  guarded s (opllChecks s n ++ [(decide (n < 32) && decide ((s.opll n).state ≠ .locked), retNotReady),
      (decide (32 ≤ n) || !rsv p 2 2, retBadParam)])
    (match s.aligner n with
     | some _ =>
       if (s.enabledOuts n).isEmpty then okReply s
       else { ret := retOK, s := s.startAlign n (s.enabledOuts n) (some c), wait := true }
     | none => okReply s)

/-- The output OUTPUT_CONFIG describes, over the present one; a FINE that waits for a rising edge goes on waiting (R269, R289). -/
def outOf (u : OutUnit) (p : List Byte) : OutUnit :=
  let lvc := uAt p 7 1
  let c := (uAt p 23 1 % 4) * 2 ^ 32 + uAt p 12 4
  { u with src := uAt p 2 1, format := uAt p 3 1, pps := decide (uAt p 4 1 = 1), pre := uAt p 5 1, swing := uAt p 6 1, nMode := lvc % 4,
           drive := lvc / 4 % 4, div := uAt p 8 4, coarseHi := uAt p 23 1 % 4, coarse := c, coarseEff := c, bypDiv := uAt p 16 4,
           bypSrc := uAt p 20 1, bypOut := uAt p 21 1, ppsTd := uAt p 22 1, ppsWidth := uAt p 24 4, configured := true,
           onBypass := false, switchDue := none, phaseDelay := none, aligned := u.aligned && decide (u.src = uAt p 2 1) }

/-- A configuration R291 rejects with ERR_BAD_PARAM. -/
def State.outBad (s : State) (n : Nat) (p : List Byte) : Bool :=
  let v := outOf {} p
  let b := s.out (16 * dieOfOut n + v.bypOut)
  let fv := (s.opll (4 * dieOfOut n + v.src)).fVco
  decide (3 < v.src) || decide (4 < v.format) || decide (1 < uAt p 4 1) || decide (4 < v.pre) || decide (15 < v.swing) ||
    (decide (v.format ≠ 3) && decide (v.swing ≠ 0)) || decide (16 ≤ uAt p 7 1) || (decide (v.format ≠ 4) && decide (uAt p 7 1 ≠ 0)) ||
    decide (2 < v.nMode) || decide (2 < v.bypSrc) || decide (15 < v.bypOut) || decide (15 < v.ppsTd) || decide (4 ≤ uAt p 23 1) ||
    !rsv p 28 4 || decide (2 ^ 30 ≤ v.bypDiv) || (if v.bypSrc = 1 then decide (v.bypDiv = 0) else decide (v.bypDiv ≠ 0)) ||
    (decide (v.bypSrc ≠ 2) && decide (v.bypOut ≠ 0)) ||
    (decide (v.bypSrc = 2) && (decide (b.bypSrc = 2) || decide (b.src = v.src) || decide (v.bypOut = n % 16))) ||
    (if v.pps then decide (v.pre ≠ 0) || decide (v.div ≠ 0) || decide (v.bypSrc ≠ 0) || decide (2 ^ 30 ≤ v.coarse) || decide (v.ppsWidth < 8) || decide (500000000 < v.ppsWidth)
     else decide (v.div = 0) || decide (2 ^ 30 ≤ v.div) || decide (v.ppsWidth ≠ 0) || decide (v.ppsTd ≠ 0) ||
       decide (v.totalDiv ≤ v.coarse) || (decide (fv ≠ 0) && !formatOk v.format (fv / (v.totalDiv : Rat))))

/-- An accepted OUTPUT_CONFIG: a feedback output raises FB_FAULT; an enabled output joins the OPLL it now names, takes a usable bypass where
that OPLL is in FAULT, and starts when RUN = 1 and a clock source exists (R164, R266, R271, R273, R279, R289). -/
def State.configOut (s : State) (n : Nat) (p : List Byte) : State :=
  let old := s.out n
  let s1 := (s.setOut n (outOf old p)).fbReconf n
  let byp := old.enable && decide ((s1.opll (s1.opllOfOut n)).state = .fault) && s1.bypassOk n
  let s2 := (s1.modOut n fun u => { u with onBypass := byp }).setDelay n 0
  if old.enable then (if old.src = uAt p 2 1 then s2 else s2.joinAlign n).tryStart n else s2

def outputConfigReply (_c : Nat) (p : List Byte) (s : State) : Reply :=
  let n := uAt p 0 2
  let st := (s.out n).state
  guarded s
    [(decide (n < 128) && !s.hasOut n, retAbsent), (decide (n < 128) && !s.dieUp (dieOfOut n), retNotReady),
     (decide (128 ≤ n) || s.outBad n p, retBadParam), (decide (st ≠ .off) && decide (st ≠ .stopped), retBusy)]
    (okReply ((s.configOut n p).bypassCheck (dieOfOut n)))

/-- The outputs an OUTPUT_RUN mask names. -/
def runOuts (d mask : Nat) : List Nat := (List.range 16).flatMap fun i => if mask.testBit i then [16 * d + i] else []

/-- OUTPUT_RUN with ACTION 0 or 1 on one group: through its engine when it has the entry, directly otherwise (R371).
DEDUCED, unsafe: log entry 29. -/
def State.runGroup (s : State) (d b mask action t0 : Nat) : State :=
  let m4 := mask / 2 ^ (4 * b) % 16
  let e := 28 * d + 24 + b
  let outs := runOuts d (m4 * 2 ^ (4 * b))
  if m4 = 0 then s
  else
    let s1 := if action = 1 then s.forEach outs fun t m => t.modOut m fun u => { u with startAt := some t0 } else s
    if (s.stitch e).ready (1 - action) then
      s1.trigger e (1 - action) ([cw m4] ++ cw2 (mtsOf t0) ++ [cw action])
    else if action = 1 then s1.forEach outs fun t m => (t.modOut m fun u => { u with run := true }).tryStart m
    else s1.forEach outs fun t m => t.outRun m false false

/-- DESIGN CHOICE, safe: log entry 6. DEDUCED, unsafe: log entry 29. -/
def outputRunReply (_c : Nat) (p : List Byte) (s : State) : Reply :=
  let d := uAt p 0 1
  let a := uAt p 1 1
  let mask := uAt p 2 2
  let r := s.draw
  -- T0: the first boundary at least 10 us after the command; where the command falls in its window is open
  let t0 := s.tb.k + 1 + r.1.toNat % 2
  guarded s
    [(decide (d < 8) && !s.fitted d, retAbsent), (decide (d < 8) && !s.dieUp d, retNotReady),
     (decide (d < 8) && (runOuts d mask).any (fun m => !(s.out m).configured), retNotReady),
     (decide (8 ≤ d) || decide (2 < a) || decide (mask = 0) || !rsv p 4 4, retBadParam)]
    (okReply (
      if a = 2 then
        s.forEach (runOuts d mask) fun t m =>
          if (t.out m).onBypass && decide ((t.opll (t.opllOfOut m)).state = .locked) then
            ((t.toClock m false).modOut m fun u => { u with hist := setb u.hist 3 }).tryStart m
          else t
      else (r.2).forEach (List.range 4) fun t b => t.runGroup d b mask a t0))

/-! ## Registers (R285, R286) -/

def OpllUnit.cfgWord (u : OpllUnit) : Word :=
  put 0 1 u.refPort ||| putb 1 u.dbl ||| putb 2 u.dither ||| put 3 2 u.lbw ||| put 8 4 (u.rdiv - 1) ||| put 16 11 u.int

def State.opllStat (s : State) (o : Nat) : Word :=
  let u := s.opll o
  put 0 3 u.state.code ||| putb 3 (s.osc (s.portOfOpll o)).active ||| putb 4 u.rampTo.isSome ||| putb 5 u.parityHold ||| put 8 6 u.band |||
    put 16 7 (match s.steererOf o with | some k => k | none => 0x7F) ||| put 24 2 u.faultCause

def OutUnit.cfgWord (u : OutUnit) : Word :=
  put 0 2 u.src ||| put 2 3 u.format ||| putb 5 u.pps ||| put 6 3 u.pre ||| put 9 4 u.swing ||| put 13 2 u.nMode ||| put 15 2 u.drive |||
    put 17 2 u.bypSrc ||| put 20 4 u.bypOut ||| put 24 4 u.ppsTd ||| putb 28 u.configured

def State.outStat (s : State) (m : Nat) : Word :=
  let u := s.out m
  put 0 3 u.state.code ||| putb 3 u.onBypass ||| putb 4 u.aligned ||| putb 5 (!(s.fbUsers m).isEmpty) ||| putb 6 (s.srcOk m)

end Sys2Proof.Machine
end

