-- ==== Sys2Proof/Machine/TimeDomain.lean ====
section
/-! DEFINITION. Time domains, 1PPS and serial time of day (chapter 08). The counter is held in 2^-48 ns. -/

namespace Sys2Proof.Machine
open Sys2Proof

/-! ## The counter (R292 to R295, R305) -/

/-- One second, and the wrap of SEC, in 2^-48 ns. -/
def secUnit : Nat := 1000000000 * 2 ^ 48
def tdMod : Nat := 2 ^ 64 * secUnit

/-- The counter as one number. -/
def TdUnit.total (u : TdUnit) : Nat := u.sec * secUnit + u.sub

/-- The counter set to a number. -/
def TdUnit.setTotal (u : TdUnit) (x : Int) : TdUnit :=
  let n := wrapNat tdMod x
  { u with sec := n / secUnit, sub := n % secUnit }

/-- The increment over one nanosecond of MTS, in 2^-48 ns (R293, R294). -/
def TdUnit.perNs (u : TdUnit) : Rat := (2 ^ 48 : Nat) * (1 + (u.rate : Rat) / wordOne)

/-- The counter advanced by `dt` ns (R293, R294): what is finer than 2^-48 ns is kept as residue.
DEDUCED, unsafe: log entry 30. -/
def TdUnit.advance (u : TdUnit) (dt : Rat) : TdUnit :=
  let x := u.perNs * dt + u.resid
  let fl : Int := x.floor
  { u.setTotal ((u.total : Int) + fl) with resid := x - (fl : Rat) }

/-- The offset in ns after the latest boundary at which NS reaches 1 000 000 000 (R293, R306). -/
def TdUnit.crossOffset (u : TdUnit) : Rat :=
  u.ahead + (if u.perNs = 0 then 0 else (((secUnit - u.sub : Nat) : Rat) - u.resid) / u.perNs)

/-- One update window in ns. -/
def windowNs : Rat := 31250

/-- 2^29 ppt in word units (R295). -/
def rateLimit : Rat := pptWord (2 ^ 29)

/-- The rate of R295. -/
def TdUnit.rateNow (u : TdUnit) : Int :=
  ratRound (clampQ (-rateLimit) rateLimit ((if u.set.syn then (u.uk : Rat) else 0) + u.y))

/-- The domain runs a servo: enabled, not FROZEN, not PARITY_HOLD. -/
def TdUnit.held (u : TdUnit) : Bool := u.frozen || u.parityHold

/-! ## UTC (R314) -/

/-- A civil date and time. -/
structure Civil where
  y : Int := 1970
  m : Nat := 1
  d : Nat := 1
  hh : Nat := 0
  mm : Nat := 0
  ss : Nat := 0
  doy : Nat := 1
deriving DecidableEq, Repr

/-- A year of the proleptic Gregorian calendar is a leap year. -/
def leapYear (y : Int) : Bool := decide (y % 4 = 0) && (decide (y % 100 ≠ 0) || decide (y % 400 = 0))

/-- The date of day `z` since 1970-01-01, in the proleptic Gregorian calendar: the year is counted from 1 March in eras of
400 years. -/
def civilOfDay (z : Int) : Int × Nat × Nat × Nat :=
  let w := z + 719468
  let era := w / 146097
  let doe := (w % 146097).toNat
  let yoe := (doe - doe / 1460 + doe / 36524 - doe / 146096) / 365
  let doy := doe - (365 * yoe + yoe / 4 - yoe / 100)
  let mp := (5 * doy + 2) / 153
  let d := doy - (153 * mp + 2) / 5 + 1
  let m := if mp < 10 then mp + 3 else mp - 9
  let y := (yoe : Int) + era * 400 + (if m ≤ 2 then 1 else 0)
  let jan := if m ≤ 2 then doy + 1 - 306 else doy + 1 + 59 + b2n (leapYear y)
  (y, m, d, jan)

/-- Day `z`, second-of-day `t`; `leap` writes 23:59:60 of the day before. -/
def civilOf (z : Int) (t : Nat) (leap : Bool) : Civil :=
  let c := civilOfDay (if leap then z - 1 else z)
  { y := c.1, m := c.2.1, d := c.2.2.1, doy := c.2.2.2, hh := if leap then 23 else t / 3600, mm := if leap then 59 else t / 60 % 60,
    ss := if leap then 60 else t % 60 }

/-- The UTC reading of second `sec` with the pending leap applied (R314): the civil time, the settings after it, the
settings the message shows, and whether a leap was applied. -/
def TodSet.utc (g : TodSet) (sec : Nat) : Civil × TodSet × TodSet × Bool :=
  let u : Int := (sec : Int) - g.utcOfs
  let t := (u % 86400).toNat
  if g.leapPend && !g.leapNeg && decide (t = 0) then
    (civilOf (u / 86400) 0 true, { g with utcOfs := g.utcOfs + 1, leapPend := false }, g, true)
  else if g.leapPend && g.leapNeg && decide (t = 86399) then
    let g' := { g with utcOfs := g.utcOfs - 1, leapPend := false }
    (civilOf (u / 86400 + 1) 0 false, g', g', true)
  else (civilOf (u / 86400) t false, g, g, false)

/-- A number below 100 as two BCD digits. -/
def bcd2 (n : Nat) : Nat := n / 10 % 10 * 16 + n % 10

/-- YYYYMMDD and hhmmss in BCD (R365). -/
def Civil.dateBcd (c : Civil) : Nat :=
  let y := (c.y % 10000).toNat
  bcd2 (y / 100) * 2 ^ 24 + bcd2 (y % 100) * 2 ^ 16 + bcd2 c.m * 256 + bcd2 c.d
def Civil.timeBcd (c : Civil) : Nat := bcd2 c.hh * 65536 + bcd2 c.mm * 256 + bcd2 c.ss

/-- The FLAGS byte of R316. DEDUCED, unsafe: log entry 52. -/
def TdUnit.todFlags (u : TdUnit) (g : TodSet) : Nat :=
  b2n (decide (u.state = .tracking)) + 2 * b2n (decide (u.state = .freerun)) + 4 * b2n u.set.syn + 8 * b2n u.synLost +
    16 * b2n g.leapPend + 32 * b2n g.leapNeg

/-! ## Messages (R311 to R317) -/

/-- Bit rates of the BAUD codes (R311). -/
def baudOf : Nat → Nat
  | 0 => 4800 | 1 => 9600 | 2 => 19200 | 3 => 38400 | 4 => 57600 | 5 => 115200 | 6 => 230400 | 7 => 460800 | _ => 921600

/-- `len` bytes started `delay` ms after a crossing end at least 1 ms before the next one (R312). -/
def todFits (delay len baud : Nat) : Bool := decide (len * 10 * 1000 + delay * baudOf baud ≤ 999 * baudOf baud)

/-- The bytes of a text. -/
def textBytes (t : String) : List Byte := t.toList.map fun c => BitVec.ofNat 8 c.toNat

/-- A decimal digit as a character. -/
def digit (n : Nat) : Byte := BitVec.ofNat 8 (48 + n % 10)

/-- A hexadecimal digit, upper case. -/
def hexDigit (n : Nat) : Byte := if n % 16 < 10 then BitVec.ofNat 8 (48 + n % 16) else BitVec.ofNat 8 (55 + n % 16)

def dec2 (n : Nat) : List Byte := [digit (n / 10), digit n]
def dec4 (n : Nat) : List Byte := [digit (n / 1000), digit (n / 100), digit (n / 10), digit n]

/-- The ZDA sentence of format 1 (R313). -/
def zdaBytes (talker : Nat) (c : Civil) : List Byte :=
  let body := leBytes 2 talker ++ textBytes "ZDA," ++ dec2 c.hh ++ dec2 c.mm ++ dec2 c.ss ++ textBytes ".00," ++ dec2 c.d ++ textBytes "," ++
    dec2 c.m ++ textBytes "," ++ dec4 (c.y % 10000).toNat ++ textBytes ",00,00"
  let x := (body.foldl (fun (a : Byte) b => a ^^^ b) 0).toNat
  textBytes "$" ++ body ++ textBytes "*" ++ [hexDigit (x / 16), hexDigit x, 13, 10]

/-- One byte of CRC-16/CCITT-FALSE. -/
def crc16Step (c : BitVec 16) (b : Byte) : BitVec 16 :=
  (List.range 8).foldl (fun (a : BitVec 16) _ => if a.msb then (a <<< 1) ^^^ 0x1021 else a <<< 1) (c ^^^ (b.zeroExtend 16 <<< 8))

/-- CRC-16/CCITT-FALSE (R316). -/
def crc16 (l : List Byte) : Nat := (l.foldl crc16Step 0xFFFF).toNat

/-- Bytes most significant first. -/
def beBytes (n v : Nat) : List Byte := (leBytes n v).reverse

/-- The Gepevel binary time message of format 2 (R316). -/
def TdUnit.gepevel (u : TdUnit) (t sec : Nat) (g : TodSet) : List Byte :=
  let m := [0xA5, 0x5A, 1, BitVec.ofNat 8 (u.todFlags g)] ++ beBytes 8 sec ++ zeros 4 ++ beBytes 2 (wrapNat 65536 g.utcOfs) ++
    beBytes 1 t ++ beBytes 1 u.todSeq
  m ++ beBytes 2 (crc16 m)

/-- The bytes of TOD_BUF in a TD engine's local words (R368). -/
def Stitch.todBuf (e : Stitch) (n : Nat) : List Byte :=
  ((e.loc.take 24).flatMap fun w => leBytes 4 w.toNat).take n

/-- A message as asynchronous characters: one start bit, eight data bits least significant first, no parity, one stop bit (R311). -/
def serialBits (l : List Byte) : List Bool := l.flatMap fun b => [false] ++ (List.range 8).map b.getLsbD ++ [true]

/-- The formatter sends the bytes `l` on its GPIO (R311, R316). -/
def TdUnit.send (u : TdUnit) (l : List Byte) : TdUnit :=
  { u with todOut := l, todLine := serialBits l, todSeq := (u.todSeq + 1) % 256 }

/-- What a formatter drives on GPIO `n` of die `d`, over any other use of it: the bits of its latest message, with the line high where none
is sent; none where no formatter has the GPIO (R311). Bit times are out of scope. DESIGN CHOICE, unsafe: log entry 46. -/
def State.gpioLine (s : State) (d n : Nat) : Option (List Bool) :=
  (((List.range 16).map (· + 16 * d)).find? fun t => decide ((s.td t).tod.format ≠ 0) && decide ((s.td t).tod.gpio = n)).map fun t =>
    (s.td t).todLine

/-- The message of domain `t` starts; a domain in OFF or UNSET sends none, and no formatter sends once belay is entered (R312 to R317, R324,
R369). DEDUCED, unsafe: log entry 30. -/
def State.todMessage (s : State) (t : Nat) : State :=
  let u := s.td t
  let live := (decide (u.state = .tracking) || decide (u.state = .freerun)) && decide (s.belay.phase ≠ 1)
  if u.todDue && !live then s.setTd t { u with todDue := false }
  else if u.todDue && decide (u.tod.format ≠ 0) then
    let named := (u.crossSec + b2n u.tod.lead) % 2 ^ 64
    let r := u.tod.utc named
    let v := { u with todDue := false, tod := r.2.1, hist := setbIf u.hist 6 r.2.2.2, happened := noteIf u.happened r.2.2.2 { sub := 3 } }
    let e := s.stitch (engineOfTd t)
    let len := fld (e.loc.getD 24 0) 0 7
    match u.tod.format with
    | 1 => s.setTd t (v.send (zdaBytes u.tod.talker r.1))
    | 2 => s.setTd t (v.send (u.gepevel t named r.2.2.1))
    | _ =>
      if decide (e.crossDone = cw2 u.crossMts) && decide (1 ≤ len) && decide (len ≤ 96) && decide (u.tod.delayMs ≠ 0) && todFits u.tod.delayMs len u.tod.baud then
        s.setTd t (v.send (e.todBuf len))
      else s.setTd t { v with hist := setb v.hist 8 }
  else s

/-! ## 1PPS (R308 to R310, R370) -/

/-- A pulse of output `m` is placeable (R308). -/
def State.placeable (s : State) (m : Nat) : Bool :=
  let o := s.opllOfOut m
  decide ((s.opll o).state = .locked) &&
    (match s.steererOf o with
     | some k => decide (useOf true false (s.dpll k).glitchUse (s.streamWord (320 + k)) = .usable)
     | none => false)

/-- A missed pulse of output `m`, `i` of its die (R308). -/
def TdUnit.miss (u : TdUnit) (m i : Nat) : TdUnit :=
  let n := satInc u.ppsMissCnt
  { u with ppsMissCnt := n, happened := u.happened ++ [{ sub := 4, data := m }], hist := satFlag (setb u.hist 7) 9 n,
           ppsMissOut := if u.ppsMissOut.testBit i then u.ppsMissOut else u.ppsMissOut + 2 ^ i }

/-- The placement term of a pulse at the crossing `crossT`, in 0.5 ps: how far the crossing lies after an edge of the VCO, which the feedback
words of the steering DPLL and the alignment relate to MTS (R268, R308, R310). DEDUCED, unsafe: log entry 29. -/
def State.placement (s : State) (m crossT : Nat) : Rat :=
  match s.steererOf (s.opllOfOut m) with
  | none => 0
  | some k =>
    let fb := s.fbPoint k
    let p := s.vcoPeriod m
    let x : Rat := ((wrapDiff edgeMod crossT fb.1 : Int) : Rat) - fb.2.1
    if p = 0 then 0 else (x - p * ((x / p).floor : Int)) * (125 / 4096)

/-- The crossing into `sec` at `crossT` (2^-16 ns) on output `m` of domain `t`, with word 0x79 and the width word (R309,
R370). A belay output takes its pulses from the always-on generator until one of its OPLL is placeable and aligned (R540). -/
def State.pulse (s : State) (t sec : Nat) (crossT : Nat) (ctl width : Word) (m : Nat) : State :=
  let u := s.out m
  let w := if bit ctl 1 && decide (8 ≤ width.toNat) && decide (width.toNat ≤ 500000000) then width.toNat else u.ppsWidth
  let rise := wrapNat edgeMod ((crossT : Int) + ratRound (s.outPhi m))
  let fresh := match u.lastSec with | none => true | some x => decide (x < sec)
  let aon := s.belay.gen.contains m && decide (u.state = .running) && !(decide (s.belay.phase ≠ 1) && s.placeable m && u.aligned)
  if !(u.pps && u.configured && decide (u.ppsTd = t % 16)) then s
  else if aon then s.modOut m fun v => { v with lastSec := some sec, lastRise := some rise }
  else if !(decide (u.state = .running) || decide (u.state = .starting)) || !fresh || bit ctl 0 then s
  else
    let spaced := match u.lastRise with
      | none => true
      | some r => decide (((w + 100) * 65536 : Nat) ≤ wrapDiff edgeMod rise r)
    if spaced && s.placeable m then
      ((s.setDelay m (s.placement m crossT)).modOut m fun v =>
        { v with lastSec := some sec, lastRise := some rise, pulseNs := w, pulses := v.pulses + 1, state := .running,
                 hist := setbIf v.hist 0 (decide (v.state = .starting)) }).modBelay fun b => { b with gen := b.gen.filter (· ≠ m) }
    else s.modTd t fun d => d.miss m (m % 16)

/-! ## A whole-second crossing (R293, R306, R307, R312) -/

/-- The context words of a CROSSING invocation (R365). -/
def TdUnit.crossCtx (u : TdUnit) (sec crossMts : Nat) : List Word :=
  let named := (sec + b2n u.tod.lead) % 2 ^ 64
  let r := u.tod.utc named
  cw2 named ++ [cw (u.todFlags r.2.2.1), BitVec.ofInt 32 r.2.2.1.utcOfs, cw r.1.dateBcd, cw r.1.timeBcd] ++ cw2 crossMts ++
    [cw u.stepSeq, cw r.1.doy]

/-- The crossing of a whole second `off` ns after boundary `k`: the offset, the second reached, and whether the counter still has to be
moved to it. One reached exactly at the latest boundary belongs to the open window (R121, R293). -/
def TdUnit.crossing (u : TdUnit) : Option (Rat × Nat × Bool) :=
  match u.atSec with
  | some sec => some (0, sec, false)
  | none => if u.crossOffset < windowNs then some (u.crossOffset, (u.sec + 1) % 2 ^ 64, true) else none

/-- Domain `t` crosses the whole second `sec`, `off` ns after boundary `k` (R293, R306 to R309, R312, R370).
DEDUCED, unsafe: log entry 30. -/
def State.cross (s : State) (t k : Nat) (off : Rat) (sec : Nat) (move : Bool) : State :=
  let u := s.td t
  let crossT := wrapNat edgeMod ((edgeOf k : Int) + ratRound (off * 65536))
  let counted := match u.maxCross with | none => true | some x => decide (x < sec)
  let tod := u.todPend.getD u.tod
  let u := if move then { u with sec := sec, sub := 0, resid := 0, ahead := off } else u
  let v := { u with atSec := none, crossT := some crossT, tod := tod, todPend := none,
                    maxCross := if counted then some sec else u.maxCross, hist := setbIf u.hist 5 (decide (sec = 0)),
                    happened := noteIf u.happened (decide (sec = 0)) { sub := 5 } }
  let due := counted && decide (tod.format ≠ 0) && (decide (u.state = .tracking) || decide (u.state = .freerun))
  let v := if due then { v with todDue := true, crossSec := sec, crossMts := crossT / 16 } else v
  let s1 := s.setTd t v
  let e := engineOfTd t
  let loc := (s1.stitch e).loc
  let s2 := s1.forEach ((List.range 16).map (· + 16 * dieOfTd t)) fun x m => x.pulse t sec crossT (loc.getD 25 0) (loc.getD 26 0) m
  let s3 := s2.modStitch e fun g => ({ g with loc := g.loc.set 25 0 }).event 3
  if due then s3.trigger e 0 (v.crossCtx sec (crossT / 16)) else s3

/-- The crossings of domain `t` in the window that opened at boundary `k`. -/
def State.crossAll (s : State) (t k : Nat) : State :=
  let s1 := match (s.td t).crossing with | some (off, sec, move) => s.cross t k off sec move | none => s
  match (s.td t).atSec, (s1.td t).crossing with
  | some _, some (off, sec, move) => s1.cross t k off sec move
  | _, _ => s1

/-- The counting of domain `t` through the window that ends at boundary `k + 1`, its crossings included (R293): a second reached
exactly at that boundary is crossed in the next window (R121). DEDUCED, unsafe: log entry 24. -/
def State.tdCount (s : State) (t k : Nat) : State :=
  let u := s.td t
  if !u.enable then s
  else
    let s1 := s.crossAll t k
    let v := s1.td t
    let w := v.advance (windowNs - v.ahead)
    let at' := if decide (w.sec ≠ v.sec) && decide (w.sub = 0) && decide (w.resid = 0) then some w.sec else none
    s1.setTd t { w with ahead := 0, run := u.run + (u.perNs * windowNs).floor.toNat, atSec := at' }

/-! ## Steps and offsets (R296 to R303) -/

/-- A step of `d` (2^-48 ns) at boundary `k`; a pending offset is discarded and counted when `drop` (R297). -/
def TdUnit.step (u : TdUnit) (d : Int) (k : Nat) (drop : Bool) : TdUnit :=
  let n := satInc u.stepCnt
  let r := if drop && u.pendOfs.isSome then satInc u.ofsRejCnt else u.ofsRejCnt
  let v := u.setTotal ((u.total : Int) + d)
  { v with stepSeq := (u.stepSeq + 1) % 16, stepCnt := n, hist := satFlag (satFlag (setb u.hist 0) 9 n) 9 r, ofsRejCnt := r,
           stepK := some k, happened := u.happened ++ [{ sub := 0, data := (u.stepSeq + 1) % 16, mts := some (mtsOf k) }], stepMark := u.stepMark ++ [divRound d (2 ^ 32)], pendOfs := none, commit := false }

/-- One time write at boundary `k` (R296, R298, R302). DEDUCED, unsafe: log entry 30. -/
def TdUnit.writeTime (u : TdUnit) (k : Nat) (w : TimeWrite) : TdUnit :=
  let d : Int := match w with
    | .absolute val atM =>
      let dt : Rat := if atM = 0 then 0 else ((wrapDiff (2 ^ 64) atM (mtsOf k) : Int) : Rat) / 4096
      (val : Int) - ((u.total : Int) + (dt * u.perNs).floor)
    | .relative x => x * (2 ^ 32 : Int)
  { u.step d k true with firstOfs := true, given := true, state := if u.state = .tracking then .tracking else .freerun }

/-- The time writes accepted since the latest boundary take effect at boundary `k`, each as a step of its own, in the order of the commands
(R296). DEDUCED, unsafe: log entry 30. -/
def TdUnit.applyWrite (u : TdUnit) (k : Nat) : TdUnit :=
  let v := { u with timeWrite := [] }
  if !u.enable || u.held then v else u.timeWrite.foldl (fun x w => x.writeTime k w) v

/-- A pending offset is refused (R300). -/
def TdUnit.refuse (u : TdUnit) : TdUnit :=
  let n := satInc u.ofsRejCnt
  { u with pendOfs := none, commit := false, ofsRejCnt := n, hist := satFlag (setb u.hist 2) 9 n }

/-- SLEW_MAX in word units: 0.01 ppm each (R327). -/
def TdUnit.slew (u : TdUnit) : Rat := pptWord (10000 * u.set.slewMax)

/-- The servo on an accepted offset `th` (2^-16 ns), `dt` seconds after the previous one (R301). -/
def TdUnit.servo (u : TdUnit) (th : Int) (dt : Rat) : TdUnit :=
  let e : Rat := (th : Rat) / (edgePerSec : Rat)
  let ki : Rat := if u.set.syn then 0 else (u.set.ki : Rat) / (2 ^ 24 : Nat)
  let i := u.integ - ki * e * dt * wordOne
  let y := i - (u.set.kp : Rat) / 65536 * e * wordOne
  let lim := u.slew
  let sat := decide (lim < ratAbs y)
  let i' := if sat && decide ((0 < y ∧ u.integ < i) ∨ (y < 0 ∧ i < u.integ)) then u.integ else i
  { u with integ := i', y := clampQ (-lim) lim y, slewLimit := sat, hist := setbIf u.hist 3 sat }

/-- A pending offset is taken at boundary `k` (R300, R301). The second result says that it was accepted. -/
def TdUnit.intake (u : TdUnit) (k : Nat) : TdUnit × Bool :=
  match u.pendOfs with
  | none => (u, false)
  | some (th, tm) =>
    let b := mtsOf k
    let age := wrapDiff (2 ^ 64) b tm
    let bad := !u.enable || u.held || decide (age < 0) || decide ((u.set.maxAgeMs * 4096000000 : Nat) < age) ||
      (match u.lastTm with | some l => decide (wrapDiff (2 ^ 64) tm l ≤ 0) | none => false) ||
      (match u.stepK with | some j => decide (wrapDiff (2 ^ 64) tm (mtsOf j) ≤ 0) | none => false)
    if bad then (u.refuse, false)
    else
      let n := satInc u.ofsCnt
      let dt : Rat := match u.lastAccK with
        | none => 1
        | some j => clampQ (1 / 1000) 16 (((k - j : Nat) : Rat) / (winPerSec : Rat))
      let v := { u with pendOfs := none, commit := false, ofsCnt := n, hist := satFlag u.hist 9 n, lastTm := some tm, lastAccK := some k,
                        firstOfs := false, given := true, state := .tracking }
      let stepIt := (u.firstOfs && u.set.firstStep && decide (th ≠ 0)) || (decide (u.set.stepThr ≠ 0) && decide (u.set.stepThr ≤ th.natAbs))
      ((if stepIt then v.step (- th * (2 ^ 32 : Int)) k false else v.servo th dt), true)

/-- New settings at a boundary: a change of SYN or SYN_DPLL clears the integrator (R324, R327). -/
def TdUnit.applySet (u : TdUnit) : TdUnit :=
  match u.setPend with
  | none => u
  | some g =>
    let chg := decide (g.syn ≠ u.set.syn) || decide (g.synDpll ≠ u.set.synDpll)
    { u with set := g, setPend := none, integ := if chg then 0 else u.integ, frozen := false, parityHold := false,
             synLost := u.synLost && g.syn }

/-- u_k of DPLL `k` at an update boundary (R303). -/
def State.ukOf (s : State) (k : Nat) : Int :=
  let m : Rat := if (s.dpll k).numeric then 0 else s.meterMean (s.portOfDpll k)
  fmtFreq (((s.dpll k).steer : Rat) + m)

/-- u_k of a domain: from a DPLL of its own die at once, from another die when a value has arrived (R303). -/
def State.tdSyn (s : State) (t : Nat) (u : TdUnit) : TdUnit :=
  if !u.set.syn then { u with ukArrived := false }
  else
    let k := u.set.synDpll
    let on := (s.dpll k).enable && decide ((s.dpll k).cfg.role ≠ 0)
    let own := decide (dieOfDpll k = dieOfTd t)
    let got := on && (own || u.ukArrived)
    if got then { u with uk := if own then s.ukOf k else u.uk, synLost := false, ukArrived := false }
    else { u with synLost := true, hist := setb u.hist 4, ukArrived := false }

/-- The snapshot at boundary `k` (R304). DEDUCED, unsafe: log entry 52. -/
def TdUnit.snapshot (u : TdUnit) (k : Nat) : TdUnit :=
  { u with snapSeq := (u.snapSeq + 1) % 2 ^ 32, snapSec := u.sec, snapNs := u.sub / 2 ^ 48, snapFrac := u.sub / 2 ^ 16 % 2 ^ 32,
           snapMts := mtsOf k, base := u.total }

/-- The word of the virtual input for the window that closes (R125, R297). DEDUCED, unsafe: log entry 24. -/
def State.virtWord (s : State) (t : Nat) : PhaseWord :=
  let u := s.td t
  let n := 192 + t
  let w : PhaseWord := { u.word with state := s.inState n, cause := (s.input n).cause, valid := s.numericValid (dieOfTd t), numeric := true,
                                     missing := false, glitch := false, merge := false,
                                     step := !u.stepMark.isEmpty || (s.input n).stepMark }
  match u.crossT with
  | some x => { w with edgeT := wrapNat edgeMod ((x : Int) - (s.input n).decl.boardDelay), edges := 1 }
  | none => { w with edges := 0 }

/-- LOS of a virtual input follows its domain's state (R91, R302). DEDUCED, unsafe: log entry 24. -/
def InputUnit.virtLos (u : InputUnit) (lost : Bool) : InputUnit :=
  if lost then (if u.los then u else u.losOn) else (if u.los then u.losOff else u)

/-- The domain of virtual input `n` is disabled, or has had no time written and no offset received since its enable (R91). -/
def State.domainLost (s : State) (n : Nat) : Bool := !(s.td (n - 192)).enable || !(s.td (n - 192)).given

/-- LOS of the virtual input of domain `t` follows ENABLE at once: it reads 1 in OFF and UNSET (R302). -/
def State.losOfDomain (s : State) (t : Nat) : State :=
  if (s.input (192 + t)).running then s.modInput (192 + t) fun u => u.virtLos (s.domainLost (192 + t)) else s

/-- STALE clears at an accepted offset; in a measurement gap it stays, and clears after it (R88, R91). -/
def InputUnit.staleAccept (u : InputUnit) (gap acc : Bool) : InputUnit :=
  if gap then { u with staleEnd := u.staleEnd || acc } else { u with stale := u.stale && !(acc || u.staleEnd), staleEnd := false }

/-- Domain `t` at boundary `k`, after counting: its word, its settings, its write, its offset, its rate and its snapshot
(R295 to R304), and its virtual input (R91). Once belay is entered the servo takes no offset (R324). -/
def State.tdBoundary (s : State) (t k : Nat) : State :=
  let w := s.virtWord t
  let n := 192 + t
  let mark := (s.td t).stepMark
  let gap := (s.input n).inGap w.valid
  let s := s.modInput n fun i => { (i.pjDomain gap w.edges mark (mtsOf k)) with stepMark := false }
  let u := { s.td t with word := w, stepMark := [], crossT := none }
  let u := u.applySet
  let u := u.applyWrite k
  let r : TdUnit × Bool := if s.belay.phase = 1 then (u, false) else u.intake k
  let stepped := decide (r.1.stepK = some k)
  let u := s.tdSyn t r.1
  let u := if u.enable && !u.held then { u with rate := u.rateNow } else u
  let s := s.setTd t (u.snapshot k)
  let s := s.modInput n fun i => i.staleAccept gap r.2
  s.modStitch (engineOfTd t) fun e =>
    let e := e.event 0
    let e := if r.2 then e.event 1 else e
    if stepped then e.event 2 else e

/-! ## Enables, expiry, abort (R302) -/

def TdUnit.turnOn (u : TdUnit) (k : Nat) : TdUnit :=
  if u.enable then u
  else
    let v := { u with enable := true, state := .unset, firstOfs := true, given := false, lastAccK := none, enableK := k }
    if v.held then v else { v with rate := v.rateNow }

def TdUnit.turnOff (u : TdUnit) : TdUnit :=
  if u.enable then
    let n := if u.pendOfs.isSome then satInc u.ofsRejCnt else u.ofsRejCnt
    { u with enable := false, state := .off, pendOfs := none, commit := false, ofsRejCnt := n, hist := satFlag u.hist 9 n, timeWrite := [], todDue := false }
  else u

/-- HOLD_MS has elapsed since the last accepted offset (R302). -/
def TdUnit.holdExpire (u : TdUnit) (k : Nat) : TdUnit :=
  match u.lastAccK with
  | some j =>
    if u.state = .tracking ∧ j + u.set.holdMs * winPerMs ≤ k then
      { u with state := .freerun, y := u.integ, slewLimit := false, hist := setb u.hist 1 }
    else u
  | none => u

/-- Abort completes, or a configuration parity fault is found: neither row sets FREERUN_H (R302).
DEDUCED, unsafe: log entry 30. -/
def TdUnit.abort (u : TdUnit) : TdUnit :=
  if u.state = .off then u else { u with state := .freerun, frozen := true, integ := 0, y := 0, slewLimit := false }
def TdUnit.parityFault (u : TdUnit) : TdUnit :=
  if u.state = .off then u else { u with state := .freerun, parityHold := true }

/-- A commit of TD_OFS: the latest wins, the replaced offset counts (R299). -/
def TdUnit.commitOfs (u : TdUnit) : TdUnit :=
  let n := if u.pendOfs.isSome then satInc u.ofsRejCnt else u.ofsRejCnt
  { u with pendOfs := some (u.ofs, u.ofsMts), commit := true, ofsRejCnt := n, hist := satFlag u.hist 9 n }

/-! ## Commands (R327 to R331) -/

def tdChecks (s : State) (n : Nat) : List (Bool × Nat) :=
  [(decide (n < 128) && !s.hasTd n, retAbsent), (decide (n < 128) && !s.dieUp (dieOfTd n), retNotReady)]

def tdSetOf (p : List Byte) : TdSet :=
  { syn := (uAt p 2 1).testBit 0, firstStep := (uAt p 2 1).testBit 1, synDpll := uAt p 3 1, kp := uAt p 4 4, ki := uAt p 8 4,
    slewMax := uAt p 12 4, holdMs := uAt p 16 2, maxAgeMs := uAt p 18 2, stepThr := uAt p 24 8 }

/-- Settings R327 rejects with ERR_BAD_PARAM. -/
def tdSetBad (p : List Byte) : Bool :=
  let g := tdSetOf p
  decide (4 ≤ uAt p 2 1) || decide (64 ≤ g.synDpll) || (!g.syn && decide (g.synDpll ≠ 0)) || decide (4194304 < g.kp) ||
    decide (1073741824 < g.ki) || decide (g.slewMax = 0) || decide (50000 < g.slewMax) || decide (g.holdMs < 100) ||
    decide (g.maxAgeMs = 0) || decide (16000 < g.maxAgeMs) || !rsv p 20 4 || decide (2 ^ 63 ≤ g.stepThr)

def tdConfigReply (_c : Nat) (p : List Byte) (s : State) : Reply :=
  let n := uAt p 0 2
  let g := tdSetOf p
  guarded s
    ([((decide (n < 128) && !s.hasTd n) || (g.syn && decide (g.synDpll < 64) && !s.hasDpll g.synDpll), retAbsent)] ++
      (tdChecks s n).drop 1 ++ [(decide (128 ≤ n) || tdSetBad p, retBadParam)])
    (okReply (s.modTd n fun u => { u with setPend := some g }))

/-- The settings in force in the layout of R327. -/
def TdUnit.setBytes (u : TdUnit) (n : Nat) : List Byte :=
  let g := u.set
  leBytes 2 n ++ leBytes 1 (b2n g.syn + 2 * b2n g.firstStep) ++ leBytes 1 g.synDpll ++ leBytes 4 g.kp ++ leBytes 4 g.ki ++
    leBytes 4 g.slewMax ++ leBytes 2 g.holdMs ++ leBytes 2 g.maxAgeMs ++ zeros 4 ++ leBytes 8 g.stepThr

def tdGetConfigReply (_c : Nat) (p : List Byte) (s : State) : Reply :=
  let n := uAt p 0 2
  guarded s (tdChecks s n ++ [(decide (128 ≤ n) || !rsv p 2 2, retBadParam)]) (okWith ((s.td n).setBytes n) s)

/-- The write of the time TD_SET_TIME carries (R328). -/
def timeWriteOf (p : List Byte) : TimeWrite :=
  if uAt p 2 1 = 0 then .absolute (uAt p 8 8 * secUnit + uAt p 16 4 * 2 ^ 48 + uAt p 4 4 * 2 ^ 16) (uAt p 24 8) else .relative (sAt p 32 8)

/-- A time R328 rejects with ERR_BAD_PARAM. -/
def State.timeBad (s : State) (p : List Byte) : Bool :=
  let mode := uAt p 2 1
  let atM := uAt p 24 8
  let far := decide (atM ≠ 0) && decide (4096000000000 < (wrapDiff (2 ^ 64) atM s.mts).natAbs)
  decide (1 < mode) || !rsv p 3 1 || !rsv p 20 4 || decide (999999999 < uAt p 16 4) ||
    (decide (mode = 1) && (!rsv p 4 16 || !rsv p 24 8)) || (decide (mode = 0) && (!rsv p 32 8 || far))

def tdSetTimeReply (_c : Nat) (p : List Byte) (s : State) : Reply :=
  let n := uAt p 0 2
  let u := s.td n
  guarded s (tdChecks s n ++ [(decide (n < 128) && decide (u.state = .off), retNotReady), (decide (128 ≤ n) || s.timeBad p, retBadParam),
      (u.held, retBusy)])
    (okReply (s.setTd n { u with timeWrite := u.timeWrite ++ [timeWriteOf p], firstOfs := true }))

/-- TD_STAT (R325). -/
def TdUnit.stat (u : TdUnit) : Word :=
  put 0 2 u.state.code ||| putb 2 u.synLost ||| putb 3 u.frozen ||| putb 4 u.parityHold ||| putb 5 u.slewLimit |||
    putb 6 u.tod.leapPend ||| put 8 4 u.stepSeq

def tdGetTimeReply (_c : Nat) (p : List Byte) (s : State) : Reply :=
  let n := uAt p 0 2
  let u := s.td n
  guarded s (tdChecks s n ++ [(decide (128 ≤ n) || !rsv p 2 2, retBadParam)])
    (okWith (leBytes 2 n ++ leBytes 1 u.state.code ++ leBytes 1 (u.stat.toNat % 256) ++ leBytes 4 u.snapNs ++ leBytes 8 u.snapSec ++
      leBytes 4 u.snapFrac ++ zeros 4 ++ leBytes 8 u.snapMts ++ leBytesI 8 u.rate) s)

def todOf (p : List Byte) : TodSet :=
  let fl := uAt p 5 1
  { format := uAt p 2 1, baud := uAt p 3 1, gpio := uAt p 4 1, lead := fl.testBit 0, leapPend := fl.testBit 1, leapNeg := fl.testBit 2,
    delayMs := uAt p 6 2, utcOfs := sAt p 8 2, talker := uAt p 10 2 }

/-- An ASCII capital. -/
def isCap (n : Nat) : Bool := decide (65 ≤ n) && decide (n ≤ 90)

/-- A time-of-day setting R330 rejects with ERR_BAD_PARAM. -/
def todBad (p : List Byte) : Bool :=
  let g := todOf p
  decide (3 < g.format) || decide (8 < g.baud) || decide (15 < g.gpio) || decide (8 ≤ uAt p 5 1) || decide (999 < g.delayMs) ||
    !rsv p 12 4 || (decide (g.format = 1) && (!isCap (uAt p 10 1) || !isCap (uAt p 11 1) || !todFits g.delayMs 38 g.baud)) ||
    (decide (g.format = 2) && !todFits g.delayMs 22 g.baud)

def tdSetTodReply (_c : Nat) (p : List Byte) (s : State) : Reply :=
  let n := uAt p 0 2
  guarded s (tdChecks s n ++ [(decide (128 ≤ n) || todBad p, retBadParam)])
    (okReply (s.modTd n fun u => { u with todPend := some (todOf p) }))

/-- TD_CFG (R325). -/
def TdUnit.cfgWord (u : TdUnit) : Word :=
  putb 0 u.set.syn ||| putb 1 u.set.firstStep ||| put 2 2 u.tod.format ||| put 4 4 u.tod.gpio ||| put 8 7 u.set.synDpll

end Sys2Proof.Machine
end

