-- ==== Sys2Proof/Machine/Events.lean ====
section
/-! DEFINITION. Event channels and event records (chapter 08, R318 to R323), and the export buffers (R56, R57). -/

namespace Sys2Proof.Machine
open Sys2Proof

/-- A signed number below 2^n as a field. -/
def at' (lo v : Nat) : Nat := v * 2 ^ lo

/-- The MTS of an edge at extended time `x` converted in domain `u`, whose window began at boundary `k`, in 2^-32 ns (R104, R319). -/
def TdUnit.convert (u : TdUnit) (k x : Nat) : Nat :=
  let dt : Rat := ((wrapDiff (2 ^ 64) (extToMts x) (mtsOf k) : Int) : Rat) / 4096
  let t : Rat := if u.enable then (u.base : Rat) + dt * u.perNs else (u.base : Rat)
  wrapNat (2 ^ 64 * 1000000000 * 2 ^ 32) (ratRound (t / 65536))

/-- NS of a converted time. -/
def convNs (c : Nat) : Nat := c / 2 ^ 32 % 1000000000

/-- The die-local pair mode of event pin `e`: set on the even pin (R323). -/
def State.pairMode (s : State) (e : Nat) : Bool := (s.ev (e - e % 2)).effMode

/-- An edge of a pair's pin `e` at extended time `x` meets the pair's unpaired edges; the start edge is converted with the window that holds
it (R127, R319). -/
def State.pairEdge (s : State) (e x : Nat) : State :=
  let a := e - e % 2
  let me := s.chan (chanOfEv e)
  let oe := if e % 2 = 0 then e + 1 else e - 1
  let other := s.chan (chanOfEv oe)
  let ns := convNs ((s.td (16 * (a / 16) + (s.ev a).effTd)).convert s.tb.k x)
  match other.unpaired with
  | some y =>
    let start := if e % 2 = 0 then x else y
    let stop := if e % 2 = 0 then y else x
    let ref := if e % 2 = 0 then ns else (s.ev oe).ref
    let s := s.setChan (chanOfEv oe) { other with unpaired := none }
    s.modEv a fun v => { v with edges := v.edges ++ [(x, start, some (wrapDiff extMod stop start, ref))] }
  | none =>
    match me.unpaired with
    | some _ =>
      let m := satInc me.merged
      let s := s.setChan (chanOfEv e) { me with unpaired := some x, merged := m, sat := me.sat || decide (0xFFFFFFFF ≤ m) }
      s.modEv e fun v => { v with mergedMark := true, ref := ns }
    | none => (s.setChan (chanOfEv e) { me with unpaired := some x }).modEv e fun v => { v with ref := ns }

/-- An edge goes before another in its pair: by timestamp, and on an equal one pin 2k before pin 2k + 1 (R127). -/
def pairBefore (a b : Nat × Nat) : Bool :=
  let d := wrapDiff extMod a.1 b.1
  decide (d < 0) || (decide (d = 0) && decide (a.2 ≤ b.2))

/-- Inserts an edge of a pair in its order. -/
def insPair (x : Nat × Nat) : List (Nat × Nat) → List (Nat × Nat)
  | [] => [x]
  | y :: ys => if pairBefore y x then y :: insPair x ys else x :: y :: ys

/-- The pair of even pin `a` handles the edges it holds, in timestamp order (R127). -/
def State.pairRun (s : State) (a : Nat) : State :=
  let q := (s.ev a).pairQ
  if q.isEmpty then s else q.foldl (fun t x => t.pairEdge x.2 x.1) (s.modEv a fun v => { v with pairQ := [] })

/-- Every pair handles the edges of the window that ends (R127). -/
def State.pairAll (s : State) : State :=
  if s.part.featE then s.forEach ((s.all 8).map (2 * ·)) State.pairRun else s

/-- An edge of event pin `e` at extended time `x` that the channel has accepted (R318, R127): a timestamp edge, or one that its pair
handles in the order of the timestamps when the window ends. DEDUCED, unsafe: log entry 27. -/
def State.evEdge (s : State) (e x : Nat) : State :=
  let u := s.ev e
  let n := satInc u.cnt
  let s := s.setEv e { u with cnt := n, hist := satFlag u.hist 2 n }
  if s.pairMode e then s.modEv (e - e % 2) fun v => { v with pairQ := insPair (x, e) v.pairQ }
  else s.modEv e fun v => { v with edges := v.edges ++ [(x, x, none)] }

/-- The record of one edge of channel `e` (R320). `td` is the domain and `t` its index; `k` the boundary that opened the
window. -/
def recordOf (e : Nat) (u : EvUnit) (td : TdUnit) (t k : Nat) (drop merged : Bool) (ed : Nat × Nat × Option (Int × Nat)) : BitVec 128 :=
  let x := ed.1
  let valid := !u.effMtsOnly && (decide (td.state = .tracking) || decide (td.state = .freerun))
  let common := at' 104 (b2n valid) + at' 105 (b2n drop) + at' 106 (b2n merged) + at' 107 (b2n u.effEdge) +
    at' 108 (if u.effMtsOnly then 0 else td.stepSeq) + at' 112 (if u.effMtsOnly then 0x7F else t) + at' 119 e
  match ed.2.2 with
  | none =>
    if u.effMtsOnly then BitVec.ofNat 128 (extToMts x + common)
    else
      let c := td.convert k x
      BitVec.ofNat 128 (c % 2 ^ 32 + at' 32 (convNs c) + at' 64 (c / 2 ^ 32 / 1000000000 % 2 ^ 32) + common)
  | some dx =>
    let ref := if u.effMtsOnly then extToMts ed.2.1 / 2 ^ 12 % 2 ^ 32 else dx.2
    BitVec.ofNat 128 (intervalOf dx.1 + at' 64 ref + common + at' 126 1)

/-- What the formation of records threads through the edges of a channel. -/
structure RecAcc where
  u : EvUnit
  /-- The merged mark of the odd pin of a pair. -/
  odd : Bool := false
  out : List (Nat × Nat × BitVec 128) := []
deriving DecidableEq, Repr

/-- One token in the units of the bucket: extended time units per second (R322). -/
def tokenUnit : Nat := 32000 * (mtsPerWindow * 320)

/-- The bucket gains RATE_LIM tokens per second up to `pos`, extended time into the open window, and holds at most 256 (R322).
DEDUCED, unsafe: log entry 52. -/
def EvUnit.gain (u : EvUnit) (pos : Nat) : EvUnit :=
  let r := if u.effRate = 0 then 16000000 else u.effRate
  { u with tokens := min (256 * tokenUnit) (u.tokens + r * (pos - u.tokAt)), tokAt := max u.tokAt pos }

/-- One edge through decimation and the token bucket (R322). -/
def recordStep (e : Nat) (td : TdUnit) (t k : Nat) (a : RecAcc) (ed : Nat × Nat × Option (Int × Nat)) : RecAcc :=
  let u := a.u.gain (min (mtsPerWindow * 320) (wrapDiff extMod ed.1 (extOf k)).toNat)
  let dec := if u.effDecim = 0 then 1 else u.effDecim
  if u.decimCnt + 1 < dec then { a with u := { u with decimCnt := u.decimCnt + 1 } }
  else if u.tokens < tokenUnit then
    let n := satInc u.rdropCnt
    { a with u := { u with decimCnt := 0, rdropCnt := n, hist := satFlag (setb u.hist 0) 2 n, droppedMark := true } }
  else
    let m := u.mergedMark || a.odd
    { u := { u with decimCnt := 0, tokens := u.tokens - tokenUnit, droppedMark := false, mergedMark := false, hist := setbIf u.hist 1 m },
      odd := false, out := a.out ++ [(ed.1, e, recordOf e u td t k u.droppedMark m ed)] }

/-- The records of channel `e` for the window that opened at boundary `k`, with the channel after them (R321, R322). The
domain is taken from `s`, before the boundary's effects. -/
def State.evRecords (s : State) (e k : Nat) : RecAcc :=
  let u := s.ev e
  let t := 16 * (e / 16) + u.effTd
  let odd := s.pairMode e && decide (e % 2 = 0) && (s.ev (e + 1)).mergedMark
  u.edges.foldl (recordStep e (s.td t) t k) { u := { u with edges := [] }, odd := odd }

/-- The settings a channel takes at a boundary, and the tokens it gains (R318, R322). A change of MODE discards unpaired
edges (R323). -/
def EvUnit.boundary (u : EvUnit) : EvUnit :=
  { (u.gain (mtsPerWindow * 320)) with
           effEnable := u.enable, effMode := u.mode, effEdge := u.edge, effMtsOnly := u.mtsOnly, effTd := u.td, effRate := u.rateLim,
           effDecim := u.decim, tokAt := 0 }

/-- Record `a` leaves before record `b`: by MTS, equal MTS by event index (R321). -/
def recBefore (k : Nat) (a b : Nat × Nat × BitVec 128) : Bool :=
  let x := extToMts a.1
  let y := extToMts b.1
  let d := wrapDiff (2 ^ 64) x (mtsOf k) - wrapDiff (2 ^ 64) y (mtsOf k)
  decide (d < 0) || (decide (d = 0) && decide (a.2.1 ≤ b.2.1))

/-- Inserts a record in order. -/
def insRec (k : Nat) (r : Nat × Nat × BitVec 128) : List (Nat × Nat × BitVec 128) → List (Nat × Nat × BitVec 128)
  | [] => [r]
  | x :: xs => if recBefore k x r then x :: insRec k r xs else r :: x :: xs

/-- The records of a die in the order they leave (R321). -/
def sortRecs (k : Nat) (l : List (Nat × Nat × BitVec 128)) : List (BitVec 128) :=
  (l.foldl (fun a r => insRec k r a) []).map (·.2.2)

/-- Records reach the export buffer of die `d`: 4 096 entries on a follower; what finds it full is dropped and counted
(R56, R57). Die 0's own records go to its intake. -/
def State.pushExport (s : State) (d : Nat) (rs : List (BitVec 128)) : State :=
  if d = 0 then s.modDie 0 fun u => { u with intake := u.intake ++ rs }
  else
  let q := (s.die d).exportQ
  let room := 4096 - q.length
  let lost := rs.length - room
  let s1 := s.modDie d fun u => { u with exportQ := q ++ rs.take room }
  if lost = 0 then s1
  else
    let n := satAdd (s.tb.evxDrop.getD d 0) lost
    { s1 with tb := { s1.tb with evxDrop := s1.tb.evxDrop.set d n, evxSat := satFlag s1.tb.evxSat d n } }

/-- The event channels of die `d` at the boundary that closes the window opened at boundary `k` (R318 to R323). `old` is
the state before the boundary's effects. -/
def State.evBoundary (s old : State) (d k : Nat) : State :=
  let es := (List.range 16).map (· + 16 * d)
  let rs := es.flatMap fun e => (old.evRecords e k).out
  let s1 := s.forEach es fun x e =>
    let a := (old.evRecords e k).u
    let used := old.pairMode e && decide (e % 2 = 1) && !(old.evRecords (e - 1) k).out.isEmpty
    let a := if used then { a with mergedMark := false } else a
    let chg := decide ((x.ev (e - e % 2)).mode ≠ (x.ev (e - e % 2)).effMode)
    let y := x.setEv e { a with enable := (x.ev e).enable, mode := (x.ev e).mode, edge := (x.ev e).edge, mtsOnly := (x.ev e).mtsOnly,
                                td := (x.ev e).td, rateLim := (x.ev e).rateLim, decim := (x.ev e).decim }
    if chg then y.modChan (chanOfEv e) fun c => { c with unpaired := none } else y
  let s2 := s1.forEach es fun x e => x.modEv e EvUnit.boundary
  s2.pushExport d (sortRecs k rs)

/-- A write of EV_CTRL (0x00) or EV_RATE (0x04) (R322, R326). -/
def EvUnit.write (u : EvUnit) (off : Nat) (w : Word) : EvUnit :=
  if off = 0 then
    { u with enable := bit w 0, mode := bit w 1, edge := bit w 2, mtsOnly := bit w 3, td := fld w 4 4 }
  else if off = 4 then { u with rateLim := min 16000000 (fld w 0 24), decim := fld w 24 8 }
  else u

def EvUnit.ctrl (u : EvUnit) : Word :=
  putb 0 u.enable ||| putb 1 u.mode ||| putb 2 u.edge ||| putb 3 u.mtsOnly ||| put 4 4 u.td
def EvUnit.rateWord (u : EvUnit) : Word := put 0 24 u.rateLim ||| put 24 8 u.decim

end Sys2Proof.Machine
end

