-- ==== Sys2Proof/Machine/Fabric.lean ====
section
/-! DEFINITION. The package timebase (chapter 01), the shuttle fabric and the clock-domain crossings (chapter 09). -/

namespace Sys2Proof.Machine
open Sys2Proof

/-! ## The grid (R332 to R334) -/

/-- Row and column of a die (R332). -/
def gridOf : Nat → Nat × Nat
  | 0 => (0, 0) | 1 => (0, 1) | 2 => (1, 0) | 3 => (1, 1) | 4 => (0, 2) | 5 => (1, 2) | 6 => (0, 3) | _ => (1, 3)

/-- The clock parent of a die in the grid (R332). -/
def gridParent : Nat → Nat
  | 3 => 1 | 4 => 1 | 5 => 4 | 6 => 4 | 7 => 6 | _ => 0

/-- The grid place port `l` of die `d` faces: 0 east, 1 west, 2 north, 3 south (R333). -/
def facing (d l : Nat) : Option (Nat × Nat) :=
  let g := gridOf d
  match l with
  | 0 => some (g.1, g.2 + 1)
  | 1 => if g.2 = 0 then none else some (g.1, g.2 - 1)
  | 2 => if g.1 = 0 then none else some (g.1 - 1, g.2)
  | 3 => some (g.1 + 1, g.2)
  | _ => none

/-- The fitted die port `l` of die `d` faces; none when the port is not present (R333). -/
def State.neighbour (s : State) (d l : Nat) : Option Nat :=
  match facing d l with
  | none => none
  | some g => (List.range s.nDies).find? fun x => decide (gridOf x = g)

/-- The port of the other side of a link. -/
def backPort (l : Nat) : Nat := match l with | 0 => 1 | 1 => 0 | 2 => 3 | _ => 2

/-- The port of die `d` that faces die `x`. -/
def State.portTo (s : State) (d x : Nat) : Option Nat := (List.range 4).find? fun l => decide (s.neighbour d l = some x)

/-- A link counts as UP for routes and paths: each side UP or in RESYNC (R334). -/
def State.linkOk (s : State) (d l : Nat) : Bool :=
  match s.neighbour d l with
  | none => false
  | some x =>
    let ok := fun (p : LinkPort) => decide (p.state = .up) || decide (p.state = .resync)
    ok (s.link d l) && ok (s.link x (backPort l))

/-- The dies within `h` links of die `x` (R334). -/
def State.within (s : State) (x : Nat) : Nat → List Nat
  | 0 => [x]
  | h + 1 =>
    let r := s.within x h
    r ++ ((List.range s.nDies).filter fun d => !r.contains d && (List.range 4).any fun l =>
      s.linkOk d l && (match s.neighbour d l with | some y => r.contains y | none => false))

/-- The dies within `h` links of die 0 (R334). -/
def State.reach (s : State) (h : Nat) : List Nat := s.within 0 h

/-- Die `d` has a path to die 0 of at most four links (R334). -/
def State.hasPath (s : State) (d : Nat) : Bool := (s.reach 4).contains d

/-- Links from die `x` to die `d` over links that count as UP; 5 when no route has at most four (R334). -/
def State.dist (s : State) (x d : Nat) : Nat := ((List.range 5).find? fun h => (s.within x h).contains d).getD 5

/-- Hops from die 0 over links that count as UP; 5 when there is no path. -/
def State.hops (s : State) (d : Nat) : Nat := s.dist 0 d

/-! ## Routes (R55, R334) -/

/-- The port a frame of die `d` for die `x` takes on the grid: along the row to the column, then along the column (R334). -/
def gridPort (d x : Nat) : Nat :=
  let a := gridOf d
  let b := gridOf x
  if a.2 < b.2 then 0 else if b.2 < a.2 then 1 else if b.1 < a.1 then 2 else 3

/-- Every link of the grid route from `d` to `x`, at most `n` of them, counts as UP. -/
def State.gridRouteOk (s : State) : Nat → Nat → Nat → Bool
  | 0, d, x => decide (d = x)
  | n + 1, d, x =>
    if d = x then true
    else s.linkOk d (gridPort d x) && (match s.neighbour d (gridPort d x) with | some y => s.gridRouteOk n y x | none => false)

/-- The port by which a frame of die `d` leaves for die `x`: the grid route while its links count as UP, else a shortest route of
at most four links, the lower-numbered first die among equals (R334). -/
def State.nextHop (s : State) (d x : Nat) : Option Nat :=
  if d = x then none
  else if s.gridRouteOk 4 d x then some (gridPort d x)
  else
    let best := (List.range 8).find? fun y => (List.range 4).any fun l =>
      decide (s.neighbour d l = some y) && s.linkOk d l && decide (s.dist y x + 1 = s.dist d x) && decide (s.dist d x ≤ 4)
    match best with
    | some y => s.portTo d y
    | none => none

/-- The links of the route from die `d` to die `x`, each as the sending die and its port, at most `n` of them (R334). -/
def State.linkRoute (s : State) : Nat → Nat → Nat → List (Nat × Nat)
  | 0, _, _ => []
  | n + 1, d, x =>
    match s.nextHop d x with
    | none => []
    | some l => (d, l) :: (match s.neighbour d l with | some y => s.linkRoute n y x | none => [])

/-- The port is UP on both sides, so that frames of class 1 pass without waiting (R334, R348). -/
def State.portUp (s : State) (d l : Nat) : Bool :=
  match s.neighbour d l with
  | some x => decide ((s.link d l).state = .up) && decide ((s.link x (backPort l)).state = .up)
  | none => false

/-- Frames of class 1 from die `d` reach die `x` now: it has a route, and no link of it is in RESYNC (R334, R348). -/
def State.routeUp (s : State) (d x : Nat) : Bool :=
  decide (s.dist d x ≤ 4) && (s.linkRoute 4 d x).all fun p => s.portUp p.1 p.2

/-- Sets a sticky bit of SHT_HIST on die `d`. -/
def State.shtHist (s : State) (d i : Nat) : State := s.modDie d fun u => { u with shtHist := setb u.shtHist i }

/-- The port of die `d` that faces its clock parent. -/
def State.parentPort (s : State) (d : Nat) : Option Nat := (List.range 4).find? fun l => (s.link d l).parent

/-- The exchanges on the parent link of die `d` begin anew (R63, R344). -/
def State.exchAnew (s : State) (d : Nat) : State :=
  match s.parentPort d with
  | some l => s.modLink d l fun p => { p with exch := [], exchCnt := 0 }
  | none => s

/-! ## DIE_UP (R37, R62, R63) -/

/-- DIE_UP of the followers (R37, R62, R63): it falls when every path is lost, and rises once the die is booted and linked and
its TB_SKEW is valid, after a loss of every path once steps 3 to 5 of R35 have run again: the exchanges on its parent link begin anew
when a path returns. DEDUCED, unsafe: log entry 53. -/
def State.refreshUp (s : State) : State :=
  s.forEach ((List.range s.nDies).drop 1) fun t d =>
    let u := t.die d
    let path := s.hasPath d
    let cut := u.cutOff || (u.up && !path)
    let up := path && (u.up || (u.booted && u.skewValid && !u.reparent && !cut))
    let t1 := t.modDie d fun v => { v with up := up, cutOff := cut, rerun := cut && path }
    let t2 := if cut && path && !u.rerun then t1.exchAnew d else t1
    if u.up && !up then t2.viewsDown d else t2

/-! ## Calibration starts (R116) -/

/-- Every channel of die `d` in IDLE starts its fill when the timebase of the die is valid; SEED_PRESENT tells whether a seed stood
for this enable (R111, R116, R135). -/
def State.startFills (s : State) (d : Nat) : State :=
  if (s.die d).tbLock && (s.die d).skewValid && s.tb.tbEn then
    let rec' := (s.die d).seedRec
    let ns := ((List.range 48).map (· + 48 * d)).filter s.hasChan
    let s1 := if ns.any fun n => decide ((s.chan n).cal = .idle) then s.modDie d fun u => { u with seedPresent := !rec'.segW.isEmpty } else s
    s1.forEach ns fun t n => t.modChan n fun c => c.startFill fun i => rec'.segW.getD (2 * (n % 48) + i) []
  else s

/-! ## Links (R342 to R348) -/

/-- TRAINING starts on a DOWN port when both TBPLLs are locked and no retry is awaited (R346). -/
def State.trainStart (s : State) (d l : Nat) : State :=
  match s.neighbour d l with
  | none => s
  | some x =>
    let p := s.link d l
    if s.tb.tbEn && decide (p.state = .down) && !p.retryWait && (s.die d).tbLock && (s.die x).tbLock then
      s.modLink d l fun q => { q with state := .training, exch := [], exchCnt := 0, crcRun := 0 }
    else s

/-- TRAINING on every port of the package that can train. -/
def State.trainAll (s : State) : State :=
  s.forEach (List.range (4 * s.nDies)) fun t i => t.trainStart (i / 4) (i % 4)

/-- Another UP port through which die `d` can re-parent: the fewest hops, then the lower-numbered die (R345).
DEDUCED, unsafe: log entry 52. -/
def State.newParent (s : State) (d : Nat) : Option Nat :=
  let ok := (List.range 4).filter fun l =>
    decide ((s.link d l).state = .up) && (match s.neighbour d l with
      | some x => (s.die x).tbLock && decide (s.hops x ≤ 3)
      | none => false)
  let key := fun (p : Nat) => match s.neighbour d p with | some x => 8 * s.hops x + x | none => 99
  ok.foldl (fun (a : Option Nat) l =>
    match a with
    | none => some l
    | some b => if (key l : Nat) < key b then some l else some b) none

/-- The port of die `d` goes to DOWN: the parent link starts a re-parenting, paths are judged again (R62, R334, R345). -/
def State.portDown (s : State) (d l : Nat) : State :=
  let par := (s.link d l).parent
  let s1 := s.modLink d l fun p => { p with state := .down, exch := [], exchCnt := 0, skew := 0, crcRun := 0 }
  let s2 := if par && decide (d ≠ 0) then
      match s1.newParent d with
      | some _ => s1.modDie d fun u => { u with reparent := true }
      | none => s1
    else s1
  s2.refreshUp

/-! ## Frames on the lanes (R54, R334, R339, R347, R348) -/

/-- Puts a frame behind those on a lane: the frame in transmission is not pre-empted, the others go by class, then by age (R54). -/
def enqueue (f : Frame) : List Frame → List Frame
  | [] => [f]
  | h :: t => h :: (t.takeWhile (fun g => decide (g.cls ≤ f.cls)) ++ f :: t.dropWhile (fun g => decide (g.cls ≤ f.cls)))

/-- A frame is sent on a port: a frame of class 1 or 2 stays in the replay buffer until it is acknowledged (R339). -/
def LinkPort.send (p : LinkPort) (f : Frame) : LinkPort :=
  { p with lane := enqueue f p.lane, replay := if f.cls = 0 then p.replay else p.replay ++ [f] }

/-- What was not acknowledged is on the lane again, from the first such frame (R347). -/
def LinkPort.resend (p : LinkPort) : LinkPort := { p with lane := p.replay.foldl (fun a f => enqueue f a) [] }

/-- The die a frame of class 1 or 2 is bound for; words and markers go by the slot plan (R334, R337, R340). -/
def frameDest : Frame → Option Nat
  | .write a _ => some (a / 2 ^ 22 % 8)
  | .read a => some (a / 2 ^ 22 % 8)
  | .rate t _ => some (dieOfTd t)
  | .request _ d => some d
  | .image d => some d
  | .records _ => some 0
  | .word _ _ => none
  | .marker => none

/-- Die `d` sends a frame toward its destination; without a route the frame waits at the die (R334).
DESIGN CHOICE, safe: log entry 32. -/
def State.post (s : State) (d : Nat) (f : Frame) : State :=
  match (frameDest f).bind (s.nextHop d) with
  | some l => s.modLink d l fun p => p.send f
  | none => s.modDie d fun u => { u with waiting := u.waiting ++ [f] }

/-- What waits for a route is sent where there is one now (R334). -/
def State.sendWaiting (s : State) : State :=
  s.forEach (List.range s.nDies) fun t d =>
    let w := (t.die d).waiting
    if w.isEmpty then t else w.foldl (fun x f => x.post d f) (t.modDie d fun u => { u with waiting := [] })

/-- A frame that `p` picks is on its way. -/
def State.onWay (s : State) (p : Frame → Bool) : Bool :=
  (List.range s.nDies).any fun d => (s.die d).waiting.any p || (s.die d).links.any fun q => q.lane.any p || q.replay.any p

/-- The frames that `p` picks are no longer on their way. -/
def State.dropFrames (s : State) (p : Frame → Bool) : State :=
  if s.onWay p then
    s.forEach (List.range s.nDies) fun t d => t.modDie d fun u =>
      { u with waiting := u.waiting.filter fun f => !p f,
               links := u.links.map fun q => { q with lane := q.lane.filter fun f => !p f, replay := q.replay.filter fun f => !p f } }
  else s

/-- Removes the first element equal to `f`. -/
def dropFirst (f : Frame) : List Frame → List Frame
  | [] => []
  | x :: xs => if x = f then xs else x :: dropFirst f xs

/-- The source die of a record: its event channel or its engine (R320, R363). -/
def recDie (r : BitVec 128) : Nat :=
  if (r.toNat / 2 ^ 126) % 4 = 2 then (r.toNat / 2 ^ 112) % 256 / 28 else (r.toNat / 2 ^ 119) % 128 / 16

/-- A record is lost on its way and counts at the die that formed it (R57, R348). -/
def State.recordLost (s : State) (r : BitVec 128) : State :=
  let d := recDie r
  let n := satInc (s.tb.evxDrop.getD d 0)
  { s with tb := { s.tb with evxDrop := s.tb.evxDrop.set d n, evxSat := satFlag s.tb.evxSat d n } }

/-- The port's access whose frame is `f` has lost it (R348). -/
def Port.lose (f : Frame) (t : Port) : Port :=
  { t with busy := t.busy.map fun a =>
      if f = (if a.write then Frame.write a.addr a.val else Frame.read a.addr) then { a with lost := true } else a }

/-- Frames are lost with the buffers that held them (R347, R348): a write does not arrive and an access ends late, the lead CP sends a
forwarded request again on a TS8820, records count at the die that formed them. DEDUCED, unsafe: log entry 52. -/
def State.lose (s : State) (fs : List Frame) : State :=
  fs.foldl (fun t f =>
    match f with
    | .write a _ => (t.modDie (a / 2 ^ 22 % 8) fun u => { u with inbound := dropFirst f u.inbound }).modHost fun h =>
        { h with ports := h.ports.map (Port.lose f) }
    | .read _ => t.modHost fun h => { h with ports := h.ports.map (Port.lose f) }
    | .request c d => if t.part.diesLog2 = 1 then t.post 0 f else t.modDx d fun x => { x with fwdQ := x.fwdQ.filter (· ≠ c) }
    | .records rs => rs.foldl State.recordLost t
    | _ => t) s

/-- The buffers of port `l` of die `d` are empty. -/
def LinkPort.emptied (p : LinkPort) : LinkPort := { p with replay := [], lane := [] }

/-- The flush of a TS8820 link: each side discards its queues, its replay buffer and what it was receiving (R347, R348). -/
def State.flushLink (s : State) (d l : Nat) : State :=
  match s.neighbour d l with
  | none => s
  | some x =>
    let fs := (s.link d l).replay ++ (s.link x (backPort l)).replay
    (((s.modLink d l LinkPort.emptied).modLink x (backPort l) LinkPort.emptied).lose fs)

/-- The words on the lanes of a link are lost (R348). -/
def State.wordsLost (s : State) (d l : Nat) : State :=
  let cut := fun (p : LinkPort) => ({ p with lane := p.lane.filter fun f => decide (f.cls ≠ 0) } : LinkPort)
  match s.neighbour d l with
  | none => s
  | some x => if (s.link x (backPort l)).lane.any fun f => decide (f.cls = 0) then s.modLink x (backPort l) cut else s

/-- A link fault, a loss of lane lock or a reset signal takes port `l` of die `d` out of UP (R346 to R348): words on the lanes are
lost, frames of class 1 and 2 wait in the replay buffer. -/
def State.linkLeaves (s : State) (d l : Nat) : State :=
  let p := s.link d l
  if p.state = .up then
    let s1 := (s.shtHist d 0).wordsLost d l
    if s.part.diesLog2 = 1 then ((s1.flushLink d l).portDown d l).trainStart d l
    else s1.modLink d l fun q => { q with state := .resync, crcRun := 0, lane := [] }
  else s

/-- Port `l` of die `d` leaves UP and signals the other side, which leaves UP as on a reset signal (R339, R347). -/
def State.linkBreaks (s : State) (d l : Nat) : State :=
  let s1 := s.linkLeaves d l
  match s1.neighbour d l with
  | some x => s1.linkLeaves x (backPort l)
  | none => s1

/-- Every link goes to DOWN without DOWN_H: TB_EN written 0 (R346, R585). A TS8820 flushes its link, the replay buffers of a larger
part stay (R347). -/
def State.allLinksDown (s : State) : State :=
  let s1 := if s.part.diesLog2 = 1 then s.flushLink 0 0 else s
  (s1.forEach (List.range (4 * s1.nDies)) fun t i =>
    t.modLink (i / 4) (i % 4) fun p => { p with state := .down, clkLock := false, exch := [], exchCnt := 0, skew := 0, crcRun := 0,
                                                lane := [], retryWait := false }).refreshUp

/-- A mean of exchange offsets, in 2^-12 ns. -/
def meanExch (l : List Rat) : Int := ratRound (meanQ l)

/-- The mean of the last 64 exchanges of a port. -/
def LinkPort.mean (p : LinkPort) : Int := meanExch (lastN 64 p.exch)

/-- Die `d` takes TB_SKEW from the latest exchanges of its parent link (R63, R343, R344). DEDUCED, unsafe: log entry 53. -/
def State.takeSkew (s : State) (d : Nat) : State :=
  match s.parentPort d with
  | none => s
  | some l =>
    match s.neighbour d l with
    | none => s
    | some x =>
      let v := (s.link d l).mean + (s.die x).skew
      s.modDie d fun u => { u with skew := v, skewTarget := v, skewValid := true, reparent := false, cutOff := false, rerun := false }

/-- A die that was cut off and faces its clock parent by port `l` has its path back by this link, which has run its 32 exchanges in
ALIGN (R63). DEDUCED, unsafe: log entry 53. -/
def State.pathBack (s : State) (d l : Nat) : State :=
  if decide (d ≠ 0) && (s.die d).cutOff && (s.link d l).parent && s.portUp d l && decide (32 ≤ (s.link d l).exch.length) && s.hasPath d then
    s.takeSkew d
  else s

/-- ALIGN ends on port `l` of die `d` (R344, R346): on the parent link TB_SKEW becomes valid, as the mean of 32 exchanges with this die as
child; calibration starts. A die that is cut off keeps its TB_SKEW until it has a path again (R62, R63).
DEDUCED, unsafe: log entry 53. -/
def State.alignDone (s : State) (d l : Nat) : State :=
  let p := s.link d l
  let child := p.parent && decide (d ≠ 0)
  if p.state = .align ∧ 32 ≤ p.exchCnt ∧ (child = true → 32 ≤ p.exch.length) then
    let s1 := s.modLink d l fun q => { q.resend with state := .up, skew := q.mean }
    let s2 := if child && !(s.die d).cutOff then s1.takeSkew d else s1.pathBack d l
    let s3 := match s2.neighbour d l with | some x => s2.pathBack x (backPort l) | none => s2
    (s3.refreshUp.sendWaiting).startFills d
  else s

/-- A two-way exchange on port `l` of die `d` as child, in MTS units: a marker each way, frames of class 0, which the one step launches
and receives (R26, R343, R344, R353). On the parent link it loads the die's coarse counter (R103), and the last of 32 exchanges after a
cut retakes TB_SKEW (R63). Exchanges pause while the link is not in ALIGN or UP, and their markers with them.
DEDUCED, unsafe: log entry 53. -/
def State.exchange (s : State) (d l t1 t2 t3 t4 : Nat) : State :=
  let p := s.link d l
  match s.neighbour d l with
  | none => s
  | some x =>
    if p.state = .align ∨ p.state = .up then
      let asym := tget 0 s.fused.asym (4 * d + l)
      let m := 2 ^ 64
      let delta : Rat := ((wrapDiff m t2 t1 - wrapDiff m t4 t3 - asym : Int) : Rat) / 2
      let s1 := s.modLink d l fun q =>
        let e := lastN 64 (q.exch ++ [delta])
        { q with exch := e, exchCnt := q.exchCnt + 1, skew := if q.state = .up then meanExch e else q.skew }
      let s2 := s1.modLink x (backPort l) fun q => { q with exchCnt := q.exchCnt + 1 }
      let s3 := if p.parent && (s.die x).mclkOk then s2.modDie d fun u => { u with mclkOk := true, mclk := (s.die x).mclk } else s2
      if (s.die d).rerun && p.parent && decide (p.state = .up) && decide (32 ≤ (s3.link d l).exch.length) then
        ((s3.takeSkew d).refreshUp).startFills d
      else s3
    else s

/-- The once-a-second target of TB_SKEW of die `d` (R344): SKEW_JUMP_H above 0.5 ps, which is 2.048 units. A die that is cut off
keeps its last value (R62). -/
def State.skewUpdate (s : State) (d : Nat) : State :=
  match s.parentPort d with
  | none => s
  | some l =>
    match s.neighbour d l with
    | none => s
    | some x =>
      if (s.link d l).state = .up ∧ (s.link d l).exch ≠ [] ∧ (s.die d).skewValid ∧ !(s.tb.restart) ∧ !(s.die d).cutOff ∧ d ≠ 0 then
        let mean : Rat := meanQ (lastN 64 (s.link d l).exch) + ((s.die x).skew : Rat)
        let jump := decide ((2048 : Rat) / 1000 < ratAbs (mean - ((s.die d).skew : Rat)))
        s.modDie d fun u => { u with skewTarget := ratRound mean, shtHist := setbIf u.shtHist 3 jump,
                                     happened := noteIf u.happened jump { sub := 3, data := l } }
      else s

/-- TB_SKEW moves toward its mean by at most one unit at a boundary (R344); that of a die that is cut off stays (R62). -/
def Die.skewStep (u : Die) : Die :=
  if u.skewValid && !u.cutOff then { u with skew := u.skew + clampI (-1) 1 (u.skewTarget - u.skew) } else u

/-- The re-parenting of die `d` completes once the link it takes has run an exchange (R345). A die that was cut off takes TB_SKEW from
32 new exchanges on that link (R63). DEDUCED, unsafe: log entry 53. -/
def State.reparentDone (s : State) (d : Nat) : State :=
  if (s.die d).reparent then
    match s.newParent d with
    | none => s
    | some l =>
      match s.neighbour d l, (s.link d l).exch with
      | none, _ => s
      | some _, [] => s
      | some _, _ :: _ =>
        let s1 := s.forEach (List.range 4) fun t i => t.modLink d i fun p => { p with parent := decide (i = l) }
        let s2 := s1.modDie d fun u => { u with tbLock := true, shtHist := setb u.shtHist 4, happened := u.happened ++ [{ sub := 2, data := l }] }
        if (s.die d).cutOff then
          (if (s.link d l).parent then s else (s2.modDie d fun u => { u with rerun := true }).exchAnew d)
        else (s2.takeSkew d).refreshUp
  else s

/-! ## Frames (R31, R336 to R340) -/

/-- A record that die 0 receives waits for the engine at the intake of the die that formed it (R56).
DESIGN CHOICE, safe: log entry 32. -/
def State.takeRecord (s : State) (r : BitVec 128) : State := s.modDie (recDie r) fun u => { u with intake := u.intake ++ [r] }

/-- Records that a relay has no route for wait in its export buffer; those that find it full are dropped and counted there (R56).
DESIGN CHOICE, unsafe: log entry 54. -/
def State.holdRecords (s : State) (d : Nat) (rs : List (BitVec 128)) : State := s.pushExport d rs

/-- A frame of records that has arrived: die 0 takes them in; another die relays them toward die 0 (R56, R334). -/
def State.recordsArrive (s : State) (d : Nat) (rs : List (BitVec 128)) : State :=
  if d = 0 then rs.foldl (fun x r => x.takeRecord r) s
  else match s.nextHop d 0 with
    | some l => s.modLink d l fun p => p.send (.records rs)
    | none => s.holdRecords d rs

/-- A phase word of stream `i` of window `k` arrives at die `d` by port `l`: in time when the boundary that closed its window is the
latest one (R30, R31, R337). The die takes it when its plan brings it the stream, and copies it onward on each other port whose
slots hold the stream; the slot plan brings a stream to a die by one link alone (R55). DESIGN CHOICE, safe: log entry 32. -/
def State.wordArrives (s : State) (d l i k : Nat) : State :=
  if s.tb.k = k then
    let s1 := s.forEach ((List.range 4).filter fun j => decide (j ≠ l) && (s.link d j).slots.contains i) fun t j =>
      t.modLink d j fun p => p.send (.word i k)
    s1.modDie d fun u => { u with arrived := if u.arrived.contains i || !u.planned.contains i then u.arrived else u.arrived ++ [i] }
  else if k < s.tb.k then
    let n := satInc (s.die d).late
    s.modDie d fun u => { u with late := n, shtHist := satFlag u.shtHist 7 n }
  else s

/-- The words of window `k` of the streams of die `d` itself enter the slots of its ports (R30, R337, R338). -/
def State.launchDie (s : State) (d k : Nat) : State :=
  s.forEach (List.range 4) fun t l =>
    let is := (t.link d l).slots.filter fun i => decide (dieOfStream i = d) && t.exports i && decide ((t.link d l).state = .up)
    if is.isEmpty then t else t.modLink d l fun p => is.foldl (fun q i => q.send (.word i k)) p

/-- The words of window `k` of every die. -/
def State.launchWords (s : State) (k : Nat) : State := s.forEach (List.range s.nDies) fun t d => t.launchDie d k

/-- u_k of DPLL `k`, of another die, starts toward domain `t`, which it syntonises; an older value still on its way is not sent (R303). -/
def State.launchRate (s : State) (t : Nat) : State :=
  let u := s.td t
  let k := u.set.synDpll
  if u.set.syn && decide (dieOfDpll k ≠ dieOfTd t) && (s.dpll k).enable && decide ((s.dpll k).cfg.role ≠ 0) then
    (s.dropFrames fun f => match f with | .rate x _ => decide (x = t) | _ => false).post (dieOfDpll k) (.rate t (s.ukOf k))
  else s

/-- The rates of a window start on their way (R303, R336). DESIGN CHOICE, safe: log entry 32. -/
def State.launchRates (s : State) : State := s.forEach (s.all 16) State.launchRate

/-- The frame that port `l` of die `d` receives next: the one in transmission on its neighbour's lane. An idle lane takes the first records
of the neighbour's export buffer, in a frame of at most 256 bytes (R54, R336, R339). DESIGN CHOICE, safe: log entry 32. -/
def State.frameNext (s : State) (d l : Nat) (f : Frame) : Bool :=
  match s.neighbour d l with
  | none => false
  | some x =>
    match (s.link x (backPort l)).lane with
    | g :: _ => decide (g = f)
    | [] => match f with
      | .records rs => decide (1 ≤ rs.length) && decide (f.size ≤ 256) && decide ((s.die x).exportQ.take rs.length = rs) &&
          decide (s.nextHop x 0 = some (backPort l))
      | _ => false

/-- The frame leaves its sender: what was not on the lane is sent now (R339); its records leave the export buffer (R56). -/
def State.frameSent (s : State) (d l : Nat) (f : Frame) : State :=
  match s.neighbour d l with
  | none => s
  | some x =>
    if (s.link x (backPort l)).lane.isEmpty then
      let s1 := s.modLink x (backPort l) fun p => p.send f
      match f with
      | .records rs => s1.modDie x fun u => { u with exportQ := u.exportQ.drop rs.length }
      | _ => s1
    else s

/-- A frame fails its CRC check at port `l` of die `d` and is discarded: the lane goes on, and a frame of class 1 or 2 stays in the
sender's replay buffer (R339). DESIGN CHOICE, safe: log entry 32. -/
def State.frameBad (s : State) (d l : Nat) : State :=
  let n := satInc (s.die d).crcCnt
  let run := (s.link d l).crcRun + 1
  let s1 := s.modDie d fun u => { u with crcCnt := n, shtHist := satFlag u.shtHist 7 n }
  let s2 := s1.modLink d l fun p => { p with crcRun := run }
  let s3 := match s2.neighbour d l with
    | some x => s2.modLink x (backPort l) fun p => { p with lane := p.lane.drop 1 }
    | none => s2
  if 16 ≤ run then s3.linkBreaks d l else s3

/-- The acknowledge of a frame that passed: it leaves the lane and the sender's replay buffer, and the run of failures ends (R339).
DESIGN CHOICE, safe: log entry 32. -/
def State.frameAck (s : State) (d l : Nat) (f : Frame) : State :=
  let s1 := s.modLink d l fun p => { p with crcRun := 0 }
  match s1.neighbour d l with
  | some x => s1.modLink x (backPort l) fun p => { p with lane := p.lane.drop 1, replay := dropFirst f p.replay }
  | none => s1

/-- The first unacknowledged frame of port `l` of die `d` that is not on the lane is sent again (R339).
DESIGN CHOICE, safe: log entry 32. -/
def State.retransmit (s : State) (d l : Nat) : State :=
  match (s.link d l).replay.find? fun f => !(s.link d l).lane.contains f with
  | none => s
  | some f => if (s.link d l).state = .up then s.modLink d l fun p => { p with lane := enqueue f p.lane } else s

/-- The streams the DPLLs of die `d` need: candidates and mirror leaders (R184, R337). DESIGN CHOICE, safe: log entry 32. -/
def State.streamsOf (s : State) (d : Nat) : List Nat :=
  ((List.range 8).map (· + 8 * d)).flatMap fun k =>
    let u := s.dpll k
    if u.cfg.role = 2 then [320 + u.cfg.leader]
    else u.sel.cands.map (·.input) ++ (match u.sel.listPend with | some l => l | none => [])

/-- Stream `i` is needed at die `d` and can reach it (R337). -/
def State.planTakes (s : State) (d i : Nat) : Bool :=
  decide (dieOfStream i ≠ d) && s.fitted (dieOfStream i) && decide (s.dist (dieOfStream i) d ≤ 4)

/-- The end of a route, given from its last link backward, from the last die on it that `fed` says has the stream. -/
def feedTail (fed : Nat → Bool) : List (Nat × Nat) → List (Nat × Nat)
  | [] => []
  | p :: t => if fed p.1 then [p] else p :: feedTail fed t

/-- The ports that carry stream `i`: a tree of the links of its routes to the dies that need it. A route joins the tree at its last die that
the stream reaches already, so that the stream comes to a die by one link (R55, R334). DESIGN CHOICE, safe: log entry 32. -/
def State.planPorts (s : State) (need : Nat → List Nat) (i : Nat) : List (Nat × Nat) :=
  ((List.range s.nDies).filter fun d => (need d).contains i).foldl
    (fun a d =>
      let fed := fun (x : Nat) => decide (x = dieOfStream i) || a.any fun p => decide (s.neighbour p.1 p.2 = some x)
      if fed d then a else a ++ (feedTail fed (s.linkRoute 4 (dieOfStream i) d).reverse).reverse) []

/-- Every die adopts the new slot plan: the streams of other dies that each die needs, and for each port the streams it sends in
every window, over the present routes; a stream crosses a link at most once (R55, R334, R337).
DESIGN CHOICE, safe: log entry 32. -/
def State.adoptPlan (s : State) : State :=
  let need := fun (d : Nat) => ((s.streamsOf d).filter (s.planTakes d)).eraseDups
  let all := ((List.range s.nDies).flatMap need).eraseDups
  let ports := all.map fun i => (i, s.planPorts need i)
  s.forEach (List.range s.nDies) fun t d =>
    let t1 := t.modDie d fun u => { u with planned := need d }
    t1.forEach (List.range 4) fun x l =>
      x.modLink d l fun p => { p with slots := (ports.filter fun q => q.2.contains (d, l)).map (·.1) }

/-! ## Crossings (R349 to R352) -/

/-- The crossing `x` of die `d`, by global number. -/
def crossingOf (d x : Nat) : Nat := 256 * d + x

/-- The values of `vals` reach the sender while a transfer is in flight or not; then the transfer in flight completes and
the pending value, if any, is launched (R350). DESIGN CHOICE, unsafe: log entry 56. -/
def Crossing.send (c : Crossing) (v : BitVec 128) : Crossing :=
  if c.inFlight then { c with pending := some v } else { c with holding := v, inFlight := true }

/-- The acknowledge returns: the receiver has taken the holding value (R350). -/
def Crossing.deliver (c : Crossing) : Crossing :=
  if c.inFlight then
    match c.pending with
    | some v => { c with received := c.holding, holding := v, pending := none, recvCnt := c.recvCnt + c.sent, sent := c.next, next := 0 }
    | none => { c with received := c.holding, inFlight := false, recvCnt := c.recvCnt + c.sent, sent := c.next, next := 0 }
  else { c with recvCnt := c.recvCnt + c.sent, sent := c.next, next := 0 }

/-- `n` pulses reach a count: at most 15 are held, the rest is lost; true when some were lost (R351). -/
def Crossing.pulses (c : Crossing) (n : Nat) : Crossing × Bool :=
  if 15 < c.next + n then ({ c with next := 15 }, true) else ({ c with next := c.next + n }, false)

/-- CDC_VALUE_DELIVER: the pulses and values that came while the transfer was in flight, then its completion (R350, R351).
DESIGN CHOICE, unsafe: log entry 56. -/
def State.cdcDeliver (s : State) (d x n : Nat) (vals : List (BitVec 128)) : State :=
  let c := s.crossing (crossingOf d x)
  let p := (vals.foldl Crossing.send c).pulses n
  let s1 := s.setCrossing (crossingOf d x) p.1.deliver
  if p.2 then
    let m := satInc (s.die d).cdcOvfCnt
    s1.modDie d fun u => { u with cdcOvfCnt := m, shtHist := satFlag (setb u.shtHist 6) 7 m }
  else s1

/-! ## The timebase (R32 to R45, R103, R585) -/

/-- The oscillator divider of a frequency code (R33). -/
def aonDivOf : Nat → Nat
  | 1 => 8 | 2 => 11 | 3 => 16 | 4 => 16 | 5 => 20 | 6 => 25 | 7 => 31 | 8 => 32 | 9 => 32 | 10 => 40 | 11 => 80 | 12 => 99 | 13 => 100
  | 14 => 125 | _ => 0

/-- An undeclared or reserved frequency code (R42, R44). DEDUCED, unsafe: log entry 31. -/
def oscBad (c : Nat) : Bool := decide (c = 0) || decide (15 ≤ c)

/-- The cycle counts of the words start anew: gates and predictions of an input end. DEDUCED, unsafe: log entry 27. -/
def InputUnit.lostIndex (u : InputUnit) : InputUnit := { u with gateOpen := none, pjBase := none, dm := { u.dm with opened := none } }

/-- The cycle counts of the words start anew: a DPLL pairs its streams again (R145). DEDUCED, unsafe: log entry 27. -/
def DpllUnit.lostIndex (u : DpllUnit) : DpllUnit :=
  let l := u.sel.cands.map fun (c : Cand) => { c with fol := {}, pts := [] }
  { u with ref := {}, fb := none, gate := { u.gate with start := none }, ffoOpen := none, ncoWord := { u.ncoWord with valid := false }, sel := { u.sel with cands := l } }

/-- The links that TB_EN = 0 turns off stand as DOWN for the next event scan: their fall is no LINK event (R585).
DEDUCED, unsafe: log entry 34. -/
def State.linksUnseen (s : State) : State :=
  let on := (List.range (4 * s.nDies)).filter fun i => decide ((s.link (i / 4) (i % 4)).state ≠ .down)
  { s with host := { s.host with scan := on.foldl (fun t n => tset 0 t (obsKey 13 0 n) 0) s.host.scan } }

/-- The crossings of a die lose their phase predictors when one of its clocks starts, stops or changes source (R352). -/
def State.predictorsOff (s : State) (d : Nat) : State :=
  s.forEach (s.crossings.map (·.1)) fun t i =>
    if i / 256 = d then t.setCrossing i { t.crossing i with predictor := false } else t

/-- TB_EN written 0 while it is 1 (R585). DEDUCED, unsafe: log entry 27. -/
def State.tbOff (s : State) : State :=
  let s1 := { s with tb := { s.tb with tbEn := false, restart := false, gapInWindow := true } }
  let s2 := s1.forEach (List.range s.nDies) fun t d =>
    t.modDie d fun u => { u with tbLock := false, skewValid := false, aonRc := true, reparent := false, cutOff := false, rerun := false, arrived := [] }
  let s3 := s2.linksUnseen.allLinksDown
  let s4 := s3.pairAll.forEach (s3.all 48) fun t n => t.modChan n TdcChan.toIdle
  let s5 := s4.forEach s4.allInputs fun t n => t.modInput n InputUnit.lostIndex
  let s6 := s5.forEach (s5.all 16) fun t n => t.modTd n fun u => { u with word := { u.word with valid := false } }
  let s7 := s6.forEach (s6.all 8) fun t n => t.modDpll n DpllUnit.lostIndex
  s7.forEach (List.range s7.nDies) State.predictorsOff

/-- A part without K holds one oscillator model, that of the package master, and no other port is a member (R4, R218). -/
def State.oneModel (s : State) : State :=
  if s.part.featK then s
  else
    let o := s.masterPort
    { s with models := s.models.filter fun x => decide (x.1 = o),
             cairn := { s.cairn with slots := s.cairn.slots.map fun m => if m.used ∧ m.port ≠ o then {} else m,
                                     activeSet := s.cairn.activeSet.filter fun x => decide (x = o) } }

/-- MASTER and OSC_FREQ take new values: OSC_LOSS shows the activity of the master oscillator as it now is (R39, R43).
DEDUCED, unsafe: log entry 31. -/
def State.setMaster (s : State) (m : Bool) (f : Nat) : State :=
  let t : State := { s with tb := { s.tb with master := m, oscFreq := f } }
  if m = s.tb.master then t
  else
    let off := !(t.osc t.masterPort).active
    ({ t with tb := { t.tb with oscLoss := off, oscLossH := t.tb.oscLossH || off } } : State).oneModel

/-- A write of TB_CTRL (R38, R41, R42, R585). -/
def State.writeTbCtrl (s : State) (w : Word) : State :=
  let m := bit w 0
  let en := bit w 1
  let f := fld w 4 4
  if s.tb.tbEn then
    let rej := decide (m ≠ s.tb.master) || decide (f ≠ s.tb.oscFreq)
    let s1 := { s with tb := { s.tb with cfgRej := s.tb.cfgRej || rej } }
    if en then s1 else s1.tbOff
  else
    let s1 := s.setMaster m f
    if en && oscBad f then { s1 with tb := { s1.tb with cfgRej := true } } else { s1 with tb := { s1.tb with tbEn := en } }

/-- TB_CTRL as it reads (R38). -/
def Timebase.ctrl (t : Timebase) : Word := putb 0 t.master ||| putb 1 t.tbEn ||| put 4 4 t.oscFreq

/-- TB_STAT (R39). -/
def State.tbStat (s : State) : Word :=
  let d0 := s.die 0
  putb 0 d0.tbLock ||| putb 1 d0.aonRc ||| putb 2 s.tb.oscLoss ||| putb 3 s.tb.oscLossH ||| putb 4 s.skewAllValid ||| putb 5 s.tb.cfgRej |||
    putb 6 s.tb.restart ||| put 8 8 (sumN ((List.range s.nDies).map fun d => if (s.die d).tbLock then 2 ^ d else 0)) |||
    put 16 8 (if d0.aonRc then 0 else aonDivOf s.tb.oscFreq)

/-- The clock that locked die `d` forwards on port `l` reaches its neighbour; die `d` becomes the clock parent of a neighbour that
has none (R35, R342). -/
def State.clockPort (t : State) (d l : Nat) : State :=
  match t.neighbour d l with
  | some x =>
    let isParent := decide (x ≠ 0) && decide (gridParent x = d) && (t.parentPort x).isNone
    t.modLink x (backPort l) fun p => { p with clkLock := true, parent := p.parent || isParent }
  | none => t

/-- The clock lanes of follower `d` after its reset: its neighbours forward their clocks still, its own clock has stopped (R342, R354). -/
def State.clocksAnew (s : State) (d : Nat) : State :=
  s.forEach (List.range 4) fun t l =>
    match t.neighbour d l with
    | none => t
    | some x =>
      let on := (t.die x).tbLock
      (t.modLink d l fun p => { p with clkLock := on, parent := on && decide (gridParent d = x) }).modLink x (backPort l) fun p =>
        { p with clkLock := false }

/-- The TBPLL of die `d` declares lock (R34, R35, R103, R342, R346); on a die that was cut off, the exchanges that retake TB_SKEW
start (R63). DEDUCED, unsafe: log entry 53. -/
def State.tbLockDie (s : State) (d : Nat) : State :=
  let ready := s.tb.tbEn && s.fitted d && (decide (d = 0) || (match s.parentPort d with
    | some l => (match s.neighbour d l with | some x => (s.die x).tbLock | none => false)
    | none => (s.die (gridParent d)).tbLock))
  if ready then
    let s0 := if (s.die d).cutOff then s.exchAnew d else s
    let s1 := s0.modDie d fun u => { u with tbLock := true, aonRc := false, skewValid := if d = 0 then true else u.skewValid }
    let s2 := if d = 0 then ({ s1 with tb := { s1.tb with started := true } } : State).modDie 0 fun u => { u with mclkOk := true } else s1
    let s3 := s2.forEach (List.range 4) fun t l => t.clockPort d l
    ((s3.predictorsOff d).trainAll).startFills d
  else s

/-- TB_STAT.RESTART rises (R45, R116, R130, R164, R353): measurements become invalid, gates are discarded, exchanges are
counted afresh. DEDUCED, unsafe: log entry 31. DEDUCED, unsafe: log entry 51. -/
def State.restartRise (s : State) : State :=
  let s1 := ({ s with tb := { s.tb with restart := true, gapInWindow := true } } : State).pairAll
  let s2 := s1.forEach (s1.all 48) fun t n =>
    t.modChan n fun c => { c with c0 := c.c0.onRestart, c1 := c.c1.onRestart, unpaired := none, ovlSum := 0, ovlCnt := 0, winValid := false,
                                  ahead := [], cyc := none }
  let s3 := s2.forEach (s2.all 8) fun t k => t.modDpll k fun u => { u with gate := { u.gate with running := false } }
  s3.forEach (List.range (4 * s3.nDies)) fun t i => t.modLink (i / 4) (i % 4) fun p => { p with exchCnt := 0, exch := [] }

/-- A timebase restart ends: on every UP link 32 exchanges have run (R45, R353); gates restart (R164), and each calibrating core starts a
new histogram (R116). A capture that waits for it comes at least 100 us later (R543). DEDUCED, unsafe: log entry 31. -/
def State.restartEnd (s : State) : State :=
  let ok := (List.range (4 * s.nDies)).all fun i =>
    decide ((s.link (i / 4) (i % 4)).state ≠ .up) || decide (32 ≤ (s.link (i / 4) (i % 4)).exchCnt)
  if s.tb.restart && ok && (s.die 0).tbLock then
    let s0 : State := { s with tb := { s.tb with restart := false },
                               belay := if s.belay.phase = 1 ∧ s.belay.entryK = none then { s.belay with trigK := s.tb.k } else s.belay }
    let s1 := s0.forEach (s0.all 48) fun t n => t.modChan n fun u =>
      if (t.die (dieOfChan n)).bgFrozen || !u.cal.measures then u else u.begun (t.bgHits (dieOfChan n))
    s1.forEach (s1.all 8) fun t k => t.modDpll k fun u =>
      if u.state = .acquiring ∨ u.state = .locked then
        { u with gate := { running := true, startK := s.tb.k, start := none, bad := false, passed := u.gate.passed } } else u
  else s

/-- DEDUCED, unsafe: log entry 31. -/
def tbSetMasterReply (c : Nat) (p : List Byte) (s : State) : Reply :=
  let m := decide (uAt p 0 1 = 1)
  let f := uAt p 1 1
  let bad := decide (1 < uAt p 0 1) || oscBad f || !rsv p 2 2
  -- the offset between the old and the new master over the last second, added to the u of every stored sample (R242)
  let off : Rat := if m = s.tb.master then 0 else ((s.osc (if m then 1 else 0)).meter.getLast?).getD 0
  let s1 := s.setMaster m f
  let s2 := s1.forEach (s1.all 8) fun t k => t.modDpll k fun u =>
    { u with ho := { u.ho with ring := u.ho.ring.map fun x => { x with u := x.u - off, y := x.y + off } } }
  guarded s [(notSec c, retDenied), (bad, retBadParam), (s.tb.restart || !s.tb.tbEn, retBusy)]
    (okReply s2.restartRise)

/-! ## Oscillator ports (R43, R216, R231, R263) -/

/-- Port `o` loses activity (R43, R216, R263, R278). -/
def State.portLoss (s : State) (o : Nat) : State :=
  if (s.osc o).active then
    let s1 := s.modOsc o fun u => { u with active := false, started := false, lossH := true, meterOk := false }
    let s2 := if o = s1.masterPort then
        { s1 with tb := { s1.tb with oscLoss := true, oscLossH := true }, cairn := { s1.cairn with tbHeld := s1.cairn.tbHeld || s1.tb.tbEn } }
      else s1
    let d := dieOfOsc o
    let s3 := s2.forEach ((List.range 4).map (· + 4 * d)) fun t n =>
      let u := t.opll n
      if t.portOfOpll n = o ∧ (u.state = .bandCal ∨ u.state = .locking ∨ u.state = .aligning ∨ u.state = .locked) then
        t.opllFault n 1 2 true false
      else t
    s3.bypassCheck d
  else s

/-- Port `o` starts after 10 ms of unbroken activity (R216). -/
def State.portStart (s : State) (o : Nat) : State :=
  if s.hasOsc o && !(s.osc o).started then
    let s1 := (s.modOsc o fun u => { u with active := true, started := true, sOn := 0, startCnt := u.startCnt + 1, meter := if u.active then u.meter else [] }).modModel o PortModel.onStart
    if o = s.masterPort then { s1 with tb := { s1.tb with oscLoss := false } } else s1
  else s

/-- Edges return on port `o`, which is active again; with the package master every TBPLL follows it again (R43, R216, R231). -/
def State.oscReturn (s : State) (o : Nat) : State :=
  if s.hasOsc o && !(s.osc o).active then
    let s1 := s.modOsc o fun u => { u with active := true, meter := [] }
    if o = s.masterPort then { s1 with tb := { s1.tb with oscLoss := false } } else s1
  else s

end Sys2Proof.Machine
end

