-- ==== Sys2Proof/Machine/Regs.lean ====
section
/-! DEFINITION. The registers of the dies: what each offset of a die window reads, what a write to it does under its access
codes (R19), and which of its bits an alias write reaches (R464). Mailboxes, abort, rings and the other die-0 registers of
chapters 11 to 15 are here too; what the paths add is in HostPort. -/

namespace Sys2Proof.Machine
open Sys2Proof

/-- The input with index `j` of die `d`'s window (R92). -/
def inputAt (d j : Nat) : Nat := if j < 24 then 24 * d + j else 192 + 16 * d + (j - 24)

/-! ## Registers of the signal path -/

/-- CAPS0 (R8). -/
def Part.caps0 (p : Part) : Word :=
  put 24 8 0x88 ||| put 20 4 p.diesLog2 ||| putb 19 p.featE ||| putb 18 p.featK ||| putb 17 p.featX ||| put 12 4 p.stepMajor |||
    put 8 4 p.stepMinor

/-- CAPS1 (R9); bit 0 of DIE_UP reads 1 (R9). -/
def State.caps1 (s : State) : Word :=
  put 0 8 (2 ^ s.nDies - 1) ||| put 8 8 (sumN ((List.range s.nDies).map fun d => if d = 0 || s.dieUp d then 2 ^ d else 0))

/-- A register of an input (R92 to R96). -/
def State.inputReg (s : State) (n r : Nat) : Word :=
  let u := s.input n
  match r with
  | 0x00 => u.ctrl
  | 0x04 => s.inStat n (s.measValid n)
  | 0x08 => u.hist
  | 0x0C => u.ien
  | 0x10 => cw u.glitchCnt
  | 0x14 => cw u.pjCnt
  | 0x18 => cw u.disqCnt
  | 0x20 => loWord u.fofs
  | 0x24 => hiWord u.fofs
  | _ => 0

def State.writeInput (s : State) (n r : Nat) (w : Word) : State :=
  match r with
  | 0x00 =>
      let s1 := if bit w 0 && !(s.input n).enable && decide (n < 192) then s.modChan (chanOfInput n) TdcChan.newEnable else s
      s1.modInput n fun u => u.writeCtrl w
  | 0x08 => s.modInput n fun u =>
      let v := { u with hist := w1c u.hist w (fm 10 2) }
      if bit w 9 then v.clearCounts else v
  | 0x0C => s.modInput n fun u => { u with ien := w &&& fm 10 2 }
  | _ => s

/-- TDC_CH_STAT (R132). -/
def State.chStat (s : State) (n : Nat) : Word :=
  let u := s.chan n
  put 0 3 u.cal.code ||| putb 3 (s.chanValid n) ||| put 4 1 u.active ||| putb 5 (u.retired 0) ||| putb 6 (u.retired 1) |||
    putb 7 u.seedRej ||| putb 8 u.sat ||| put 10 11 (popCodes (u.core u.active).table)

def State.chanReg (s : State) (n r : Nat) : Word :=
  let u := s.chan n
  match r with
  | 0x00 => s.chStat n
  | 0x04 => cw u.merged
  | 0x08 => cw u.swapCnt
  | 0x0C => cw u.calRejCnt
  | 0x10 => cw u.calAge
  | _ => 0

def State.writeChan (s : State) (n r : Nat) (w : Word) : State :=
  if r = 0 ∧ bit w 8 then s.modChan n fun u => { u with sat := false, merged := 0, swapCnt := 0, calRejCnt := 0 } else s

/-- TDC_CAL_STAT.FILL_DONE of die `d` (R135). -/
def State.fillDone (s : State) (d : Nat) : Bool :=
  ((List.range 48).map (· + 48 * d)).all fun n => !s.hasChan n || (s.chan n).cal.measures

def State.calReg (s : State) (d r : Nat) : Word :=
  let u := s.die d
  match r with
  | 0x0 => putb 0 u.bgEn ||| put 8 5 u.hitsLog2 ||| put 16 8 u.seedSaveH
  | 0x4 => putb 0 (s.fillDone d) ||| putb 1 u.seedPresent ||| u.calHist
  | 0x8 => u.tdcIen
  | _ => 0

def State.writeCal (s : State) (d r : Nat) (w : Word) : State :=
  match r with
  | 0x0 => s.modDie d fun u => { u with bgEn := bit w 0, hitsLog2 := min 28 (max 22 (fld w 8 5)), seedSaveH := fld w 16 8 }
  | 0x4 => s.modDie d fun u => { u with calHist := w1c u.calHist w (fm 9 8) }
  | 0x8 => s.modDie d fun u => { u with tdcIen := w &&& fm 9 8 }
  | _ => s

/-- A hook of DPLL `n` runs (R206). -/
def State.hookBusy (s : State) (n : Nat) : Bool := (s.stitch (engineOfDpll n)).busy

/-- A register of a DPLL, selection registers included (R167 to R173, R203 to R210). -/
def State.dpllReg (s : State) (n r : Nat) : Word :=
  let u := s.dpll n
  let q := u.sel
  match r with
  | 0x00 => u.ctrl
  | 0x04 => put 0 2 u.cfg.role ||| put 2 2 u.cfg.fbOpll ||| put 4 4 u.cfg.opllMask ||| put 8 2 u.cfg.fbPrediv ||| put 16 6 u.cfg.leader |||
      put 22 7 u.cfg.fbOutput
  | 0x08 => u.stat
  | 0x0C => u.hist
  | 0x10 => u.ien
  | 0x18 => loWord (fmtPhase u.phLast)
  | 0x1C => hiWord (fmtPhase u.phLast)
  | 0x20 => loWord u.steer
  | 0x24 => hiWord u.steer
  | 0x28 => loWord u.ffo
  | 0x2C => hiWord u.ffo
  | 0x30 => loWord (fmtPhase u.bo)
  | 0x34 => hiWord (fmtPhase u.bo)
  | 0x38 => loWord (fmtPhase u.res)
  | 0x3C => hiWord (fmtPhase u.res)
  | 0x40 => cw u.locklossCnt
  | 0x44 => cw u.missCnt
  | 0x48 => cw u.holdCnt
  | 0x80 => q.ctrl
  | 0x84 => q.cfg
  | 0x88 => q.stat s.tb.k (s.hookBusy n)
  | 0x8C => q.hist
  | 0x90 => q.ien
  | 0x94 => cw q.lockout
  | 0x98 => cw q.retblk
  | 0x9C => put 0 2 q.verdict ||| put 16 9 q.verdictInput
  | 0xA0 => cw q.switchCnt
  | 0xA4 => cw q.vetoCnt
  | 0xA8 => cw q.retjumpCnt
  | 0xAC => cw q.cancelCnt
  | _ => if 0xC0 ≤ r ∧ r < 0x100 ∧ r % 4 = 0 then cw (match q.cands[(r - 0xC0) / 4]? with | some c => c.input | none => 0x1FF) else 0

/-- RETBLK bits written 1 are accepted: the block ends (R201, R208). -/
def Sel.clearRetblk (q : Sel) (w : Word) : Sel := { q with retblk := (w1c (BitVec.ofNat 32 q.retblk) w (fm 15 0)).toNat }

def State.writeDpll (s : State) (n r : Nat) (w : Word) : State :=
  match r with
  | 0x00 =>
      let fw := s.freeWordOf n
      let s1 := if bit w 0 && !(s.dpll n).enable then s.modChan (chanOfFb n) TdcChan.newEnable else s
      s1.modDpll n fun u => u.writeCtrl s.tb.k w fw.1 fw.2
  | 0x0C => s.modDpll n fun u =>
      let v := { u with hist := w1c u.hist w (fm 9 0) }
      if bit w 9 then { v with locklossCnt := 0, missCnt := 0, holdCnt := 0 } else v
  | 0x10 => s.modDpll n fun u => { u with ien := w &&& fm 9 0 }
  | 0x8C => s.modDpll n fun u =>
      let q := { u.sel with hist := w1c u.sel.hist w (fm 8 0) }
      { u with sel := if bit w 8 then { q with switchCnt := 0, vetoCnt := 0, retjumpCnt := 0, cancelCnt := 0 } else q }
  | 0x90 => s.modDpll n fun u => { u with sel := { u.sel with ien := w &&& fm 8 0 } }
  | 0x94 => s.modDpll n fun u => { u with sel := { u.sel with lockout := fld w 0 16 } }
  | 0x98 => s.modDpll n fun u => { u with sel := u.sel.clearRetblk w }
  | 0x9C =>
      let run := s.hookBusy n && decide ((s.stitch (engineOfDpll n)).point = 0)
      s.modDpll n fun u => u.writeVerdict w run
  | _ => s

/-- A holdover register of DPLL `n` (R245); those of a mirror read 0, except HOLDOVER_VALID. -/
def State.hoReg (s : State) (n r : Nat) : Word :=
  let u := s.dpll n
  let h := s.holdNow n
  let mir := decide (u.cfg.role = 2)
  let z := fun (w : Word) => if mir then 0 else w
  match r with
  | 0x00 => putb 0 u.holdValid ||| z (put 1 2 h.basisInUse ||| putb 3 u.ho.frozenE.isSome ||| putb 4 s.cairn.tbHeld)
  | 0x04 => z (put 0 14 (u.validSamples s.tb.k).length ||| put 16 14 (u.ho.avgS / tickSec u.ho.tick))
  | 0x08 => z (loWord h.word)
  | 0x0C => z (hiWord h.word)
  | 0x10 => z (loWord u.ho.te)
  | 0x14 => z (hiWord u.ho.te)
  | 0x18 => z (put 0 2 u.ho.basis ||| put 2 2 u.ho.tick)
  | 0x1C => z (cw u.ho.avgS)
  | 0x20 => z (cw u.ho.guardS)
  | _ => 0

def State.oscReg (s : State) (o r : Nat) : Word :=
  let u := s.osc o
  match r with
  | 0x00 => putb 0 u.active ||| putb 1 (s.meterValid o) ||| putb 2 u.tempValid ||| putb 3 (decide (o = s.masterPort)) |||
      putb 4 (s.isMember o) ||| putb 8 u.lossH ||| putb 9 u.tempFaultH
  | 0x04 => put 0 16 (wrapNat 65536 u.temp)
  | 0x08 => loWord (s.oscM o)
  | 0x0C => hiWord (s.oscM o)
  | 0x10 => u.ien
  | _ => 0

def State.writeOsc (s : State) (o r : Nat) (w : Word) : State :=
  match r with
  | 0x00 => s.modOsc o fun u => { u with lossH := u.lossH && !bit w 8, tempFaultH := u.tempFaultH && !bit w 9 }
  | 0x10 => s.modOsc o fun u => { u with ien := w &&& fm 9 8 }
  | _ => s

/-- A power-off interval is not known yet for some restored model (R239). -/
def State.ageUnknown (s : State) : Bool := (s.all 2).any fun o => (s.model o).saveSec.isSome

def State.cairnReg (s : State) (r : Nat) : Word :=
  let c := s.cairn
  match r with
  | 0x00 => putb 0 c.valid ||| putb 1 c.split ||| putb 2 c.tbHeld ||| putb 3 s.ageUnknown |||
      put 4 3 (c.slots.filter fun m => m.used && decide (m.state = 1)).length ||| putb 8 c.learning ||| put 9 7 c.learnUse
  | 0x04 => c.hist
  | 0x08 => c.ien
  | 0x10 => loWord (fmtFreq c.y)
  | 0x14 => hiWord (fmtFreq c.y)
  | 0x18 => loWord (fmtFreq c.sigma)
  | 0x1C => hiWord (fmtFreq c.sigma)
  | 0x20 => loWord (fmtFreq c.z)
  | 0x24 => hiWord (fmtFreq c.z)
  | _ =>
    if 0x30 ≤ r ∧ r < 0x40 ∧ r % 4 = 0 then
      let m := c.slots.getD ((r - 0x30) / 4) {}
      if m.used then
        put 0 4 m.port ||| putb 4 true ||| put 8 3 m.state ||| put 12 2 (s.model m.port).state.code |||
          put 16 16 (ratRound (m.weight * 65535)).toNat
      else 0
    else 0

def State.writeCairn (s : State) (r : Nat) (w : Word) : State :=
  match r with
  | 0x04 => { s with cairn := { s.cairn with hist := w1c s.cairn.hist w (fm 7 0) } }
  | 0x08 => { s with cairn := { s.cairn with ien := w &&& fm 7 0 } }
  | _ => s

def State.opllReg (s : State) (o r : Nat) : Word :=
  let u := s.opll o
  match r with
  | 0x00 => putb 0 u.enable
  | 0x04 => u.cfgWord
  | 0x08 => cw (u.frac % 2 ^ 32)
  | 0x0C => cw (u.frac / 2 ^ 32)
  | 0x10 => cw u.seed
  | 0x14 => s.opllStat o
  | 0x18 => u.hist
  | 0x1C => u.ien
  | 0x20 => cw (u.nCur % 2 ^ 32)
  | 0x24 => put 0 8 (u.nCur / 2 ^ 32) ||| put 8 11 (u.nCur / one40)
  | 0x28 => cw u.locklossCnt
  | 0x2C => cw u.relockCnt
  | _ => 0

def State.writeOpll (s : State) (o r : Nat) (w : Word) : State :=
  match r with
  | 0x00 => s.writeOpllCtrl o w
  | 0x18 => s.modOpll o fun u =>
      let v := { u with hist := w1c u.hist w (fm 7 0) }
      if bit w 7 then { v with locklossCnt := 0, relockCnt := 0 } else v
  | 0x1C => s.modOpll o fun u => { u with ien := w &&& fm 7 0 }
  | _ => s

def State.outReg (s : State) (m r : Nat) : Word :=
  let u := s.out m
  match r with
  | 0x00 => u.ctrl
  | 0x04 => u.cfgWord
  | 0x08 => put 0 30 u.div
  | 0x0C => put 0 30 u.bypDiv
  | 0x10 => cw u.coarse
  | 0x14 => put 0 9 u.fine ||| put 16 9 (wrapNat 512 u.fdCorr)
  | 0x18 => s.outStat m
  | 0x1C => u.hist
  | 0x20 => u.ien
  | 0x24 => cw u.ppsWidth
  | 0x28 => put 0 2 u.coarseHi
  | _ => 0

def State.writeOut (s : State) (m r : Nat) (w : Word) (fromStitch : Bool) : State :=
  match r with
  | 0x00 => s.writeOutCtrl m w fromStitch
  | 0x1C => s.modOut m fun u => { u with hist := w1c u.hist w (fm 4 0) }
  | 0x20 => s.modOut m fun u => { u with ien := w &&& fm 4 0 }
  | _ => s.writePhase m r w

def State.tdReg (s : State) (t r : Nat) : Word :=
  let u := s.td t
  match r with
  | 0x00 => putb 0 u.enable
  | 0x04 => u.cfgWord
  | 0x08 => u.stat
  | 0x0C => u.hist
  | 0x10 => u.ien
  | 0x14 => cw u.snapSeq
  | 0x18 => cw u.snapSec
  | 0x1C => cw (u.snapSec / 2 ^ 32)
  | 0x20 => cw u.snapNs
  | 0x24 => cw u.snapFrac
  | 0x28 => cw u.snapMts
  | 0x2C => cw (u.snapMts / 2 ^ 32)
  | 0x30 => loWord u.ofs
  | 0x34 => hiWord u.ofs
  | 0x38 => cw u.ofsMts
  | 0x3C => cw (u.ofsMts / 2 ^ 32)
  | 0x40 => putb 0 u.commit
  | 0x44 => loWord u.rate
  | 0x48 => hiWord u.rate
  | 0x4C => loWord (fmtFreq u.integ)
  | 0x50 => hiWord (fmtFreq u.integ)
  | 0x54 => cw u.stepCnt
  | 0x58 => cw u.ofsCnt
  | 0x5C => cw u.ofsRejCnt
  | 0x60 => cw u.ppsMissCnt
  | 0x64 => put 0 16 u.ppsMissOut
  | _ => 0

/-- A 64-bit signed pair with one half replaced. -/
def withLo (x : Int) (w : Word) : Int := (BitVec.ofNat 64 (wrapNat (2 ^ 64) x / 2 ^ 32 * 2 ^ 32 + w.toNat)).toInt
def withHi (x : Int) (w : Word) : Int := (BitVec.ofNat 64 (wrapNat (2 ^ 32) x + w.toNat * 2 ^ 32)).toInt

def State.writeTd (s : State) (t r : Nat) (w : Word) : State :=
  match r with
  | 0x00 => (s.modTd t fun u => if bit w 0 then u.turnOn s.tb.k else u.turnOff).losOfDomain t
  | 0x0C => s.modTd t fun u =>
      let v := { u with hist := w1c u.hist w (fm 9 0) }
      if bit w 9 then { v with stepCnt := 0, ofsCnt := 0, ofsRejCnt := 0, ppsMissCnt := 0 } else v
  | 0x10 => s.modTd t fun u => { u with ien := w &&& fm 9 0 }
  | 0x30 => s.modTd t fun u => { u with ofs := withLo u.ofs w }
  | 0x34 => s.modTd t fun u => { u with ofs := withHi u.ofs w }
  | 0x38 => s.modTd t fun u => { u with ofsMts := u.ofsMts / 2 ^ 32 * 2 ^ 32 + w.toNat }
  | 0x3C => s.modTd t fun u => { u with ofsMts := u.ofsMts % 2 ^ 32 + w.toNat * 2 ^ 32 }
  | 0x40 => s.modTd t fun u => if bit w 0 then u.commitOfs else { u with commit := false }
  | 0x64 => s.modTd t fun u => { u with ppsMissOut := (w1c (BitVec.ofNat 32 u.ppsMissOut) w (fm 15 0)).toNat }
  | _ => s

def State.evReg (s : State) (e r : Nat) : Word :=
  let u := s.ev e
  match r with
  | 0x00 => u.ctrl
  | 0x04 => u.rateWord
  | 0x08 => putb 0 (s.chanValid (chanOfEv e)) ||| putb 1 (s.chan (chanOfEv e)).unpaired.isSome
  | 0x0C => u.hist
  | 0x10 => u.ien
  | 0x14 => cw u.cnt
  | 0x18 => cw u.rdropCnt
  | _ => 0

def State.writeEv (s : State) (e r : Nat) (w : Word) : State :=
  match r with
  | 0x0C => s.modEv e fun u =>
      let v := { u with hist := w1c u.hist w (fm 2 0) }
      if bit w 2 then { v with cnt := 0, rdropCnt := 0 } else v
  | 0x10 => s.modEv e fun u => { u with ien := w &&& fm 2 0 }
  | _ => s.modEv e fun u => u.write r w

/-! ## Stitch engines (R379) -/

/-- STITCH_STAT (R379). -/
def Stitch.stat (u : Stitch) : Word :=
  putb 0 u.loaded ||| putb 1 u.busy ||| putb 2 (u.busy && decide (u.wait ≠ .none)) ||| putb 3 u.dflt ||| put 4 8 u.pc ||| put 12 3 u.point

def State.stitchReg (s : State) (e r : Nat) : Word :=
  let u := s.stitch e
  match r with
  | 0x00 => putb 0 u.enable ||| put 4 3 u.dbChan
  | 0x04 => u.stat
  | 0x08 => u.hist
  | 0x0C => u.ien
  | 0x10 => u.tag
  | 0x14 => cw u.runCnt
  | 0x18 => cw u.skipCnt
  | 0x1C => put 0 13 u.maxStep
  | _ => 0

/-- A write of STITCH_CTRL: SIGNAL written 1 raises event 15 and reads 0 again (R362, R379). -/
def Stitch.writeCtrl (u : Stitch) (w : Word) : Stitch :=
  let v := { u with enable := bit w 0, dbChan := fld w 4 3 }
  if bit w 1 then v.event 15 else v

def State.writeStitch (s : State) (e r : Nat) (w : Word) : State :=
  match r with
  | 0x00 => s.modStitch e fun u => u.writeCtrl w
  | 0x08 => s.modStitch e fun u =>
      let v := { u with hist := w1c u.hist w (fm 6 0) }
      if bit w 6 then { v with runCnt := 0, skipCnt := 0, maxStep := 0 } else v
  | 0x0C => s.modStitch e fun u => { u with ien := w &&& (fm 6 0 &&& ~~~ bm 5) }
  | _ => s

/-! ## Shuttle registers (R354) -/

def State.shtReg (s : State) (d off : Nat) : Word :=
  let u := s.die d
  if off < 0x210 ∧ off % 4 = 0 then
    let l := (off - 0x200) / 4
    let p := s.link d l
    match s.neighbour d l with
    | none => 0
    | some x => put 0 3 p.state.code ||| putb 3 true ||| putb 4 p.parent ||| putb 5 p.clkLock ||| put 8 3 x
  else match off with
  | 0x210 => u.shtHist
  | 0x214 => u.shtIen
  | 0x218 => cw u.late
  | 0x21C => cw u.crcCnt
  | 0x220 => cw u.resyncCnt
  | 0x224 => if d = 0 then cw u.rtLateCnt else 0
  | 0x228 => cw u.cdcOvfCnt
  | _ => if 0x230 ≤ off ∧ off < 0x240 ∧ off % 4 = 0 then
      (if (s.link d ((off - 0x230) / 4)).state = .up then BitVec.ofInt 32 (s.link d ((off - 0x230) / 4)).skew else 0) else 0

def State.writeSht (s : State) (d off : Nat) (w : Word) : State :=
  match off with
  | 0x210 => s.modDie d fun u =>
      let v := { u with shtHist := w1c u.shtHist w (fm 7 0) }
      if bit w 7 then { v with late := 0, crcCnt := 0, resyncCnt := 0, rtLateCnt := 0, cdcOvfCnt := 0 } else v
  | 0x214 => s.modDie d fun u => { u with shtIen := w &&& fm 7 0 }
  | _ => s

/-! ## Mailboxes, abort and security (R414, R415) -/

/-- A byte buffer read as a little-endian word. -/
def bufWord (b : List Byte) (i : Nat) : Word := BitVec.ofNat 32 (uAt b (4 * i) 4)

/-- A byte buffer with word `i` replaced. -/
def bufSet (b : List Byte) (i : Nat) (w : Word) : List Byte := b.take (4 * i) ++ leBytes 4 w.toNat ++ b.drop (4 * i + 4)

/-- MBX_STAT (R414). -/
def Mbx.stat (m : Mbx) : Word :=
  putb 0 m.h2cFull ||| putb 1 m.c2hFull ||| putb 2 m.collision ||| putb 3 (!m.held.isEmpty) ||| putb 4 m.sess.isSome

def State.mbxReg (s : State) (c r : Nat) : Word :=
  let m := s.mbx c
  if r < 0x100 then (if r % 4 = 0 then bufWord m.h2c (r / 4) else 0)
  else if r < 0x200 then (if r % 4 = 0 then bufWord m.c2h ((r - 0x100) / 4) else 0)
  else match r with
  | 0x200 => m.stat
  | 0x204 => m.h2cDb
  | 0x208 => m.h2cMask
  | 0x20C => m.c2hDb
  | 0x210 => m.c2hMask
  | 0x214 => m.ack
  | _ => 0

/-- H2C_BUF written while H2C_FULL = 1 is stored and sets COLLISION (R402). -/
def Mbx.writeBuf (m : Mbx) (i : Nat) (w : Word) : Mbx :=
  { m with h2c := bufSet m.h2c i w, collision := m.collision || m.h2cFull }

/-- C2H_BUF written by the host while C2H_FULL = 1 follows the same rule (R402). -/
def Mbx.writeC2h (m : Mbx) (i : Nat) (w : Word) : Mbx :=
  { m with c2h := bufSet m.c2h i w, collision := m.collision || m.c2hFull }

/-- H2C doorbells written; bit 0 going to 1 posts the message and records the port (R401, R426). -/
def Mbx.writeDb (m : Mbx) (port : Nat) (w : Word) : Mbx :=
  if bit w 0 && !bit m.h2cDb 0 then { m with h2cDb := w, h2cFull := true, port := port } else { m with h2cDb := w }

/-- C2H doorbell bits written 1 clear; bit 0 releases C2H_BUF (R401, R414). -/
def Mbx.clearC2h (m : Mbx) (w : Word) : Mbx :=
  { m with c2hDb := w1c m.c2hDb w 0xFFFFFFFF, c2hFull := m.c2hFull && !bit w 0 }

def State.writeMbx (s : State) (port c r : Nat) (w : Word) : State :=
  if r < 0x100 then (if r % 4 = 0 then s.modMbx c fun m => m.writeBuf (r / 4) w else s)
  else if r < 0x200 then (if r % 4 = 0 then s.modMbx c fun m => m.writeC2h ((r - 0x100) / 4) w else s)
  else match r with
  | 0x200 => s.modMbx c fun m => { m with collision := m.collision && !bit w 2 }
  | 0x204 => s.modMbx c fun m => m.writeDb port w
  | 0x20C => s.modMbx c fun m => m.clearC2h w
  | 0x210 => s.modMbx c fun m => { m with c2hMask := w }
  | _ => s

/-- ABORT_STAT (R415). -/
def Abort.stat (a : Abort) : Word := put 0 4 a.result ||| putb 4 a.doneH ||| putb 5 a.reqIgn ||| put 16 16 a.func

def State.secReg (s : State) (off : Nat) : Word :=
  match off with
  | 0x84000 => cw s.host.abort.req
  | 0x84004 => s.host.abort.stat
  | 0x84008 => s.host.abort.ien
  | 0x84010 => putb 0 s.host.spiAuth ||| putb 1 s.host.i2cAuth ||| putb 8 s.host.violH
  | _ => 0

/-! ## Abort requests (R405, R408) -/

/-- The die of a function: class and index; none when the index is out of its range (R405). -/
def abortDie (cls idx : Nat) : Option Nat :=
  match cls with
  | 1 => if idx < 64 then some (dieOfDpll idx) else none
  | 2 => if idx < 128 then some (dieOfTd idx) else none
  | 3 => if idx < 16 then some 0 else none
  | 4 => if idx < 224 then some (dieOfStitch idx) else none
  | 5 => if idx < 8 then some 0 else none
  | _ => none

/-- An abort ends or is rejected; its entry of the history shows the final result (R406, R446). -/
def Abort.finish (a : Abort) (result clean total : Nat) : Abort :=
  let e : AbortLog := { mts := a.mts, cls := a.func / 4096, idx := a.func % 4096, result := result, path := a.path, cleanUs := clean, totalUs := total }
  let log := match a.log with | h :: t => if h.result = 1 then e :: t else a.log | [] => []
  { a with result := result, doneH := true, stage := 0, log := log }

/-- A write of ABORT_REQ over a path, secure or not (R405, R406, R408). -/
def State.writeAbort (s : State) (path : Nat) (secure : Bool) (w : Word) : State :=
  let a := s.host.abort
  if a.result = 1 then s.modAbort fun a => { a with reqIgn := true }
  else
    let cls := fld w 12 4
    let idx := fld w 0 12
    let a1 := { a with req := fld w 0 16, func := fld w 0 16, path := path, mts := s.mts, total := satInc a.total, stage := 0, clean := false }
    -- the history holds every request; what it shows of one in progress beside its identity is open
    let f := s.draw
    let e : AbortLog := { mts := a1.mts, cls := cls, idx := idx, result := 1, path := path, cleanUs := f.1.toNat % 2 ^ 32, totalUs := f.1.toNat / 2 ^ 32 }
    let a2 := { a1 with log := (e :: a.log).take 8 }
    let rej := fun r => s.modAbort fun _ => a2.finish r 0 0
    match abortDie cls idx with
    | none => rej 8
    | some d =>
      if !s.fitted d || (decide (cls = 3) && !s.part.featX) then rej 5
      else if !secure && !(decide (cls = 5) && decide (4 ≤ idx)) then rej 7
      else if d ≠ 0 ∧ !s.dieUp d then rej 6
      else f.2.modAbort fun _ => { a2 with result := 1, stage := 1 }

/-! ## Host ports, interrupts, semaphores, rings (R490 to R493) -/

/-- The route of a source as it reads: NOVEC reads 1 without X, the PINS field resets to 0b01 (R492). -/
def State.routeOf (s : State) (n : Nat) : Word :=
  let w := tget 0x100 s.host.route n
  if s.part.featX then w else w ||| bm 5

def Ring.cfgWord (r : Ring) : Word := putb 0 r.enable ||| put 1 5 r.size ||| put 6 2 r.source ||| put 8 4 r.weight

def State.ringReg (s : State) (i r : Nat) : Word :=
  let q := s.ring i
  match r with
  | 0x00 => q.cfgWord
  | 0x04 => cw q.base
  | 0x08 => cw (q.base / 2 ^ 32)
  | 0x0C => cw q.wb
  | 0x10 => cw (q.wb / 2 ^ 32)
  | 0x14 => put 0 8 q.lo ||| put 16 8 q.hi
  | 0x18 => put 0 16 q.thresh ||| put 16 16 q.timer
  | 0x1C => cw q.wr
  | 0x20 => cw q.rd
  | 0x24 => q.hist
  | 0x28 => q.ien
  | 0x2C => cw q.drop
  | _ => 0

/-- Entries of a ring: N = 2^SIZE_LOG2 / 16 (R484). -/
def Ring.entries (r : Ring) : Nat := 2 ^ r.size / 16

/-- A write of RD_PTR: backward, or beyond WR_PTR, is ignored with PTR_ERR_H at bit `e` (R485). -/
def Ring.writeRd (r : Ring) (w : Word) (e : Nat) : Ring :=
  let m := 2 ^ 32
  if (w.toNat + m - r.rd % m) % m ≤ (r.wr + m - r.rd % m) % m then { r with rd := w.toNat } else { r with hist := setb r.hist e }

def State.writeRing (s : State) (i r : Nat) (w : Word) : State :=
  match r with
  | 0x20 => s.modRing i fun q => q.writeRd w 2
  | 0x24 => s.modRing i fun q => let v := { q with hist := w1c q.hist w (fm 4 0) }; if bit w 4 then { v with drop := 0 } else v
  | 0x28 => s.modRing i fun q => { q with ien := w &&& fm 4 0 }
  | _ => s

def State.locReg (s : State) (off : Nat) : Word :=
  let q := s.host.loc
  match off with
  | 0xA0400 => cw q.wr
  | 0xA0404 => cw q.rd
  | 0xA0408 => q.hist
  | 0xA040C => q.ien
  | 0xA0410 => cw q.drop
  | _ => 0

def State.writeLoc (s : State) (off : Nat) (w : Word) : State :=
  match off with
  | 0xA0404 => s.modHost fun h => { h with loc := h.loc.writeRd w 2 }
  | 0xA0408 => s.modHost fun h =>
      let v := { h.loc with hist := w1c h.loc.hist w (fm 3 0) }
      { h with loc := if bit w 3 then { v with drop := 0 } else v }
  | 0xA040C => s.modHost fun h => { h with loc := { h.loc with ien := w &&& fm 3 0 } }
  | _ => s

/-- A word of a local-ring entry (R489). -/
def State.locMem (s : State) (off : Nat) : Word :=
  BitVec.ofNat 32 ((tget 0 s.host.loc.mem ((off - 0xB0000) / 16)).toNat / 2 ^ (8 * (off % 16)))

/-! ## The non-volatile store and belay (R519, R549) -/

/-- Whether a supply monitor passes at a level in mV: between the two limits of R559 it is the part's own threshold.
DESIGN CHOICE, safe: log entry 13. -/
def supplyOk (lo hi mv mon : Nat) : Bool := if hi ≤ mv then true else if mv < lo then false else Config.monitorTrips mon mv
/-- DESIGN CHOICE, safe: log entry 13. -/
def aonOk (mv : Nat) : Bool := supplyOk 1685 1700 mv 0
/-- DESIGN CHOICE, safe: log entry 13. -/
def choldOk (mv : Nat) : Bool := supplyOk 1650 1665 mv 1

/-- NV_STAT (R519). -/
def NvDie.stat (n : NvDie) : Word :=
  putb 0 (!n.queue.isEmpty) ||| putb 1 (aonOk n.aonMv) ||| putb 2 (choldOk n.choldMv) ||| putb 3 (decide (n.spares < 16))

def NvDie.reg (n : NvDie) (r : Nat) : Word :=
  match r with
  | 0x00 => n.stat
  | 0x04 => n.hist
  | 0x08 => put 0 12 (n.torn.getD 0) ||| putb 15 n.torn.isSome
  | 0x0C => put 0 8 n.locked
  | 0x10 => put 0 9 n.spares
  | 0x14 => cw n.writeCnt
  | 0x18 => cw n.rejCnt
  | 0x1C => cw n.refreshCnt
  | 0x20 => put 0 9 n.remapCnt
  | _ => 0

def NvDie.write (n : NvDie) (r : Nat) (w : Word) : NvDie :=
  if r = 4 then
    let v := { n with hist := w1c n.hist w (fm 7 0) }
    if bit w 7 then { v with writeCnt := 0, rejCnt := 0, refreshCnt := 0, remapCnt := 0 } else v
  else n

/-- BELAY_STAT (R549). -/
def Belay.stat (b : Belay) : Word :=
  put 0 2 b.phase ||| putb 2 b.mainFail ||| putb 3 b.cmd ||| put 4 2 b.outs.length ||| putb 6 b.modelSteer ||| put 8 3 b.rstCause

def State.belayReg (s : State) (r : Nat) : Word :=
  let b := s.belay
  match r with
  | 0x00 => put 0 10 b.wakeS ||| putb 10 b.mainfailEn ||| putb 11 b.autoSave ||| put 16 10 b.debounceMs
  | 0x04 => b.stat
  | 0x08 => b.hist
  | 0x0C => (match b.outs with
      | [] => 0
      | [x] => put 0 7 x ||| putb 7 true
      | x :: y :: _ => put 0 7 x ||| putb 7 true ||| put 8 7 y ||| putb 15 true)
  | 0x10 => cw b.seconds
  | 0x14 => cw b.cnt
  | 0x18 => cw (s.dx 0).plan.version
  | _ => 0

def State.writeBelay (s : State) (r : Nat) (w : Word) : State :=
  if r = 8 then s.modBelay fun b => { b with hist := w1c b.hist w (fm 4 0) } else s

/-! ## Registers below 0x0001_0000 -/

/-- BOOT_STAT, BOOT_FOL, BOOT_OVR (R413). -/
def Boot.stat (b : Boot) : Word :=
  putb 0 b.safe ||| putb 1 b.untested ||| put 2 1 b.slot ||| putb 3 b.srcHost ||| putb 4 b.trial ||| putb 5 b.profile ||| putb 6 b.profileErr |||
    put 8 4 b.failCause ||| put 16 8 b.major ||| put 24 8 b.minor
def Boot.fol (b : Boot) : Word := put 0 8 b.folSafe ||| put 8 8 b.folNoimg
def Boot.ovr (b : Boot) : Word := put 0 2 b.ovrSrc ||| putb 2 b.ovrValid

/-- CP_STAT (R412). DEDUCED, unsafe: log entry 52. -/
def DieX.cpStat (x : DieX) : Word := put 0 2 x.mode ||| put 16 16 x.heartbeat

def DieX.parReg (x : DieX) (off : Nat) : Word :=
  match off with
  | 0x420 => x.parStat ||| putb 2 (!x.bad.isEmpty)
  | 0x424 => put 0 24 x.parLog
  | 0x428 => cw x.parCnt
  | 0x42C => x.parIen
  | _ => 0

def DieX.writePar (x : DieX) (off : Nat) (w : Word) : DieX :=
  match off with
  | 0x420 =>
      let v := { x with parStat := w1c x.parStat w (fm 1 0) }
      if bit w 1 then { v with parCnt := 0 } else v
  | 0x42C => { x with parIen := w &&& fm 1 0 }
  | _ => x

/-- The semaphore owners (R478). -/
def State.semOwner (s : State) (n : Nat) : Nat := tget 0 s.host.sem n
def State.semHeld (s : State) (r : Nat) : Word :=
  BitVec.ofNat 32 (sumN ((List.range 32).map fun i => if s.semOwner (32 * r + i) = 0 then 0 else 2 ^ i))

/-! ## Interrupt sources (R481) -/

/-- Some bit of a sticky register is set with its enable. -/
def hot (h e : Word) : Bool := decide (h &&& e ≠ 0)

/-- Interrupt `k` of die `d` is asserted (R481, R483). -/
def State.dieIrq (s : State) (d k : Nat) : Bool :=
  let ins := (List.range 40).map (inputAt d)
  let at_ := fun (n : Nat) => (List.range n).map (· + n * d)
  let conn := decide (d = 0) || s.hasPath d
  conn && s.fitted d && match k with
  | 0 => ins.any fun n => hot (s.input n).hist (s.input n).ien
  | 1 => hot (s.die d).calHist (s.die d).tdcIen
  | 2 => (at_ 8).any fun n => hot (s.dpll n).hist (s.dpll n).ien || hot (s.dpll n).sel.hist (s.dpll n).sel.ien
  | 3 => ((at_ 2).any fun o => hot (putb 8 (s.osc o).lossH ||| putb 9 (s.osc o).tempFaultH) (s.osc o).ien) ||
      (decide (d = 0) && hot s.cairn.hist s.cairn.ien)
  | 4 => ((at_ 4).any fun o => hot (s.opll o).hist (s.opll o).ien) || ((at_ 16).any fun m => hot (s.out m).hist (s.out m).ien)
  | 5 => (at_ 16).any fun t => hot (s.td t).hist (s.td t).ien
  | 6 => (at_ 16).any fun e => hot (s.ev e).hist (s.ev e).ien
  | 7 => hot (s.die d).shtHist (s.die d).shtIen
  | 8 => (at_ 28).any fun e => hot (s.stitch e).hist (s.stitch e).ien
  | 9 => hot (s.dx d).parStat (s.dx d).parIen
  | _ => false

/-- Source `n` is asserted (R481). -/
def State.asserted (s : State) (n : Nat) : Bool :=
  if n < 8 then decide ((s.mbx n).c2hDb &&& ~~~ (s.mbx n).c2hMask ≠ 0)
  else if n = 8 then hot (putb 0 s.host.abort.doneH ||| putb 1 s.host.abort.reqIgn) s.host.abort.ien
  else if n = 9 then hot s.host.hpStat s.host.hpIen
  else if n = 10 then hot s.host.loc.hist s.host.loc.ien
  else if n < 16 then false
  else if n < 32 then hot (s.ring (n - 16)).hist (s.ring (n - 16)).ien
  else decide (n < 128) && s.dieIrq ((n - 32) / 12) ((n - 32) % 12)

/-- IRQ_PEND[i] (R492). -/
def State.irqPend (s : State) (i : Nat) : Word :=
  BitVec.ofNat 32 (sumN ((List.range 32).map fun b => if s.asserted (32 * i + b) then 2 ^ b else 0))

/-- Pin `p` is driven low: an asserted source is routed to it (R482). -/
def State.pinLow (s : State) (p : Nat) : Bool := (List.range 128).any fun n => bit (s.routeOf n) (8 + p) && s.asserted n

/-- The OR of the routed, asserted sources of vector `v` (R482). -/
def State.vecOr (s : State) (v : Nat) : Bool :=
  (List.range 128).any fun n => !bit (s.routeOf n) 5 && decide (fld (s.routeOf n) 0 5 = v) && s.asserted n

def State.lowReg (s : State) (d off : Nat) : Word :=
  let z := fun (w : Word) => if d = 0 then w else 0
  if off = 0 then z s.part.caps0
  else if off = 4 then z s.caps1
  else if off = 0x100 then z s.tb.ctrl
  else if off = 0x104 then z s.tbStat
  else if 0x110 ≤ off ∧ off < 0x130 then (if off % 4 = 0 then z (BitVec.ofInt 32 (if off = 0x110 then 0 else (s.die ((off - 0x110) / 4)).skew)) else 0)
  else if off = 0x13C then z s.tb.evxSat
  else if 0x140 ≤ off ∧ off < 0x160 then (if off % 4 = 0 then z (cw (s.tb.evxDrop.getD ((off - 0x140) / 4) 0)) else 0)
  else if 0x200 ≤ off ∧ off < 0x240 then s.shtReg d off
  else if off = 0x300 then (s.dx d).cpStat
  else if off = 0x310 then z s.host.boot.stat
  else if off = 0x314 then z s.host.boot.fol
  else if off = 0x318 then z s.host.boot.ovr
  else if off = 0x40C then z s.host.hpStat
  else if off = 0x410 then z s.host.hpIen
  else if 0x420 ≤ off ∧ off < 0x430 then (s.dx d).parReg off
  else if 0x500 ≤ off ∧ off < 0x510 then (if off % 4 = 0 then z (s.irqPend ((off - 0x500) / 4)) else 0)
  else if off = 0x510 then z s.host.vecAck
  else if off = 0x514 then z (putb 0 (s.pinLow 0) ||| putb 1 (s.pinLow 1))
  else if 0x600 ≤ off ∧ off < 0x800 then (if off % 4 = 0 then z (s.routeOf ((off - 0x600) / 4)) else 0)
  else if 0x800 ≤ off ∧ off < 0x900 then (if off % 4 = 0 then z (cw (s.semOwner ((off - 0x800) / 4))) else 0)
  else if off = 0x900 then z (s.semHeld 0)
  else if off = 0x904 then z (s.semHeld 1)
  else 0

/-- What offset `off` of die `d`'s window reads, without a side effect (R7, R11, R463). -/
def State.rdReg (s : State) (d off : Nat) : Word :=
  if !s.fitted d then 0
  else if off < 0x10000 then s.lowReg d off
  else if off < 0x10A00 then s.inputReg (inputAt d ((off - 0x10000) / 0x40)) (off % 0x40)
  else if off < 0x20000 then 0
  else if off < 0x20600 then (if s.hasChan (48 * d + (off - 0x20000) / 0x20) then s.chanReg (48 * d + (off - 0x20000) / 0x20) (off % 0x20) else 0)
  else if 0x20800 ≤ off ∧ off < 0x2080C then s.calReg d (off - 0x20800)
  else if off < 0x30000 then 0
  else if off < 0x30800 then s.dpllReg (8 * d + (off - 0x30000) / 0x100) (off % 0x100)
  else if 0x31000 ≤ off ∧ off < 0x31200 then s.hoReg (8 * d + (off - 0x31000) / 0x40) (off % 0x40)
  else if off < 0x40000 then 0
  else if off < 0x40040 then s.oscReg (2 * d + (off - 0x40000) / 0x20) (off % 0x20)
  else if 0x40100 ≤ off ∧ off < 0x40140 then (if d = 0 then s.cairnReg (off - 0x40100) else 0)
  else if off < 0x50000 then 0
  else if off < 0x50100 then s.opllReg (4 * d + (off - 0x50000) / 0x40) (off % 0x40)
  else if 0x51000 ≤ off ∧ off < 0x51400 then s.outReg (16 * d + (off - 0x51000) / 0x40) (off % 0x40)
  else if off < 0x60000 then 0
  else if off < 0x60800 then s.tdReg (16 * d + (off - 0x60000) / 0x80) (off % 0x80)
  else if 0x61000 ≤ off ∧ off < 0x61200 then (if s.part.featE then s.evReg (16 * d + (off - 0x61000) / 0x20) (off % 0x20) else 0)
  else if off < 0x70000 then 0
  else if off < 0x70380 then s.stitchReg (28 * d + (off - 0x70000) / 0x20) (off % 0x20)
  else if 0x78000 ≤ off ∧ off < 0x7F000 then
    (if off % 4 = 0 then (s.stitch (28 * d + (off - 0x78000) / 0x400)).prog.getD ((off - 0x78000) % 0x400 / 4) 0 else 0)
  else if off < 0x80000 then 0
  else if off < 0x84000 then (if d = 0 then s.mbxReg ((off - 0x80000) / 0x800) (off % 0x800) else 0)
  else if off < 0x90000 then (if d = 0 then s.secReg off else 0)
  else if off < 0x90024 then (s.dx d).nv.reg (off - 0x90000)
  else if 0x90100 ≤ off ∧ off < 0x90120 then (if d = 0 then s.belayReg (off - 0x90100) else 0)
  else if off < 0xA0000 then 0
  else if off < 0xA0400 then (if d = 0 && s.part.featX then s.ringReg ((off - 0xA0000) / 0x40) (off % 0x40) else 0)
  else if off < 0xB0000 then (if d = 0 then s.locReg off else 0)
  else if off < 0xC0000 then (if d = 0 then s.locMem off else 0)
  else 0

/-- A write to an offset below 0x0001_0000; `bootOvr` says that the path may write BOOT_OVR (R413, R471). -/
def State.writeLow (s : State) (d off : Nat) (w : Word) : State :=
  if 0x210 ≤ off ∧ off < 0x218 then s.writeSht d off w
  else if 0x420 ≤ off ∧ off < 0x430 then s.modDx d fun x => x.writePar off w
  else if d ≠ 0 then s
  else match off with
  | 0x100 => s.writeTbCtrl w
  | 0x104 => { s with tb := { s.tb with oscLossH := s.tb.oscLossH && !bit w 3, cfgRej := s.tb.cfgRej && !bit w 5 } }
  | 0x13C => { s with tb := { s.tb with evxSat := w1c s.tb.evxSat w (fm 7 0), evxDrop := s.tb.evxDrop.mapIdx fun d n => if bit w d then 0 else n } }
  | 0x318 => s.modBoot fun b => { b with ovrSrc := fld w 0 2, ovrValid := bit w 2 }
  | 0x40C => s.modHost fun h => { h with hpStat := w1c h.hpStat w (fm 2 0) }
  | 0x410 => s.modHost fun h => { h with hpIen := w &&& fm 2 0 }
  | _ => s

/-- A write to an offset from 0x0001_0000 on. -/
def State.writeHigh (s : State) (port d off : Nat) (w : Word) (fromStitch : Bool) : State :=
  if off < 0x10A00 then s.writeInput (inputAt d ((off - 0x10000) / 0x40)) (off % 0x40) w
  else if off < 0x20000 then s
  else if off < 0x20600 then (if s.hasChan (48 * d + (off - 0x20000) / 0x20) then s.writeChan (48 * d + (off - 0x20000) / 0x20) (off % 0x20) w else s)
  else if 0x20800 ≤ off ∧ off < 0x2080C then s.writeCal d (off - 0x20800) w
  else if off < 0x30000 then s
  else if off < 0x30800 then s.writeDpll (8 * d + (off - 0x30000) / 0x100) (off % 0x100) w
  else if off < 0x40000 then s
  else if off < 0x40040 then s.writeOsc (2 * d + (off - 0x40000) / 0x20) (off % 0x20) w
  else if 0x40100 ≤ off ∧ off < 0x40140 then (if d = 0 then s.writeCairn (off - 0x40100) w else s)
  else if off < 0x50000 then s
  else if off < 0x50100 then s.writeOpll (4 * d + (off - 0x50000) / 0x40) (off % 0x40) w
  else if 0x51000 ≤ off ∧ off < 0x51400 then s.writeOut (16 * d + (off - 0x51000) / 0x40) (off % 0x40) w fromStitch
  else if off < 0x60000 then s
  else if off < 0x60800 then s.writeTd (16 * d + (off - 0x60000) / 0x80) (off % 0x80) w
  else if 0x61000 ≤ off ∧ off < 0x61200 then (if s.part.featE then s.writeEv (16 * d + (off - 0x61000) / 0x20) (off % 0x20) w else s)
  else if off < 0x70000 then s
  else if off < 0x70380 then s.writeStitch (28 * d + (off - 0x70000) / 0x20) (off % 0x20) w
  else if off < 0x80000 then s
  else if off < 0x84000 then (if d = 0 then s.writeMbx port ((off - 0x80000) / 0x800) (off % 0x800) w else s)
  else if off < 0x90000 then
    (if d ≠ 0 then s
     else if off = 0x84004 then s.modAbort fun a => { a with doneH := a.doneH && !bit w 4, reqIgn := a.reqIgn && !bit w 5 }
     else if off = 0x84008 then s.modAbort fun a => { a with ien := w &&& fm 1 0 }
     else if off = 0x84010 then s.modHost fun h => { h with violH := h.violH && !bit w 8 }
     else s)
  else if off < 0x90024 then s.modNv d fun n => n.write (off - 0x90000) w
  else if 0x90100 ≤ off ∧ off < 0x90120 then (if d = 0 then s.writeBelay (off - 0x90100) w else s)
  else if off < 0xA0000 then s
  else if off < 0xA0400 then (if d = 0 && s.part.featX then s.writeRing ((off - 0xA0000) / 0x40) (off % 0x40) w else s)
  else if off < 0xB0000 then (if d = 0 then s.writeLoc off w else s)
  else s

/-- A write in the base view of an offset of die `d`'s window, over a port (0 PCIe, 1 SPI, 2 I2C) or from the part
itself, under the access codes (R19, R20). Registers whose write depends on the path stand in HostPort. -/
def State.wrReg (s : State) (port d off : Nat) (w : Word) (fromStitch : Bool) : State :=
  if !s.fitted d then s else if off < 0x10000 then s.writeLow d off w else s.writeHigh port d off w fromStitch

/-! ## RW bits (R464) -/

/-- The RW bits of an offset; alias writes reach these alone. ABORT_REQ and SEM have none (R464). -/
def rwMask (off : Nat) : Word :=
  if off < 0x10000 then
    (match off with
     | 0x100 => 0xF3 | 0x214 => 0xFF | 0x318 => 0x7 | 0x400 => 0x01FFFFFC | 0x404 => 0xFFFFFFFF | 0x408 => 1 | 0x410 => 0x7 | 0x42C => 0x3 | _ => 0)
  else if off < 0x10A00 then (match off % 0x40 with | 0x00 => 0x1FFF03 | 0x0C => fm 10 2 | _ => 0)
  else if off < 0x20800 then 0
  else if off < 0x2080C then (match off with | 0x20800 => 0xFF1F01 | 0x20808 => fm 9 8 | _ => 0)
  else if off < 0x30000 then 0
  else if off < 0x30800 then
    (match off % 0x100 with | 0x00 => 0xF | 0x10 => fm 9 0 | 0x90 => fm 8 0 | 0x94 => 0xFFFF | 0x9C => 0x01FF0003 | _ => 0)
  else if off < 0x40000 then 0
  else if off < 0x40040 then (if off % 0x20 = 0x10 then fm 9 8 else 0)
  else if off < 0x50000 then (if off = 0x40108 then 0xFF else 0)
  else if off < 0x50100 then (match off % 0x40 with | 0x00 => 1 | 0x1C => 0xFF | _ => 0)
  else if off < 0x51000 then 0
  else if off < 0x51400 then
    (match off % 0x40 with | 0x00 => 0x3F | 0x10 => 0xFFFFFFFF | 0x14 => 0x1FF | 0x20 => 0x1F | 0x28 => 0x3 | _ => 0)
  else if off < 0x60000 then 0
  else if off < 0x60800 then
    (match off % 0x80 with
     | 0x00 => 1 | 0x10 => fm 9 0 | 0x30 => 0xFFFFFFFF | 0x34 => 0xFFFFFFFF | 0x38 => 0xFFFFFFFF | 0x3C => 0xFFFFFFFF | 0x40 => 1 | _ => 0)
  else if off < 0x61000 then 0
  else if off < 0x61200 then (match off % 0x20 with | 0x00 => 0xFF | 0x04 => 0xFFFFFFFF | 0x10 => 0x7 | _ => 0)
  else if off < 0x70000 then 0
  else if off < 0x70380 then (match off % 0x20 with | 0x00 => 0x73 | 0x0C => 0x5F | _ => 0)
  else if off < 0x80000 then 0
  else if off < 0x84000 then
    (let r := off % 0x800
     if r < 0x200 then 0xFFFFFFFF else match r with | 0x204 => 0xFFFFFFFF | 0x210 => 0xFFFFFFFF | _ => 0)
  else if off < 0x90000 then (if off = 0x84008 then 3 else 0)
  else if off < 0xA0000 then 0
  else if off < 0xA0400 then (match off % 0x40 with | 0x20 => 0xFFFFFFFF | 0x28 => 0x1F | _ => 0)
  else if off < 0xB0000 then (match off with | 0xA0404 => 0xFFFFFFFF | 0xA040C => 0xF | _ => 0)
  else 0

/-- Words with a configuration field that alias writes do not reach: a command loads it, or the word is SEM or ABORT_REQ (R464, R477). -/
def cmdWord (off : Nat) : Bool :=
  let within := fun (lo hi : Nat) => decide (lo ≤ off) && decide (off < hi)
  let unit := fun (base count size lo hi : Nat) =>
    within base (base + count * size) && decide (lo ≤ (off - base) % size) && decide ((off - base) % size < hi)
  within 0x600 0x900 || unit 0x30000 8 0x100 0x04 0x08 || unit 0x30000 8 0x100 0x80 0x88 || unit 0x30000 8 0x100 0xC0 0x100 ||
    unit 0x31000 8 0x40 0x18 0x24 || within 0x40130 0x40140 || unit 0x50000 4 0x40 0x04 0x14 || unit 0x51000 16 0x40 0x04 0x10 ||
    unit 0x51000 16 0x40 0x24 0x28 || unit 0x60000 16 0x80 0x04 0x08 || within 0x84000 0x84004 || within 0x90100 0x90104 ||
    unit 0xA0000 16 0x40 0 0x1C

/-- Words that die 0 alone has (R463). -/
def leadWord (off : Nat) : Bool :=
  (decide (off < 0x900) && decide (off ≠ 0x214) && decide (off ≠ 0x42C)) || (decide (0x40100 ≤ off) && decide (off < 0x40140)) ||
    decide (off = 0x84000) || decide (off = 0x90100) || (decide (0xA0000 ≤ off) && decide (off < 0xB0000))

/-- Die `d` keeps a parity bit for the word at offset `off` (R477). DEDUCED, unsafe: log entry 45. -/
def parWord (d off : Nat) : Bool :=
  decide (off % 4 = 0) && (decide (rwMask off ≠ 0) || cmdWord off) && (decide (d = 0) || !leadWord off)

end Sys2Proof.Machine
end

