-- ==== Sys2Proof/Machine/StitchIsa.lean ====
section
/-! DEFINITION. The instruction words of the stitch engines (R360): their fields, the encoder and the decoder. -/

namespace Sys2Proof.Machine
open Sys2Proof

/-- The operand of CMP and ADD: IMODE with IMM, or Gb (R361). With I = 0, IMODE plays no part and stands beside Gb. -/
inductive SOperand
  | imm (mode : BitVec 2) (v : BitVec 16)
  | reg (mode : BitVec 2) (gb : BitVec 3)
deriving DecidableEq, Repr

/-- A stitch instruction (R360). `width` is WIDTH - 1. -/
inductive SInstr
  | halt
  | waitEvent (gd : BitVec 3) (mask : BitVec 16)
  | waitTime (unit : BitVec 2) (n : BitVec 24)
  | setField (gs : BitVec 3) (word : BitVec 8) (lo width : BitVec 5)
  | clrField (word : BitVec 8) (lo width : BitVec 5)
  | read (gd : BitVec 3) (word : BitVec 8) (lo width : BitVec 5)
  | cmp (ga : BitVec 3) (o : SOperand)
  | branch (cond : BitVec 3) (target : BitVec 8)
  | add (gd : BitVec 3) (l : Bool) (ga : BitVec 3) (o : SOperand)
  | loop (gn : BitVec 3) (target : BitVec 8)
  | emitDb (bit : BitVec 5)
  | emitRec (tag : BitVec 8)
deriving DecidableEq, Repr

/-- The fields hold used codes (R360, R361): IMODE, UNIT and COND are not the codes that are not used. -/
def SOperand.used : SOperand → Bool
  | .imm m _ => decide (m ≠ 3)
  | .reg m _ => decide (m ≠ 3)

def SInstr.used : SInstr → Bool
  | .waitTime u _ => decide (u ≠ 3)
  | .branch c _ => decide (c ≠ 7)
  | .cmp _ o => o.used
  | .add _ _ _ o => o.used
  | _ => true

/-- Bits [23] and [22:21], and the low half, of an operand. -/
def SOperand.i : SOperand → BitVec 1
  | .imm _ _ => 1
  | .reg _ _ => 0
def SOperand.mode : SOperand → BitVec 2
  | .imm m _ => m
  | .reg m _ => m
def SOperand.low : SOperand → BitVec 16
  | .imm _ v => v
  | .reg _ g => (0 : BitVec 13) ++ g

/-- The word of an instruction (R360). -/
def SInstr.encode : SInstr → Word
  | .halt => 0
  | .waitEvent gd m => (0x01 : BitVec 5) ++ (gd ++ ((0 : BitVec 8) ++ m))
  | .waitTime u n => (0x02 : BitVec 5) ++ (u ++ ((0 : BitVec 1) ++ n))
  | .setField g w lo wd => (0x03 : BitVec 5) ++ (g ++ (w ++ (lo ++ (wd ++ (0 : BitVec 6)))))
  | .clrField w lo wd => (0x04 : BitVec 5) ++ ((0 : BitVec 3) ++ (w ++ (lo ++ (wd ++ (0 : BitVec 6)))))
  | .read g w lo wd => (0x05 : BitVec 5) ++ (g ++ (w ++ (lo ++ (wd ++ (0 : BitVec 6)))))
  | .cmp ga o => (0x06 : BitVec 5) ++ (ga ++ (o.i ++ (o.mode ++ ((0 : BitVec 5) ++ o.low))))
  | .branch c t => (0x07 : BitVec 5) ++ (c ++ ((0 : BitVec 16) ++ t))
  | .add gd l ga o => (0x08 : BitVec 5) ++ (gd ++ (o.i ++ (o.mode ++ (BitVec.ofBool l ++ ((0 : BitVec 1) ++ (ga ++ o.low))))))
  | .loop g t => (0x09 : BitVec 5) ++ (g ++ ((0 : BitVec 16) ++ t))
  | .emitDb b => (0x0A : BitVec 5) ++ ((0 : BitVec 3) ++ ((0 : BitVec 8) ++ ((0 : BitVec 11) ++ b)))
  | .emitRec t => (0x0A : BitVec 5) ++ ((1 : BitVec 3) ++ (t ++ ((0 : BitVec 11) ++ (0 : BitVec 5))))

/-- Field `[lo + n - 1 : lo]` of an instruction word. -/
def bits (w : Word) (lo n : Nat) : BitVec n := w.extractLsb' lo n

/-- Bits [23], [22:21] and [15:0] as an operand; none for a reserved bit or IMODE 3. -/
def operandOf (w : Word) : Option SOperand :=
  let m := bits w 21 2
  if m = 3 then none
  else if bits w 23 1 = 1 then some (.imm m (bits w 0 16))
  else if bits w 3 13 = 0 then some (.reg m (bits w 0 3)) else none

/-- The instruction a word spells; none for an unused opcode, an unused code or a reserved bit that is not 0 (R360).
DESIGN CHOICE, safe: log entry 19. -/
def decodeStitch (w : Word) : Option SInstr :=
  match (bits w 27 5).toNat with
  | 0x00 => if bits w 0 27 = 0 then some .halt else none
  | 0x01 => if bits w 16 8 = 0 then some (.waitEvent (bits w 24 3) (bits w 0 16)) else none
  | 0x02 => if bits w 24 1 = 0 ∧ bits w 25 2 ≠ 3 then some (.waitTime (bits w 25 2) (bits w 0 24)) else none
  | 0x03 => if bits w 0 6 = 0 then some (.setField (bits w 24 3) (bits w 16 8) (bits w 11 5) (bits w 6 5)) else none
  | 0x04 => if bits w 0 6 = 0 ∧ bits w 24 3 = 0 then some (.clrField (bits w 16 8) (bits w 11 5) (bits w 6 5)) else none
  | 0x05 => if bits w 0 6 = 0 then some (.read (bits w 24 3) (bits w 16 8) (bits w 11 5) (bits w 6 5)) else none
  | 0x06 => if bits w 16 5 = 0 then (operandOf w).map (.cmp (bits w 24 3)) else none
  | 0x07 => if bits w 8 16 = 0 ∧ bits w 24 3 ≠ 7 then some (.branch (bits w 24 3) (bits w 0 8)) else none
  | 0x08 => if bits w 19 1 = 0 then (operandOf w).map (.add (bits w 24 3) (decide (bits w 20 1 = 1)) (bits w 16 3)) else none
  | 0x09 => if bits w 8 16 = 0 then some (.loop (bits w 24 3) (bits w 0 8)) else none
  | 0x0A =>
    if bits w 5 11 ≠ 0 then none
    else if bits w 24 3 = 0 then (if bits w 16 8 = 0 then some (.emitDb (bits w 0 5)) else none)
    else if bits w 24 3 = 1 then (if bits w 0 5 = 0 then some (.emitRec (bits w 16 8)) else none)
    else none
  | _ => none

end Sys2Proof.Machine
end

