-- ==== Sys2Proof/Machine/Stitch.lean ====
section
/-! DEFINITION. The stitch engines (chapter 10): views, instructions, invocations, default programs, verification, loading. -/

namespace Sys2Proof.Machine
open Sys2Proof

/-! ## Unit views (R356, R357) -/

/-- The die and the register offset behind word `w` of engine `e`'s unit view; none where the class has no register. -/
def viewReg (e w : Nat) : Option (Nat × Nat) :=
  let d := dieOfStitch e
  let j := e % 28
  if 0x40 ≤ w then none
  else if j < 8 then some (d, 0x30000 + 0x100 * j + 4 * w)
  else if j < 24 then (if w < 0x20 then some (d, 0x60000 + 0x80 * (j - 8) + 4 * w) else none)
  else some (d, 0x51000 + 0x40 * (4 * (j - 24) + w / 16) + 4 * (w % 16))

/-- Word `w` of engine `e`'s view (R356). DESIGN CHOICE, unsafe: log entry 20. -/
def State.viewWord (s : State) (e w : Nat) : Word :=
  let u := s.stitch e
  if w < 0x40 then (match viewReg e w with | some r => s.rdReg r.1 r.2 | none => 0)
  else if w < 0x60 then u.ctx.getD (w - 0x40) 0
  else if w < 0x80 then u.loc.getD (w - 0x60) 0
  else 0

/-- The mask of field `[lo + width : lo]`, clipped to the word. -/
def fieldMask (lo width : Nat) : Word := BitVec.ofNat 32 ((2 ^ (width + 1) - 1) * 2 ^ lo)

/-- A queued unit write is applied whole: the RW bits outside its field keep their values (R357, R361). The word that is
written again loses its parity fault (R477). -/
def State.applyUnitWrite (s : State) (e : Nat) (q : UnitWrite) : State :=
  match viewReg e q.word with
  | none => s
  | some r =>
    let old := s.rdReg r.1 r.2 &&& rwMask r.2
    let s1 := s.wrReg 0 r.1 r.2 ((old &&& ~~~ q.mask) ||| (q.val &&& q.mask)) true
    s1.modDx r.1 fun x => { x with bad := x.bad.filter (· ≠ r.2), parDue := x.parDue.filter (· ≠ r.2) }

/-! ## Ends of an invocation -/

/-- The lists of an engine after the install of a program (R363, R373, R375). -/
def Stitch.install (u : Stitch) (prog : List Word) (entries : List Nat) (tag : Word) (dflt : Bool) : Stitch :=
  { u with prog := prog, entries := entries, tag := tag, dflt := dflt, loaded := true, badParity := [], staging := [],
           g := List.replicate 8 0, loc := List.replicate 32 0, trig := [], events := 0, seq := 0,
           enable := u.enable || dflt }

/-- The invocation is over: it counts, and its step count is the largest so far or not (R369, R379). -/
def Stitch.over (u : Stitch) : Stitch :=
  let n := satInc u.runCnt
  { u with busy := false, wait := .none, draining := false, events := 0, runCnt := n, hist := satFlag u.hist 6 n,
           maxStep := max u.maxStep (min 4096 u.steps) }

/-- A halt with the queue empty (R359, R369): the hook's verdict stands, a CROSSING program has halted, for the crossing whose MTS its context
words carry (R365). -/
def State.stitchHalted (s : State) (e : Nat) : State :=
  let u := s.stitch e
  let done := if classOf e = 1 ∧ u.point = 0 then (u.ctx.drop 6).take 2 else u.crossDone
  let s1 := s.setStitch e { u.over with overrun := false, crossDone := done }
  if classOf e = 0 ∧ u.point = 0 then
    s1.modDpll (8 * dieOfStitch e + e % 28) fun v => { v with sel := { v.sel with pend := v.sel.pend.map fun p => { p with halted := true } } }
  else s1

/-- An overrun, or a fetch fault, ends the invocation and discards the queued writes; a fetch fault sets FAULT_H in place of
STITCH_OVERRUN (R367). DEDUCED, unsafe: log entry 52. -/
def Stitch.overrunEnd (u : Stitch) (fault : Bool) : Stitch :=
  let v := { u.over with overrun := true, wq := [] }
  if fault then { v with hist := setb v.hist 1, enable := false, happened := v.happened ++ [{ sub := 1, data := v.point }] }
  else { v with hist := setb v.hist 0, happened := v.happened ++ [{ sub := 0, data := v.point }] }

/-- A parity fault of the engine's registers acts as a fetch fault does: it ends an invocation that runs, and clears ENABLE (R367, R477). -/
def Stitch.faultEnd (u : Stitch) : Stitch :=
  if u.busy then u.overrunEnd true
  else { u with hist := setb u.hist 1, enable := false, happened := u.happened ++ [{ sub := 1, data := u.point }] }

/-- An abort ends the invocation; program and ENABLE stay (R376). -/
def Stitch.aborted (u : Stitch) : Stitch :=
  let v := if u.busy then u.over else u
  { v with wq := [], g := List.replicate 8 0, loc := List.replicate 32 0, trig := [], events := 0, hist := setb v.hist 3 }

/-! ## The fetch (R358, R367) -/

/-- What an engine would execute now. -/
inductive Fetch
  | idle
  | fault
  | instr (i : SInstr)
deriving DecidableEq, Repr

/-- The engine is at an instruction: an invocation runs, does not wait, does not drain and has steps left (R359, R367). -/
def Stitch.runs (u : Stitch) : Bool := u.busy && decide (u.wait = .none) && !u.draining && decide (u.steps < 4096)

/-- DESIGN CHOICE, safe: log entry 19. -/
def Stitch.fetch (u : Stitch) : Fetch :=
  if u.runs then
    if u.badParity.contains u.pc then .fault
    else match decodeStitch (u.prog.getD u.pc 0) with
      | some i => .instr i
      | none => .fault
  else .idle

/-- One instruction of engine `e`: `f` acts when the word at the program counter is the one it looks for; a fetch fault
ends the invocation; otherwise the command has no effect. DESIGN CHOICE, safe: log entry 19. -/
def State.stitchStep (s : State) (e : Nat) (f : SInstr → Option State) : State :=
  if s.hasStitch e then
    match (s.stitch e).fetch with
    | .idle => s
    | .fault => s.setStitch e ((s.stitch e).overrunEnd true)
    | .instr i => (f i).getD s
  else s

/-- The engine goes on to the next word after `n` steps. -/
def Stitch.next (u : Stitch) (n : Nat) : Stitch := { u with pc := (u.pc + 1) % 256, steps := u.steps + n }

def Stitch.reg (u : Stitch) (g : BitVec 3) : Word := u.g.getD g.toNat 0
def Stitch.setReg (u : Stitch) (g : BitVec 3) (v : Word) : Stitch := { u with g := u.g.set g.toNat v }

/-- The operand of CMP and ADD (R361). -/
def Stitch.operand (u : Stitch) : SOperand → Word
  | .imm m v => if m = 0 then v.signExtend 32 else if m = 1 then v.zeroExtend 32 else v.zeroExtend 32 <<< 16
  | .reg _ g => u.reg g

def Stitch.setFlags (u : Stitch) (a : AluOut) : Stitch := { u with fz := a.z, fn := a.n, fc := a.c, fv := a.v }

/-! ## Instructions (R359, R361 to R364) -/

/-- HALT: it ends the invocation once the queue is empty (R359). -/
def State.opHalt (s : State) (e : Nat) : State :=
  s.stitchStep e fun
    | .halt =>
      let u := s.stitch e
      let s1 := s.setStitch e { u with steps := u.steps + 1, draining := true }
      some (if u.wq.isEmpty then s1.stitchHalted e else s1)
    | _ => none

def Stitch.waitEvent (u : Stitch) (gd : Nat) (mask : Nat) : Stitch :=
  let m := u.events &&& mask
  if m = 0 then { u with wait := .event gd mask }
  else { u with wait := .none, g := u.g.set gd (cw m), events := u.events - m }

def State.opWaitEvent (s : State) (e : Nat) : State :=
  s.stitchStep e fun
    | .waitEvent gd m => some (s.setStitch e (((s.stitch e).next 1).waitEvent gd.toNat m.toNat))
    | _ => none

/-- WAIT_TIME: N = 0 does not wait; boundaries are counted by MTS (R361, R378). -/
def State.opWaitTime (s : State) (e : Nat) : State :=
  s.stitchStep e fun
    | .waitTime t n =>
      let u := (s.stitch e).next 1
      some (s.setStitch e (if n = 0 then u else { u with wait := .time t.toNat (if t = 1 then s.tb.k + n.toNat else n.toNat) }))
    | _ => none

/-- SET_FIELD and CLR_FIELD: a unit register's write is queued, and stalls while the queue holds 8; a local word is written
at once; context words and words outside the view take no write (R356, R359, R361). -/
def State.fieldWrite (s : State) (e w lo wd : Nat) (v : Word) : State :=
  let u := s.stitch e
  let m := fieldMask lo wd
  let x := v <<< lo
  if w < 0x40 then
    if u.wq.length < 8 then s.setStitch e { u.next 1 with wq := u.wq ++ [{ word := w, mask := m, val := x &&& m }] } else s
  else if 0x60 ≤ w ∧ w < 0x80 then
    let old := u.loc.getD (w - 0x60) 0
    s.setStitch e { u.next 1 with loc := u.loc.set (w - 0x60) ((old &&& ~~~ m) ||| (x &&& m)) }
  else s.setStitch e (u.next 1)

def State.opSetField (s : State) (e : Nat) : State :=
  s.stitchStep e fun
    | .setField g w lo wd => some (s.fieldWrite e w.toNat lo.toNat wd.toNat ((s.stitch e).reg g))
    | _ => none

def State.opClrField (s : State) (e : Nat) : State :=
  s.stitchStep e fun
    | .clrField w lo wd => some (s.fieldWrite e w.toNat lo.toNat wd.toNat 0)
    | _ => none

/-- The steps of one access to a unit register: at most 16; the spec says no more, so the number is drawn free (R359, R361).
DESIGN CHOICE, safe: log entry 6. -/
def State.unitSteps (s : State) : Nat × State := let r := s.draw; (1 + r.1.toNat % 16, r.2)

/-- READ: the field, zero-extended (R359, R361). -/
def State.opRead (s : State) (e : Nat) : State :=
  s.stitchStep e fun
    | .read g w lo wd =>
      let u := s.stitch e
      let v := (s.viewWord e w.toNat >>> lo.toNat) &&& fieldMask 0 wd.toNat
      let n := if w.toNat < 0x40 then s.unitSteps else (1, s)
      some (n.2.setStitch e ((u.next n.1).setReg g v))
    | _ => none

def State.opCmp (s : State) (e : Nat) : State :=
  s.stitchStep e fun
    | .cmp g o =>
      let u := s.stitch e
      some (s.setStitch e ((u.next 1).setFlags (aluCmp (u.reg g) (u.operand o))))
    | _ => none

def State.opBranch (s : State) (e : Nat) : State :=
  s.stitchStep e fun
    | .branch c t =>
      let u := s.stitch e
      let v := u.next 1
      some (s.setStitch e (if condHolds u.fz u.fn u.fc u.fv c.toNat then { v with pc := t.toNat } else v))
    | _ => none

/-- ADD: Ga plus the operand, or the operand alone when L = 1; the flags are those of what is stored (R361). -/
def State.opAdd (s : State) (e : Nat) : State :=
  s.stitchStep e fun
    | .add gd l ga o =>
      let u := s.stitch e
      let a := aluAdd (if l then 0 else u.reg ga) (u.operand o)
      some (s.setStitch e (((u.next 1).setReg gd a.res).setFlags a))
    | _ => none

def State.opLoop (s : State) (e : Nat) : State :=
  s.stitchStep e fun
    | .loop g t =>
      let u := s.stitch e
      let n := u.reg g - 1
      let v := (u.next 1).setReg g n
      some (s.setStitch e (if n = 0 then v else { v with pc := t.toNat }))
    | _ => none

/-- A stitch record (R363). -/
def Stitch.record (u : Stitch) (e tag : Nat) : BitVec 128 :=
  BitVec.ofNat 128 ((u.reg 5).toNat + (u.reg 6).toNat * 2 ^ 32 + (u.reg 7).toNat * 2 ^ 64 + tag % 256 * 2 ^ 96 + u.seq % 256 * 2 ^ 104 +
    e % 256 * 2 ^ 112 + 2 * 2 ^ 126)

/-- EMIT: a doorbell, or a record; the seventeenth of one kind has no effect but EMIT_LIM_H (R363, R364). -/
def State.opEmit (s : State) (e : Nat) : State :=
  s.stitchStep e fun
    | .emitDb b =>
      let u := s.stitch e
      let v := u.next 1
      some (if 16 ≤ u.emit0 then s.setStitch e { v with hist := setb v.hist 4 }
        else (s.setStitch e { v with emit0 := u.emit0 + 1 }).modMbx u.dbChan fun m => { m with c2hDb := setb m.c2hDb b.toNat })
    | .emitRec t =>
      let u := s.stitch e
      let v := u.next 1
      some (if 16 ≤ u.emit1 then s.setStitch e { v with hist := setb v.hist 4 }
        else (s.setStitch e { v with emit1 := u.emit1 + 1, seq := (u.seq + 1) % 256 }).pushExport (dieOfStitch e) [u.record e t.toNat])
    | _ => none

/-! ## Invocations (R365, R366) -/

/-- The context words of an invocation, the others at 0. -/
def ctxWords (l : List Word) : List Word := (l ++ List.replicate 32 0).take 32

/-- The lowest pending point starts at its entry with the flags clear, ahead of a commit that came after the trigger (R358, R365, R366,
R378). -/
def State.stitchInvoke (s : State) (e : Nat) : State :=
  let u := s.stitch e
  match u.trig with
  | [] => s
  | t :: ts =>
    if s.hasStitch e && !u.busy && u.commitBy.all (·.first) && u.ready t.1 then
      s.setStitch e { u with trig := ts, commitBy := u.commitBy.map fun w => { w with first := false }, busy := true, point := t.1, pc := u.entries.getD t.1 0, ctx := ctxWords t.2,
                             fz := false, fn := false, fc := false, fv := false, steps := 0, emit0 := 0, emit1 := 0, events := 0,
                             wait := .none, draining := false, wq := [] }
    else s

/-- A waiting engine resumes: its event is pending, or its time has come (R361). -/
def State.stitchResume (s : State) (e : Nat) : State :=
  let u := s.stitch e
  if s.hasStitch e && u.busy then
    match u.wait with
    | .none => s
    | .event gd m => if u.events &&& m = 0 then s else s.setStitch e (u.waitEvent gd m)
    | .time t n => if t = 1 ∧ s.tb.k < n then s else s.setStitch e { u with wait := .none }
  else s

/-- The engine spends its steps until the queue's head has reached the unit: HALT drains the queue, or a field write stalls on a full
queue (R359). -/
def Stitch.awaits (u : Stitch) : Bool :=
  u.draining || (decide (8 ≤ u.wq.length) && (match u.fetch with
    | .instr (.setField _ w _ _) => decide (w.toNat < 0x40)
    | .instr (.clrField w _ _) => decide (w.toNat < 0x40)
    | _ => false))

/-- The steps engine `e` spends until the unit has taken the head of its queue: none while it does not wait on the queue (R359).
DESIGN CHOICE, safe: log entry 6. -/
def State.stallSteps (s : State) (e : Nat) : Nat × State := if (s.stitch e).awaits then s.unitSteps else (0, s)

/-- The head of the write queue reaches the unit; the last one under HALT ends the invocation. One that the 4 096th step comes before is
discarded with the rest (R359, R367). -/
def State.stitchUnitWrite (s : State) (e : Nat) : State :=
  let u := s.stitch e
  match u.wq with
  | [] => s
  | q :: qs =>
    let n := s.stallSteps e
    if 4096 ≤ u.steps + n.1 then n.2.setStitch e ({ u with steps := 4096 }.overrunEnd false) else
    let s1 := (n.2.setStitch e { u with wq := qs, steps := u.steps + n.1 }).applyUnitWrite e q
    if u.draining && qs.isEmpty then s1.stitchHalted e else s1

/-- STITCH_OVERRUN: 4 096 steps without a halt (R367). -/
def State.stitchOverrun (s : State) (e : Nat) : State :=
  let u := s.stitch e
  if u.busy && decide (4096 ≤ u.steps) then s.setStitch e (u.overrunEnd false) else s

/-! ## Default programs (R372) -/

def bv (n v : Nat) : BitVec n := BitVec.ofNat n v
def sRead (g w lo wd : Nat) : SInstr := .read (bv 3 g) (bv 8 w) (bv 5 lo) (bv 5 (wd - 1))
def sSet (g w lo wd : Nat) : SInstr := .setField (bv 3 g) (bv 8 w) (bv 5 lo) (bv 5 (wd - 1))
def sClr (w lo wd : Nat) : SInstr := .clrField (bv 8 w) (bv 5 lo) (bv 5 (wd - 1))
/-- ADD Gd, #v, L with IMODE 1. -/
def sLoad (g v : Nat) : SInstr := .add (bv 3 g) true 0 (.imm 1 (bv 16 v))

/-- Class DPLL: HALT at 0; ON_CHANGE at 1 emits record TAG 0x01 with G5 = BEST, G6 = ELIG and G7 = CUR.
DESIGN CHOICE, unsafe: log entry 20. -/
def defaultDpll : List SInstr := [.halt, sRead 5 0x42 0 32, sRead 6 0x43 0 32, sRead 7 0x40 0 32, .emitRec 1, .halt]

/-- Writes byte `k` of the time-of-day text from G`g`. -/
def sByte (g k : Nat) : SInstr := sSet g (0x60 + k / 4) (8 * (k % 4)) 8

/-- Digit `n` (nibble) of context word `w` becomes text byte `k`. -/
def sDigit (w n k : Nat) : List SInstr := [sRead 1 w (4 * n) 4, .add (bv 3 1) false (bv 3 1) (.imm 1 (bv 16 0x30)), sByte 1 k]

/-- Class TD, CROSSING: "YYYY-MM-DDThh:mm:ssZ" CR LF from DATE_BCD and TIME_BCD, TOD_LEN = 22; HOST: HALT.
DESIGN CHOICE, unsafe: log entry 20. -/
def defaultTd : List SInstr :=
  [sLoad 2 0x2D, sByte 2 4, sByte 2 7, sLoad 2 0x54, sByte 2 10, sLoad 2 0x3A, sByte 2 13, sByte 2 16, sLoad 2 0x5A, sByte 2 19,
   sLoad 2 0x0A0D, sSet 2 0x65 0 16] ++
  sDigit 0x44 7 0 ++ sDigit 0x44 6 1 ++ sDigit 0x44 5 2 ++ sDigit 0x44 4 3 ++ sDigit 0x44 3 5 ++ sDigit 0x44 2 6 ++ sDigit 0x44 1 8 ++
  sDigit 0x44 0 9 ++ sDigit 0x45 5 11 ++ sDigit 0x45 4 12 ++ sDigit 0x45 3 14 ++ sDigit 0x45 2 15 ++ sDigit 0x45 1 17 ++ sDigit 0x45 0 18 ++
  [sLoad 2 22, sSet 2 0x78 0 7, .halt, .halt]

/-- One output of the START or STOP program: MASK bit `i`, branch target past it. -/
def runPart (i target : Nat) (start : Bool) : List SInstr :=
  [sRead 1 0x40 i 1, .cmp (bv 3 1) (.imm 0 0), .branch 1 (bv 8 target), if start then sSet 2 (0x10 * i) 1 1 else sClr (0x10 * i) 1 1]

/-- The START program of R372 from address `at0`, or the STOP program. -/
def runProg (at0 : Nat) (start : Bool) : List SInstr :=
  [sLoad 2 1] ++ ((List.range 4).flatMap fun i => runPart i (at0 + 5 + 4 * i) start) ++ [.halt]

/-- Class OUT: START at 0, STOP at 18, HOST at 36. DESIGN CHOICE, unsafe: log entry 20. -/
def defaultOut : List SInstr := runProg 0 true ++ runProg 18 false ++ [.halt]

/-- The default program of a class and its entries. -/
def defaultOf (cls : Nat) : List SInstr × List Nat :=
  if cls = 0 then (defaultDpll, [0, 1, 0xFF, 0xFF])
  else if cls = 1 then (defaultTd, [0, 57, 0xFF, 0xFF])
  else (defaultOut, [0, 18, 36, 0xFF])

/-- Firmware installs the default program and sets ENABLE (R372). -/
def State.installDefault (s : State) (e : Nat) : State :=
  let d := defaultOf (classOf e)
  s.modStitch e fun u => u.install (d.1.map SInstr.encode) d.2 0 true

/-! ## Verification (R374) -/

/-- One bit, and one byte, of CRC-32C. PRESUMED, unsafe: log entry 21. -/
def crc32Bit (c : Word) : Word := if bit c 0 then (c >>> 1) ^^^ 0x82F63B78 else c >>> 1
/-- PRESUMED, unsafe: log entry 21. -/
def crc32Byte (c : Word) (b : Byte) : Word :=
  crc32Bit (crc32Bit (crc32Bit (crc32Bit (crc32Bit (crc32Bit (crc32Bit (crc32Bit (c ^^^ b.zeroExtend 32))))))))

/-- CRC-32C of a byte string. PRESUMED, unsafe: log entry 21. -/
def crc32c (l : List Byte) : Word := ~~~ (l.foldl crc32Byte 0xFFFFFFFF)

/-- A view word the class uses (R356). -/
def wordUsed (cls w : Nat) : Bool := decide (w < 0x80) && !(decide (cls = 1) && decide (0x20 ≤ w) && decide (w < 0x40))

/-- Events of a class (R362). -/
def eventMask (cls : Nat) : Nat := if cls = 1 then 0x800F else if cls = 2 then 0x80F1 else 0

/-- An instruction passes R374 in a program of `len` words. -/
def SInstr.passes (i : SInstr) (cls len : Nat) : Bool :=
  match i with
  | .halt => true
  | .waitEvent _ m => decide (cls ≠ 0) && decide (m ≠ 0) && decide (m.toNat &&& eventMask cls = m.toNat)
  | .waitTime _ _ => decide (cls ≠ 0)
  | .setField _ w lo wd => wordUsed cls w.toNat && decide (lo.toNat + wd.toNat + 1 ≤ 32) && !(decide (0x40 ≤ w.toNat) && decide (w.toNat < 0x60))
  | .clrField w lo wd => wordUsed cls w.toNat && decide (lo.toNat + wd.toNat + 1 ≤ 32) && !(decide (0x40 ≤ w.toNat) && decide (w.toNat < 0x60))
  | .read _ w lo wd => wordUsed cls w.toNat && decide (lo.toNat + wd.toNat + 1 ≤ 32)
  | .cmp _ _ => true
  | .branch _ t => decide (t.toNat < len)
  | .add _ _ _ _ => true
  | .loop _ t => decide (t.toNat < len)
  | .emitDb _ => true
  | .emitRec _ => true

/-- The number of points a class defines (R365). -/
def points (cls : Nat) : Nat := if cls = 2 then 3 else 2

/-- The staged words, 256 of them (R373). -/
def stagedWords (l : List Word) : List Word := (l ++ List.replicate 256 0).take 256

/-- Word `a` of a staged program passes R374. DESIGN CHOICE, unsafe: log entry 20. -/
def wordPasses (prog : List Word) (cls len a : Nat) : Bool :=
  let w := prog.getD a 0
  if a < len then (match decodeStitch w with | some i => i.passes cls len | none => false) else decide (w = 0)

/-- FAIL_ADDR of a commit: none when it is accepted (R374, R381). DESIGN CHOICE, unsafe: log entry 20. -/
def commitFail (prog : List Word) (cls len : Nat) (entries : List Nat) (crc : Word) : Option Nat :=
  if crc32c (prog.flatMap fun w => leBytes 4 w.toNat) ≠ crc then some 0x100
  else match (List.range 256).find? fun a => !wordPasses prog cls len a with
    | some a => some a
    | none => entries.zipIdx.findSome? fun p =>
        if p.1 = 0xFF then none else if p.2 < points cls ∧ p.1 < len then none else some p.1

/-! ## Commands (R380 to R383) -/

def stitchChecks (s : State) (c e : Nat) (sec : Bool) : List (Bool × Nat) :=
  [(decide (e < 224) && !s.hasStitch e, retAbsent), (sec && notSec c, retDenied), (decide (e < 224) && !s.dieUp (dieOfStitch e), retNotReady)]

/-- Four words of a payload and on: `n` words from byte `off`. -/
def wordsAt (p : List Byte) (off n : Nat) : List Word := (List.range n).map fun i => BitVec.ofNat 32 (uAt p (off + 4 * i) 4)

def stitchLoadReply (c : Nat) (p : List Byte) (s : State) : Reply :=
  let e := uAt p 0 2
  let g := uAt p 2 1
  guarded s (stitchChecks s c e true ++ [(decide (224 ≤ e) || decide (8 ≤ g) || !rsv p 3 5, retBadParam)])
    (okReply (s.modStitch e fun u =>
      let old := stagedWords u.staging
      { u with staging := old.take (32 * g) ++ wordsAt p 8 32 ++ old.drop (32 * g + 32) }))

/-- A trigger waits that an idle engine runs first, or an invocation runs (R375, R378). -/
def Stitch.engaged (u : Stitch) : Bool := u.busy || u.trig.any fun t => u.ready t.1

/-- The install that waits for the engine to be idle (R375, R378). -/
def Stitch.waitFor (u : Stitch) (c : Nat) (prog : List Word) (entries : List Nat) (tag : Word) (dflt : Bool) : CommitWait :=
  { chan := c, prog := prog, entries := entries, tag := tag, dflt := dflt, first := !u.busy }

/-- The command stays executing until its install has been made or its wait has ended (R375). -/
def State.commitWaits (s : State) (e : Nat) (w : CommitWait) : Reply :=
  { ret := retOK, s := s.modStitch e fun u => { u with commitBy := u.commitBy ++ [w] }, wait := true }

/-- STITCH_COMMIT: checked when it is served; it takes effect while the engine is idle (R375). -/
def stitchCommitReply (c : Nat) (p : List Byte) (s : State) : Reply :=
  let e := uAt p 0 2
  let len := uAt p 2 2
  let entries := (List.range 4).map fun i => uAt p (4 + i) 1
  let u := s.stitch e
  let prog := stagedWords u.staging
  let fail := commitFail prog (classOf e) len entries (BitVec.ofNat 32 (uAt p 8 4))
  let badLen := decide (len = 0) || decide (256 < len)
  match firstErr (stitchChecks s c e true ++ [(decide (224 ≤ e) || badLen || fail.isSome, retBadParam)]) with
  | some r => { ret := r, s := s, bytes := if r = retBadParam then leBytes 2 e ++ leBytes 2 (if badLen then 0 else fail.getD 0) else [] }
  | none =>
    if u.engaged then s.commitWaits e (u.waitFor c prog entries (BitVec.ofNat 32 (uAt p 12 4)) false)
    else okWith (leBytes 2 e ++ leBytes 2 0xFFFF) (s.setStitch e (u.install prog entries (BitVec.ofNat 32 (uAt p 12 4)) false))

def stitchDefaultReply (c : Nat) (p : List Byte) (s : State) : Reply :=
  let e := uAt p 0 2
  let u := s.stitch e
  match firstErr (stitchChecks s c e true ++ [(decide (224 ≤ e) || !rsv p 2 2, retBadParam)]) with
  | some r => { ret := r, s := s }
  | none =>
    let d := defaultOf (classOf e)
    if u.engaged then s.commitWaits e (u.waitFor c (d.1.map SInstr.encode) d.2 0 true)
    else okReply (s.installDefault e)

/-- The HOST point of an engine, for classes TD and OUT (R365, R382). -/
def hostPoint (e : Nat) : Nat := classOf e

def stitchRunReply (c : Nat) (p : List Byte) (s : State) : Reply :=
  let e := uAt p 0 2
  let u := s.stitch e
  let pt := hostPoint e
  guarded s
    (stitchChecks s c e false ++
      [(decide (e < 224) && decide (classOf e ≠ 0) && !u.ready pt, retNotReady),
       (decide (224 ≤ e) || decide (classOf e = 0) || !rsv p 2 2, retBadParam), (u.trig.any fun t => decide (t.1 = pt), retBusy)])
    (okReply (s.trigger e pt (wordsAt p 4 4)))

end Sys2Proof.Machine
end

