-- ==== Sys2Proof/Machine/Mailbox.lean ====
section
/-! DEFINITION. The Unest protocol (chapters 11 and 12): the opcode index, framing, sessions, the copy of a message, its
execution and its response, and the event queues of the channels. -/

namespace Sys2Proof.Machine
open Sys2Proof

/-! ## The opcode index (R440) -/

/-- A row of the opcode index with the payload sizes of the command. -/
structure OpRow where
  op : Nat
  minor : Nat
  sec : Bool
  change : Bool
  lo : Nat
  hi : Nat
deriving DecidableEq, Repr

/-- A command with one payload size. -/
def opRow (op minor : Nat) (sec change : Bool) (len : Nat) : OpRow := ⟨op, minor, sec, change, len, len⟩

def opsHouse : List OpRow :=
  [⟨0x0001, 0, false, false, 0, 240⟩, opRow 0x0002 0 false false 0, opRow 0x0003 0 false false 0, opRow 0x0004 0 true true 4,
   opRow 0x0005 0 false false 4, opRow 0x0006 0 false false 4, opRow 0x0007 0 false false 4, opRow 0x0008 0 false false 8,
   opRow 0x0009 0 true true 4, opRow 0x000A 0 false false 8, opRow 0x000B 0 false false 36, opRow 0x000C 0 false false 4,
   opRow 0x000D 0 true true 36, opRow 0x000E 2 true true 4]

def opsSignal : List OpRow :=
  [opRow 0x0101 0 true true 4, opRow 0x0201 0 false true 32, opRow 0x0202 0 false true 32, opRow 0x0203 0 false false 4,
   opRow 0x0204 0 false true 4, opRow 0x0301 1 false false 8, opRow 0x0302 0 false true 4, opRow 0x0303 0 false true 4,
   opRow 0x0401 0 false true 32, opRow 0x0402 0 false true 40, opRow 0x0403 0 false false 4, opRow 0x0404 0 false true 16,
   opRow 0x0405 0 false true 16, opRow 0x0406 0 false false 4, opRow 0x0407 0 false false 4, opRow 0x0501 0 false true 36,
   opRow 0x0502 0 false true 16, opRow 0x0503 1 false false 4, opRow 0x0601 0 false true 32, opRow 0x0602 0 false true 24,
   opRow 0x0603 0 false false 4, opRow 0x0604 0 false true 4, opRow 0x0605 0 false true 4, opRow 0x0606 0 false true 16,
   opRow 0x0607 0 false false 4, opRow 0x0701 0 false true 32, opRow 0x0702 0 false true 16, opRow 0x0703 0 false true 4,
   opRow 0x0704 0 false true 32, opRow 0x0705 0 false true 8, opRow 0x0801 0 false true 32, opRow 0x0802 0 false false 4,
   opRow 0x0803 0 false true 40, opRow 0x0804 0 false false 4, opRow 0x0805 0 false true 16]

def opsSystem : List OpRow :=
  [opRow 0x0901 0 true true 136, opRow 0x0902 0 true true 16, opRow 0x0903 0 true true 4, opRow 0x0904 2 false true 20,
   ⟨0x0A01, 0, true, true, 9, 200⟩, opRow 0x0A02 0 true true 4, ⟨0x0A03, 0, true, true, 8, 200⟩, opRow 0x0A04 0 true true 4,
   opRow 0x0A05 0 true true 40, opRow 0x0B01 0 true true 32, opRow 0x0B02 0 false false 4, opRow 0x0B03 0 true true 4,
   opRow 0x0C01 0 false false 8, ⟨0x0C02, 0, false, true, 9, 72⟩, opRow 0x0C03 0 false true 12, opRow 0x0C04 0 false true 16,
   opRow 0x0C05 0 false false 4, opRow 0x0D01 0 true true 8, opRow 0x0D02 0 true true 8, opRow 0x0D03 0 false false 4,
   opRow 0x0D04 0 false false 4, opRow 0x0D05 1 false false 4]

/-- The row of an opcode, if the index lists it. -/
def opOf (op : Nat) : Option OpRow := (opsHouse ++ opsSignal ++ opsSystem).find? fun r => decide (r.op = op)

/-- The payload has the size its table gives; where the size is 8 + LEN, the LEN field gives it (R416, R418, R425, R521). -/
def OpRow.sizeOk (r : OpRow) (p : List Byte) : Bool :=
  decide (r.lo ≤ p.length) && decide (p.length ≤ r.hi) &&
    (if r.op = 0x0A01 then decide (p.length = 8 + uAt p 2 2)
     else if r.op = 0x0A03 then decide (p.length = 8 + (if uAt p 0 1 = 1 then uAt p 2 2 else 0))
     else if r.op = 0x0C02 then decide (p.length = 8 + uAt p 2 1)
     else true)

/-! ## Responses (R401, R402, R424, R427) -/

/-- The response is written, then MBX_ACK, then C2H doorbell bit 0 (R401). -/
def Mbx.post (m : Mbx) (ret seq : Nat) (b : List Byte) : Mbx :=
  { m with c2h := b ++ m.c2h.drop b.length, ack := put 0 16 ret ||| put 16 16 seq, c2hDb := setb m.c2hDb 0, c2hFull := true }

/-- The subscription mask that waits for its response comes into force (R454). -/
def Mbx.maskNow (m : Mbx) : Mbx :=
  { m with roDue := none, maskDue := none, sess := match m.maskDue with | some k => m.sess.map fun q => { q with mask := k } | none => m.sess }

/-- The response of channel `c` has been written: what its command left to that moment takes effect (R451, R454). -/
def State.posted (s : State) (c : Nat) : State :=
  let s1 := match (s.mbx c).roDue with | some r => s.modHost fun h => { h with roMask := r } | none => s
  s1.modMbx c Mbx.maskNow

/-- A response of channel `c`; it is held while C2H_FULL is 1 (R402). DEDUCED, unsafe: log entry 50. -/
def State.respond (s : State) (c ret op seq : Nat) (bytes : List Byte) : State :=
  let b := leBytes 2 ret ++ leBytes 2 op ++ leBytes 2 seq ++ leBytes 2 bytes.length ++ bytes
  if (s.mbx c).c2hFull then s.modMbx c fun m => { m with held := m.held ++ [(ret, seq, b)] }
  else (s.modMbx c fun m => m.post ret seq b).posted c

/-- The lead CP executes commands: it is not HALTED (R385), and the part is not entering belay or in it (R532). -/
def State.leadLive (s : State) : Bool := decide ((s.dx 0).mode ≠ 3) && decide (s.belay.phase ≠ 1) && decide (s.belay.phase ≠ 2)

/-- A held response is written once C2H_FULL has fallen (R402). -/
def State.postHeld (s : State) (c : Nat) : State :=
  let m := s.mbx c
  match m.held with
  | [] => s
  | h :: t => if m.c2hFull || !s.leadLive then s else (s.setMbx c (({ m with held := t } : Mbx).post h.1 h.2.1 h.2.2)).posted c

/-- A command that waited ends: its acknowledge goes out, unless an abort has removed it (R407), the lead CP is HALTED (R385), or the
follower that served it has reset (R404). DEDUCED, unsafe: log entry 50. -/
def State.finish (s : State) (c ret : Nat) (bytes : List Byte) : State :=
  match (s.mbx c).msg with
  | some m =>
    if m.held ∧ m.fwd = none ∧ s.leadLive then (s.modMbx c fun x => { x with msg := none }).respond c ret m.op m.seq bytes else s
  | none => s

/-! ## Sessions (R428 to R433) -/

/-- MBX_SEC follows the sessions that authenticated (R433). -/
def State.refreshAuth (s : State) : State :=
  let has := fun (p : Nat) => (List.range 8).any fun c =>
    match (s.mbx c).sess with
    | some x => x.authed && decide (x.port = p)
    | none => false
  s.modHost fun h => { h with spiAuth := has 1, i2cAuth := has 2 }

/-- The session of channel `c` ends (R431). -/
def State.endSession (s : State) (c : Nat) : State :=
  if (s.mbx c).sess.isSome then (s.modMbx c fun m => { m with sess := none, queue := [], lost := 0, maskDue := none }).refreshAuth else s

/-- The OWNER of a channel's session; 0 without one. -/
def State.ownerOf (s : State) (c : Nat) : Nat := match (s.mbx c).sess with | some x => x.owner | none => 0

/-! ## The copy of a message (R401, R425, R428 to R430, R437) -/

/-- The ROM serves the mailboxes: safe mode or download mode (R395, R441). -/
def Boot.rom (b : Boot) : Bool := b.safe || b.download

/-- Commands a channel without a session serves (R429). -/
def noSession (op : Nat) : Bool :=
  decide (op = 0x0001) || decide (op = 0x0002) || decide (op = 0x0003) || decide (op = 0x0007) || decide (op = 0x000A)

/-- The mode refusal and ERR_UNSUPPORTED, from the opcode alone (R393, R437, R441). -/
def Boot.opErr (b : Boot) (r : OpRow) : Option Nat :=
  if b.rom then
    if r.op < 0x100 then (if r.minor = 0 then none else some retUnsupported)
    else if b.download && (decide (r.op = 0x0A01) || decide (r.op = 0x0A02)) then none
    else some retNotReady
  else if b.minor < r.minor then some retUnsupported else none

/-- SESSION_OPEN with TAKEOVER (R447). -/
def isTakeover (op : Nat) (p : List Byte) : Bool := decide (op = 0x000A) && (uAt p 0 1).testBit 1

/-- The session checks: TAKEOVER is served from any port, at the SEQ of the session that it ends (R428 to R430).
DEDUCED, unsafe: log entry 15. -/
def Mbx.sessErr (m : Mbx) (op seq : Nat) (p : List Byte) : Option Nat :=
  match m.sess with
  | none => if noSession op then none else some retSession
  | some x => if x.port ≠ m.port ∧ !isTakeover op p then some retSession else if seq ≠ x.nextSeq then some retSeq else none

/-- The framing error of a message, in the order of R437. -/
def framing (b : Boot) (m : Mbx) (fmt rsvd len op seq : Nat) (p : List Byte) : Option Nat :=
  if fmt ≠ 1 ∨ rsvd ≠ 0 ∨ 248 < len ∨ seq = 0xFFFF then some retFrame
  else match opOf op with
    | none => some retBadOpcode
    | some r =>
      if !r.sizeOk p then some retFrame
      else match b.opErr r with
        | some e => some e
        | none => m.sessErr op seq p

/-- NEXT_SEQ after an accepted message (R430). -/
def nextSeqOf (n : Nat) : Nat := if n = 0xFFFE then 0 else n + 1

/-- The unit a command names first, as (kind by units per die, index): its die serves the command (R60). -/
def fwdDie (op : Nat) (p : List Byte) : Option Nat :=
  let u := uAt p 0 2
  let b := uAt p 0 1
  let hi := op / 256
  if hi = 2 then (if u < 320 then some (dieOfInput u) else none)
  else if op = 0x0301 ∨ op = 0x0303 then (if u < 384 then some (dieOfChan u) else none)
  else if hi = 4 ∨ hi = 5 ∨ op = 0x0606 ∨ op = 0x0607 then (if u < 64 then some (dieOfDpll u) else none)
  else if op = 0x0701 ∨ op = 0x0702 ∨ op = 0x0703 then (if u < 32 then some (dieOfOpll u) else none)
  else if op = 0x0704 then (if u < 128 then some (dieOfOut u) else none)
  else if hi = 8 then (if u < 128 then some (dieOfTd u) else none)
  else if hi = 9 then (if u < 224 then some (dieOfStitch u) else none)
  else if op = 0x0705 ∨ op = 0x0A05 ∨ hi = 0x0C ∨ op = 0x0D04 ∨ op = 0x0D05 then (if b < 8 then some b else none)
  else none

/-- The follower that serves a command: a unit of a follower that is up. -/
def State.fwdOf (s : State) (op : Nat) (p : List Byte) : Option Nat :=
  match fwdDie op p with
  | some d => if d ≠ 0 ∧ s.dieUp d then some d else none
  | none => none

/-- The message of channel `c` waits for the CP: the doorbell is set and not masked, no earlier message of the channel is in execution,
and no response of it waits (R401 to R404). DEDUCED, unsafe: log entry 50. -/
def State.msgWaits (s : State) (c : Nat) : Bool :=
  let m := s.mbx c
  decide (c < 8) && m.h2cFull && bit m.h2cDb 0 && !bit m.h2cMask 0 && m.msg.isNone && m.held.isEmpty

/-- The CP of die `d` is not held by the clean-up of an abort, which goes before all its other work (R59, R406). -/
def State.cpFree (s : State) (d : Nat) : Bool :=
  let f := s.host.abort.func
  !(decide (s.host.abort.stage = 2) && decide ((abortDie (f / 4096) (f % 4096)).getD 0 = d))

/-- The CP takes the message of channel `c`: it executes commands, and of the channels with a message waiting `c` is the next after
the one served last (R59, R401). DEDUCED, unsafe: log entry 50. -/
def State.takeReady (s : State) (c : Nat) : Bool :=
  s.leadLive && s.cpFree 0 && decide (((List.range 8).map fun i => (s.host.rrChan + 1 + i) % 8).find? s.msgWaits = some c)

/-- No follower has channel `c` among the requests it has taken: its message is a new one (R60). -/
def State.dropRun (s : State) (c : Nat) : State :=
  s.forEach (List.range 8) fun t d =>
    if (t.dx d).fwdRun.contains c then t.modDx d fun x => { x with fwdRun := x.fwdRun.filter fun i => decide (i ≠ c) } else t

/-- MBX_MESSAGE_TAKE: the copy, which clears H2C_FULL and doorbell bit 0; a message with a framing error is answered at
once, any other waits for its command (R401, R425, R430, R437). DEDUCED, unsafe: log entry 50. DEDUCED, unsafe: log entry 52. -/
def State.mbxTake (s : State) (c : Nat) : State :=
  if !s.takeReady c then s
  else
    let m := s.mbx c
    let op := uAt m.h2c 2 2
    let seq := uAt m.h2c 4 2
    let len := uAt m.h2c 6 2
    let p := (m.h2c.drop 8).take len
    let m1 := { m with h2cFull := false, h2cDb := m.h2cDb &&& ~~~ bm 0 }
    let s0 := (s.modHost fun h => { h with rrChan := c }).dropRun c
    let s1 := s0.setMbx c m1
    if m.collision then s1.respond c retCollision op 0xFFFF []
    else match framing s.host.boot m (uAt m.h2c 0 1) (uAt m.h2c 1 1) len op seq p with
      | some e => s1.respond c e op seq []
      | none =>
        let fwd := s.fwdOf op p
        let sess := m.sess.map fun x => { x with nextSeq := nextSeqOf x.nextSeq }
        let ro := decide (4 ≤ c) && s.host.roMask.testBit (c - 4)
        let g : Msg := { op := op, seq := seq, payload := p, port := m.port, ro := ro, fwd := fwd }
        let s2 := s0.setMbx c { m1 with sess := sess, msg := some g }
        match fwd with
        | some d => (s2.modDx d fun x => { x with fwdQ := x.fwdQ ++ [c] }).post 0 (.request c d)
        | none => s2

/-- A follower CP in RUN takes the oldest forwarded request, once it has come over a route without a link in RESYNC; it serves those it has
taken in that order. A booted die that is cut off has it answered without it (R10); while a die resets, or its CP is HALTED, the request
waits (R60, R334, R348, R404). DEDUCED, unsafe: log entry 50. -/
def State.forwarded (s : State) (d : Nat) : State :=
  match (s.dx d).fwdQ with
  | [] => s
  | c :: cs =>
    let f := Frame.request c d
    let took := decide ((s.dx d).mode = 2) && s.dieUp d && s.cpFree d && (s.routeUp 0 d || !s.onWay fun g => decide (g = f))
    if took || (!s.dieUp d && (s.die d).booted) then
      let s1 := (s.dropFrames fun g => decide (g = f)).modDx d fun x => { x with fwdQ := cs, fwdRun := if took then x.fwdRun ++ [c] else x.fwdRun }
      s1.modMbx c fun m => { m with msg := m.msg.map fun g => if g.fwd = some d then { g with fwd := none } else g }
    else s

/-- Channel `c` holds a command that has not begun. -/
def State.notBegun (s : State) (c : Nat) : Bool := match (s.mbx c).msg with | some m => !m.held | none => false

/-- A follower has taken the request of channel `c` and has an earlier one to serve, or its CP is held by a clean-up or HALTED (R59, R60,
R385, R404). -/
def State.behind (s : State) (c : Nat) : Bool :=
  (List.range 8).any fun d => (s.dx d).fwdRun.contains c &&
    (decide ((s.dx d).fwdRun.find? s.notBegun ≠ some c) || !s.cpFree d || decide ((s.dx d).mode ≠ 2))

/-! ## Execution -/

/-- A read-only channel refuses commands of kind C; ERR_ABSENT still comes first (R437, R451). -/
def policed (ro : Bool) (op : Nat) (s : State) (r : Reply) : Reply :=
  let kindC := match opOf op with | some x => x.change | none => false
  if ro && kindC && decide (r.ret ≠ retAbsent) then { ret := retDenied, s := s } else r

/-- What happened last to a unit through a command: the opcode group, the unit, which is the die for the store and 0 for the timebase, and the
OWNER of the session. RESET takes its effect later (R445, R457). -/
def State.blame (s : State) (c op : Nat) (p : List Byte) : State :=
  let g := op / 256
  let u := if g = 1 then 0 else if g = 0x0C ∨ op = 0x0601 ∨ op = 0x0603 then uAt p 0 1 else uAt p 0 2
  let o := s.ownerOf c
  if o = 0 ∨ g = 0 then s else s.modHost fun h => { h with cause := (g, u, o) :: h.cause }

/-! ## Configuration words written again (R477) -/

/-- Every write recomputes the parity of its word (R477); a word that a command loads takes none.
DEDUCED, unsafe: log entry 45. -/
def State.fixPar (s : State) (d off : Nat) : State :=
  let mine := decide (rwMask off ≠ 0) || (decide (0x800 ≤ off) && decide (off < 0x900)) || decide (off = 0x84000)
  if mine && ((s.dx d).bad.contains off || (s.dx d).parDue.contains off) then
    s.modDx d fun x => { x with bad := x.bad.filter (· ≠ off), parDue := x.parDue.filter (· ≠ off) }
  else s

/-- The configuration words a command writes: a die, and runs of offsets with their sizes (R477).
DEDUCED, unsafe: log entry 45. -/
def cmdWindow (op : Nat) (p : List Byte) : Nat × List (Nat × Nat) :=
  let u := uAt p 0 2
  let dpll := 0x30000 + 0x100 * (u % 8)
  let opll := 0x50000 + 0x40 * (u % 4)
  let out := 0x51000 + 0x40 * (u % 16)
  match op with
  | 0x0101 => (0, [(0x100, 4)])
  | 0x0401 => (u / 8, [(dpll + 0x04, 4)])
  | 0x0501 => (u / 8, [(dpll + 0xC0, 0x40)])
  | 0x0502 => (u / 8, [(dpll + 0x80, 8)])
  | 0x0601 => (0, [(0x40130, 0x10)])
  | 0x0606 => (u / 8, [(0x31000 + 0x40 * (u % 8) + 0x18, 0xC)])
  | 0x0701 => (u / 4, [(opll + 0x04, 0x10)])
  | 0x0702 => (u / 4, [(opll + 0x04, 0xC)])
  | 0x0704 => (u / 16, [(out + 0x04, 0xC), (out + 0x24, 4)])
  | 0x0705 => (uAt p 0 1, ((List.range 16).filter (uAt p 2 2).testBit).map fun i => (0x51000 + 0x40 * i, 4))
  | 0x0801 | 0x0805 => (u / 16, [(0x60000 + 0x80 * (u % 16) + 0x04, 4)])
  | 0x0B01 => (0, [(0xA0000 + 0x40 * uAt p 0 1, 0x1C)])
  | 0x0B03 => (0, [(0x600 + 4 * u, 4)])
  | 0x0D01 => (0, [(0x90100, 4)])
  | _ => (0, [])

/-- A command writes its words: their parity is right again (R477). DEDUCED, unsafe: log entry 45. -/
def State.fixCmd (s : State) (op : Nat) (p : List Byte) : State :=
  let w := cmdWindow op p
  let hit := fun (o : Nat) => w.2.any fun r => decide (r.1 ≤ o) && decide (o < r.1 + r.2)
  if (s.dx w.1).bad.any hit || (s.dx w.1).parDue.any hit then
    s.modDx w.1 fun x => { x with bad := x.bad.filter fun o => !hit o, parDue := x.parDue.filter fun o => !hit o }
  else s

/-- The command of channel `c` with opcode `op` executes by `body`, when the copied message is that command, no follower still has to
take it or to serve another first, and no abort holds the CP; its acknowledge goes out unless it waits (R59, R60, R401, R434, R435).
A wrong password of NV_LOGIN, which answers with the count left, is noted with its channel too (R457, R511).
DEDUCED, unsafe: log entry 50. -/
def State.runCmd (s : State) (c op : Nat) (body : Nat → List Byte → State → Reply) : State :=
  match (s.mbx c).msg with
  | none => s
  | some m =>
    if m.op = op ∧ m.held = false ∧ m.fwd = none ∧ s.leadLive ∧ s.cpFree 0 ∧ s.behind c = false then
      let r := policed m.ro op s (body c m.payload s)
      let s1 := if r.ret = retOK then (r.s.blame c op m.payload).fixCmd op m.payload
        else if op = 0x0C03 ∧ r.bytes ≠ [] then r.s.blame c op m.payload else r.s
      if r.wait then s1.modMbx c fun x => { x with msg := some { m with held := true } }
      else (s1.modMbx c fun x => { x with msg := none }).respond c r.ret op m.seq r.bytes
    else s

/-! ## Event queues (R453, R454) -/

/-- An entry reaches a channel: it is queued when its class is subscribed, and its doorbell bit is set (R453). -/
def Mbx.event (m : Mbx) (e : EventEntry) : Mbx :=
  let sub := decide (e.cls = 15) || (match m.sess with | some x => x.mask.testBit e.cls | none => false)
  if sub then
    let v := { m with c2hDb := setb m.c2hDb e.cls }
    if m.queue.length < 32 then { v with queue := m.queue ++ [e] } else { v with lost := min 0xFFFF (m.lost + 1) }
  else m

/-- An event entry as it reads (R453). -/
def EventEntry.bytes (e : EventEntry) : List Byte :=
  leBytes 8 e.mts ++ leBytes 1 e.cls ++ leBytes 1 (e.sub + 128 * b2n e.exact) ++ leBytes 2 e.unit ++ leBytes 4 e.data

/-- A log entry as it reads (R457). -/
def LogEntry.bytes (l : LogEntry) : List Byte :=
  leBytes 4 l.seq ++ leBytes 8 l.ev.mts ++ leBytes 4 l.up ++ leBytes 1 l.sev ++ leBytes 1 l.die ++ leBytes 2 (256 * l.ev.cls + l.ev.sub) ++
    leBytes 2 l.ev.unit ++ leBytes 1 (b2n l.ev.exact) ++ zeros 1 ++ leBytes 4 l.ev.data ++ leBytes 4 l.owner

end Sys2Proof.Machine
end

