-- ==== Sys2Proof/Machine/Nv.lean ====
section
/-! DEFINITION. The non-volatile store (chapter 14): records in two copies, queued page writes under the journal, passwords
and the commands of the user partitions. -/

namespace Sys2Proof.Machine
open Sys2Proof

/-! ## Records (R512 to R515) -/

/-- States of a record (R514). -/
inductive RecSt | empty | valid | tie | void | torn | bad
deriving DecidableEq, Repr

/-- Body bytes of a record (R512). DESIGN CHOICE, unsafe: log entry 35. -/
def recLen : Nat → Nat
  | 1 => 15168 | 2 => 128 | 3 => 128 | 4 => 256 | 5 => 648 | 6 => 16 | 7 => 1032 | 8 => 112 | _ => 0

/-- Pages of a record copy: 12 bytes around its body (R513). DESIGN CHOICE, unsafe: log entry 35. -/
def recPages (id : Nat) (void : Bool) : Nat := (12 + (if void then 0 else recLen id) + 63) / 64

/-- First page of a record in its bank; R513's example puts record 3 at pages 6 to 8. DESIGN CHOICE, unsafe: log entry 35. -/
def recBase : Nat → Nat
  | 6 => 0 | 8 => 1 | 2 => 3 | 3 => 6 | 4 => 9 | 5 => 14 | 7 => 25 | 1 => 42 | _ => 512

def recIds : List Nat := [1, 2, 3, 4, 5, 6, 7, 8]

/-- A copy is valid (R513). -/
def RecCopy.valid (c : RecCopy) : Bool := c.written && c.ok && !c.torn

/-- SEQ `x` is newer than SEQ `y` (R514). -/
def newerSeq (x y : Nat) : Bool :=
  let d := (x + 2 ^ 32 - y % 2 ^ 32) % 2 ^ 32
  decide (1 ≤ d) && decide (d ≤ 2 ^ 31 - 1)

/-- The state of a record and whether copy B is served (R514). -/
def serve (a b : RecCopy) : RecSt × Bool :=
  let voided := fun (c : RecCopy) (t : RecSt) => if c.void then RecSt.void else t
  if a.valid && b.valid then
    if a.seq = b.seq then (voided a (if a.body = b.body ∧ a.void = b.void then .valid else .tie), false)
    else if newerSeq a.seq b.seq then (voided a .valid, false)
    else if newerSeq b.seq a.seq then (voided b .valid, true)
    else (voided a .tie, false)
  else if a.valid then (voided a .valid, false)
  else if b.valid then (voided b .valid, true)
  else if !a.written && !b.written then (.empty, false)
  else if a.torn || b.torn then (.torn, false)
  else (.bad, false)

def NvDie.copy (n : NvDie) (id : Nat) (b : Bool) : RecCopy := if b then tget {} n.recB id else tget {} n.recA id
def NvDie.setCopy (n : NvDie) (id : Nat) (b : Bool) (c : RecCopy) : NvDie :=
  if b then { n with recB := tset {} n.recB id c } else { n with recA := tset {} n.recA id c }

def NvDie.recState (n : NvDie) (id : Nat) : RecSt := (serve (n.copy id false) (n.copy id true)).1

/-- The content served: none unless the record is VALID or a TIE (R514). -/
def NvDie.served (n : NvDie) (id : Nat) : RecBody :=
  let r := serve (n.copy id false) (n.copy id true)
  if r.1 = .valid ∨ r.1 = .tie then (n.copy id r.2).body else .none

/-- A record that is not VALID is not valid (R514): what firmware and the ROM take from it. -/
def NvDie.record (n : NvDie) (id : Nat) : RecBody := if n.recState id = .valid then n.served id else .none

/-- The copy a save overwrites and its SEQ (R515). -/
def NvDie.saveTo (n : NvDie) (id : Nat) : Bool × Nat :=
  let a := n.copy id false
  let b := n.copy id true
  if a.valid || b.valid then
    let sb := (serve a b).2
    (!sb, ((n.copy id sb).seq + 1) % 2 ^ 32)
  else (false, 1)

/-- The service has read every record: a TIE sets TIE_H (R514). -/
def NvDie.readAll (n : NvDie) : NvDie := { n with hist := setbIf n.hist 5 (recIds.any fun i => decide (n.recState i = .tie)) }

/-- A save, or a void, joins the queue of page writes (R501, R515). -/
def State.queueSave (s : State) (d id : Nat) (void : Bool) (body : RecBody) (chan : Option Nat) (fin : NvFin) : State :=
  let n := recPages id void
  let w := NvWork.record id false 0 void body n n
  s.modNv d fun v => { v with queue := v.queue ++ [{ work := w, chan := chan, fin := fin }] }

/-- A save is in progress: a record's page writes wait. DESIGN CHOICE, unsafe: log entry 54. -/
def NvDie.saving (n : NvDie) : Bool := n.queue.any fun j => match j.work with | .record _ _ _ _ _ _ _ => true | _ => false

/-- A save is in progress on some die: one of a record, whichever command or event queued it (R139, R253).
DESIGN CHOICE, unsafe: log entry 54. -/
def State.nvSaving (s : State) : Bool := (List.range s.nDies).any fun d => (s.dx d).nv.saving

/-! ## Passwords (R509 to R511) -/

def noPass : List (List Byte) := List.replicate 14 (zeros 8)

/-- The passwords in force: read and write of each partition; all open without a valid record. -/
def NvDie.passwords (n : NvDie) : List (List Byte) := match n.served 8 with | .pass p => p | _ => noPass

/-- The passwords after every save that waits. -/
def NvDie.passNext (n : NvDie) : List (List Byte) :=
  n.queue.foldl (fun a j => match j.work with | .record _ _ _ _ (.pass p) _ _ => p | _ => a) n.passwords

def passIdx (part : Nat) (write : Bool) : Nat := 2 * (part - 1) + b2n write
/-- DEDUCED, unsafe: log entry 37. -/
def NvDie.passOpen (n : NvDie) (part : Nat) (write : Bool) : Bool := decide (n.passwords.getD (passIdx part write) [] = zeros 8)
def NvDie.isLocked (n : NvDie) (part : Nat) : Bool := n.locked.testBit part

/-- The session of channel `c` holds a grant; a write grant also grants read (R510). DEDUCED, unsafe: log entry 37. -/
def State.granted (s : State) (c d part : Nat) (write : Bool) : Bool :=
  match (s.mbx c).sess with
  | none => false
  | some x => x.grants.contains (d, part, true) || (!write && x.grants.contains (d, part, false))

/-- Access to a partition: a grant, or an open password unless the partition is locked (R510, R511). -/
def State.partOk (s : State) (c d part : Nat) (write : Bool) : Bool :=
  let n := (s.dx d).nv
  s.granted c d part write || (!n.isLocked part && n.passOpen part write)

/-- Grants of one kind for a partition end in every session (R510). -/
def State.endGrants (s : State) (d part : Nat) (write : Bool) : State :=
  s.forEach (List.range 8) fun x c =>
    x.modMbx c fun m => { m with sess := m.sess.map fun q => { q with grants := q.grants.filter (· ≠ (d, part, write)) } }

/-! ## Page writes (R501 to R506) -/

/-- The cell address of an offset in a user partition. DESIGN CHOICE, unsafe: log entry 4. -/
def cellAt (part off : Nat) : Nat := (part - 1) * 24576 + off

/-- Cells with the bytes of `data` at `addr`, where bit `i` of `mask` says that byte `i` is new.
DESIGN CHOICE, unsafe: log entry 4. -/
def putCells (t : Tbl Byte) (addr : Nat) (data : List Byte) (mask : Nat) : Tbl Byte :=
  data.zipIdx.foldl (fun a p => if mask.testBit p.2 then tset 0xFF a (addr + p.2) p.1 else a) t

/-- All bytes of a page new. -/
def allNew : Nat := 2 ^ 64 - 1

/-- The head job with the copy of a record save chosen at its first page (R515). -/
def NvDie.resolve (n : NvDie) (w : NvWork) : NvWork :=
  match w with
  | .record id b q v body pages left =>
    if left = pages then (let t := n.saveTo id; .record id t.1 t.2 v body pages left) else .record id b q v body pages left
  | x => x

/-- The page a job writes next (R499). -/
def NvWork.page : NvWork → Nat
  | .cells a _ => 1024 + a / 64
  | .erase p left => 1024 + 384 * (p - 1) + (384 - left)
  | .record id b _ _ _ pages left => recBase id + (if b then 512 else 0) + (pages - left)
  | .refresh p => p

/-- One page of a job programmed, bit `i` of `mask` saying that byte `i` reads new (R501, R505, R506).
DESIGN CHOICE, unsafe: log entry 36. -/
def NvDie.program (n : NvDie) (w : NvWork) (mask : Nat) : NvDie :=
  match w with
  | .cells a d => { n with cells := putCells n.cells a d mask }
  | .erase p left => { n with cells := putCells n.cells (cellAt p (64 * (384 - left))) (List.replicate 64 0xFF) mask }
  | .record id b q v body pages left =>
    let old := n.copy id b
    let wr := old.written || decide (left ≠ pages) || mask.testBit 0 || mask.testBit 1
    let c : RecCopy := { written := wr, seq := q, void := v, ok := decide (left = 1) && decide (mask = allNew), torn := false, body := body }
    if left = pages ∧ mask % 2 ^ 64 = 0 then n else n.setCopy id b c
  | .refresh _ => n

/-- The job after one page; none when it was the last. -/
def NvWork.rest : NvWork → Option NvWork
  | .cells _ _ => none
  | .erase p left => if left ≤ 1 then none else some (.erase p (left - 1))
  | .record id b q v body pages left => if left ≤ 1 then none else some (.record id b q v body pages (left - 1))
  | .refresh _ => none

/-- Jobs of channel `c` wait on some die. -/
def State.jobsOf (s : State) (c : Nat) : Bool := (List.range 8).any fun d => (s.dx d).nv.queue.any fun j => decide (j.chan = some c)

/-- The entries of the NV log from SEQ `u` on (R459). -/
def logFrom (u : Nat) (l : List LogEntry) : List LogEntry := l.filter fun e => decide ((e.seq + 2 ^ 32 - u % 2 ^ 32) % 2 ^ 32 < 2 ^ 31)

/-- A save of the NV log that waits holds no entry that LOG_CLEAR has emptied (R459). -/
def NvWork.logFrom (u : Nat) : NvWork → NvWork
  | .record id b q v (.log l n) pages left => .record id b q v (.log (Machine.logFrom u l) n) pages left
  | w => w

/-- BOOT_CONFIRM takes effect in the OTP: the rollback counter of 128 bits, and the revocations, which spare the slots that signed the two
running images (R391, R409). -/
def State.confirmOtp (s : State) : State :=
  match s.host.boot.lead, s.host.boot.unit with
  | some l, some u =>
    let svn := min l.svn u.svn
    let spare := fun (m i : Nat) => if m.testBit i then m - 2 ^ i else m
    s.modDx 0 fun x =>
      { x with otp := { x.otp with rollback := min 128 (max x.otp.rollback svn),
                                   revoked := x.otp.revoked ||| spare (spare l.revoke l.keySlot) u.keySlot } }
  | _, _ => s

/-- The end of a job that succeeded, for the command of channel `chan` (R409, R410, R459, R510, R523). -/
def State.jobFin (s : State) (d : Nat) (chan : Option Nat) : NvFin → State
  | .none => s
  | .flash op slot off data => s.modHost fun h => { h with flashOp := some (op, slot, off, data, chan.getD 8) }
  | .grants p w => s.endGrants d p w
  | .unlock p =>
    let s1 := (s.endGrants d p true).endGrants d p false
    s1.modNv d fun n => { n with undo := none, locked := if n.locked.testBit p then n.locked - 2 ^ p else n.locked, wrong := tset 0 n.wrong p 0 }
  | .confirm => s.confirmOtp.modBoot fun b => { b with trial := false }
  | .clearLog ram u =>
    (s.modHost fun h => { h with nvLog := logFrom u h.nvLog, ramLog := if ram then [] else h.ramLog }).modNv 0 fun n =>
      { n with queue := n.queue.map fun j => { j with work := j.work.logFrom u } }

/-- The command that waits on a job of die `d` gets its code; it is acknowledged with its last job. With the CP of a follower HALTED it waits
for ever (R385, R404, R435). -/
def State.jobAnswer (s : State) (d : Nat) (chan : Option Nat) (ret : Nat) : State :=
  match chan with
  | none => s
  | some c =>
    match (s.mbx c).msg with
    | none => s
    | some m =>
      if d ≠ 0 ∧ (s.dx d).mode = 3 then s.modMbx c fun x => { x with msg := some { m with fwd := some d } } else
      let code := if m.code = 0 then ret else m.code
      let s1 := s.modMbx c fun x => { x with msg := some { m with code := code } }
      if s1.jobsOf c then s1 else s1.finish c code []

/-- The command of the job goes on at the flash (R410). -/
def NvFin.isFlash : NvFin → Bool
  | .flash _ _ _ _ => true
  | _ => false

/-- The jobs behind a failed one that serve the same command go with it. -/
def dropChan (chan : Option Nat) (q : List NvJob) : List NvJob := if chan.isSome then q.filter fun j => decide (j.chan ≠ chan) else q

/-- A cell of partition `p`. -/
def inPart (p : Nat) (e : Nat × Byte) : Bool := decide (cellAt p 0 ≤ e.1) && decide (e.1 < cellAt (p + 1) 0)

/-- The first page of an erase: what the partition holds is kept until the command has ended (R437, R523). -/
def NvDie.mark (n : NvDie) (w : NvWork) : NvDie :=
  match w with
  | .erase p 384 => { n with undo := some (p, n.cells.filter (inPart p)) }
  | _ => n

/-- An erase of a partition that fails changes nothing (R437, R503). -/
def NvDie.undone (n : NvDie) : NvDie :=
  match n.undo with
  | none => n
  | some (p, t) => { n with undo := none, cells := t.foldl (fun a e => tset 0xFF a e.1 e.2) (n.cells.filter fun e => !inPart p e) }

/-- A page write has ended with `n` as the store: the queue goes on, and the command hears of the end of its job; one on a die that is no
longer up completes there and returns ERR_NOT_READY (R518).
DESIGN CHOICE, unsafe: log entry 36. DESIGN CHOICE, unsafe: log entry 54. -/
def State.pageEnd (s : State) (d : Nat) (n : NvDie) (j : NvJob) (w : NvWork) (js : List NvJob) (ret : Nat) : State :=
  let code := if s.dieUp d then ret else retNotReady
  if ret ≠ retOK then (s.modNv d fun _ => { n.undone with queue := dropChan j.chan js }).jobAnswer d j.chan code
  else match w.rest with
    | some w2 => s.modNv d fun _ => { n with queue := { j with work := w2 } :: js }
    | none =>
      let t := ((s.modNv d fun _ => { n with queue := js, journal := none }).jobFin d j.chan j.fin).modNv d NvDie.readAll
      if j.fin.isFlash then t else t.jobAnswer d j.chan code

/-- A spare page takes the place of a page (R505). DESIGN CHOICE, unsafe: log entry 36. -/
def NvDie.remapPage (n : NvDie) (page : Nat) : NvDie :=
  { n with remap := tset 0 n.remap page (3712 + (320 - n.spares)), spares := n.spares - 1, remapCnt := n.remapCnt + 1, hist := setb n.hist 3 }

/-- A page write that completed is counted (R519); a refresh also (R516). -/
def NvDie.countPage (n : NvDie) (w : NvWork) : NvDie :=
  let k := satInc n.writeCnt
  let v := { n with writeCnt := k, hist := satFlag n.hist 7 k }
  match w with
  | .refresh _ => let r := satInc v.refreshCnt; { v with refreshCnt := r, hist := satFlag (setb v.hist 6) 7 r }
  | _ => v

/-- The NV controller of die `d` is powered: outside belay, or in a wake of die 0 with page writes left (R536). -/
def State.nvPowered (s : State) (d : Nat) : Bool :=
  s.fitted d && (decide (s.belay.phase ≠ 2) || (decide (d = 0) && decide (0 < s.belay.budget)))

/-- The write of a picot seed record: refused in belay it is abandoned, where other writes wait for the next wake (R130, R538). -/
def NvWork.isSeed : NvWork → Bool
  | .record _ _ _ _ (.seed _) _ _ => true
  | _ => false

/-- The write of a boot record. -/
def NvWork.isBoot : NvWork → Bool
  | .record _ _ _ _ (.boot _) _ _ => true
  | _ => false

/-- A write that no command waits for and that the ROM needs before it goes on: a lowered trial count is tried until it is saved (R388).
DESIGN CHOICE, unsafe: log entry 40. -/
def NvJob.ofRom (j : NvJob) : Bool := j.chan.isNone && j.work.isBoot

/-- NV_PAGE_WRITE (R502 to R505). `good`: 0 the first verify passes, 1 the second, 2 the spare's, 3 none.
DESIGN CHOICE, safe: log entry 6. DESIGN CHOICE, unsafe: log entry 36. DESIGN CHOICE, unsafe: log entry 54. -/
def State.nvPage (s : State) (d aonMv choldMv good : Nat) : State :=
  let n := { (s.dx d).nv with aonMv := aonMv, choldMv := choldMv }
  match n.queue with
  | [] => s
  | j :: js =>
    if !s.nvPowered d then s
    else
      let bel := decide (s.belay.phase = 2)
      let s := if bel then s.modBelay fun b => { b with budget := b.budget - 1 } else s
      if !(aonOk aonMv && choldOk choldMv) then
        let k := satInc n.rejCnt
        let n1 := { n with rejCnt := k, hist := satFlag (setb n.hist 1) 7 k }
        if (bel && !j.work.isSeed) || j.ofRom then s.modNv d fun _ => n1 else s.pageEnd d n1 j j.work js retBusy
      else
        let w := n.resolve j.work
        let n := n.mark w
        let n1 := if good = 0 then n else { n with hist := setb n.hist 2 }
        if good ≤ 1 then s.pageEnd d ((n1.program w allNew).countPage w) j w js retOK
        else if good = 2 ∧ 0 < n.spares then s.pageEnd d (((n1.program w allNew).remapPage w.page).countPage w) j w js retOK
        else
          let r := s.draw
          if j.ofRom then r.2.modNv d fun _ => n1.program w r.1.toNat else r.2.pageEnd d (n1.program w r.1.toNat) j w js retNv

/-- A page write is cut off: INTENT stays in the journal, and each byte reads old or new (R506, R507).
DESIGN CHOICE, unsafe: log entry 36. -/
def NvDie.cut (n : NvDie) (mask : Nat) : NvDie :=
  match n.queue with
  | [] => n
  | j :: _ => let w := n.resolve j.work; { n.program w mask with journal := some w.page }

/-- A page lies in copy `b` of record `id`. -/
def pageIn (id : Nat) (b : Bool) (page : Nat) : Bool :=
  let lo := recBase id + (if b then 512 else 0)
  decide (lo ≤ page) && decide (page < lo + recPages id false)

/-- The ROM reads the journal at a boot (R507). -/
def NvDie.bootCheck (n : NvDie) : NvDie :=
  let hit := fun (id : Nat) (b : Bool) => match n.journal with | some g => pageIn id b g | none => false
  let v := recIds.foldl (fun v id => (v.setCopy id false { v.copy id false with torn := hit id false }).setCopy id true { v.copy id true with torn := hit id true }) n
  match n.journal with
  | some p => { v with torn := some p, hist := setb v.hist 0, journal := none }
  | none => { v with torn := none }

/-- MARGIN_SCAN: the page is read; a weak one waits to be refreshed. A scan yields to queued writes (R516).
DESIGN CHOICE, unsafe: log entry 36. -/
def State.marginScan (s : State) (d page : Nat) (weak : Bool) : State :=
  let x := s.dx d
  if s.nvPowered d && decide (page < 4032) && x.nv.queue.isEmpty then
    let newScan := decide (page ≤ x.age.scanPage)
    let hours := x.age.onWin / (3600 * winPerSec)
    let a := x.age
    let a1 := { a with scanPage := page, scanWeak := (if newScan then false else a.scanWeak) || weak,
                       scans := if newScan && a.scanWeak then a.scans ++ [hours] else a.scans,
                       refreshes := if weak then a.refreshes ++ [hours] else a.refreshes }
    let q := if weak then [({ work := .refresh page } : NvJob)] else []
    s.modDx d fun y => { y with age := a1, nv := { y.nv with queue := y.nv.queue ++ q } }
  else s

/-! ## Commands (R520 to R525) -/

/-- The checks that name a die: family range, absence, DIE_UP (R10, R12, R525). -/
def dieAbsent (s : State) (d : Nat) : Bool × Nat := (decide (d < 8) && !s.fitted d, retAbsent)
def dieDown (s : State) (d : Nat) : Bool × Nat := (decide (d < 8) && !s.dieUp d, retNotReady)

/-- DIE or PARTITION outside its range. -/
def nvRange (d part : Nat) : Bool := decide (8 ≤ d) || decide (8 ≤ part)

def nvReadReply (c : Nat) (p : List Byte) (s : State) : Reply :=
  let d := uAt p 0 1
  let part := uAt p 1 1
  let len := uAt p 2 1
  let off := uAt p 4 4
  guarded s
    [dieAbsent s d, (decide (part = 0), retDenied), (!nvRange d part && !s.partOk c d part false, retDenied), dieDown s d,
     (nvRange d part || decide (len = 0) || decide (192 < len) || !rsv p 3 1 || decide (24576 < off + len), retBadParam)]
    (okWith (p.take 8 ++ (List.range len).map fun i => tget 0xFF (s.dx d).nv.cells (cellAt part (off + i))) s)

def nvWriteReply (c : Nat) (p : List Byte) (s : State) : Reply :=
  let d := uAt p 0 1
  let part := uAt p 1 1
  let len := uAt p 2 1
  let off := uAt p 4 4
  match firstErr
    [dieAbsent s d, (decide (part = 0), retDenied), (!nvRange d part && !s.partOk c d part true, retDenied), dieDown s d,
     (nvRange d part || decide (len = 0) || decide (64 < len) || !rsv p 3 1 || decide (24576 < off + len) || decide (64 < off % 64 + len),
      retBadParam)] with
  | some r => { ret := r, s := s }
  | none =>
    let w := NvWork.cells (cellAt part off) (p.drop 8)
    { ret := retOK, wait := true, s := s.modNv d fun n => { n with queue := n.queue ++ [{ work := w, chan := some c }] } }

/-- A wrong password counts; the eighth locks the partition (R511). DEDUCED, unsafe: log entry 37. -/
def NvDie.wrongPass (n : NvDie) (part : Nat) : NvDie :=
  let k := tget 0 n.wrong part + 1
  let v := { n with wrong := tset 0 n.wrong part k }
  if 8 ≤ k then { v with locked := n.locked ||| 2 ^ part, hist := setb n.hist 4 } else v

/-- The session of channel `c` gains or loses grants. -/
def State.modGrants (s : State) (c : Nat) (f : List (Nat × Nat × Bool) → List (Nat × Nat × Bool)) : State :=
  s.modMbx c fun m => { m with sess := m.sess.map fun q => { q with grants := f q.grants } }

/-- DEDUCED, unsafe: log entry 37. -/
def nvLoginReply (c : Nat) (p : List Byte) (s : State) : Reply :=
  let d := uAt p 0 1
  let part := uAt p 1 1
  let kind := uAt p 2 1
  let n := (s.dx d).nv
  let named := !nvRange d part
  let wrong := named && decide (kind ≤ 1) && decide (n.passwords.getD (passIdx part (decide (kind = 1))) [] ≠ p.drop 4)
  match firstErr [dieAbsent s d, (decide (part = 0), retDenied), (named && n.isLocked part, retDenied), dieDown s d] with
  | some r => { ret := r, s := s }
  | none =>
    if wrong then
      let s1 := s.modNv d fun v => v.wrongPass part
      { ret := retDenied, bytes := leBytes 1 (8 - (tget 0 n.wrong part + 1)) ++ zeros 3, s := s1 }
    else guarded s [(!named || decide (2 < kind) || !rsv p 3 1 || (decide (kind = 2) && !rsv p 4 8), retBadParam)]
      (okReply
        (if kind = 2 then s.modGrants c fun g => g.filter fun x => !(decide (x.1 = d) && decide (x.2.1 = part))
         else (s.modNv d fun v => { v with wrong := tset 0 v.wrong part 0 }).modGrants c fun g =>
           if g.contains (d, part, decide (kind = 1)) then g else g ++ [(d, part, decide (kind = 1))]))

def nvSetPasswordReply (c : Nat) (p : List Byte) (s : State) : Reply :=
  let d := uAt p 0 1
  let part := uAt p 1 1
  let kind := uAt p 2 1
  let n := (s.dx d).nv
  match firstErr
    [dieAbsent s d, (decide (part = 0), retDenied), (!nvRange d part && decide (kind ≤ 1) && !s.partOk c d part true, retDenied),
     (decide (kind = 2) && notSec c, retDenied), dieDown s d,
     (nvRange d part || decide (2 < kind) || !rsv p 3 5 || (decide (kind = 2) && !rsv p 8 8), retBadParam)] with
  | some r => { ret := r, s := s }
  | none =>
    let ps := n.passNext
    if kind = 2 then
      let ps2 := (ps.set (passIdx part false) (zeros 8)).set (passIdx part true) (zeros 8)
      let s1 := s.modNv d fun v => { v with queue := v.queue ++ [{ work := .erase part 384, chan := some c }] }
      { ret := retOK, wait := true, s := s1.queueSave d 8 false (.pass ps2) (some c) (.unlock part) }
    else
      let ps2 := ps.set (passIdx part (decide (kind = 1))) ((p.drop 8).take 8)
      { ret := retOK, wait := true, s := s.queueSave d 8 false (.pass ps2) (some c) (.grants part (decide (kind = 1))) }

/-- A byte with bit `p` for each user partition. -/
def partBits (f : Nat → Bool) : Nat := sumN ((List.range 8).map fun p => if 1 ≤ p ∧ f p then 2 ^ p else 0)

def nvGetStatusReply (c : Nat) (p : List Byte) (s : State) : Reply :=
  let d := uAt p 0 1
  let n := (s.dx d).nv
  let fl := b2n (!n.queue.isEmpty) + 2 * b2n (aonOk n.aonMv) + 4 * b2n (choldOk n.choldMv) + 8 * b2n n.torn.isSome + 16 * b2n (decide (n.spares < 16))
  let held := fun (w : Bool) (q : Nat) => match (s.mbx c).sess with | some x => x.grants.contains (d, q, w) | none => false
  guarded s [dieAbsent s d, dieDown s d, (decide (8 ≤ d) || !rsv p 1 3, retBadParam)]
    (okWith (leBytes 1 d ++ leBytes 1 fl ++ leBytes 2 n.spares ++ leBytes 2 (n.torn.getD 0) ++ leBytes 1 n.locked ++
      leBytes 1 (partBits fun q => n.passOpen q false) ++ leBytes 1 (partBits fun q => n.passOpen q true) ++
      leBytes 1 (partBits fun q => held false q || held true q) ++ leBytes 1 (partBits (held true)) ++ zeros 1 ++
      leBytes 4 n.writeCnt ++ leBytes 4 n.rejCnt ++ leBytes 4 n.refreshCnt ++ leBytes 2 n.aonMv ++ leBytes 2 n.choldMv ++ zeros 4) s)

/-! ## Seed records (R119, R137) -/

/-- The seed record a die holds. -/
def NvDie.seed (n : NvDie) : SeedRec := match n.record 1 with | .seed r => r | _ => {}

/-- The seed record of die `d` is written from its tables (R119). -/
def State.saveSeed (s : State) (d : Nat) (chan : Option Nat) : State :=
  s.queueSave d 1 false (.seed (s.seedRecord d (s.dx d).nv.seed)) chan .none

/-- TDC_SAVE_SEED: acknowledged when every record has been written (R137). -/
def tdcSaveSeedReply (c : Nat) (p : List Byte) (s : State) : Reply :=
  let m := uAt p 0 1
  let ds := (List.range 8).filter fun d => m.testBit d
  match firstErr
    [(ds.any fun d => !s.fitted d, retAbsent), (ds.any fun d => !s.dieUp d, retNotReady), (ds.isEmpty || !rsv p 1 3, retBadParam),
     (s.nvSaving, retBusy)] with
  | some r => { ret := r, s := s }
  | none => { ret := retOK, wait := true, s := s.forEach ds fun x d => x.saveSeed d (some c) }

end Sys2Proof.Machine
end

