-- ==== Sys2Proof/Machine/CairnCmds.lean ====
section
/-! DEFINITION. The cairn commands (R246 to R253): declaring members, configuration, saving, restoring and forgetting models. -/

namespace Sys2Proof.Machine
open Sys2Proof

/-- The record of a port's model in its die's store (R512). -/
def modelRec (o : Nat) : Nat := 2 + o % 2

/-- The model is cleared to `st`, and the port's record is voided (R224). DEDUCED, unsafe: log entry 48. -/
def State.forgetModel (s : State) (o : Nat) (st : ModelSt) : State :=
  (s.modModel o fun m => m.cleared st).queueSave (dieOfOsc o) (modelRec o) true .none none .none

/-- FW_VERSION of the running lead image; 0 without one. -/
def State.fwNow (s : State) : Nat := match s.host.boot.lead with | some x => x.fw | none => 0

/-- A record that firmware `a` wrote has the format of firmware `b` (R238). DESIGN CHOICE, safe: log entry 9. -/
def sameFormat (a b : Nat) : Bool := decide (a = b) || decide (Config.recFormat a = Config.recFormat b)

/-- A save of port `o`'s model, in the format of the running firmware (R237, R238). -/
def State.saveModel (s : State) (o : Nat) (chan : Option Nat) : State :=
  (s.queueSave (dieOfOsc o) (modelRec o) false (.model (s.model o) (some (s.td s.cairn.timeDomain).sec) s.fwNow) chan .none).modModel o
    fun m => { m with unsaved := false, startMark := (s.osc o).startCnt }

/-- The configured time domain has valid time: its virtual input has LOS = 0 (R91, R239). -/
def State.clockValid (s : State) : Bool :=
  !s.domainLost (192 + s.cairn.timeDomain)

/-- A restored model once the interval `dt` in seconds is known: its age moves on, and with it the time since the last learning unless a mean
has been kept since the restore; one whose last learning was too old at the restore goes back to LEARNING. The flag is RESTORE_FAIL_H (R223,
R238, R239). DEDUCED, unsafe: log entry 48. -/
def PortModel.aged (m : PortModel) (dt maxAgeD : Nat) : PortModel × Bool :=
  let m1 := { m with ageS := m.ageS + dt, saveSec := none,
                     sinceLearn := if m.learntSince then m.sinceLearn else min 0xFFFFFFFF (m.sinceLearn + dt) }
  if maxAgeD * 86400 < m.restAge + dt then (m1.cleared .learning, true) else (m1, false)

/-- The age of the model of port `o` takes the power-off interval, once the clock is valid (R239).
DEDUCED, unsafe: log entry 48. -/
def State.correctAge (x : State) (o : Nat) : State :=
  match (x.model o).saveSec with
  | none => x
  | some q =>
    let r := (x.model o).aged ((x.td x.cairn.timeDomain).sec - q) x.cairn.maxAgeD
    let y := x.setModel o (if r.2 then { r.1 with failCnt := r.1.failCnt + 1 } else r.1)
    if r.2 then { y with cairn := { y.cairn with hist := setb y.cairn.hist 3 } } else y

/-- Valid time has arrived: every restored model is corrected (R239). -/
def State.correctAges (s : State) : State :=
  if s.clockValid then s.forEach (s.all 2) State.correctAge else s

/-- The model fields a stored record supplies to a declared port (R224, R237, R239); `up` is the time since power-up in seconds. A retrace
term in the record has been fitted (R220). `n` counts the port's starts that the record does not hold (R216). -/
def PortModel.restore (m old : PortModel) (sec up n : Nat) : PortModel :=
  { m with state := .restored, m := old.m, hasTref := old.hasTref, starts := min 255 (old.starts + n), ageS := old.ageS + up,
           learnS := old.learnS, sinceLearn := min 0xFFFFFFFF (old.sinceLearn + up), sinceStart := true, saveSec := some (sec + up),
           startLearn := 0, start24 := decide (old.m.w ≠ 0), hours := if n = 0 then [] else [(0, 0)],
           theta := [], cov := [], restAge := old.sinceLearn + up, learntSince := false, unsaved := false,
           obs := [], obsSec := 0, resid := [], verX := 0, verP := 0, verN := 0 }

/-- The variance that a restored model is verified against: that of the moment of restore, with the interval that is known then (R225).
DEDUCED, unsafe: log entry 48. -/
def PortModel.fixVar (m : PortModel) (temp : Int) : PortModel := if m.state = .restored then { m with verVar := m.variance temp } else m

/-- R224 from NONE: a valid record restores the model; otherwise learning starts, and a record under another identity is
voided (R224, R238). -/
def State.declareModel (s : State) (o : Nat) : State :=
  let n := (s.dx (dieOfOsc o)).nv
  let m := s.model o
  let up := s.host.boot.uptime / 1000
  match n.record (modelRec o) with
  | .model old sec fw =>
    if !sameFormat fw s.fwNow then s.modModel o fun m => m.cleared .learning
    else if old.oscId = m.oscId ∧ m.oscId ≠ 0 ∧ old.state = .qualified then
      let q := sec.getD 0
      let r := m.restore old q up ((s.osc o).startCnt - m.startMark)
      let dt := if s.clockValid then (s.td s.cairn.timeDomain).sec - (q + up) else 0
      if s.cairn.maxAgeD * 86400 < r.restAge + dt then s.modModel o fun m => m.cleared .learning
      else ((s.setModel o r).correctAges).modModel o fun m => m.fixVar (s.osc o).temp
    else if old.oscId ≠ m.oscId then
      let s1 := (s.forgetModel o .learning).modModel o fun m => { m with mismatchCnt := m.mismatchCnt + 1 }
      { s1 with cairn := { s1.cairn with hist := setb s1.cairn.hist 4 } }
    else s.modModel o fun m => m.cleared .learning
  | _ => s.modModel o fun m => m.cleared .learning

/-- The declaration fields of CAIRN_SET_MEMBER (R246). DEDUCED, unsafe: log entry 48. -/
def PortModel.declare (m : PortModel) (p : List Byte) : PortModel :=
  { m with tempOrderMax := uAt p 3 1, oscId := uAt p 4 8, originDays := uAt p 12 2, tsense := (uAt p 14 1).testBit 0,
           r25 := uAt p 16 4, beta := uAt p 20 2, tofs := sAt p 22 2, resMax := uAt p 24 4 }

/-- A field of CAIRN_SET_MEMBER outside its range (R246). -/
def memberBad (p : List Byte) : Bool :=
  let ts := (uAt p 14 1).testBit 0
  decide (16 ≤ uAt p 0 2) || decide (1 < uAt p 2 1) || decide (3 < uAt p 3 1) || decide (1 < uAt p 14 1) || !rsv p 15 1 ||
    (if ts then decide (uAt p 16 4 < 100) || decide (1000000 < uAt p 16 4) || decide (uAt p 20 2 < 1000) || decide (10000 < uAt p 20 2)
     else decide (uAt p 16 4 ≠ 0) || decide (uAt p 20 2 ≠ 0)) ||
    decide (640 < (sAt p 22 2).natAbs) || decide (uAt p 24 4 = 0) || decide (1000000 < uAt p 24 4) || !rsv p 28 4

/-- A slot is freed: what it gave to Y moves into Z (R230, R247). -/
def State.freeSlot (s : State) (o : Nat) : State :=
  let c := s.cairn
  let vals := fun (l : List Member) => l.flatMap fun m => if m.used ∧ c.activeSet.contains m.port then [(m.e, m.var)] else []
  let rest := c.slots.map fun m => if m.used ∧ m.port = o then ({} : Member) else m
  let old := vals c.slots
  let new := vals rest
  let carry := if s.part.featK && decide (c.ztauS ≠ 0) && decide (new ≠ old) && !new.isEmpty then (weighted old).1 - (weighted new).1 else 0
  { s with cairn := { c with slots := rest, activeSet := c.activeSet.filter (· ≠ o), z := c.z + carry } }

/-- Port `o` takes the first free slot. DEDUCED, unsafe: log entry 48. -/
def State.takeSlot (s : State) (o : Nat) : State :=
  match (List.range 4).find? fun i => !(s.cairn.slots.getD i {}).used with
  | some i => { s with cairn := { s.cairn with slots := s.cairn.slots.set i { port := o, used := true } } }
  | none => s

/-- The slot of port `o` shows the state its conditions give (R227). DEDUCED, unsafe: log entry 48. -/
def State.showSlot (s : State) (o : Nat) : State :=
  { s with cairn := { s.cairn with slots := s.cairn.slots.map fun m => if m.used ∧ m.port = o then { m with state := s.memberCond m } else m } }

/-- The effect of an accepted CAIRN_SET_MEMBER (R247). DEDUCED, unsafe: log entry 48. -/
def State.setMember (s : State) (o : Nat) (p : List Byte) : State :=
  let en := decide (uAt p 2 1 = 1)
  if en then
    let old := (s.model o).oscId
    let s1 := s.modModel o fun m => m.declare p
    if s.isMember o then (if old = uAt p 4 8 then s1 else s1.forgetModel o .learning)
    else ((s1.takeSlot o).declareModel o).showSlot o
  else if s.isMember o then s.freeSlot o else s

/-- A port that a part without K does not have in its ensemble (R240). -/
def State.noK (s : State) (o : Nat) : Bool := !s.part.featK && decide (o ≠ s.masterPort)

/-- Another port is a member. -/
def State.otherMember (s : State) (o : Nat) : Bool := s.cairn.slots.any fun m => m.used && decide (m.port ≠ o)

def portChecks (s : State) (o : Nat) : List (Bool × Nat) :=
  [(decide (o < 16) && (!s.hasOsc o || s.noK o), retAbsent), (decide (o < 16) && !s.dieUp (dieOfOsc o), retNotReady)]

def cairnSetMemberReply (_c : Nat) (p : List Byte) (s : State) : Reply :=
  let o := uAt p 0 2
  let en := decide (uAt p 2 1 = 1)
  guarded s
    ([(!s.part.featK && en && s.otherMember o, retAbsent)] ++ portChecks s o ++
      [(memberBad p, retBadParam), (en && !s.isMember o && (s.cairn.slots.all fun m => m.used), retBusy)])
    (okReply (s.setMember o p))

/-- The configuration CAIRN_SET_CONFIG carries (R248). -/
def Cairn.configure (c : Cairn) (p : List Byte) : Cairn :=
  { c with learnDpll := (List.range 4).map (fun i => uAt p i 1), learnRankMax := uAt p 4 1, kRej := uAt p 5 1, rejoinS := uAt p 6 2,
           learnMin := uAt p 8 2, saveMin := uAt p 10 2, maxAgeD := uAt p 12 2, timeDomain := uAt p 14 1, learnTauD := uAt p 15 1,
           ztauS := uAt p 16 2, restoreVerifyS := uAt p 18 2 }

/-- Each entry stands once. -/
def noRepeat : List Nat → Bool
  | [] => true
  | x :: xs => !xs.contains x && noRepeat xs

def cairnSetConfigReply (_c : Nat) (p : List Byte) (s : State) : Reply :=
  let l := (List.range 4).map fun i => uAt p i 1
  let named := l.filter (· ≠ 0xFF)
  let td := uAt p 14 1
  guarded s
    [((named.any fun k => decide (k < 64) && !s.hasDpll k) || (decide (td < 128) && !s.hasTd td), retAbsent),
     (named.any fun k => decide (k < 64) && !s.dieUp (dieOfDpll k), retNotReady),
     ((named.any fun k => decide (64 ≤ k) || isMirror s k) || !noRepeat named || decide (254 < uAt p 4 1) || decide (uAt p 5 1 < 16) ||
        decide (uAt p 6 2 < 60) || decide (uAt p 8 2 = 0) || decide (1440 < uAt p 8 2) || decide (1440 < uAt p 10 2) ||
        decide (uAt p 12 2 = 0) || decide (3650 < uAt p 12 2) || decide (128 ≤ td) || decide (uAt p 15 1 = 0) || decide (uAt p 18 2 < 60) ||
        !rsv p 20 4, retBadParam)]
    (okReply { s with cairn := s.cairn.configure p })

/-- The CAIRN_GET_MODEL response (R249). -/
def State.modelBytes (s : State) (o : Nat) : List Byte :=
  let m := s.model o
  let q := m.m
  let sl := s.cairn.slots.find? fun x => x.used && decide (x.port = o)
  leBytes 2 o ++ leBytes 1 m.state.code ++ leBytes 1 (match sl with | some x => x.state | none => 0) ++ leBytes 1 m.orderInUse ++ leBytes 1 m.starts ++
    zeros 2 ++ leBytes 8 m.oscId ++ leBytesI 8 q.a0 ++ leBytesI 4 q.a1 ++ leBytesI 4 q.al ++ leBytesI 4 q.c1 ++ leBytesI 4 q.c2 ++ leBytesI 4 q.c3 ++
    leBytesI 2 q.tref ++ leBytesI 2 q.tmin ++ leBytesI 2 q.tmax ++ zeros 2 ++ leBytesI 4 q.w ++ leBytes 4 q.tauR ++ leBytes 4 q.sp ++
    leBytes 4 q.qrw ++ leBytes 4 q.sa ++ leBytes 4 q.st ++ leBytes 4 q.sr ++ leBytes 4 (ratRound (m.ageDays * 65536)).toNat ++ leBytes 4 m.learnS ++
    leBytes 4 m.sinceLearn ++ leBytes 4 (match sl with | some x => (ratRound (x.weight * 65536)).toNat | none => 0)

def cairnGetModelReply (_c : Nat) (p : List Byte) (s : State) : Reply :=
  let o := uAt p 0 2
  guarded s (portChecks s o ++ [(decide (16 ≤ o) || !rsv p 2 2, retBadParam)]) (okWith (s.modelBytes o) s)

/-- CAIRN_SAVE: the QUALIFIED models of the named ports; acknowledged when they are written (R250). -/
def cairnSaveReply (c : Nat) (p : List Byte) (s : State) : Reply :=
  let m := uAt p 0 2
  let os := (List.range 16).filter fun o => m.testBit o
  let q := os.filter fun o => decide ((s.model o).state = .qualified)
  match firstErr
    [(os.any fun o => !s.hasOsc o || s.noK o, retAbsent), (os.any fun o => !s.dieUp (dieOfOsc o), retNotReady), (!rsv p 2 2, retBadParam),
     (s.nvSaving, retBusy)] with
  | some r => { ret := r, s := s }
  | none =>
    if q.isEmpty then okReply s
    else { ret := retOK, wait := true, s := s.forEach q fun x o => x.saveModel o (some c) }

def cairnForgetReply (_c : Nat) (p : List Byte) (s : State) : Reply :=
  let o := uAt p 0 2
  guarded s (portChecks s o ++ [(decide (16 ≤ o) || !rsv p 2 2, retBadParam)])
    (okReply (s.forgetModel o (if s.isMember o then .learning else .none)))

/-! ## Events of the models (R225, R237) -/

/-- RESTORE_VERIFY (R224, R225). -/
def State.restoreVerify (s : State) (o : Nat) : State :=
  let m := s.model o
  if m.state = .restored ∧ s.cairn.restoreVerifyS ≤ m.verN then
    if m.verified s.cairn.kRej then s.setModel o { m with state := .qualified }
    else
      let s1 := (s.forgetModel o .learning).modModel o fun m => { m with failCnt := m.failCnt + 1 }
      { s1 with cairn := { s1.cairn with hist := setb s1.cairn.hist 3 } }
  else s

/-- MODEL_SAVE: a QUALIFIED model is saved every SAVE_MIN minutes while it learns (R237). -/
def State.modelSave (s : State) (o : Nat) : State :=
  if s.hasOsc o && decide ((s.model o).state = .qualified) && s.learns o && decide (s.cairn.saveMin ≠ 0) then s.saveModel o none else s

/-- LEARNING_MEAN: the 64 s mean of a port ends (R222, R224). -/
def State.learningMean (s : State) (o : Nat) : State :=
  let m := s.model o
  if 64 ≤ m.obsSec then
    let r := m.learn s.cairn.learnMin s.cairn.learnTauD s.cairn.secs (s.osc o).sOn s.fresh
    let s1 := s.setModel o r.1
    { s1 with cairn := { s1.cairn with hist := setbIf (setbIf s1.cairn.hist 5 r.2.1) 6 r.2.2 }, fresh := s1.fresh + 1 }
  else s

/-- CAIRN_SECOND: the ports' seconds count, the engine forms Y and tests its members, every model ages, each member port takes its
learning observation, and a new second of the learning DPLLs begins (R216, R221, R226 to R231, R239). In belay the always-on count
does what remains. -/
def State.cairnSecond (s : State) : State :=
  if s.belay.phase = 2 then s
  else
    let s := s.portSeconds 1
    let c := s.cairnStep
    let ms := s.forEach (s.all 2) fun x o => x.setModel o (s.modelSecond o)
    let took := (s.all 2).any fun o => s.learns o
    let l := if s.tb.oscLoss then none else s.learnDpll
    let t := ({ ms with cairn := { c with learning := took, learnUse := l.getD 0x7F, secs := c.secs + 1 } } : State).correctAges
    t.forEach (t.all 8) fun x n => x.modDpll n fun u => { u with learnBad := false }

end Sys2Proof.Machine
end

