-- ==== Sys2Proof/Machine/Notify.lean ====
section
/-! DEFINITION. Event notification and the logs (chapter 12, R452 to R459): what a scan of firmware observes, the entries it
queues and logs, and the commands that read them. -/

namespace Sys2Proof.Machine
open Sys2Proof

/-! ## Entries (R452, R457) -/

/-- Severity by class and subtype; class 12 goes by its RESULT (R452). -/
def sevOf (cls sub data : Nat) : Nat :=
  match cls with
  | 1 => 1
  | 2 => if sub = 0 then 1 else 2
  | 3 => if sub = 0 ∨ sub = 3 then 1 else 2
  | 4 => if sub = 0 ∨ sub = 1 ∨ sub = 4 then 1 else 2
  | 5 => if sub = 1 then 1 else 2
  | 6 => if sub = 0 ∨ sub = 3 then 1 else if sub = 5 then 3 else 2
  | 7 => if sub = 0 then 1 else 3
  | 8 => if sub = 0 then 3 else 2
  | 9 => if sub = 0 then 3 else 2
  | 10 => if sub = 1 then 3 else 2
  | 11 => if sub = 1 then 4 else 2
  | 12 => if data = 2 then 1 else 2
  | 13 => if sub = 1 then 1 else 2
  | 14 => if sub ≤ 1 then 3 else 1
  | _ => 1

/-- The die of a happening. -/
def dieOfEvent (cls sub unit : Nat) : Nat :=
  match cls with
  | 1 => dieOfInput unit
  | 2 => dieOfDpll unit
  | 3 => dieOfDpll unit
  | 4 => if sub = 0 then dieOfDpll unit else dieOfOsc unit
  | 5 => if sub ≤ 1 then dieOfOpll unit else dieOfOut unit
  | 6 => dieOfTd unit
  | 8 => dieOfChan unit
  | 10 => dieOfStitch unit
  | 12 => (abortDie (unit / 4096) (unit % 4096)).getD 0
  | 13 => unit / 4
  | 15 => 0
  | _ => unit

/-- The opcode groups whose commands change the units of a class. -/
def groupsOf : Nat → List Nat
  | 1 => [2] | 2 => [4] | 3 => [4, 5] | 4 => [6] | 5 => [7] | 6 => [8] | 7 => [0] | 8 => [3] | 9 => [12] | 10 => [9] | 14 => [1] | _ => []

/-- The OWNER of the session whose command caused a happening, as far as the unit tells; 0 otherwise (R457).
DEDUCED, unsafe: log entry 34. -/
def State.ownerFor (s : State) (e : EventEntry) : Nat :=
  match s.host.cause.find? fun x => (groupsOf e.cls).contains x.1 && decide (x.2.1 = e.unit) with
  | some x => x.2.2
  | none => 0

/-- The RAM log takes an entry (R456). -/
def HostSide.logRam (h : HostSide) (l : LogEntry) : HostSide :=
  { h with ramLog := lastN 512 (h.ramLog ++ [{ l with seq := h.ramSeq }]), ramSeq := (h.ramSeq + 1) % 2 ^ 32 }

/-- The NV log takes an entry (R456). -/
def HostSide.logNv (h : HostSide) (l : LogEntry) : HostSide :=
  { h with nvLog := lastN 32 (h.nvLog ++ [{ l with seq := h.nvSeq }]), nvSeq := (h.nvSeq + 1) % 2 ^ 32 }

/-- A happening: one entry for each subscribed channel, one in the RAM log, and one in the NV log when it is ERROR or
FATAL (R452, R453, R456). -/
def State.happen (s : State) (e : EventEntry) : State :=
  let sev := sevOf e.cls e.sub e.data
  let l : LogEntry := { up := s.host.boot.uptime, sev := sev, die := dieOfEvent e.cls e.sub e.unit, owner := s.ownerFor e, ev := e }
  let s1 := (s.forEach (List.range 8) fun x c => x.modMbx c fun m => m.event e).modHost fun h => h.logRam l
  if 3 ≤ sev then
    let s2 := s1.modHost fun h => h.logNv l
    s2.queueSave 0 7 false (.log s2.host.nvLog s2.host.nvSeq) none .none
  else s1

/-! ## What a scan observes (R453) -/

/-- One observed value: its key, the value now, and the entries a change from an old value makes. -/
structure Obs where
  key : Nat
  val : Nat
  emit : Nat → List EventEntry

/-- The MTS of the boundary of observation; 0 before the timebase is valid (R453). DEDUCED, unsafe: log entry 34. -/
def State.obsMts (s : State) : Nat := if s.tb.started then s.mts else 0

/-- An entry whose happening the part records at `t` (R453). DEDUCED, unsafe: log entry 51. -/
def EventEntry.at (e : EventEntry) (t : Nat) : EventEntry := { e with mts := t, exact := true }

def State.entry (s : State) (cls sub unit data : Nat) : EventEntry :=
  { mts := s.obsMts, cls := cls, sub := sub, unit := unit, data := data }

/-- An entry whenever the value rises from 0 or grows. DEDUCED, unsafe: log entry 34. -/
def State.onRise (s : State) (cls sub unit val data : Nat) : Obs :=
  { key := obsKey cls sub unit, val := val, emit := fun old => if old < val then [s.entry cls sub unit data] else [] }

/-- An entry whenever the value changes. DEDUCED, unsafe: log entry 34. -/
def State.onChange (s : State) (cls sub unit val : Nat) (data : Nat → Nat) : Obs :=
  { key := obsKey cls sub unit, val := val, emit := fun old => [s.entry cls sub unit (data old)] }

/-- One entry for each time the count has grown. DEDUCED, unsafe: log entry 34. -/
def State.onCount (s : State) (cls sub unit val data : Nat) : Obs :=
  { key := obsKey cls sub unit, val := val, emit := fun old => List.replicate (val - old) (s.entry cls sub unit data) }

/-- What a unit has noted since the latest scan; after a reset of its die, all it has noted. DEDUCED, unsafe: log entry 34. -/
def newOf {α : Type} (l : List α) (old : Nat) : List α := if l.length < old then l else l.drop old

/-- One entry for each happening a unit has noted since the latest scan, under the key of subtype `sub`; its unit is `unit` plus what
`at'` takes of its DATA (R453). DEDUCED, unsafe: log entry 34. -/
def State.onNoted (s : State) (cls sub unit : Nat) (l : List Happening) (place : Bool) : Obs :=
  { key := obsKey cls sub unit, val := l.length,
    emit := fun old => (newOf l old).map fun x =>
      let e := if place then s.entry cls x.sub (unit + x.data) 0 else s.entry cls x.sub unit x.data
      match x.mts with | some t => e.at t | none => e }

def State.obsInput (s : State) (n : Nat) : List Obs :=
  let u := s.input n
  let v := match u.state with | .disqualified => 0 | .qualifying => 1 | .qualified => 2
  [{ key := obsKey 1 0 n, val := v,
     emit := fun _ => if v = 0 then [s.entry 1 0 n u.cause] else if v = 2 then [s.entry 1 1 n u.cause] else [] }]

/-- DEDUCED, unsafe: log entry 51. -/
def State.obsDpll (s : State) (n : Nat) : List Obs :=
  let u := s.dpll n
  let q := u.sel
  let st := u.state.code
  [{ key := obsKey 2 0 n, val := st,
     emit := fun old =>
       let e := s.entry 2 0 n (old + 256 * st)
       match u.state with
       | .holdover => [e.at u.lastHoldMts, (s.entry 2 1 n (old + 256 * st)).at u.lastHoldMts]
       | .locked => [e.at u.lastLockMts]
       | _ => [e] },
   s.onRise 2 2 n (b2n u.fbFault) (tget 0 s.host.scan (obsKey 2 0 n) + 256 * st),
   { key := obsKey 3 0 n, val := (match q.log.head? with | some e => e.mts + 1 | none => 0),
     emit := fun old => ((q.log.takeWhile fun e => decide (e.mts + 1 ≠ old)).reverse).map fun e =>
       (s.entry 3 0 n (e.src + 65536 * e.dst)).at e.mts },
   s.onNoted 3 1 n q.happened false,
   { key := obsKey 3 4 n, val := sumN (q.driftIn.map (2 ^ ·)),
     emit := fun old => (q.driftIn.filter fun i => !old.testBit i).map fun i => s.entry 3 4 n (none16 i + 65536 * none16 u.selInput) },
   s.onChange 4 0 n (b2n u.holdValid) fun _ => b2n u.holdValid]

def State.obsPort (s : State) (o : Nat) : List Obs :=
  let m := s.model o
  let sl := s.cairn.slots.find? fun x => x.used && decide (x.port = o)
  let st := match sl with | some x => x.state | none => 0
  let rej := match sl with | some x => b2n x.rejected | none => 0
  let first := match s.cairn.activeSet with | x :: _ => decide (x = o) | [] => false
  [s.onChange 4 1 o st (fun old => old + 256 * st), s.onRise 4 2 o rej 0, s.onRise 4 3 o (b2n (s.cairn.split && first)) 0,
   s.onChange 4 4 o m.state.code (fun old => old + 256 * m.state.code), s.onCount 4 5 o m.failCnt 0, s.onCount 4 6 o m.mismatchCnt 0]

def State.obsSynth (s : State) (d : Nat) : List Obs :=
  (((List.range 4).map (· + 4 * d)).flatMap fun n =>
    let u := s.opll n
    [s.onRise 5 0 n (b2n (decide (u.state = .fault))) u.faultCause, s.onRise 5 1 n (b2n (decide (u.state = .locked))) 0]) ++
  (((List.range 16).map (· + 16 * d)).flatMap fun m =>
    let u := s.out m
    [s.onRise 5 2 m (b2n u.forced) 0, s.onRise 5 3 m (b2n u.onBypass) 0, s.onCount 5 4 m u.alignFails 0])

/-- DEDUCED, unsafe: log entry 51. -/
def State.obsTime (s : State) (t : Nat) : List Obs :=
  let u := s.td t
  [s.onNoted 6 0 t u.happened false, s.onRise 6 1 t (b2n (decide (u.state = .freerun))) 0, s.onRise 6 2 t (b2n u.synLost) 0]

def State.obsTdc (s : State) (n : Nat) : List Obs :=
  let u := s.chan n
  [{ key := obsKey 8 0 n, val := b2n (u.retired 0) + 2 * b2n (u.retired 1),
     emit := fun old => (List.range 2).flatMap fun i => if u.retired i && !old.testBit i then [s.entry 8 0 n i] else [] },
   s.onRise 8 1 n (b2n u.seedRej) u.active]

def State.obsStitch (s : State) (e : Nat) : List Obs :=
  [s.onNoted 10 0 e (s.stitch e).happened false]

/-- Links of die `d`: the unit is 4 * die + port. A link that TB_EN = 0 turned off makes no entry (R585). -/
def State.obsLinks (s : State) (d : Nat) : List Obs :=
  ((List.range 4).flatMap fun l =>
    let p := s.link d l
    let n := 4 * d + l
    [{ key := obsKey 13 0 n, val := p.state.code,
       emit := fun old =>
         if p.state = .down then (if 2 ≤ old then [s.entry 13 0 n 0] else [])
         else if p.state = .resync then [s.entry 13 1 n 0] else [] },
     s.onRise 13 4 n (b2n p.retryWait) 0]) ++
  [s.onNoted 13 2 (4 * d) (s.die d).happened true]

/-- The partition a page belongs to; 0 for the part's own pages (R499). -/
def pagePart (p : Nat) : Nat := if p < 1024 ∨ 3712 ≤ p then 0 else (p - 1024) / 384 + 1

/-- The store, the plan and the parity of die `d`. -/
def State.obsDie (s : State) (d : Nat) : List Obs :=
  let x := s.dx d
  [s.onRise 9 0 d (match x.nv.torn with | some p => p + 1 | none => 0) (pagePart (x.nv.torn.getD 0) + 65536 * x.nv.torn.getD 0)] ++
  (recIds.map fun i => ({ key := obsKey 9 1 (d + 16 * i), val := b2n (decide (x.nv.recState i = .tie)),
                          emit := fun old => if old = 0 then [s.entry 9 1 d (65536 * i)] else [] } : Obs)) ++
  ((List.range 8).map fun p => ({ key := obsKey 9 2 (d + 16 * p), val := b2n (x.nv.isLocked p),
                                  emit := fun old => if old = 0 then [s.entry 9 2 d p] else [] } : Obs)) ++
  [{ key := obsKey 14 0 d, val := x.parFaults.length, emit := fun old => (newOf x.parFaults old).map fun o => s.entry 14 0 d o },
   { key := obsKey 14 3 d, val := x.plan.version,
     emit := fun old => if old < x.plan.version then [(s.entry 14 3 d x.plan.version).at x.plan.evalMts] else [] }]

/-- What concerns the package as a whole. -/
def State.obsPart (s : State) : List Obs :=
  let b := s.host.boot
  let a := s.host.abort
  ((List.range s.nDies).filter (· ≠ 0)).flatMap (fun d =>
    [{ key := obsKey 7 0 d, val := b2n (s.dieUp d), emit := fun _ => [s.entry 7 (if s.dieUp d then 0 else 1) d 0] },
     s.onRise 7 2 d (b2n (b.folSafe.testBit d)) 0, s.onRise 7 3 d (b2n (b.folNoimg.testBit d)) 0]) ++
  [s.onRise 11 0 0 (b2n b.untested) 0, s.onRise 11 2 0 (b2n b.profileErr) 0, s.onRise 11 3 0 (b2n b.fallback) 0,
   { key := obsKey 12 0 0, val := if a.result = 1 then 0 else a.total * 16 + a.result,
     emit := fun _ => if a.result ≤ 1 then [] else [s.entry 12 0 a.func a.result] },
   { key := obsKey 14 1 0, val := b2n s.tb.oscLoss, emit := fun _ => [s.entry 14 (if s.tb.oscLoss then 1 else 2) 0 0] },
   s.onRise 14 4 0 (b2n s.tb.restart) 0]

/-- A follower's heartbeat that stands: the scans it has stood, and the entry at the tenth (R452 class 11). -/
def State.heartStands (s : State) (d : Nat) : List Obs :=
  let hbt := (s.dx d).heartbeat
  let seen := tget 0 s.host.scan (obsKey 11 8 d)
  let n := if seen = hbt + 1 then tget 0 s.host.scan (obsKey 11 1 d) + 1 else 0
  [{ key := obsKey 11 1 d, val := min n 11, emit := fun _ => if n = 10 then [s.entry 11 1 d 0] else [] },
   { key := obsKey 11 8 d, val := hbt + 1, emit := fun _ => [] }]

/-- All that a scan observes, in ascending class; a die that is not up is not read. DEDUCED, unsafe: log entry 34. -/
def State.observed (s : State) : List Obs :=
  let ds := (List.range s.nDies).filter fun d => decide (d = 0) || s.dieUp d
  let at_ := fun (per : Nat) => ds.flatMap fun d => (List.range per).map (· + per * d)
  (ds.flatMap fun d => (List.range 40).flatMap fun j => s.obsInput (inputAt d j)) ++ (at_ 8).flatMap s.obsDpll ++ (at_ 2).flatMap s.obsPort ++
    ds.flatMap s.obsSynth ++ (at_ 16).flatMap s.obsTime ++ (at_ 48).flatMap s.obsTdc ++ (at_ 28).flatMap s.obsStitch ++ ds.flatMap s.obsDie ++
    s.obsPart ++ ds.flatMap s.obsLinks ++ (ds.filter (· ≠ 0)).flatMap s.heartStands

/-- Entry `a` comes before entry `b`: ascending class, then MTS, then UNIT (R461). -/
def EventEntry.le (a b : EventEntry) : Bool :=
  if a.cls ≠ b.cls then decide (a.cls < b.cls) else if a.mts ≠ b.mts then decide (a.mts < b.mts) else decide (a.unit ≤ b.unit)

def insEntry (e : EventEntry) : List EventEntry → List EventEntry
  | [] => [e]
  | x :: xs => if x.le e then x :: insEntry e xs else e :: x :: xs

/-- One scan: every observed value that has changed makes its entries, in order (R453, R461). DEDUCED, unsafe: log entry 34. -/
def State.scanEvents (s : State) : State :=
  let r := s.observed.foldl (fun (a : Tbl Nat × List EventEntry) o =>
    let old := tget 0 s.host.scan o.key
    if old = o.val then a else (tset 0 a.1 o.key o.val, a.2 ++ o.emit old)) (s.host.scan, [])
  let es := r.2.foldl (fun l e => insEntry e l) []
  let s1 := es.foldl State.happen (s.modHost fun h => { h with scan := r.1 })
  s1.modHost fun h => { h with cause := [] }

/-! ## Commands (R454, R455, R458, R459) -/

/-- EVENT_SUBSCRIBE: the new mask applies once the response is written (R454). -/
def eventSubscribeReply (c : Nat) (p : List Byte) (s : State) : Reply :=
  let m := uAt p 0 2
  let f := uAt p 2 1
  guarded s [(m.testBit 0 || m.testBit 15 || decide (1 < f) || !rsv p 3 1, retBadParam)]
    (okWith (leBytes 2 (m + 32768) ++ zeros 2)
      (s.modMbx c fun x =>
        let y := { x with maskDue := some m }
        if f = 1 then { y with queue := [], lost := 0 } else y))

def eventReadReply (c : Nat) (p : List Byte) (s : State) : Reply :=
  let n := uAt p 0 1
  let q := (s.mbx c).queue
  guarded s [(decide (n = 0) || decide (15 < n) || !rsv p 1 3, retBadParam)]
    (okWith (leBytes 1 (q.take n).length ++ leBytes 1 (q.drop n).length ++ leBytes 2 (s.mbx c).lost ++ zeros 4 ++
        (q.take n).flatMap EventEntry.bytes)
      (s.modMbx c fun x => { x with queue := q.drop n, lost := 0 }))

/-- Entries examined from a list: those taken, and how many were looked at, up to `n` taken (R458). -/
def logWalk (sev : Nat) : Nat → List LogEntry → List LogEntry × Nat
  | 0, _ => ([], 0)
  | _, [] => ([], 0)
  | n + 1, l :: ls =>
    if l.sev < sev then let r := logWalk sev (n + 1) ls; (r.1, r.2 + 1)
    else let r := logWalk sev n ls; (l :: r.1, r.2 + 1)

/-- `a - b` of sequence numbers, modulo 2^32. -/
def seqDiff (a b : Nat) : Nat := (a + 2 ^ 32 - b % 2 ^ 32) % 2 ^ 32

def logGetReply (_c : Nat) (p : List Byte) (s : State) : Reply :=
  let src := uAt p 0 1
  let sev := uAt p 1 1
  let cnt := uAt p 2 1
  let from' := uAt p 4 4
  let log := if src = 0 then s.host.ramLog else s.host.nvLog
  let out := fun (gap : Bool) (l : List LogEntry) (next : Nat) =>
    leBytes 1 l.length ++ leBytes 1 src ++ leBytes 1 (b2n gap) ++ zeros 1 ++ leBytes 4 next ++ l.flatMap LogEntry.bytes
  let answer := match log with
    | [] => out false [] from'
    | o :: _ =>
      let gap := decide (2 ^ 31 ≤ seqDiff from' o.seq)
      let l := if gap then log else log.drop (seqDiff from' o.seq)
      let r := logWalk sev cnt l
      out gap r.1 (match l with | x :: _ => (x.seq + r.2) % 2 ^ 32 | [] => from')
  guarded s [(decide (1 < src) || decide (4 < sev) || decide (cnt = 0) || decide (7 < cnt) || !rsv p 3 1, retBadParam)] (okWith answer s)

def logClearReply (c : Nat) (p : List Byte) (s : State) : Reply :=
  let m := uAt p 0 1
  match firstErr [(notSec c, retDenied), (decide (m = 0) || decide (3 < m) || !rsv p 1 3, retBadParam)] with
  | some r => { ret := r, s := s }
  | none =>
    if m = 1 then okReply (s.modHost fun h => { h with ramLog := [] })
    else { ret := retOK, wait := true,
           s := s.queueSave 0 7 false (.log [] s.host.nvSeq) (some c) (.clearLog (m.testBit 0) s.host.nvSeq) }

end Sys2Proof.Machine
end

