-- ==== Sys2Proof/Machine/Housekeeping.lean ====
section
/-! DEFINITION. The housekeeping commands of chapter 12 (R442 to R451), INPUT_GET_STATUS, and the end of a waiting
STITCH_COMMIT. -/

namespace Sys2Proof.Machine
open Sys2Proof

/-! ## NOP, GET_CAPS, GET_VERSION, RESET, GET_ABORT_STATUS (R442 to R446) -/

def nopReply (_c : Nat) (p : List Byte) (s : State) : Reply := okWith p s

/-- The capability descriptor (R443). -/
def State.capsBytes (s : State) : List Byte :=
  let n := s.nDies
  let p := s.part
  let o := (s.dx 0).otp
  leBytes 4 p.caps0.toNat ++ leBytes 4 s.caps1.toNat ++ leBytes 1 s.host.boot.major ++ leBytes 1 s.host.boot.minor ++ leBytes 1 (s.dx 0).mode ++ zeros 1 ++
    leBytes 2 (24 * n) ++ leBytes 2 (16 * n) ++ leBytes 1 (8 * n) ++ leBytes 1 (4 * n) ++ leBytes 1 (16 * n) ++ leBytes 1 (16 * n) ++
    leBytes 1 (if p.featE then 16 * n else 0) ++ leBytes 1 (2 * n) ++ leBytes 1 (if p.featK then 4 else 1) ++ leBytes 1 8 ++
    leBytes 1 (if p.featX then 16 else 0) ++ leBytes 1 (28 * n) ++ leBytes 2 ((if p.featE then 48 else 32) * n) ++ leBytes 1 64 ++ zeros 3 ++
    ((List.range 8).flatMap fun d => leBytes 1 (if d = 0 ∨ s.dieUp d then (s.dx d).mode else 0xFF)) ++ leBytes 8 s.fused.partId ++
    leBytes 1 (o.keys % 16 + 16 * (o.revoked % 16)) ++ leBytes 1 (b2n o.portKey) ++ leBytes 1 o.rollback ++ zeros 13

def getCapsReply (_c : Nat) (_p : List Byte) (s : State) : Reply := okWith s.capsBytes s

/-- The boot record in force; without a valid one both slots are UNKNOWN and A is preferred (R388). -/
def State.bootRec (s : State) : BootRec := match (s.dx 0).nv.record 6 with | .boot b => b | _ => {}

/-- A field of an image that has not been accepted reads 0 (R444). -/
def manField (m : Option Manifest) (f : Manifest → Nat) : Nat := match m with | some x => f x | none => 0

/-- Followers that run the unit image. -/
def State.folRun (s : State) : Nat :=
  sumN ((List.range 8).map fun d => if d ≠ 0 ∧ s.dieUp d ∧ (s.dx d).mode = 2 then 2 ^ d else 0)

def State.versionBytes (s : State) : List Byte :=
  let b := s.host.boot
  let r := s.bootRec
  let left := if b.trial then (if b.slot = 0 then r.cntA else r.cntB) else 0
  leBytes 4 (manField b.lead (·.fw)) ++ leBytes 4 (manField b.unit (·.fw)) ++ leBytes 4 Config.romVersion.toNat ++ leBytes 4 (manField b.lead (·.svn)) ++
    leBytes 4 (manField b.unit (·.svn)) ++ leBytes 1 b.major ++ leBytes 1 (manField b.lead (·.minor)) ++ leBytes 1 (manField b.unit (·.minor)) ++
    leBytes 1 b.minor ++ leBytes 1 (if b.srcHost || b.safe || b.download then 0xFF else b.slot) ++ leBytes 1 r.stA ++ leBytes 1 r.stB ++ leBytes 1 left ++
    leBytes 4 (b2n b.untested + 2 * b2n b.safe + 4 * b2n b.srcHost + 8 * b2n b.profile + 16 * b2n b.profileErr) ++
    leBytes 1 (s.dx 0).otp.rollback ++ zeros 3 ++ leBytes 1 s.folRun ++ leBytes 1 b.folSafe ++ leBytes 1 b.folNoimg ++ zeros 1 ++
    leBytes 8 (manField b.lead (·.hash))

def getVersionReply (_c : Nat) (_p : List Byte) (s : State) : Reply := okWith s.versionBytes s

/-- Inserts a reset in the order in which they are due. -/
def insReset (x : Nat × Nat × Nat × Nat) : List (Nat × Nat × Nat × Nat) → List (Nat × Nat × Nat × Nat)
  | [] => [x]
  | y :: ys => if x.2.1 < y.2.1 then x :: y :: ys else y :: insReset x ys

/-- RESET: the reset begins later, beside those asked for before (R445). DEDUCED, unsafe: log entry 15. -/
def resetReply (c : Nat) (p : List Byte) (s : State) : Reply :=
  let sc := uAt p 0 1
  let d := uAt p 1 1
  let ms := uAt p 2 2
  guarded s
    [(decide (sc = 1) && (dieAbsent s d).1, retAbsent), (notSec c, retDenied),
     (decide (sc = 1) && decide (d < 8) && !s.dieUp d && !(s.dx d).bootedOnce, retNotReady),
     (decide (1 < sc) || (decide (sc = 0) && decide (d ≠ 0)) || (decide (sc = 1) && (decide (d = 0) || decide (8 ≤ d))) || decide (ms = 0) ||
        decide (1000 < ms), retBadParam)]
    (okReply (s.modHost fun h => { h with resetReq := insReset (d, h.boot.uptime + ms, c, s.ownerOf c) h.resetReq }))

def AbortLog.bytes (a : AbortLog) : List Byte :=
  leBytes 8 a.mts ++ leBytes 1 a.cls ++ leBytes 1 a.result ++ leBytes 2 a.idx ++ leBytes 1 a.path ++ zeros 3 ++ leBytes 4 a.cleanUs ++ leBytes 4 a.totalUs

def getAbortStatusReply (_c : Nat) (p : List Byte) (s : State) : Reply :=
  let a := s.host.abort
  let l := if s.host.boot.rom then [] else a.log
  guarded s [(!rsv p 0 4, retBadParam)]
    (okWith (leBytes 1 a.result ++ leBytes 1 l.length ++ leBytes 2 a.func ++ leBytes 4 a.total ++ l.flatMap AbortLog.bytes) s)

/-! ## Sessions (R447 to R451) -/

/-- The host port of the message in execution (R426). -/
def State.portOf (s : State) (c : Nat) : Nat := match (s.mbx c).msg with | some m => m.port | none => 0

/-- A nonce from the on-die random source: 32 bytes, free (R432). DESIGN CHOICE, safe: log entry 6. -/
def State.drawNonce (s : State) : List Byte × State :=
  let a := s.draw
  let b := a.2.draw
  let c := b.2.draw
  let d := c.2.draw
  (leBytes 8 a.1.toNat ++ leBytes 8 b.1.toNat ++ leBytes 8 c.1.toNat ++ leBytes 8 d.1.toNat, d.2)

/-- SESSION_OPEN (R447). DEDUCED, unsafe: log entry 15. -/
def sessionOpenReply (c : Nat) (p : List Byte) (s : State) : Reply :=
  let fl := uAt p 0 1
  let auth := fl.testBit 0
  let take := fl.testBit 1
  let first := uAt p 2 2
  let port := s.portOf c
  let s1 := s.endSession c
  let nn := if auth then s1.drawNonce else (zeros 32, s1)
  let id := (s.host.sessions + 1) % 2 ^ 32
  let q : Session := { port := port, owner := uAt p 4 4, id := id, nextSeq := first, nonce := if auth then some nn.1 else none }
  let s2 := (nn.2.modMbx c fun m => { m with sess := some q }).modHost fun h => { h with sessions := id }
  guarded s
    [(decide (4 ≤ fl) || !rsv p 1 1 || decide (first = 0xFFFF) || (auth && decide (port = 0)), retBadParam),
     ((s.mbx c).sess.isSome && !take, retBusy)]
    (okWith (leBytes 1 c ++ leBytes 1 port ++ leBytes 1 (b2n (s.dx 0).otp.portKey) ++ zeros 1 ++ leBytes 4 id ++ nn.1) s2)

/-- The MAC that passes SESSION_AUTH (R432); a key programmed in part is unusable (R450). DESIGN CHOICE, safe: log entry 33. -/
def Otp.macOk (o : Otp) (nonce : List Byte) (c port id : Nat) (mac : List Byte) : Bool :=
  if o.portPart then false
  else if o.portKey then
    decide (beVal mac = hmacSha256 o.key (nonce ++ leBytes 1 c ++ leBytes 1 port ++ leBytes 4 id))
  else decide (mac = zeros 32)

def State.modPort (s : State) (i : Nat) (f : Port → Port) : State :=
  s.modHost fun h => { h with ports := h.ports.set i (f (h.ports.getD i {})) }
def State.port (s : State) (i : Nat) : Port := s.host.ports.getD i {}

/-- SESSION_AUTH: a failed check spends its nonce and counts toward the lock of the port (R433, R448). -/
def sessionAuthReply (c : Nat) (p : List Byte) (s : State) : Reply :=
  let port := s.portOf c
  let mac := (p.drop 4).take 32
  match (s.mbx c).sess with
  | none => { ret := retBadParam, s := s }
  | some q =>
    match firstErr [((s.port port).authLocked, retDenied), (decide (uAt p 0 4 ≠ q.id) || q.nonce.isNone, retBadParam)] with
    | some r => { ret := r, s := s }
    | none =>
      if (s.dx 0).otp.macOk (q.nonce.getD []) c q.port q.id mac then
        okReply ((s.modMbx c fun m => { m with sess := some { q with nonce := none, authed := true } }).modPort port fun t =>
          { t with authFails := 0 }).refreshAuth
      else
        let n := (s.port port).authFails + 1
        { ret := retAuth,
          s := (s.modMbx c fun m => { m with sess := some { q with nonce := none } }).modPort port fun t =>
            { t with authFails := n, authLocked := t.authLocked || decide (3 ≤ n) } }

def sessionCloseReply (c : Nat) (p : List Byte) (s : State) : Reply :=
  guarded s [(!rsv p 0 4, retBadParam)] (okReply (s.endSession c))

/-- PORT_KEY_PROGRAM: whether the OTP write passes its read-back is free (R450).
DESIGN CHOICE, safe: log entry 6. DESIGN CHOICE, safe: log entry 33. -/
def portKeyProgramReply (c : Nat) (p : List Byte) (s : State) : Reply :=
  let key := (p.drop 4).take 32
  let confirming := (s.dx 0).nv.queue.any fun j => decide (j.fin = .confirm)
  match firstErr
    [(notSec c || (s.dx 0).otp.portKey, retDenied), (decide (uAt p 0 4 ≠ 0x4B590001) || decide (key = zeros 32), retBadParam), (confirming, retBusy)] with
  | some r => { ret := r, s := s }
  | none =>
    let r := s.draw
    if r.1.getLsbD 0 then { ret := retNv, s := r.2.modDx 0 fun x => { x with otp := { x.otp with portKey := true, portPart := true } } }
    else okReply (r.2.modDx 0 fun x => { x with otp := { x.otp with portKey := true, key := key } })

/-- CHANNEL_POLICY: the policy applies to messages copied after the response is written (R451). -/
def channelPolicyReply (c : Nat) (p : List Byte) (s : State) : Reply :=
  let m := uAt p 0 1
  guarded s [(notSec c, retDenied), (decide (16 ≤ m) || !rsv p 1 3, retBadParam)] (okReply (s.modMbx c fun x => { x with roDue := some m }))

/-! ## INPUT_GET_STATUS (R97) -/

def inputGetStatusReply (_c : Nat) (p : List Byte) (s : State) : Reply :=
  let n := uAt p 0 2
  guarded s (inputChecks s n ++ [(!rsv p 2 2, retBadParam)]) (okWith (inputStatusBytes s n (s.measValid n)) s)

/-! ## A STITCH_COMMIT or STITCH_DEFAULT that waits (R375) -/

/-- The install of a waiting command is made, and the command acknowledged (R375, R381). -/
def State.commitTake (s : State) (e : Nat) (w : CommitWait) : State :=
  match (s.mbx w.chan).msg with
  | some m =>
    if m.held then
      (s.modStitch e fun u => u.install w.prog w.entries w.tag w.dflt).finish w.chan retOK (if w.dflt then [] else leBytes 2 e ++ leBytes 2 0xFFFF)
    else s
  | none => s

/-- The engine is idle again: firmware of its die makes the installs that wait for it, in the order of their commands; a HALTED CP makes none
(R375, R385). DEDUCED, unsafe: log entry 50. -/
def State.commitPoll (s : State) (e : Nat) : State :=
  let u := s.stitch e
  if u.busy || (u.engaged && u.commitBy.any (·.first)) || decide ((s.dx (dieOfStitch e)).mode = 3) then s
  else u.commitBy.foldl (fun t w => t.commitTake e w) (s.modStitch e fun v => { v with commitBy := [] })

/-- A waiting command at one engine as a window of 1 ms ends: its second one ends the wait (R375). -/
def State.commitAgeAt (s : State) (e : Nat) (w : CommitWait) : State :=
  let gone := fun (t : State) => t.modStitch e fun u => { u with commitBy := u.commitBy.filter fun x => decide (x.chan ≠ w.chan) }
  match (s.mbx w.chan).msg with
  | some m =>
    if m.code = 0 then s.modMbx w.chan fun y => { y with msg := some { m with code := 1 } }
    else (gone s).finish w.chan retBusy []
  | none => gone s

/-- The same for all that wait at one engine. -/
def State.commitAgeOf (x : State) (e : Nat) : State :=
  let t := x.commitPoll e
  (t.stitch e).commitBy.foldl (fun y w => y.commitAgeAt e w) t

/-- A window of 1 ms has passed for the commands that wait on engines of die `d`: the second one ends the wait (R375). -/
def State.commitAge (s : State) (d : Nat) : State := if (s.dx d).mode = 3 then s else s.forEach ((List.range 28).map (· + 28 * d)) State.commitAgeOf

end Sys2Proof.Machine
end

