-- ==== Sys2Proof/Machine/HostPort.lean ====
section
/-! DEFINITION. The host ports (chapter 13): the MSI-X messages, the semaphores, the secure ranges, the aliases, the
indirect window, the slow and the remote registers, and the write queues of the ports. -/

namespace Sys2Proof.Machine
open Sys2Proof

/-! ## MSI-X messages (R482) -/

/-- The vectors, as bits, whose OR of routed, asserted sources is 1. -/
def State.vecOrs (s : State) : Nat :=
  (List.range 128).foldl (fun a n => if !bit (s.routeOf n) 5 && s.asserted n then a ||| 2 ^ fld (s.routeOf n) 0 5 else a) 0

/-- A message of vector `v`: pending while the vector or the function is masked, else sent when the link carries it.
PRESUMED, unsafe: log entry 18. -/
def HostSide.sendVec (h : HostSide) (v : Nat) : HostSide :=
  if h.funcMask || h.vecMask.testBit v then { h with pba := h.pba ||| 2 ^ v }
  else if h.linkUp && h.bme then { h with msgs := h.msgs + 1, vecAck := setb h.vecAck v }
  else h

/-- Messages of the vectors in `vs`, as bits. PRESUMED, unsafe: log entry 18. -/
def HostSide.sendVecs (h : HostSide) (vs : Nat) : HostSide :=
  (List.range 32).foldl (fun a v => if vs.testBit v then a.sendVec v else a) h

/-- Pending messages whose masks have opened go out. PRESUMED, unsafe: log entry 18. -/
def HostSide.unmask (h : HostSide) : HostSide :=
  (List.range 32).foldl (fun a v =>
    if a.pba.testBit v && !a.funcMask && !a.vecMask.testBit v then ({ a with pba := a.pba - 2 ^ v } : HostSide).sendVec v else a) h

/-- An OPLL_ALIGN whose measurement has ended is acknowledged, unless the CP of its die is HALTED (R288, R385).
DEDUCED, unsafe: log entry 39. -/
def State.alignAck (s : State) (c : Nat) : State :=
  match (s.mbx c).msg with
  | some m =>
    if m.op = 0x0703 ∧ m.held ∧ s.leadLive ∧ (s.dx (dieOfOpll (uAt m.payload 0 2))).mode ≠ 3 ∧ (s.all 4).all (fun o => match (s.opll o).align with
        | some r => !r.chans.contains c
        | none => true) then s.finish c retOK []
    else s
  | none => s

/-! ## Sleep and wake of the fabric units (R50, R51, R529)

Unit 0 is the CP of the die, 1 the DMA engine, 2 the NV controller, 3 the shuttle's register transport, 4 the calibration
engine, 16 + j the stitch engine j. -/

/-- Unit `u` of die `d` has no work and no wake event waits for it. DESIGN CHOICE, safe: log entry 43. -/
def State.unitIdle (s : State) (d u : Nat) : Bool :=
  if u = 0 then (s.dx d).fwdQ.isEmpty && !(s.dx d).fwdRun.any s.notBegun && (decide (d ≠ 0) || (List.range 8).all fun c =>
    (s.mbx c).msg.isNone && !((s.mbx c).h2cFull && bit (s.mbx c).h2cDb 0 && !bit (s.mbx c).h2cMask 0))
  else if u = 1 then decide (d ≠ 0) || ((s.dies.all fun x => x.2.intake.isEmpty) && s.host.rings.all fun x => x.2.q.isEmpty)
  else if u = 2 then (s.dx d).nv.queue.isEmpty
  else if u = 3 then (s.die d).inbound.isEmpty && (s.die d).waiting.isEmpty && (s.die d).links.all fun p => p.lane.isEmpty && p.replay.isEmpty
  else if u = 4 then !s.running
  else decide (16 ≤ u) && decide (u < 44) && !(s.stitch (28 * d + (u - 16))).busy && (s.stitch (28 * d + (u - 16))).trig.isEmpty

/-- A unit of die `d` that has work is awake (R51). DESIGN CHOICE, safe: log entry 43. -/
def State.wakeDie (s : State) (d : Nat) : State :=
  if (s.dx d).asleep.all fun u => s.unitIdle d u then s
  else s.modDx d fun x => { x with asleep := x.asleep.filter fun u => s.unitIdle d u }

/-- A timer expiry or a ring threshold wakes unit `u` of die `d` (R51). DESIGN CHOICE, safe: log entry 43. -/
def State.wakeUnit (s : State) (d u : Nat) : State :=
  if (s.dx d).asleep.contains u then s.modDx d fun x => { x with asleep := x.asleep.filter fun v => decide (v ≠ u) } else s

/-- FABRIC_UNIT_SLEEP (R529): 256 fabric cycles without work. DESIGN CHOICE, safe: log entry 43. -/
def State.unitSleep (s : State) (d u : Nat) : State :=
  if s.fitted d && decide (u < 44) && s.unitIdle d u && !(s.dx d).asleep.contains u then
    s.modDx d fun x => { x with asleep := x.asleep ++ [u] }
  else s

/-- After every command the part sends a message for each vector whose OR has risen (R482). DESIGN CHOICE, safe: log entry 43. -/
def State.settle (s : State) : State :=
  if s.part.featX && s.host.msix then
    let now := s.vecOrs
    let old := s.host.vecOr
    s.modHost fun h => { h.sendVecs (now - (now &&& old)) with vecOr := now }
  else s

/-- What follows every command at once: the acknowledges that are due, the fabric units that wake, and the messages its change
raises (R51, R288, R482). DESIGN CHOICE, safe: log entry 49. -/
def State.after (s : State) : State := ((s.forEach (List.range 8) State.alignAck).forEach (List.range 8) State.wakeDie).settle

/-- The end of a meaning: the next state. DESIGN CHOICE, safe: log entry 49. -/
def fin (s : State) : Host.Outcome State Fault Refusal := .next s.after

/-- IRQ_VEC_ACK written: bits written 1 clear, and a vector whose OR is 1 sends again (R482). -/
def State.writeVecAck (s : State) (w : Word) : State :=
  let again := if s.part.featX && s.host.msix then s.vecOrs &&& w.toNat else 0
  s.modHost fun h => ({ h with vecAck := w1c h.vecAck w 0xFFFFFFFF } : HostSide).sendVecs again

/-- A host write of MSI-X Enable, the function mask and Bus Master Enable (R482). PRESUMED, unsafe: log entry 18. -/
def State.pcieControl (s : State) (bme msix mask : Bool) : State :=
  let now := if msix && !s.host.msix then s.vecOrs else s.host.vecOr
  s.modHost fun h => if msix then ({ h with bme := bme, msix := msix, funcMask := mask, vecOr := now } : HostSide).unmask
    else { h with bme := bme, msix := msix, funcMask := mask, vecOr := now }

/-- A host write at BAR4: a word of the MSI-X table; word 3 of an entry holds its mask bit (R466, R482).
DEDUCED, unsafe: log entry 17. PRESUMED, unsafe: log entry 18. -/
def State.writeBar4 (s : State) (off : Nat) (w : Word) : State :=
  if 512 ≤ off ∨ off % 4 ≠ 0 ∨ !s.part.featX then s
  else if off % 16 = 12 then
    let v := off / 16
    s.modHost fun h =>
      let m := if h.vecMask.testBit v then h.vecMask - 2 ^ v else h.vecMask
      let g : HostSide := { h with vecMask := if bit w 0 then m ||| 2 ^ v else m }
      if h.msix then g.unmask else g
  else s.modHost fun h => { h with msixTab := tset 0 h.msixTab (off / 4) w }

/-- A host read at BAR4: a word of the MSI-X table, or of the pending bits at 0x1000 (R466, R482).
PRESUMED, unsafe: log entry 18. -/
def State.readBar4 (s : State) (off : Nat) : Word :=
  if off % 4 ≠ 0 then 0
  else if off < 512 then (if off % 16 = 12 then putb 0 (s.host.vecMask.testBit (off / 16)) else tget 0 s.host.msixTab (off / 4))
  else if off = 0x1000 then cw s.host.pba
  else 0

/-! ## Paths (R25, R400, R471) -/

/-- The host port of a path: 0 PCIe, 1 SPI, 2 I2C. -/
def portIdx : Path → Option Nat
  | .bar0 => some 0 | .bar2 => some 0 | .spi => some 1 | .i2c => some 2 | .cp _ => none | .stitch => none

/-- The identity of a master at the semaphores (R478); a stitch engine is none. -/
def masterOf : Path → Nat
  | .bar0 => 1 | .bar2 => 1 | .spi => 2 | .i2c => 3 | .cp d => 8 + d | .stitch => 0

/-- PATH of an abort (R446). -/
def pathCode : Path → Nat
  | .bar0 => 0 | .bar2 => 1 | .spi => 2 | .i2c => 3 | .cp _ => 4 | .stitch => 4

/-- An access of this path is secure (R400, R471). -/
def State.secureBy (s : State) : Path → Bool
  | .bar0 => false | .bar2 => true | .spi => s.host.spiAuth | .i2c => s.host.i2cAuth | .cp _ => true | .stitch => true

/-- The part answers this path: PCIe needs the letter X and its link, and the host ports stop in belay (R3, R488, R498).
DEDUCED, unsafe: log entry 17. -/
def State.pathLive (s : State) (p : Path) : Bool :=
  let awake := decide (s.belay.phase ≠ 1) && decide (s.belay.phase ≠ 2)
  match p with
  | .bar0 => awake && s.part.featX && s.host.linkUp
  | .bar2 => awake && s.part.featX && s.host.linkUp
  | .spi => awake
  | .i2c => awake
  | .cp d => s.fitted d
  | .stitch => false

/-- Die 0's secure ranges (R471): mailbox channels 0 to 3, except channel 0 in download mode, and writes of BOOT_OVR and
SEM_HELD. -/
def State.secRange (s : State) (off : Nat) (write : Bool) : Bool :=
  (decide (0x80000 ≤ off) && decide (off < 0x82000) && !(decide (off < 0x80800) && s.host.boot.download)) ||
    (write && (decide (off = 0x318) || decide (off = 0x900) || decide (off = 0x904)))

/-- A non-secure access to a secure range of die 0 (R471). -/
def State.violates (s : State) (p : Path) (d off : Nat) (write : Bool) : Bool :=
  decide (d = 0) && s.secRange off write && !s.secureBy p

/-! ## Semaphores (R478 to R480) -/

def State.setSem (s : State) (n owner : Nat) : State := s.modHost fun h => { h with sem := tset 0 h.sem n owner }

/-- A base-view read of SEM[n]: it acquires a free one and returns the owner before the read (R478). -/
def State.semRead (s : State) (m n : Nat) : State × Word :=
  if s.semOwner n = 0 then (s.setSem n m, 0) else (s, cw (s.semOwner n))

/-- A base-view write of SEM[n]: the owner's 0 releases it, another master's write is a violation (R480); what else the
owner writes is ignored (R492). DEDUCED, unsafe: log entry 52. -/
def State.semWrite (s : State) (m n : Nat) (w : Word) : State :=
  if s.semOwner n = m then (if w = 0 then s.setSem n 0 else s)
  else s.modHost fun h => { h with hpStat := setb h.hpStat 2 }

/-- A secure write of SEM_HELD half `r` releases the semaphores whose bits are 1 (R480). -/
def State.semHeldWrite (s : State) (r : Nat) (w : Word) : State :=
  s.forEach (List.range 32) fun x i => if bit w i then x.setSem (32 * r + i) 0 else x

/-! ## Writes at the register (R19, R464, R477) -/

/-- A write in the base view at offset `off` of die `d`, by path `p`. DESIGN CHOICE, safe: log entry 16. -/
def State.writeBase (s : State) (p : Path) (d off : Nat) (w : Word) : State :=
  let port := (portIdx p).getD 0
  let t :=
    if d = 0 ∧ 0x800 ≤ off ∧ off < 0x900 then (if off % 4 = 0 then s.semWrite (masterOf p) ((off - 0x800) / 4) w else s)
    else if d = 0 ∧ off = 0x900 then s.semHeldWrite 0 w
    else if d = 0 ∧ off = 0x904 then s.semHeldWrite 1 w
    else if d = 0 ∧ off = 0x510 then s.writeVecAck w
    else if d = 0 ∧ off = 0x84000 then s.writeAbort (pathCode p) (s.secureBy p) w
    else s.wrReg port d off w (decide (p = .stitch))
  t.fixPar d off

/-- The value an alias write makes of a register: 1 sets, 2 clears, 3 toggles (R464). -/
def aliasVal (view : Nat) (old w : Word) : Word :=
  match view with
  | 1 => old ||| w
  | 2 => old &&& ~~~w
  | _ => old ^^^ w

/-- A write in any view: aliases reach RW bits alone (R464). -/
def State.writeView (s : State) (p : Path) (d view off : Nat) (w : Word) : State :=
  if view = 0 then s.writeBase p d off w
  else
    let m := w &&& rwMask off
    if m = 0 then s else s.writeBase p d off (aliasVal view (s.rdReg d off) m &&& rwMask off)

/-- A write that reaches its register by path `p`, with the check of the secure ranges (R471).
DESIGN CHOICE, safe: log entry 16. -/
def State.land (s : State) (p : Path) (d off : Nat) (w : Word) : State :=
  if !s.pathLive p || !s.fitted d then s
  else if s.violates p d off true then s.modHost fun h => { h with violH := true }
  else s.writeBase p d off w

/-! ## Accesses (R340, R462, R471, R473, R476) -/

def accDie (addr : Nat) : Nat := addr / 2 ^ 22 % 8
def accView (addr : Nat) : Nat := addr / 2 ^ 20 % 4
def accOff (addr : Nat) : Nat := addr % 2 ^ 20

/-- The slow registers of die 0: BOOT_OVR, the NV controller's and belay's (R50, R413, R472, R549). -/
def isSlow (off : Nat) : Bool :=
  decide (off = 0x318) || (decide (0x90000 ≤ off) && decide (off < 0x90024)) || (decide (0x90100 ≤ off) && decide (off < 0x90120))

/-- Data of a read reach port `i`. -/
def State.portRd (s : State) (i : Nat) (v : Word) : State := s.modPort i fun t => { t with rd := v }

/-- A late access ends at die 0 (R341). -/
def State.lateMark (s : State) : State :=
  s.modDie 0 fun u => let n := satInc u.rtLateCnt; { u with rtLateCnt := n, shtHist := satFlag (setb u.shtHist 5) 7 n }

/-- A write starts on its way to die `d`, behind those that have not arrived there (R336, R341). -/
def State.sendWrite (s : State) (d addr : Nat) (w : Word) : State :=
  (s.modDie d fun u => { u with inbound := u.inbound ++ [.write addr w] }).post 0 (.write addr w)

/-- The key of a queued slow write: its offset, with the view above it. -/
def slowKey (a : Access) : Nat := a.addr % 2 ^ 22

/-- A fast register of die 0 is read or written (R471, R478). -/
def State.local (s : State) (i : Nat) (a : Access) : State :=
  let off := accOff a.addr
  let v := accView a.addr
  if a.write then s.writeView a.path 0 v off a.val
  else if v = 0 ∧ 0x800 ≤ off ∧ off < 0x900 ∧ off % 4 = 0 then
    let r := s.semRead (masterOf a.path) ((off - 0x800) / 4)
    r.1.portRd i r.2
  else s.portRd i (s.rdReg 0 off)

/-- The newest value of the slow register at `off`: what the queued writes to it make of its mirror, in order; an alias acts on the bits it
may write (R464, R473). DEDUCED, unsafe: log entry 17. -/
def State.slowVal (s : State) (off : Nat) : Word :=
  (s.host.slowQ.filter fun x => decide (x.1 % 2 ^ 20 = off)).foldl (fun v x =>
    if x.1 / 2 ^ 20 % 4 = 0 then x.2 else aliasVal (x.1 / 2 ^ 20 % 4) v (x.2 &&& rwMask off)) (s.rdReg 0 off)

/-- A slow register (R473): a write waits in the bridge queue, and stalls the port while that is full; a read returns the
newest queued value, else the mirror. -/
def State.slow (s : State) (i : Nat) (a : Access) : State :=
  if a.write then
    if s.host.slowQ.length < 8 then s.modHost fun h => { h with slowQ := h.slowQ ++ [(slowKey a, a.val)] }
    else s.modPort i fun t => { t with busy := some a }
  else s.portRd i (s.slowVal (accOff a.addr))

/-- A register of a follower (R340, R341): its frame starts on its way, and the port stalls until the response; with DIE_UP at 0 the access
ends at once as a late one. -/
def State.remote (s : State) (i : Nat) (a : Access) : State :=
  let d := accDie a.addr
  let s1 := if a.write then s.sendWrite d a.addr a.val else s
  if s.dieUp d then (if a.write then s1 else s1.post 0 (.read a.addr)).modPort i fun t => { t with busy := some a }
  else (if a.write then s1 else s1.portRd i 0xFFFFFFFF).lateMark

/-- Offset `off` of a die window belongs to units that the feature letter E would add: the event TDC channels and the event channels
(R3, R11). The rings of letter X stand on die 0 (R493). -/
def State.letterAbsent (s : State) (off : Nat) : Bool :=
  !s.part.featE && ((decide (0x20400 ≤ off) && decide (off < 0x20600)) || (decide (0x61000 ≤ off) && decide (off < 0x61200)))

/-- An access of port `i` goes to its register (R11, R462, R471): the range of an absent unit completes at once. -/
def State.route (s : State) (i : Nat) (a : Access) : State :=
  let d := accDie a.addr
  if !s.fitted d || s.letterAbsent (accOff a.addr) then (if a.write then s else s.portRd i 0)
  else if s.violates a.path d (accOff a.addr) a.write then
    (if a.write then s else s.portRd i 0).modHost fun h => { h with violH := true }
  else if d ≠ 0 then s.remote i a
  else if isSlow (accOff a.addr) then s.slow i a
  else s.local i a

/-- The indirect registers lie in die 0's offsets 0x400 to 0x41F, where IND_ADDR may not point (R476). -/
def indForbidden (addr : Nat) : Bool := decide (accDie addr = 0) && decide (0x400 ≤ accOff addr) && decide (accOff addr < 0x420)

/-- An access of IND_DATA (R476). -/
def State.indData (s : State) (i : Nat) (p : Path) (write : Bool) (w : Word) : State :=
  let a := (s.port i).indAddr
  let s1 :=
    if indForbidden a then
      (if write then s else s.portRd i 0).modHost fun h => { h with hpStat := setb h.hpStat 1 }
    else s.route i { path := p, addr := a, write := write, val := w }
  s1.modPort i fun t => { t with indAddr := if t.indInc then (t.indAddr + 4) % 2 ^ 25 else t.indAddr }

/-- The banked registers of the indirect window: 0x400, 0x404, 0x408 (R476, R490). -/
def isInd (addr : Nat) : Bool :=
  decide (accDie addr = 0) && (decide (accOff addr = 0x400) || decide (accOff addr = 0x404) || decide (accOff addr = 0x408))

/-- What an indirect register reads, without a side effect (R465). -/
def State.indPeek (s : State) (i off : Nat) : Word :=
  let t := s.port i
  match off with
  | 0x400 => cw t.indAddr
  | 0x408 => putb 0 t.indInc
  | _ => if indForbidden t.indAddr then 0 else s.rdReg (accDie t.indAddr) (accOff t.indAddr)

/-- An access of an indirect register of port `i`. DEDUCED, unsafe: log entry 17. -/
def State.indAccess (s : State) (i : Nat) (a : Access) : State :=
  let off := accOff a.addr
  let v := accView a.addr
  let old := s.indPeek i off
  let w := if v = 0 then a.val else aliasVal v old (a.val &&& rwMask off)
  if !a.write then (if v = 0 ∧ off = 0x404 then s.indData i a.path false 0 else s.portRd i old)
  else match off with
  | 0x400 => s.modPort i fun t => { t with indAddr := (w &&& 0x01FFFFFC).toNat }
  | 0x408 => s.modPort i fun t => { t with indInc := bit w 0 }
  | _ => if v ≠ 0 ∧ a.val = 0 then s else s.indData i a.path true w

/-- An access starts at a free port. -/
def State.startAccess (s : State) (i : Nat) (a : Access) : State := if isInd a.addr then s.indAccess i a else s.route i a

/-- Accesses that wait behind the port's stall go on until one stalls it again (R467, R469). -/
def State.drainPort (s : State) (i : Nat) : Nat → State
  | 0 => s
  | n + 1 =>
    let t := s.port i
    match t.busy, t.queue with
    | none, a :: q => ((s.modPort i fun x => { x with queue := q }).startAccess i a).drainPort i n
    | _, _ => s

/-- The stall of port `i` ends. -/
def State.freePort (s : State) (i : Nat) : State :=
  (s.modPort i fun t => { t with busy := none }).drainPort i (s.port i).queue.length

/-- Places in the write queue of a port: PCIe 32, SPI 16; I2C stretches the clock and has none (R467, R469, R470). -/
def portDepth (i : Nat) : Nat := match i with | 0 => 32 | 1 => 16 | _ => 0

/-- Writes that wait at a port. -/
def Port.writes (t : Port) : Nat := (t.queue.filter fun a => a.write).length

/-- A host access reaches its port (R467 to R470). A write over SPI that finds the queue full is dropped; PCIe and I2C
hold the host back. A read waits behind the port's queued writes and takes no place of theirs. -/
def State.enter (s : State) (a : Access) : State :=
  match portIdx a.path with
  | none => s
  | some i =>
    if (s.port i).busy.isNone then s.startAccess i a
    else if (!a.write && decide (0 < portDepth i)) || decide ((s.port i).writes < portDepth i) then s.modPort i fun t => { t with queue := t.queue ++ [a] }
    else if i = 1 ∧ a.write then s.modHost fun h => { h with hpStat := setb h.hpStat 0 }
    else s

/-- The die 0 offset behind a BAR2 offset (R400). DEDUCED, unsafe: log entry 52. -/
def bar2Off (o : Nat) : Option Nat :=
  if o < 0x8000 then some (0x80000 + o) else if o < 0x9000 then some (o - 0x8000) else none

/-- A write or a read over a path at package address `addr`; over BAR2, at BAR2 offset `addr`; over either BAR, an address
from 2^25 is a BAR4 offset plus 2^25 (R400, R462, R466). CPs and engines reach registers without a port; a CP's read of a free
semaphore acquires it (R478). DESIGN CHOICE, safe: log entry 16. -/
def State.access (s : State) (p : Path) (addr : Nat) (write : Bool) (w : Word) : State :=
  if !s.pathLive p then s
  else match p with
  | .cp _ =>
    if 2 ^ 25 ≤ addr then s
    else if write then s.writeView p (accDie addr) (accView addr) (accOff addr) w
    else if accDie addr = 0 ∧ accView addr = 0 ∧ 0x800 ≤ accOff addr ∧ accOff addr < 0x900 ∧ accOff addr % 4 = 0 then
      (s.semRead (masterOf p) ((accOff addr - 0x800) / 4)).1
    else s
  | .stitch => s
  | _ =>
    if 2 ^ 25 ≤ addr then
      (if p ≠ .bar0 ∧ p ≠ .bar2 then s else if write then s.writeBar4 (addr - 2 ^ 25) w else s.portRd 0 (s.readBar4 (addr - 2 ^ 25)))
    else if p = .bar2 then
      match bar2Off addr with
      | some o => s.enter { path := p, addr := o / 4 * 4, write := write, val := w }
      | none => if write then s else s.portRd 0 0
    else s.enter { path := p, addr := addr / 4 * 4, write := write, val := w }

/-! ## Ends of accesses (R340, R341, R473, R474) -/

/-- A write that has reached die `d` does its work. -/
def State.deliver (d : Nat) (s : State) (f : Frame) : State :=
  match f with
  | .write a w => s.writeView (.cp 0) d (accView a) (accOff a) w
  | _ => s

/-- A write bound for die `d`. -/
def isWriteTo (d : Nat) (f : Frame) : Bool := match f with | .write a _ => decide (accDie a = d) | _ => false

/-- Writes on their way to die `d` are applied there, in order. -/
def State.deliverWrites (s : State) (d : Nat) : State :=
  (s.die d).inbound.foldl (State.deliver d) ((s.dropFrames (isWriteTo d)).modDie d fun u => { u with inbound := [] })

/-- The access that stalls port `i` completes at its follower (R340): its frames pass over a route without a link in RESYNC, and were not
lost on the way (R334, R348). -/
def State.remoteDone (s : State) (i : Nat) : State :=
  match (s.port i).busy with
  | none => s
  | some a =>
    let d := accDie a.addr
    if decide (d = 0) || a.lost || !s.routeUp 0 d then s
    else
      let s1 := s.deliverWrites d
      (if a.write then s1 else (s1.dropFrames fun f => decide (f = .read a.addr)).portRd i (s1.rdReg d (accOff a.addr))).freePort i

/-- The access that stalls port `i` ends late (R341, R474): a slow write still goes into the bridge queue. -/
def State.lateEnd (s : State) (i : Nat) : State :=
  match (s.port i).busy with
  | none => s
  | some a =>
    let s1 :=
      if !a.write then s.portRd i 0xFFFFFFFF
      else if accDie a.addr = 0 then s.modHost fun h => { h with slowQ := h.slowQ ++ [(slowKey a, a.val)] }
      else s
    s1.lateMark.freePort i

/-- A stalled slow write takes a free place of the bridge queue (R473). -/
def State.slowAdmit (s : State) (i : Nat) : State :=
  match (s.port i).busy with
  | some a =>
    if accDie a.addr = 0 ∧ a.write ∧ s.host.slowQ.length < 8 then
      (s.modHost fun h => { h with slowQ := h.slowQ ++ [(slowKey a, a.val)] }).freePort i
    else s
  | none => s

/-- The always-on domain applies the oldest queued write (R473). -/
def State.slowDrain (s : State) : State :=
  match s.host.slowQ with
  | [] => s
  | x :: q =>
    let s1 := (s.modHost fun h => { h with slowQ := q }).writeView .bar2 0 (x.1 / 2 ^ 20) (x.1 % 2 ^ 20) x.2
    ((s1.slowAdmit 0).slowAdmit 1).slowAdmit 2

/-- The byte of the SPI status operation (R468). DEDUCED, unsafe: log entry 17. -/
def State.spiStatusOp (s : State) : State :=
  if s.pathLive .spi then
    s.modHost fun h => { h with spiStatus := b2n (decide ((h.ports.getD 1 {}).writes = 0)) + 2 * b2n (bit h.hpStat 0) }
  else s

/-- A frame of class 1 that has reached its destination, die `d`, does its work there (R303, R340). What a read, a forwarded request and a
part of the unit image do is the work of REMOTE_ACCESS_COMPLETE, FORWARDED_REQUEST and UNIT_IMAGE_STREAMED.
DESIGN CHOICE, safe: log entry 32. -/
def State.frameAt (s : State) (d : Nat) (f : Frame) : State :=
  match f with
  | .write a w =>
    if (s.die d).inbound.contains f then (s.modDie d fun u => { u with inbound := dropFirst f u.inbound }).writeView (.cp 0) d (accView a) (accOff a) w
    else s
  | .rate t u => s.modTd t fun v => if v.set.syn then { v with uk := u, ukArrived := true } else v
  | _ => s

/-- A frame that passed its check at die `d`, which received it by port `l` (R339, R340): words and records go by the slot plan and to die 0,
a frame of class 1 does its work at its destination and is relayed elsewhere. A marker's work is TWO_WAY_EXCHANGE's.
DESIGN CHOICE, safe: log entry 32. -/
def State.frameWork (s : State) (d l : Nat) (f : Frame) : State :=
  match f with
  | .word i k => s.wordArrives d l i k
  | .records rs => s.recordsArrive d rs
  | .marker => s
  | _ => if frameDest f = some d then s.frameAt d f else s.post d f

/-! ## Releases on belay and aborts (R407, R480) -/

/-- Every semaphore is free (R480). -/
def State.semFree (s : State) : State := s.modHost fun h => { h with sem := [] }

end Sys2Proof.Machine
end

