-- ==== Sys2Proof/Machine/Dma.lean ====
section
/-! DEFINITION. The DMA rings and the local ring (R484 to R489), the loss of the PCIe link, and the commands of chapter 13. -/

namespace Sys2Proof.Machine
open Sys2Proof

/-! ## Routing (R484) -/

/-- A record is a stitch record (R320, R363). -/
def recIsStitch (r : BitVec 128) : Bool := decide (r.toNat / 2 ^ 126 % 4 = 2)

/-- The event channel or the engine of a record. -/
def recUnit (r : BitVec 128) : Nat := if recIsStitch r then r.toNat / 2 ^ 112 % 256 else r.toNat / 2 ^ 119 % 128

/-- The enabled ring takes the record. -/
def Ring.takes (q : Ring) (r : BitVec 128) : Bool :=
  q.enable && decide (q.source = if recIsStitch r then 2 else 1) && decide (q.lo ≤ recUnit r) && decide (recUnit r ≤ q.hi)

/-- The lowest-numbered enabled ring that takes the record. -/
def State.ringFor (s : State) (r : BitVec 128) : Option Nat :=
  if s.part.featX then (List.range 16).find? fun i => (s.ring i).takes r else none

/-- Unread entries of a ring, modulo 2^32 (R485). -/
def Ring.unread (q : Ring) : Nat := (q.wr + 2 ^ 32 - q.rd % 2 ^ 32) % 2 ^ 32

/-! ## Writing (R485 to R487) -/

/-- A write-back block: WR_PTR, DROP_CNT and the MTS (R487). -/
def Ring.writeBack (q : Ring) (mts : Nat) : Ring :=
  { q with block := BitVec.ofNat 128 (q.wr % 2 ^ 32 + q.drop % 2 ^ 32 * 2 ^ 32 + mts * 2 ^ 64), hist := setb q.hist 0, unreported := 0, lastWb := mts }

/-- `n` records of a ring are dropped; DROP_CNT saturates with the SAT bit `sat` (R486, R488, R493). -/
def Ring.dropN (q : Ring) (n sat : Nat) : Ring :=
  let d := satAdd q.drop n
  { q with drop := d, hist := satFlag q.hist sat d }

/-- A record arrives at a ring: a full ring drops it with OVF_H, else it becomes entry WR_PTR (R485, R486).
DEDUCED, unsafe: log entry 44. -/
def Ring.put (q : Ring) (r : BitVec 128) (ovf sat : Nat) : Ring :=
  if q.entries ≤ q.unread then { q.dropN 1 sat with hist := setb (q.dropN 1 sat).hist ovf }
  else { q with mem := tset 0 q.mem (q.wr % q.entries) r, wr := (q.wr + 1) % 2 ^ 32, written := (q.written + 1) % 2 ^ 64 }

/-- A host ring takes a record and, at WB_THRESH unreported entries, writes a block (R487). DEDUCED, unsafe: log entry 44. -/
def Ring.take (q : Ring) (r : BitVec 128) (mts : Nat) : Ring :=
  let v := q.put r 1 4
  if v.wr = q.wr then v
  else
    let u := { v with unreported := v.unreported + 1 }
    if u.thresh ≤ u.unreported then u.writeBack mts else u

/-- The local ring takes a record with DATA_H (R489). -/
def Ring.takeLocal (q : Ring) (r : BitVec 128) : Ring :=
  let v := q.put r 1 3
  if v.wr = q.wr then v else { v with hist := setb v.hist 0 }

/-- The first number after `last` in the cyclic order of `n` for which `p` holds (R56, R58, R59). -/
def nextIn (n last : Nat) (p : Nat → Bool) : Option Nat := ((List.range n).map fun i => (last + 1 + i) % n).find? p

/-- Die 0 admits the oldest record of the next die in round-robin, passing over dies with nothing queued (R56): it joins the ring
that takes it, or the local ring (R484). DEDUCED, unsafe: log entry 44. -/
def State.admitOne (s : State) : State :=
  match nextIn 8 s.host.rrDie fun d => !(s.die d).intake.isEmpty with
  | none => s
  | some d =>
    match (s.die d).intake with
    | [] => s
    | r :: rs =>
      let s1 := (s.modDie d fun u => { u with intake := rs }).modHost fun h => { h with rrDie := d }
      match s1.ringFor r with
      | some i => s1.modRing i fun q => { q with q := q.q ++ [r] }
      | none => s1.modHost fun h => { h with loc := h.loc.takeLocal r }

/-- Records at the intake of die 0. -/
def State.intakeLen (s : State) : Nat := sumN ((List.range 8).map fun d => (s.die d).intake.length)

/-- Every record at the intake is admitted, record by record in round-robin over the dies (R56).
DEDUCED, unsafe: log entry 44. -/
def State.admitAll (s : State) : State := s.forEach (List.range s.intakeLen) fun t _ => t.admitOne

/-- The ring whose turn it is: the one in service while its turn lasts, else the next one with records (R58, R484). -/
def State.ringTurn (s : State) : Option Nat :=
  let r := s.host.wrrRing
  if 0 < s.host.wrrLeft ∧ !(s.ring r).q.isEmpty then some r else nextIn 16 r fun i => !(s.ring i).q.isEmpty

/-- RING_RECORD_WRITE: what waits at the intake is admitted, and ring `r`, when it is its turn, takes its oldest record, up to WEIGHT
of them in a turn (R56, R58, R484). A record for the engine wakes it (R51). DEDUCED, unsafe: log entry 44. -/
def State.recordWrite (s : State) (r : Nat) : State :=
  let s1 := s.admitAll
  if s1.ringTurn = some r then
    match (s1.ring r).q with
    | [] => s1
    | x :: xs =>
      let left := (if r = s1.host.wrrRing ∧ 0 < s1.host.wrrLeft then s1.host.wrrLeft else (s1.ring r).weight) - 1
      (s1.modRing r fun q => ({ q with q := xs } : Ring).take x s1.mts).modHost fun h => { h with wrrRing := r, wrrLeft := left }
  else s1

/-- WRITEBACK_TIMER_EXPIRE: entries of an enabled ring are not reported yet (R487). The expiry wakes the engine (R51). -/
def State.wbTimer (s : State) (i : Nat) : State :=
  let q := s.ring i
  if q.enable && decide (0 < q.unreported) then (s.wakeUnit 0 1).modRing i fun v => v.writeBack s.mts else s

/-! ## Disabling (R407, R488, R498) -/

/-- Ring `i` is disabled: what waits for it is dropped and counted; a write-back that is due still goes out while the link
carries it (R488, R498). -/
def State.ringOff (s : State) (i : Nat) (abort block : Bool) : State :=
  if !(s.ring i).enable then s
  else
    let s1 := s.admitAll
    let v := (s1.ring i).dropN (s1.ring i).q.length 4
    let w := if block && decide (0 < v.unreported) then v.writeBack s.mts else v
    s1.modRing i fun _ => { w with enable := false, q := [], unreported := 0, hist := setbIf w.hist 3 abort }

/-- Every ring is disabled. -/
def State.ringsOff (s : State) (block : Bool) : State := s.forEach (List.range 16) fun x i => x.ringOff i false block

/-- A ring's configuration at its reset values; pointers, counts and sticky bits stay (R488). -/
def Ring.unconfig (q : Ring) : Ring :=
  { q with size := 0, source := 0, weight := 0, base := 0, wb := 0, lo := 0, hi := 0, thresh := 0, timer := 0 }

/-- The vector of every route returns to its reset value, 0 without NOVEC; the pins stay (R488, R492). -/
def State.routesReset (s : State) : State :=
  s.forEach (List.range 128) fun x n => x.modHost fun h => { h with route := tset 0x100 h.route n (tget 0x100 h.route n &&& 0x300) }

/-- PCIE_LINK_LOSS. `k`: 0 the link is lost, 1 PERSTn, 2 a function-level reset, 3 Bus Master Enable written 0 (R488).
PRESUMED, unsafe: log entry 18. -/
def State.linkLoss (s : State) (k : Nat) : State :=
  if k = 3 then (s.ringsOff true).modHost fun h => { h with bme := false }
  else if k ≤ 2 then
    let s1 := (s.ringsOff false).forEach (List.range 16) fun x i => x.modRing i Ring.unconfig
    let s2 := s1.routesReset
    s2.modHost fun h =>
      { h with linkUp := h.linkUp && decide (k = 2), bme := false, msix := false, funcMask := false, vecMask := 0xFFFFFFFF, pba := 0, vecOr := 0,
               msixTab := [], ports := if k = 2 then h.ports else h.ports.modifyHead fun t => { t with busy := none, queue := [] } }
  else s

/-- PCIE_LINK_UP (R488). -/
def State.linkUpNow (s : State) : State := if s.part.featX then s.modHost fun h => { h with linkUp := true } else s

/-- PCIE_CONFIG_WRITE: Bus Master Enable, MSI-X Enable and the function mask; Bus Master Enable at 0 disables the rings
(R482, R488). PRESUMED, unsafe: log entry 18. -/
def State.pcieConfig (s : State) (bme msix mask : Bool) : State :=
  if s.part.featX && s.host.linkUp then
    (if bme then s else s.ringsOff true).pcieControl bme msix mask
  else s

/-! ## Commands (R494 to R497) -/

/-- DEDUCED, unsafe: log entry 44. -/
def dmaRingConfigReply (c : Nat) (p : List Byte) (s : State) : Reply :=
  let r := uAt p 0 1
  let en := uAt p 1 1
  let sz := uAt p 2 1
  let src := uAt p 3 1
  let wt := uAt p 4 1
  let lo := uAt p 5 1
  let hi := uAt p 6 1
  let base := uAt p 8 8
  let wb := uAt p 16 8
  let th := uAt p 24 2
  let tm := uAt p 26 2
  let top := if src = 1 then 127 else 223
  let n := 2 ^ sz / 16
  let badOn := decide (sz < 12) || decide (24 < sz) || (decide (src ≠ 1) && decide (src ≠ 2)) || decide (wt = 0) || decide (15 < wt) || decide (hi < lo) ||
    decide (top < hi) || decide (base % 4096 ≠ 0) || decide (wb % 16 ≠ 0) || decide (th = 0) || decide (min (n / 2) 65535 < th) || decide (tm = 0)
  let badOff := decide (sz ≠ 0) || decide (src ≠ 0)
  let bad := decide (16 ≤ r) || decide (1 < en) || !rsv p 7 1 || !rsv p 28 4 || (if en = 1 then badOn else badOff)
  let on := fun (q : Ring) =>
    ({ q with enable := true, size := sz, source := src, weight := wt, base := base, wb := wb, lo := lo, hi := hi, thresh := th, timer := tm,
              wr := 0, rd := 0, drop := 0, written := 0, mem := [], q := [] } : Ring).writeBack s.mts
  let s1 := if en = 1 then s.admitAll.modRing r on else s.ringOff r false true
  guarded s
    [(!s.part.featX && decide (r < 16), retAbsent), (notSec c, retDenied), (decide (en = 1) && !(s.host.linkUp && s.host.bme), retNotReady), (bad, retBadParam),
     (decide (en = 1) && (s.ring r).enable, retBusy)]
    (okReply s1)

/-- DEDUCED, unsafe: log entry 51. -/
def dmaGetStatusReply (_c : Nat) (p : List Byte) (s : State) : Reply :=
  let r := uAt p 0 1
  let loc := decide (r = 0xFF)
  let q := if loc then s.host.loc else s.ring r
  guarded s [(!s.part.featX && !loc && decide (r < 16), retAbsent), ((!loc && decide (16 ≤ r)) || !rsv p 1 3, retBadParam)]
    (okWith (leBytes 1 r ++ leBytes 1 (b2n (q.enable || loc) + 2 * b2n s.host.bme + 4 * b2n s.host.linkUp) ++ zeros 2 ++ leBytes 4 q.wr ++ leBytes 4 q.rd ++
      leBytes 4 q.drop ++ leBytes 8 q.written ++ leBytes 8 (if loc then 0 else q.lastWb)) s)

/-- A source that names an absent die or a ring without X (R497). -/
def State.srcAbsent (s : State) (n : Nat) : Bool :=
  (decide (16 ≤ n) && decide (n < 32) && !s.part.featX) || (decide (32 ≤ n) && decide (n < 128) && !s.fitted ((n - 32) / 12))

/-- DEDUCED, unsafe: log entry 44. -/
def irqRouteReply (c : Nat) (p : List Byte) (s : State) : Reply :=
  let n := uAt p 0 2
  let v := uAt p 2 1
  let pins := uAt p 3 1
  let w := put 0 5 (if v = 0xFF then 0 else v) ||| putb 5 (decide (v = 0xFF)) ||| put 8 2 pins
  guarded s
    [(s.srcAbsent n || (!s.part.featX && decide (v ≤ 31)), retAbsent), (notSec c, retDenied),
     (decide (128 ≤ n) || (decide (11 ≤ n) && decide (n < 16)) || (decide (31 < v) && decide (v ≠ 0xFF)) || decide (4 ≤ pins), retBadParam)]
    (okReply (s.modHost fun h => { h with route := tset 0x100 h.route n w }))

end Sys2Proof.Machine
end

