-- ==== Sys2Proof/Machine/Abort.lean ====
section
/-! DEFINITION. The abort unit at work (R405 to R408, R411): the request at its die, firmware's clean-up, the force and the
completion. -/

namespace Sys2Proof.Machine
open Sys2Proof

/-- The class, the index and the die of the abort in progress. -/
def Abort.cls (a : Abort) : Nat := a.func / 4096
def Abort.idx (a : Abort) : Nat := a.func % 4096
def Abort.die (a : Abort) : Nat := (abortDie a.cls a.idx).getD 0

/-- A channel after its session has been aborted: its doorbell masks stay (R407). -/
def Mbx.cleared (m : Mbx) : Mbx := { h2cMask := m.h2cMask, c2hMask := m.c2hMask }

/-- No work of a die answers channel `c` any more. -/
def DieX.dropChan (c : Nat) (y : DieX) : DieX :=
  { y with fwdQ := y.fwdQ.filter (· ≠ c), fwdRun := y.fwdRun.filter (· ≠ c),
           nv := { y.nv with queue := y.nv.queue.map fun j => if j.chan = some c then { j with chan := none } else j } }

/-- The request of channel `c` that is on its way to a follower. -/
def isRequestOf (c : Nat) (f : Frame) : Bool := match f with | .request x _ => decide (x = c) | _ => false

/-- A session is forced: buffers, doorbells, COLLISION, MBX_ACK and the session return to their reset values; the masks
stay. The command that was executing is not acknowledged (R405, R407). -/
def State.abortSession (s : State) (c : Nat) : State :=
  let s1 := s.endSession c
  let s2 := s1.modMbx c Mbx.cleared
  let s3 := (s2.dropFrames (isRequestOf c)).forEach (List.range 8) fun x d => x.modDx d (DieX.dropChan c)
  let s4 := s3.forEach (s3.stitches.map (·.1)) fun x e => x.modStitch e fun u => { u with commitBy := u.commitBy.filter fun w => decide (w.chan ≠ c) }
  let s5 := s4.forEach (s4.oplls.map (·.1)) fun x o => x.modOpll o fun u =>
    { u with align := u.align.map fun a => { a with chans := a.chans.filter fun x => decide (x ≠ c) } }
  s5.modHost fun h => { h with flashOp := h.flashOp.map fun f => if f.2.2.2.2 = c then (f.1, f.2.1, f.2.2.1, f.2.2.2.1, 8) else f }

/-- The package semaphores that the CP of die `d` holds for an aborted function are released. Which of its semaphores those are lies in its
firmware (R407). DESIGN CHOICE, safe: log entry 38. -/
def State.semAbort (s : State) (d : Nat) : State :=
  let r := s.draw
  r.2.forEach (List.range 64) fun x n => if s.semOwner n = 8 + d ∧ r.1.getLsbD n then x.modHost fun h => { h with sem := tset 0 h.sem n 0 } else x

/-- Hardware forces the function to its abort state (R405, R407). -/
def State.abortForce (s : State) (cls idx : Nat) : State :=
  match cls with
  | 1 => s.modDpll idx fun u =>
      let v := u.abort s.tb.k
      { v with sel := { v.sel with pend := none } }
  | 2 => s.modTd idx TdUnit.abort
  | 3 => s.ringOff idx true true
  | 4 =>
    let hook := decide (classOf idx = 0) && (s.stitch idx).busy && decide ((s.stitch idx).point = 0)
    let t := if hook then s.modDpll (8 * dieOfStitch idx + idx % 28) DpllUnit.hookAborted else s
    (t.modStitch idx Stitch.aborted).commitPoll idx
  | _ => s.abortSession idx

/-- Step 2: the request reaches its die (R406). -/
def State.abortArrive (s : State) : State :=
  if s.host.abort.stage = 1 then s.modAbort fun a => { a with stage := 2, clean := false } else s

/-- Step 3: firmware of the function's die reports clean-up complete; a HALTED CP reports nothing (R406, R411). -/
def State.abortClean (s : State) : State :=
  let a := s.host.abort
  if a.stage = 2 ∧ (s.dx a.die).mode = 2 then s.modAbort fun x => { x with stage := 3, clean := true } else s

/-- Step 4: the force, after a clean finish or when the 500 us window has closed (R406). -/
def State.abortForced (s : State) : State :=
  let a := s.host.abort
  if a.stage = 2 ∨ a.stage = 3 then ((s.semAbort a.die).abortForce a.cls a.idx).modAbort fun x => { x with stage := 4 } else s

/-- A free figure in [0, n). DESIGN CHOICE, safe: log entry 6. DESIGN CHOICE, safe: log entry 38. -/
def State.drawBelow (s : State) (n : Nat) : Nat × State := let r := s.draw; (r.1.toNat % n, r.2)

/-- Step 5: the completion reaches die 0, over a die that is up (R406, R411, R446). DESIGN CHOICE, safe: log entry 38. -/
def State.abortComplete (s : State) : State :=
  let a := s.host.abort
  if a.stage = 4 then
    if a.result = 1 ∧ (a.die = 0 ∨ s.dieUp a.die) then
      let c := s.drawBelow 501
      let t := c.2.drawBelow 1001
      let clean := if a.clean then c.1 else 500
      t.2.modAbort fun x => x.finish (if a.clean then 2 else 3) clean t.1
    else s
  else s

/-- No completion 1.0 ms after the request: RESULT reads UNCONFIRMED. The abort is complete at its die by then in any case
(R406). DESIGN CHOICE, safe: log entry 38. -/
def State.abortUnconfirmed (s : State) : State :=
  let a := s.host.abort
  if a.result = 1 ∧ a.stage ≠ 0 then
    let s1 := if a.stage = 4 then s else (s.semAbort a.die).abortForce a.cls a.idx
    let c := s1.drawBelow 501
    c.2.modAbort fun x => x.finish 4 (if x.clean then c.1 else 500) 0xFFFFFFFF
  else s

end Sys2Proof.Machine
end

