-- ==== Sys2Proof/Machine/Boot.lean ====
section
/-! DEFINITION. Boot (chapter 11): the ROM, the flash slots and their checks, the boot profiles, the start of the images, and
the commands on images in service. -/

namespace Sys2Proof.Machine
open Sys2Proof

/-! ## Flash and manifests (R387, R390) -/

def slotSize : Nat := 4194304

/-- `n` bytes of the flash at `a`; an erased byte reads 0xFF. DESIGN CHOICE, unsafe: log entry 4. -/
def State.flashBytes (s : State) (a n : Nat) : List Byte := (List.range n).map fun i => tget 0xFF s.host.flash (a + i)

/-- The fields of a manifest the model keeps. -/
def manifestOf (m : List Byte) (slot : Nat) : Manifest :=
  { fw := uAt m 8 4, svn := uAt m 12 4, major := uAt m 6 1, minor := uAt m 7 1, bodyLen := uAt m 16 4, hash := uAt m 24 48,
    tested := (List.range (min 32 (uAt m 73 1))).map fun i => uAt m (108 + 4 * i) 4, revoke := uAt m 236 1 % 16, keySlot := slot }

/-- The programmed, unrevoked key slot of die `d` whose hash is that of the manifest's public key (R391).
DESIGN CHOICE, safe: log entry 9. -/
def State.keySlotOf (s : State) (d : Nat) (m : List Byte) : Option Nat :=
  let o := (s.dx d).otp
  let h := sha384 ((m.drop 240).take 97)
  (List.range 4).find? fun i => o.keys.testBit i && !o.revoked.testBit i && decide ((Config.keyHash d i).toNat = h)

/-- STEPPINGS lists the stepping of CAPS0 (R390). -/
def State.steppingOk (s : State) (m : List Byte) : Bool :=
  (List.range (min 16 (uAt m 72 1))).any fun i =>
    decide (uAt m (76 + 2 * i) 1 = s.part.stepMajor) && (decide (uAt m (77 + 2 * i) 1 = s.part.stepMinor) || decide (uAt m (77 + 2 * i) 1 = 0xFF))

/-- Checks 1 to 6 of R391 on a manifest of type `typ` by the ROM of die `d`: 0, or the cause of the first that fails.
DESIGN CHOICE, safe: log entry 9. DESIGN CHOICE, unsafe: log entry 40. -/
def State.manCheck (s : State) (d typ : Nat) (m : List Byte) : Nat :=
  let o := (s.dx d).otp
  let len := uAt m 16 4
  if decide (uAt m 0 4 ≠ 0x4D463838) || decide (uAt m 4 1 ≠ typ) || decide (uAt m 5 1 ≠ 1) || !rsv m 74 2 || !rsv m 237 3 || !rsv m 337 591 ||
      decide (16 ≤ uAt m 236 1) then 2
  else if (s.keySlotOf d m).isNone then 3
  else if !ecdsaOk (sha384 (m.take 928)) ((m.drop 240).take 97) ((m.drop 928).take 96) then 4
  else if uAt m 12 4 < o.rollback then 6
  else if decide ((if typ = 1 then 1572864 else 1048576) < len) || decide (Config.sramBytes < uAt m 20 4 + len) then 9
  else if !s.steppingOk m then 7
  else 0

/-- Check 7: the body's hash, the bytes of SHA-384 in their order (R390, R391). PRESUMED, unsafe: log entry 57. -/
def bodyOk (m body : List Byte) : Bool := decide (sha384 body = beVal ((m.drop 24).take 48))

/-! ## Slots (R387, R388, R392, R393) -/

/-- The offsets of the two images in a slot; none when the header is wrong or an image leaves the slot (R387). -/
def State.slotImages (s : State) (b : Nat) : Option (Nat × Nat) :=
  let a := slotSize * b
  let w := fun (i : Nat) => leVal (s.flashBytes (a + 4 * i) 4)
  let inside := fun (o l : Nat) => decide (1024 ≤ l) && decide (o + l ≤ slotSize)
  if decide (w 0 = 0x47533838) && inside (w 1) (w 2) && inside (w 3) (w 4) then some (a + w 1, a + w 3) else none

/-- The outcome of the checks of a slot. -/
inductive SlotOut
  | good (l u : Manifest)
  | fail (cause : Nat)
  /-- Authentic and not for this silicon: straight into safe mode (R392). -/
  | stepping
deriving DecidableEq, Repr

/-- The checks of a pair of manifests (R391 to R393). -/
def State.pairCheck (s : State) (l u : List Byte) : SlotOut :=
  let cl := s.manCheck 0 1 l
  let cu := s.manCheck 0 2 u
  let c := if cl ≠ 0 then cl else cu
  if c = 7 then .stepping
  else if c ≠ 0 then .fail c
  else
    let a := manifestOf l ((s.keySlotOf 0 l).getD 0)
    let b := manifestOf u ((s.keySlotOf 0 u).getD 0)
    if a.major ≠ b.major then .fail 8 else .good a b

/-- The checks of slot `b`; FAIL_CAUSE 1 when it holds no images. -/
def State.slotCheck (s : State) (b : Nat) : SlotOut :=
  match s.slotImages b with
  | none => .fail 1
  | some o => s.pairCheck (s.flashBytes o.1 1024) (s.flashBytes o.2 1024)

/-- The boot record after every save that waits. -/
def State.bootNext (s : State) : BootRec :=
  (s.dx 0).nv.queue.foldl (fun a j => match j.work with | .record _ _ _ _ (.boot b) _ _ => b | _ => a) s.bootRec

/-- The boot record is saved. DESIGN CHOICE, unsafe: log entry 40. -/
def State.saveBoot (s : State) (r : BootRec) (chan : Option Nat) (fin : NvFin) : State := s.queueSave 0 6 false (.boot r) chan fin

def BootRec.state (r : BootRec) (b : Nat) : Nat := if b = 0 then r.stA else r.stB
def BootRec.count (r : BootRec) (b : Nat) : Nat := if b = 0 then r.cntA else r.cntB
def BootRec.set (r : BootRec) (b st cnt : Nat) : BootRec :=
  if b = 0 then { r with stA := st, cntA := cnt } else { r with stB := st, cntB := cnt }

/-- The channels open for the ROM or for firmware (R395, R403). -/
def State.openChannels (s : State) : State :=
  s.forEach (List.range 8) fun x c => x.modMbx c fun m => { m with h2cMask := m.h2cMask &&& ~~~ bm 0 }

/-- No image is accepted (R444). -/
def Boot.noImage (b : Boot) : Boot := { b with lead := none, unit := none, trial := false, untested := false, fallback := false }

/-- Safe mode (R395): MODE reads SAFE, interface 1.0 (R441). -/
def State.enterSafe (s : State) : State :=
  ((s.modBoot fun b => { b.noImage with safe := true, download := false, major := 1, minor := 0, step := 0 }).modDx 0 fun x => { x with mode := 1 }).openChannels

/-- Download mode: the ROM waits for images (R386, R441). -/
def State.enterDownload (s : State) : State :=
  (s.modBoot fun b => { b.noImage with download := true, safe := false, major := 1, minor := 0, step := 0, leadBuf := [], unitBuf := [] }).openChannels

/-- No slot can be booted: safe mode, or download mode for source 2 (R386). -/
def State.noSlot (s : State) : State :=
  let s1 := s.modBoot fun b => { b with failCause := if b.failCause = 0 then 1 else b.failCause }
  if s.host.boot.src = 2 then s1.enterDownload else s1.enterSafe

/-- A checked pair is about to run (R393). -/
def Boot.choose (b : Boot) (slot : Nat) (trial : Bool) (l u : Manifest) (pref : Nat) : Boot :=
  { b with slot := slot, trial := trial, lead := some l, unit := some u, step := 1, srcHost := false, fallback := decide (slot ≠ pref),
           untested := !(l.tested.contains u.fw || u.tested.contains l.fw) }

/-- The ROM tries the slots of `bs` in order (R388, R392). -/
def State.trySlots (s : State) (pref : Nat) : List Nat → State
  | [] => s.noSlot
  | b :: bs =>
    let r := s.bootNext
    if s.host.boot.tried.contains b || decide (r.state b = 3) then s.trySlots pref bs
    else if r.state b = 1 ∧ r.count b = 0 then (s.saveBoot (r.set b 3 0) none .none).trySlots pref bs
    else match s.slotCheck b with
      | .stepping => (s.modBoot fun x => { x with failCause := 7 }).enterSafe
      | .fail c => (s.modBoot fun x => { x with failCause := c, tried := x.tried ++ [b] }).trySlots pref bs
      | .good l u =>
        let s1 := if r.state b = 1 then s.saveBoot (r.set b 1 (r.count b - 1)) none .none else s
        s1.modBoot fun x => x.choose b (decide (r.state b = 1)) l u pref

/-- The slots in the ROM's order (R388). -/
def State.bootSlots (s : State) : State := let p := s.bootNext.pref % 2; s.trySlots p [p, 1 - p]

/-! ## The ROM (R386, R389, R397, R507) -/

/-- The NV log and its next SEQ, as record 7 of die 0 holds them (R456). -/
def State.nvLogRec (s : State) : List LogEntry × Nat := match (s.dx 0).nv.record 7 with | .log l n => (l, n) | _ => ([], 0)

/-- What the ROM of die `d` reads: the journal, the records, the profile; on die 0 also the NV log, which LOG_GET serves in every mode
(R456, R458). -/
def State.romRead (s : State) (d : Nat) : State :=
  let s1 := s.modNv d fun n => n.bootCheck.readAll
  let n := (s1.dx d).nv
  let prof := match n.record 5 with | .profile p => p | _ => {}
  let plan := match n.record 4 with | .plan p => p | _ => {}
  let s2 := if d = 0 then s1.modHost fun h => { h with nvLog := s1.nvLogRec.1, nvSeq := s1.nvLogRec.2 } else s1
  (s2.modDx d fun x => { x with rom := true, staging := prof, plan := plan }).modDie d fun u => { u with seedRec := n.seed, seedAtBoot := !n.seed.segW.isEmpty }

/-- A plan read from its record is not a new plan: the next scan reports none (R547). -/
def State.planKnown (s : State) (d : Nat) : State :=
  s.modHost fun h => { h with scan := tset 0 h.scan (obsKey 14 3 d) (s.dx d).plan.version }

/-- The profile record of die `d`, when valid (R397). -/
def State.profileOf (s : State) (d : Nat) : Option Profile := match (s.dx d).nv.record 5 with | .profile p => some p | _ => none

/-- Firmware boots again after belay, from the slot that ran before it and without lowering its trial count; the ROM's
modes return as they were (R540). -/
def State.bootAgain (s : State) : State :=
  let b := s.host.boot
  let idle := fun (x : State) => x.modBelay fun y => { y with phase := 0 }
  if b.safe then idle s.enterSafe
  else if b.srcHost || b.download then idle s.enterDownload
  else match s.slotCheck b.slot with
    | .good l u => s.modBoot fun x => { x with lead := some l, unit := some u, step := 1 }
    | .stepping => (s.modBoot fun x => { x with failCause := 7 }).enterSafe
    | .fail c => (s.modBoot fun x => { x.noImage with failCause := c, tried := [x.slot] }).bootSlots

/-- The ROM of die 0 writes TB_CTRL from its profile; an entry that carries OSC_FREQ 0x0 or 0xF fails its checks and is skipped (R42, R397).
DESIGN CHOICE, unsafe: log entry 40. -/
def State.profileTb (s : State) : State :=
  match (s.profileOf 0).bind (·.tb) with
  | some w => if oscBad (fld (cw w) 4 4) then s.modBoot fun b => { b with profileErr := true } else s.writeTbCtrl (cw w)
  | none => s

/-- BOOT_ROM_START: steps 2 to 4 of R389 at die 0, from the straps or BOOT_OVR (R386). In an exit from belay the ROM takes
TB_EN from the retention store in place of the profile (R540), under the refusal of R42. DEDUCED, unsafe: log entry 31. -/
def State.romStart (s : State) (strap : Nat) : State :=
  if (s.die 0).sysLock && !(s.dx 0).rom then
    let b := s.host.boot
    if s.belay.phase = 3 then
      let s1 := s.romRead 0
      ({ s1 with tb := { s1.tb with tbEn := s.belay.tbEn && !oscBad s1.tb.oscFreq } }).bootAgain
    else
      let src := if b.ovrValid then b.ovrSrc else strap % 4
      let s1 := (s.romRead 0).modBoot fun x => { x with ovrValid := false, src := src, tried := [], failCause := 0 }
      let s2 := s1.profileTb
      if src = 3 then s2.enterSafe else if src = 1 then s2.enterDownload else s2.bootSlots
  else s

/-- One entry of a profile: applied when its command's checks pass, else skipped with PROFILE_ERR (R397). -/
def State.profileEntry (s : State) (r : Reply) (f : State → State) : State :=
  if r.ret = retOK then f r.s else s.modBoot fun b => { b with profileErr := true }

/-- A ROM applies its die's profile once the die's TBPLL is locked and before any firmware runs (R397). -/
def State.applyProfile (s : State) (d : Nat) : State :=
  let x := s.dx d
  if !x.rom || x.applied || decide (x.mode = 2) then s
  else match s.profileOf d with
    | none => s
    | some p =>
      let s0 := (s.modDx d fun y => { y with applied := true }).modBoot fun b => { b with profile := b.profile || decide (d = 0) }
      -- the profile is applied by the die itself, which the checks of its commands see as present
      let up := (s.die d).up
      let s1 := s0.modDie d fun u => { u with up := true }
      let s2 := p.oplls.foldl (fun y e => y.profileEntry (opllConfigReply 0 e.2 y) fun z => z.writeOpllCtrl (4 * d + e.1) 1) s1
      let s3 := p.outs.foldl (fun y e => y.profileEntry (outputConfigReply 0 e.2.2 y) fun z =>
        z.writeOutCtrl (16 * d + e.1) ((z.out (16 * d + e.1)).ctrl ||| 1 ||| putb 1 e.2.1) false) s2
      s3.modDie d fun u => { u with up := up }

/-- SYSPLL_LOCK: the ROM of a follower starts with it (R389, R507); a TBPLL that has locked
before it finds its profile (R397). -/
def State.sysLocked (s : State) (d : Nat) : State :=
  if s.fitted d && !(s.die d).sysLock && decide (s.belay.phase ≠ 2) then
    let s1 := s.modDie d fun u => { u with sysLock := true }
    if d = 0 ∨ (s.dx d).rom then s1
    else
      let s2 := s1.romRead d
      if (s.die d).tbLock then s2.applyProfile d else s2
  else s

/-- TBPLL_LOCK with what the ROM does at it. -/
def State.tbLocked (s : State) (d : Nat) : State :=
  let t := s.tbLockDie d
  if (t.die d).tbLock then t.applyProfile d else t

/-! ## The unit image and the followers (R389, R393, R394) -/

/-- The unit image at hand, from the loads of BOOT_LOAD or from the running slot: its manifest and body. -/
def State.unitImage (s : State) (fromHost : Bool) : List Byte × List Byte :=
  let b := s.host.boot
  if fromHost then (b.unitBuf.take 1024, b.unitBuf.drop 1024)
  else match s.slotImages b.slot with
    | some o => let m := s.flashBytes o.2 1024; (m, s.flashBytes (o.2 + 1024) (uAt m 16 4))
    | none => ([], [])

/-- The unit image, frames of class 1, reaches every follower that does not run one yet over routes whose links are UP (R26, R389,
R394). DESIGN CHOICE, unsafe: log entry 40. -/
def State.streamUnit (s : State) (fromHost : Bool) : State :=
  s.forEach ((List.range s.nDies).drop 1) fun x d =>
    if s.routeUp 0 d && decide ((s.dx d).mode = 0) && (s.dx d).rom then x.modDx d fun y => { y with gotImage := true, gotHost := fromHost } else x

/-- A chunk of the unit image, `len` bytes at `off`, goes on to the followers as it arrives; one that has had every chunk holds the image once it
is whole (R416). DESIGN CHOICE, unsafe: log entry 40. -/
def State.streamChunk (s : State) (off len : Nat) (whole : Bool) : State :=
  s.forEach ((List.range s.nDies).drop 1) fun x d =>
    if s.routeUp 0 d && decide ((s.dx d).mode = 0) && (s.dx d).rom && (decide (off = 0) || decide ((s.dx d).gotBytes = off)) then
      x.modDx d fun y => { y with gotBytes := off + len, gotImage := whole, gotHost := true }
    else x

/-- UNIT_IMAGE_STREAMED: step 5 of R389; once firmware runs, a follower that came up later is served (R394), which a
host-download boot cannot do (FOL_NOIMG). A HALTED CP sends nothing (R385). DESIGN CHOICE, unsafe: log entry 40. -/
def State.unitStreamed (s : State) : State :=
  let b := s.host.boot
  if (s.dx 0).mode = 3 then s
  else if b.step = 1 then (s.streamUnit false).modBoot fun x => { x with step := 2 }
  else if 3 ≤ b.step ∧ !b.srcHost then s.streamUnit false
  else if 3 ≤ b.step then
    s.forEach ((List.range s.nDies).drop 1) fun x d =>
      if s.hasPath d && decide ((s.dx d).mode = 0) && (s.dx d).rom && !(s.dx d).gotImage then
        x.modBoot fun y => { y with folNoimg := y.folNoimg ||| 2 ^ d } else x
  else s

/-- A bit of a byte field cleared. -/
def clrBit (m d : Nat) : Nat := if m.testBit d then m - 2 ^ d else m

/-- Firmware of die `d` starts: every engine of the die gets its default program (R372). -/
def State.startEngines (s : State) (d : Nat) : State := s.forEach ((List.range 28).map (· + 28 * d)) fun x e => x.installDefault e

/-- FOLLOWER_IMAGE_START: the follower's ROM repeats checks 1 to 7 against its own OTP, and starts the image or enters safe
mode (R391, R393). -/
def State.followerStart (s : State) (d : Nat) : State :=
  let x := s.dx d
  if d = 0 ∨ !s.fitted d ∨ !x.gotImage ∨ x.mode ≠ 0 then s
  else
    let i := s.unitImage x.gotHost
    let ok := decide (s.manCheck d 2 i.1 = 0) && bodyOk i.1 i.2
    if ok then
      let s1 := s.modDx d fun y => { y with mode := 2, gotImage := false, bootedOnce := true }
      let s2 := s1.modDie d fun u => { u with booted := true }
      (((s2.modBoot fun b => { b with folSafe := clrBit b.folSafe d, folNoimg := clrBit b.folNoimg d }).planKnown d).startEngines d).refreshUp
    else (s.modDx d fun y => { y with mode := 1, gotImage := false }).modBoot fun b => { b with folSafe := b.folSafe ||| 2 ^ d }

/-! ## The lead image and the mailboxes (R389, R403) -/

/-- The lead image at hand: its manifest and body. -/
def State.leadImage (s : State) : List Byte × List Byte :=
  let b := s.host.boot
  if b.srcHost then (b.leadBuf.take 1024, b.leadBuf.drop 1024)
  else match s.slotImages b.slot with
    | some o => let m := s.flashBytes o.1 1024; (m, s.flashBytes (o.1 + 1024) (uAt m 16 4))
    | none => ([], [])

/-- A boot record still waits to be saved on die 0: the ROM lowers a trial count before it starts the slot (R388). -/
def State.bootSaves (s : State) : Bool := (s.dx 0).nv.queue.any fun j => j.work.isBoot

/-- LEAD_IMAGE_START: the body's hash is checked and the image starts, once the trial count is lowered; a slot that fails is skipped. A HALTED
CP starts none (R385, R388, R391, R392). -/
def State.leadStart (s : State) : State :=
  let b := s.host.boot
  if b.step ≠ 2 ∨ (s.dx 0).mode = 3 ∨ s.bootSaves then s
  else
    let i := s.leadImage
    if bodyOk i.1 i.2 then
      let mj := manField b.lead (·.major)
      let mn := min (manField b.lead (·.minor)) (manField b.unit (·.minor))
      ((s.modBoot fun x => { x with step := 3, safe := false, download := false, major := mj, minor := mn, uptime := 0 }).modDx 0 fun y =>
        { y with mode := 2, bootedOnce := true }).startEngines 0
    else (s.modBoot fun x => { x.noImage with failCause := 5, tried := x.tried ++ [b.slot], step := 0 }).bootSlots

/-- Firmware starts: sessions, queues, logs in SRAM, the scan and the abort history are empty; the NV log is that of its
record; RESTART is queued on every channel (R403, R452, R453, R456). -/
def State.mailboxOpen (s : State) : State :=
  if s.host.boot.step ≠ 3 ∨ (s.dx 0).mode ≠ 2 then s
  else
    let s1 := s.forEach (List.range 8) fun x c => x.modMbx c fun m => { m with sess := none, queue := [], lost := 0, msg := none, held := [] }
    let s2 := s1.modHost fun h =>
      { h with ramLog := [], ramSeq := 0, nvLog := s1.nvLogRec.1, nvSeq := s1.nvLogRec.2, scan := [], cause := [], sessions := 0, roMask := 0,
               abort := { h.abort with log := [], total := 0 }, boot := { h.boot with step := 4 },
               spiAuth := false, i2cAuth := false }
    let s3 := (s2.forEach (List.range 8) State.planKnown).openChannels.modBelay fun b => if b.phase = 3 then { b with phase := 0 } else b
    s3.happen { mts := s3.obsMts, cls := 15, sub := s3.belay.rstCause, data := if s3.host.boot.srcHost then 0 else s3.host.boot.slot % 2 }

/-! ## Commands (R409, R410, R416 to R421) -/

/-- The commands on images are accepted on channels 0 to 3 only; in download mode channel 0 is open to every port (R416, R421, R440, R471). -/
def bootDenied (c : Nat) : Bool := notSec c

/-- A save on die 0 or an OTP write is in progress. -/
def State.savingNow (s : State) (d : Nat) : Bool := (s.dx d).nv.saving

/-- A failed image: FAIL_CAUSE holds the cause, and STEPPING puts the ROM into safe mode; the chunk is not kept (R421, R437). -/
def State.imageFail (s : State) (cause : Nat) : Reply :=
  let s1 := s.modBoot fun b => { b with failCause := cause }
  { ret := retImage, s := if cause = 7 ∧ s.host.boot.download then s1.enterSafe else s1 }

/-- DESIGN CHOICE, unsafe: log entry 40. -/
def bootLoadReply (c : Nat) (p : List Byte) (s : State) : Reply :=
  let img := uAt p 0 1
  let off := uAt p 4 4
  let data := p.drop 8
  let b := s.host.boot
  let old := if img = 1 then b.leadBuf else b.unitBuf
  let base := if off = 0 then [] else old
  let buf := base ++ data
  let full := 1024 + uAt buf 16 4
  let done1 := decide (base.length < 1024) && decide (1024 ≤ buf.length)
  let past := decide (1024 ≤ buf.length) && decide (full < buf.length)
  match firstErr
    [(bootDenied c, retDenied), (decide (img = 1) && !b.download, retNotReady),
     ((decide (img ≠ 1) && decide (img ≠ 2)) || !rsv p 1 1 || decide (data = []) || decide (192 < data.length) || decide (off ≠ base.length) || past,
      retBadParam)] with
  | some r => { ret := r, s := s }
  | none =>
    let cause := if done1 then s.manCheck 0 img (buf.take 1024) else 0
    let man := manifestOf (buf.take 1024) ((s.keySlotOf 0 (buf.take 1024)).getD 0)
    let cause := if cause = 0 ∧ done1 ∧ !b.download ∧ man.major ≠ manField b.lead (·.major) then 8 else cause
    let whole := decide (1024 ≤ buf.length) && decide (buf.length = full)
    let cause := if cause = 0 ∧ whole ∧ !bodyOk (buf.take 1024) (buf.drop 1024) then 5 else cause
    if cause ≠ 0 then s.imageFail cause
    else
      let s1 := s.modBoot fun x => if img = 1 then { x with leadBuf := buf } else { x with unitBuf := buf }
      let s2 := if img = 2 then s1.streamChunk off data.length whole else s1
      okReply (if img = 2 ∧ whole ∧ !b.download then s2.modBoot fun x => { x with unit := some man } else s2)

/-- BOOT_START: the images are checked and start (R393, R417). DESIGN CHOICE, unsafe: log entry 40. -/
def bootStartReply (c : Nat) (p : List Byte) (s : State) : Reply :=
  let b := s.host.boot
  match firstErr [(bootDenied c, retDenied), (!b.download, retNotReady), (!rsv p 0 4, retBadParam)] with
  | some r => { ret := r, s := s }
  | none =>
    let whole := fun (x : List Byte) => decide (1024 ≤ x.length) && decide (x.length = 1024 + uAt x 16 4)
    -- a part of one die reads no unit body (R393)
    let one := decide (s.nDies = 1)
    if !whole b.leadBuf || !(if one then decide (1024 ≤ b.unitBuf.length) else whole b.unitBuf) then s.imageFail 1
    else match s.pairCheck (b.leadBuf.take 1024) (b.unitBuf.take 1024) with
      | .stepping => s.imageFail 7
      | .fail r => s.imageFail r
      | .good l u =>
        if !bodyOk (b.leadBuf.take 1024) (b.leadBuf.drop 1024) || (!one && !bodyOk (b.unitBuf.take 1024) (b.unitBuf.drop 1024)) then s.imageFail 5
        else
          let s1 := s.modBoot fun x =>
            { x with lead := some l, unit := some u, srcHost := true, step := 2, trial := false, fallback := false,
                     untested := !(l.tested.contains u.fw || u.tested.contains l.fw) }
          okReply (s1.forEach (List.range 8) fun x c => x.modMbx c fun m => { m with h2cMask := m.h2cMask ||| bm 0 })

/-- FW_FLASH: an erase or a program makes the slot UNKNOWN, then goes to the flash and waits for it; a refusal of the record's write is its
answer (R410, R421). DESIGN CHOICE, unsafe: log entry 40. -/
def fwFlashReply (c : Nat) (p : List Byte) (s : State) : Reply :=
  let op := uAt p 0 1
  let slot := uAt p 1 1
  let len := uAt p 2 2
  let off := uAt p 4 4
  let running := !s.host.boot.srcHost && decide (slot = s.host.boot.slot)
  let bad := decide (2 < op) || decide (1 < slot) || (if op = 0 then decide (len ≠ 0) || decide (off % 65536 ≠ 0) else decide (len = 0) || decide (192 < len)) ||
    decide (slotSize < off + len) || decide (slotSize ≤ off)
  let r := s.bootNext
  let s1 := if r.state slot = 0 then s.modHost fun h => { h with flashOp := some (op, slot, off, p.drop 8, c) }
    else s.saveBoot (r.set slot 0 0) (some c) (.flash op slot off (p.drop 8))
  guarded s
    [(bootDenied c || running, retDenied), (bad, retBadParam), (decide (op ≠ 2) && s.savingNow 0, retBusy)]
    (if op = 2 then okWith (s.flashBytes (slotSize * slot + off) len) s
     else { ret := retOK, wait := true, s := s1 })

/-- Bytes of the flash: an erase sets them, a program can only clear bits; `mask` bit `i` says that byte `i` changes.
DESIGN CHOICE, unsafe: log entry 4. DESIGN CHOICE, unsafe: log entry 40. -/
def flashPut (t : Tbl Byte) (a : Nat) (data : List Byte) (mask : Nat) : Tbl Byte :=
  data.zipIdx.foldl (fun x b => if mask.testBit b.2 then tset 0xFF x (a + b.2) (tget 0xFF x (a + b.2) &&& b.1) else x) t

/-- The bytes of a sector read 0xFF again. DESIGN CHOICE, unsafe: log entry 4. -/
def flashErase (t : Tbl Byte) (a : Nat) : Tbl Byte := t.filter fun e => !(decide (a ≤ e.1) && decide (e.1 < a + 65536))

/-- FLASH_OPERATION_DONE: the flash reports the end; a program is read back (R410, R435). When the flash failed (`ok` false),
which bytes changed is free. -/
def State.flashDone (s : State) (ok : Bool) : State :=
  match s.host.flashOp with
  | none => s
  | some (op, slot, off, data, c) =>
    let a := slotSize * slot + off
    let s1 := s.modHost fun h => { h with flashOp := none }
    if op = 0 then
      if ok then (s1.modHost fun h => { h with flash := flashErase h.flash a }).finish c retOK []
      else s1.finish c retImage []
    else if ok then
      let s2 := s1.modHost fun h => { h with flash := flashPut h.flash a data (2 ^ data.length - 1) }
      s2.finish c (if s2.flashBytes a data.length = data then retOK else retImage) []
    else
      let x := s1.draw
      let y := x.2.draw
      let z := y.2.draw
      let m := (x.1.toNat * 2 ^ 64 + y.1.toNat) * 2 ^ 64 + z.1.toNat
      (z.2.modHost fun h => { h with flash := flashPut h.flash a data m }).finish c retImage []

/-- BOOT_CONFIRM: acknowledged when the boot record and the OTP are written (R409, R419). After a host download no slot
runs, and there is none to confirm. DESIGN CHOICE, unsafe: log entry 40. -/
def bootConfirmReply (c : Nat) (p : List Byte) (s : State) : Reply :=
  let act := uAt p 0 1
  let b := s.host.boot
  let r := s.bootNext
  let good := r.set b.slot 2 0
  let trial := { (r.set (1 - b.slot) 1 3) with pref := 1 - b.slot }
  match firstErr
    [(bootDenied c, retDenied), (b.srcHost, retNotReady), (decide (1 < act) || !rsv p 1 3, retBadParam), (s.savingNow 0, retBusy)] with
  | some e => { ret := e, s := s }
  | none => { ret := retOK, wait := true, s := if act = 0 then s.saveBoot good (some c) .confirm else s.saveBoot trial (some c) .none }

/-- The block of a profile entry passes the checks of its command, and names the unit of INDEX on the die (R420). -/
def State.blockBad (s : State) (d kind idx : Nat) (blk : List Byte) : Bool :=
  let zero := rsv blk 0 32
  let at0 := s.modDie d fun u => { u with up := true }
  match kind with
  | 0 => !rsv blk 1 31 || decide (uAt blk 0 1 / 4 % 4 ≠ 0) || oscBad (uAt blk 0 1 / 16)
  | 1 =>
    let n := 4 * d + idx
    decide (uAt blk 0 2 ≠ n) || decide ((opllConfigReply 0 blk (at0.setOpll n {})).ret ≠ retOK)
  | 2 =>
    let n := 16 * d + idx
    decide (uAt blk 0 2 ≠ n) || decide (uAt blk 4 1 ≠ 0) || decide ((outputConfigReply 0 blk (at0.setOut n {})).ret ≠ retOK)
  | _ => !zero

/-- The unit a block names is of an absent die (R421). -/
def State.blockAbsent (s : State) (kind : Nat) (blk : List Byte) : Bool :=
  (decide (kind = 1) && decide (uAt blk 0 2 < 32) && !s.hasOpll (uAt blk 0 2)) || (decide (kind = 2) && decide (uAt blk 0 2 < 128) && !s.hasOut (uAt blk 0 2))

/-- An entry of the staging copy edited (R420). -/
def Profile.edit (q : Profile) (kind idx : Nat) (present run : Bool) (blk : List Byte) : Profile :=
  match kind with
  | 0 => { q with tb := if present then some (uAt blk 0 1) else none }
  | 1 => { q with oplls := tset [] q.oplls idx (if present then blk else []) }
  | _ => { q with outs := tset (false, []) q.outs idx (if present then (run, blk) else (false, [])) }

/-- DESIGN CHOICE, unsafe: log entry 40. -/
def bootProfileSetReply (c : Nat) (p : List Byte) (s : State) : Reply :=
  let d := uAt p 0 1
  let kind := uAt p 1 1
  let idx := uAt p 2 1
  let fl := uAt p 3 1
  let blk := (p.drop 8).take 32
  let present := fl.testBit 0
  let bad := decide (8 ≤ d) || decide (4 < kind) || decide (4 ≤ fl) || !rsv p 4 4 || (decide (kind = 1) && decide (4 ≤ idx)) ||
    (decide (kind = 2) && decide (16 ≤ idx)) || (decide (kind ≠ 1) && decide (kind ≠ 2) && decide (idx ≠ 0)) || (decide (kind ≠ 2) && fl.testBit 1) ||
    (decide (kind = 0) && decide (d ≠ 0)) || ((present || decide (3 ≤ kind)) && s.blockBad d kind idx blk)
  match firstErr
    [dieAbsent s d, (present && s.blockAbsent kind blk, retAbsent), (bootDenied c, retDenied), dieDown s d, (bad, retBadParam),
     (decide (3 ≤ kind) && s.savingNow d, retBusy)] with
  | some r => { ret := r, s := s }
  | none =>
    if kind = 3 then { ret := retOK, wait := true, s := s.queueSave d 5 false (.profile (s.dx d).staging) (some c) .none }
    else if kind = 4 then { ret := retOK, wait := true, s := s.queueSave d 5 true .none (some c) .none }
    else okReply (s.modDx d fun x => { x with staging := x.staging.edit kind idx present (fl.testBit 1) blk })

end Sys2Proof.Machine
end

