-- ==== Sys2Proof/Machine/Power.lean ====
section
/-! DEFINITION. Resets (R526 to R528, R445) and belay (R530 to R543). -/

namespace Sys2Proof.Machine
open Sys2Proof

/-! ## Resets (R527, R528, R445) -/

/-- What the cells of a store keep; `locks` says that wrong-password counts and locks stay (R528). -/
def NvDie.kept (n : NvDie) (locks : Bool) : NvDie :=
  { cells := n.cells, recA := n.recA, recB := n.recB, journal := n.journal, spares := n.spares, remap := n.remap,
    locked := if locks then n.locked else 0, wrong := if locks then n.wrong else [] }

/-- What a die keeps through a reset: its store, its OTP and its ageing record (R528, R547). -/
def DieX.kept (x : DieX) (locks : Bool) : DieX := { nv := x.nv.kept locks, otp := x.otp, age := x.age }

/-- The part resets with RST_CAUSE `cause`; `warm` is RESETn or RESET with SCOPE 0, which keep the always-on state of R528.
The flash lies outside the part. -/
def State.resetPart (s : State) (cause : Nat) (warm : Bool) : State :=
  let b := s.belay
  let o := s.host.boot
  { State.reset with
    part := s.part, fused := s.fused, pending := s.pending, fresh := s.fresh,
    xs := s.xs.map fun x => (x.1, x.2.kept warm),
    host := { flash := s.host.flash, boot := if warm then { ovrSrc := o.ovrSrc, ovrValid := o.ovrValid } else {} },
    belay := if warm then { wakeS := b.wakeS, mainfailEn := b.mainfailEn, autoSave := b.autoSave, debounceMs := b.debounceMs,
                            hist := b.hist, cnt := b.cnt, mainFail := b.mainFail, rstCause := cause } else { rstCause := cause } }

/-- POWER_ON_RESET; `cut` names the dies whose page write the reserve could not complete, with the bytes that were new
(R504, R506, R528). -/
def State.powerOn (s : State) (cut : List (Nat × Nat)) : State :=
  (cut.foldl (fun x c => x.modNv c.1 fun n => n.cut c.2) s).resetPart 0 false

/-- The entries of a table that `f` changes; what becomes the default is left out. -/
def tmapk {α : Type} [DecidableEq α] (d : α) (f : Nat → α → α) : Tbl α → Tbl α
  | [] => []
  | (k, v) :: t => if f k v = d then tmapk d f t else (k, f k v) :: tmapk d f t

/-- The units with global indices in [lo, hi) at their reset values. -/
def tdrop {α : Type} [DecidableEq α] (d : α) (lo hi : Nat) (t : Tbl α) : Tbl α :=
  tmapk d (fun k v => if lo ≤ k ∧ k < hi then d else v) t

/-- A write that the store of a reset die had not finished ends the command that waits for it with ERR_NOT_READY (R10, R139, R518).
DEDUCED, unsafe: log entry 52. -/
def State.jobLost (s : State) (d : Nat) (j : NvJob) : State := s.jobAnswer d j.chan retNotReady

/-- The frames that die `d` held for other dies are lost, and its links signal their other sides (R346 to R348). -/
def State.linksLost (s : State) (d : Nat) : State :=
  let s1 := s.forEach (List.range 4) fun t l => match t.neighbour d l with | some x => t.linkLeaves x (backPort l) | none => t
  let u := s1.die d
  ((s1.modDie d fun v => { v with links := ({} : Die).links, waiting := [] }).lose (u.waiting ++ u.links.flatMap fun p => p.replay)).refreshUp

/-- The other commands that follower `d` serves wait until they are aborted: its CP answers none of them any more (R404). -/
def State.servedBy (s : State) (d : Nat) : State :=
  s.forEach (List.range 8) fun t c =>
    match (t.mbx c).msg with
    | some m => if fwdDie m.op m.payload = some d then t.modMbx c fun x => { x with msg := some { m with fwd := some d } } else t
    | none => t

/-- Follower `d` alone resets: every unit of its window returns to its reset value and the die leaves the package (R62, R346, R445). The
oscillator models are the engine's and stay; a forwarded request that has not reached the die stays on its way (R224, R348). -/
def State.resetDie (s : State) (d : Nat) : State :=
  let jobs := (s.dx d).nv.queue
  let s0 := ((jobs.foldl (fun t j => t.jobLost d j) ((s.modNv d fun n => { n with queue := [] }).linksLost d))).servedBy d
  let s1 : State :=
    { s0 with inputs := tdrop {} (24 * d) (24 * d + 24) (tdrop {} (192 + 16 * d) (208 + 16 * d) s0.inputs),
              chans := tdrop {} (48 * d) (48 * d + 48) s0.chans, dplls := tdrop {} (8 * d) (8 * d + 8) s0.dplls,
              oscs := tdrop {} (2 * d) (2 * d + 2) s0.oscs,
              oplls := tdrop {} (4 * d) (4 * d + 4) s0.oplls, outs := tdrop {} (16 * d) (16 * d + 16) s0.outs,
              tds := tdrop {} (16 * d) (16 * d + 16) s0.tds, evs := tdrop {} (16 * d) (16 * d + 16) s0.evs,
              stitches := tdrop {} (28 * d) (28 * d + 28) s0.stitches,
              crossings := tdrop {} (256 * d) (256 * d + 256) s0.crossings }
  let s2 := s1.modDx d fun x =>
    { x.kept true with bootedOnce := x.bootedOnce, fwdQ := x.fwdQ.filter fun c => s0.onWay fun f => decide (f = .request c d) }
  let s3 := s2.modDie d fun u => { intake := u.intake, inbound := u.inbound, mclk := u.mclk, mclkOk := u.mclkOk }
  (s3.clocksAnew d).modBoot fun b => { b with folSafe := clrBit b.folSafe d }

/-- RESET_DELAY_EXPIRE: the delay runs from the write of MBX_ACK, so a reset whose response is held is not due; of the others the earliest
begins (R445). DEDUCED, unsafe: log entry 15. -/
def State.resetDue (s : State) : State :=
  match s.host.resetReq.find? fun x => (s.mbx x.2.2.1).held.isEmpty with
  | none => s
  | some x =>
    if x.1 = 0 then s.resetPart 2 true
    else (s.modHost fun h => { h with resetReq := h.resetReq.filter fun y => decide (y ≠ x), cause := (0, x.1, x.2.2.2) :: h.cause }).resetDie x.1

/-! ## Entry into belay (R530 to R532) -/

/-- The nominal frequency of a master oscillator code in Hz (R33). -/
def oscHz : Nat → Nat
  | 1 => 10000000 | 2 => 12800000 | 3 => 19200000 | 4 => 20000000 | 5 => 25000000 | 6 => 30720000 | 7 => 38400000 | 8 => 38880000
  | 9 => 40000000 | 10 => 50000000 | 11 => 100000000 | 12 => 122880000 | 13 => 125000000 | 14 => 156250000 | _ => 0

/-- The outputs of die 0 that qualify as belay outputs, ascending (R530). -/
def State.belayOuts (s : State) : List Nat :=
  (List.range 16).filter fun m =>
    let u := s.out m
    u.belay && u.pps && decide (u.format = 4) && decide (u.state = .running)

/-- The trigger: PHASE is ENTERING; decisions, offset intake, time writes and commands stop; the host ports stop, rings are
disabled, semaphores are released and sessions end (R431, R480, R498, R532). DESIGN CHOICE, unsafe: log entry 41. -/
def State.belayBegin (s : State) (cmd : Bool) : State :=
  let l := s.belayOuts
  let s1 := (s.ringsOff true).semFree
  let s2 := s1.forEach (List.range 8) State.endSession
  let s3 := { s2 with tds := tmapk {} (fun _ u => { u with pendOfs := none, commit := false, timeWrite := [] }) s2.tds }
  let s4 := (s3.forEach (s3.all 16) fun x m => if (l.take 2).contains m then x else x.stopOut m true)
  s4.modBelay fun b =>
    { b with phase := 1, cmd := cmd, armed := none, trigK := s.tb.k, entryK := none, outs := l.take 2, sawLow := b.mainFail, rose := false,
             duration := if cmd then b.duration else 0, hist := setbIf (setb b.hist 0) 4 (decide (2 < l.length)), tbEn := s.tb.tbEn,
             carried := [], retained := [], live := [], count := 0, sumSd := 0, masterLost := false, inc := [], pulses := [], cross := [], edges := [], gen := [], loadDue := false }

/-- Exit has reached step 5 of R540: every captured die has its timebase again. DESIGN CHOICE, unsafe: log entry 41. -/
def State.exitReady (s : State) : Bool := (s.die 0).tbLock && (s.belay.live.all fun d => (s.die d).skewValid)

/-- MAIN_FAILn fell during exit and is still low: entry starts once exit has reached step 5 (R543).
DESIGN CHOICE, unsafe: log entry 41. -/
def State.belayAgain (s : State) : State :=
  let b := s.belay
  if decide (b.phase = 3) && b.mainFail && b.mainfailEn && s.exitReady then s.belayBegin false else s

/-- BELAY_TRIGGER: MAIN_FAILn has been low for four AONCLK cycles, or a BELAY_ENTER has been acknowledged (R531, R543); entry waits while
that acknowledge is held. DESIGN CHOICE, unsafe: log entry 41. -/
def State.belayTrigger (s : State) (mainFail : Bool) : State :=
  let b := s.belay
  if mainFail then
    let s1 := s.modBelay fun x => { x with mainFail := true, sawLow := x.sawLow || decide (x.phase ≠ 0), rose := false }
    if b.mainfailEn && decide (b.phase = 0) then s1.belayBegin false else s1.belayAgain
  else match b.armed with
    | some c => if decide (b.phase = 0) && (s.mbx c).held.isEmpty then s.belayBegin true else s
    | none => s

/-- MAIN_FAILN_RISE (R539). -/
def State.mainFailRise (s : State) : State := s.modBelay fun b => { b with mainFail := false, rose := true }

/-- What DPLL `k` retains (R541). -/
def State.retain (s : State) (k : Nat) : Retained :=
  let u := s.dpll k
  { valid := u.holdValid, means := u.holdMeans s.tb.k, word := if u.cfg.role = 2 then u.ho.word else 0 }

/-- The word in force of a mirror: its holdover word in HOLDOVER, else its STEER without the host offset. -/
def State.mirrorForce (s : State) (k : Nat) : Int :=
  let u := s.dpll k
  if u.state = .holdover then u.ho.word else u.steer - u.hostSteer

/-- The crossing increment of R537 in 2^-32 master cycles for a domain at rate `r` under steering `dy`. -/
def crossInc (f : Nat) (r : Int) (dy : Rat) : Nat :=
  ((f : Rat) * (2 ^ 32 : Nat) / (1 + ((r : Rat) - dy) / wordOne)).floor.toNat

/-- The increments of the belay outputs (R537). -/
def State.crossIncs (s : State) : Tbl Nat :=
  ttab 0 (fun m => let t := 16 * dieOfOut m + (s.out m).ppsTd
                   crossInc (oscHz s.tb.oscFreq) (tget {} s.belay.carried t).rate s.belay.dy) s.belay.outs

/-- The first crossings of the belay outputs after B_e, each with its output's 1PPS delay, in 2^-32 master cycles (R310, R537). -/
def State.firstCross (s : State) : Tbl Nat :=
  ttab 0 (fun m =>
    let c := tget {} s.belay.carried (16 * dieOfOut m + (s.out m).ppsTd)
    let left : Rat := ((secUnit - c.total % secUnit : Nat) : Rat) / (secUnit : Rat)
    let phi : Rat := s.outPhi m / (65536000000000 : Rat) * (oscHz s.tb.oscFreq : Rat) * (2 ^ 32 : Nat)
    let inc : Nat := tget 0 s.belay.inc m
    (left * (inc : Rat) + phi).floor.toNat) s.belay.outs

/-- BELAY_CAPTURE at B_e: the first boundary at least 100 us after the trigger, and not in a restart (R532, R543). A switch
that has not executed is cancelled. With AUTO_SAVE, qualified models that have learned since their last save are saved.
DESIGN CHOICE, unsafe: log entry 41. -/
def State.belayCapture (s : State) : State :=
  let b := s.belay
  if b.phase ≠ 1 ∨ b.entryK.isSome ∨ s.tb.restart ∨ (s.running ∧ s.tb.k < b.trigK + 4) then s
  else
    let live := (List.range s.nDies).filter fun d => decide (d = 0) || s.dieUp d
    let ts := (live.flatMap fun d => (List.range 16).map (· + 16 * d)).filter fun t => (s.td t).enable
    let ks := (live.flatMap fun d => (List.range 8).map (· + 8 * d)).filter fun k => decide ((s.dpll k).cfg.role ≠ 0)
    let m := s.masterPort
    let q := (s.model m).isQualified
    let keep := fun (k : Nat) =>
      let r := s.retain k
      if (s.dpll k).cfg.role = 2 then { r with word := s.mirrorForce k } else r
    let s1 := s.modBelay fun x =>
      { x with entryK := some s.tb.k, entryMts := s.mts, live := live, modelSteer := q, y := s.cairn.y, pE := s.predOf m, dy := 0,
               temp := (s.osc m).temp, carried := ttab {} (fun t => { total := (s.td t).total, rate := (s.td t).rate }) ts,
               retained := ttab {} keep ks, seconds := 0, gen := x.outs }
    let s2 := s1.modBelay fun x => { x with inc := s1.crossIncs }
    let s2 := s2.modBelay fun x => { x with cross := s2.firstCross }
    let s3 := { s2 with dplls := tmapk {} (fun _ u => { u with sel := { u.sel with pend := none } }) s2.dplls }
    if b.autoSave then
      s3.forEach (s3.all 2) fun x o => if (x.model o).state = .qualified ∧ (x.model o).unsaved then x.saveModel o none else x
    else s3

/-! ## What each unit retains (R533) -/

def InputUnit.retained (u : InputUnit) : InputUnit :=
  ({ enable := u.enable, forceDisq := u.forceDisq, rank := u.rank, prio := u.prio, rankEff := u.rank, prioEff := u.prio, configured := u.configured,
     decl := u.decl, mon := u.monPend.getD u.mon, ien := u.ien, freq := u.enable, notValid := u.enable, dm := { ref := u.dm.ref } } : InputUnit).evalDisq

def Sel.retained (q : Sel) : Sel :=
  let l : List Nat := match q.listPend with | some x => x | none => q.cands.map fun (c : Cand) => c.input
  { set := q.set, eff := q.set, cands := l.map fun i => { input := i }, lockout := q.lockout, lockEff := q.lockout, ien := q.ien }

/-- DESIGN CHOICE, unsafe: log entry 41. -/
def Hold.retained (h : Hold) : Hold :=
  ({ basis := h.basis, tick := h.tickPend.getD h.tick, avgS := h.avgS, guardS := h.guardS } : Hold).take

def DpllUnit.retained (u : DpllUnit) : DpllUnit :=
  { cfg := u.cfg, enable := u.enable, force := u.force, glitchUse := u.glitchUse, rows := u.loadRows.rows, rowsEval := u.loadRows.rows, ien := u.ien, hostSteer := u.hostSteer,
    fbReconf := u.fbReconf, fbFault := u.fbReconf, row := if u.enable then (if u.cfg.role = 2 then 7 else 5) else 0, sel := u.sel.retained,
    ho := u.ho.retained }

/-- The oscillator interface stays powered (R532). -/
def OscPort.retained (u : OscPort) : OscPort :=
  { active := u.active, started := u.started, startCnt := u.startCnt, sOn := u.sOn, ien := u.ien, temp := u.temp, tempValid := u.tempValid, faults := u.faults, goods := u.goods }

def Cairn.retained (c : Cairn) : Cairn :=
  { c with slots := c.slots.map (fun m => { port := m.port, used := m.used }), valid := false, split := false, tbHeld := false, learning := false,
           learnUse := 0x7F, hist := 0, y := 0, sigma := 0, z := 0, activeSet := [], rejNow := false }

/-- An OPLL's configuration; the frequency a ramp or a QUIESCE was bound for stands. OPLLs are held disabled until their
die's fill is done (R540). -/
def OpllUnit.retained (u : OpllUnit) : OpllUnit :=
  let w := match u.newFreq, u.rampTo with
    | some (i, f), _ => i * one40 + f
    | none, some t => t
    | none, none => u.nomWord
  { configured := u.configured, refPort := u.refPort, dbl := u.dbl, dither := u.dither, lbw := u.lbw, rdiv := u.rdiv, int := w / one40,
    frac := w % one40, refHz := u.refHz, seed := u.seed, rate := u.rate, ien := u.ien, nNom := (w : Rat), nCur := w }

/-- An output; a belay output runs on (R537). -/
def OutUnit.retained (u : OutUnit) (belay : Bool) : OutUnit :=
  { enable := u.enable, run := u.run, stopLvl := u.stopLvl, bypRet := u.bypRet, belay := u.belay, src := u.src, format := u.format, pps := u.pps,
    pre := u.pre, swing := u.swing, nMode := u.nMode, drive := u.drive, bypSrc := u.bypSrc, bypOut := u.bypOut, ppsTd := u.ppsTd,
    configured := u.configured, div := u.div, bypDiv := u.bypDiv, ppsWidth := u.ppsWidth, coarseHi := u.coarseHi, coarse := u.coarse,
    fine := u.fine, coarseEff := u.coarse, fineEff := u.fine, ien := u.ien, pulses := u.pulses,
    state := if belay then .running else if u.enable then .stopped else .off }

/-- A time domain: settings, counter, rate and integrator; it returns in FREERUN without the first-offset condition (R324). -/
def TdUnit.retained (u : TdUnit) : TdUnit :=
  { enable := u.enable, set := u.setPend.getD u.set, tod := u.todPend.getD u.tod, ien := u.ien, sec := u.sec, sub := u.sub, resid := u.resid, given := u.given,
    rate := u.rate, integ := u.integ, y := u.integ, uk := u.uk, ofs := u.ofs, ofsMts := u.ofsMts, maxCross := u.maxCross, base := u.base,
    state := if u.enable then .freerun else .off }

def EvUnit.retained (u : EvUnit) : EvUnit :=
  { enable := u.enable, mode := u.mode, edge := u.edge, mtsOnly := u.mtsOnly, td := u.td, rateLim := u.rateLim, decim := u.decim, ien := u.ien }

/-- An engine: STITCH_CTRL and the enables; programs are lost (R377, R533). -/
def Stitch.retained (u : Stitch) : Stitch := { enable := u.enable, dbChan := u.dbChan, ien := u.ien }

/-- A die's always-on side; page writes that wait are kept on die 0 alone, whose controller the wakes power (R518, R536). -/
def DieX.retained (x : DieX) (d : Nat) : DieX :=
  { nv := { x.nv with queue := if d = 0 then x.nv.queue.map (fun j => { j with chan := none }) else [] }, otp := x.otp, age := x.age, plan := x.plan,
    bootedOnce := x.bootedOnce, parIen := x.parIen, applied := true }

def HostSide.retained (h : HostSide) : HostSide :=
  { hpIen := h.hpIen, route := h.route, flash := h.flash, loc := { size := 16, ien := h.loc.ien }, abort := { ien := h.abort.ien },
    rings := tmapk {} (fun _ q => { ien := q.ien }) h.rings, mbx := tmapk {} (fun _ m => { c2hMask := m.c2hMask }) h.mbx,
    ports := h.ports.map fun t => { indAddr := t.indAddr, indInc := t.indInc },
    boot := { h.boot with profile := false, profileErr := false, failCause := 0, major := 0, minor := 0, folSafe := 0, folNoimg := 0, step := 0,
                          uptime := 0, leadBuf := [], unitBuf := [], tried := [] } }

/-- A die in belay: its always-on registers and TDC_CAL_CTRL with the enables are retained, and its coarse counter is not cleared (R103). -/
def Die.retained (u : Die) : Die :=
  { bgEn := u.bgEn, hitsLog2 := u.hitsLog2, seedSaveH := u.seedSaveH, tdcIen := u.tdcIen, shtIen := u.shtIen, seedRec := u.seedRec,
    mclk := u.mclk, mclkOk := u.mclkOk }

/-- Every output but the belay outputs rests (R532 step 4). -/
def State.outsRest (s : State) : Bool :=
  (s.all 16).all fun m => s.belay.outs.contains m || (decide ((s.out m).state ≠ .running) && decide ((s.out m).state ≠ .stopping) && decide ((s.out m).state ≠ .starting))

/-- The saves of the followers, and an abort in progress, have ended (R406, R518, R543). DESIGN CHOICE, unsafe: log entry 41. -/
def State.savesEnd (s : State) : Bool :=
  decide (s.host.abort.result ≠ 1) && ((List.range 8).drop 1).all fun d => (s.dx d).nv.queue.isEmpty

/-- BELAY_POWER_DOWN: links go DOWN, all but the always-on domains powers down, PHASE is BELAY (R532, R533). A follower that
was not captured keeps nothing (R543). DESIGN CHOICE, unsafe: log entry 41. -/
def State.belayDown (s : State) : State :=
  let b := s.belay
  if b.phase ≠ 1 ∨ b.entryK.isNone ∨ !s.outsRest ∨ !s.savesEnd then s
  else
    let live := fun (d : Nat) => b.live.contains d
    let on := fun {α : Type} (per : Nat) (f : α → α) (z : α) (k : Nat) (v : α) => if live (k / per) then f v else z
    { s with
      tb := { master := s.tb.master, oscFreq := s.tb.oscFreq, started := s.tb.started, k := s.tb.k },
      dies := (List.range 8).map fun d => (d, if live d then { (s.die d).retained with up := decide (d = 0) } else {}),
      inputs := tmapk {} (fun n u => if live (dieOfInput n) then u.retained else {}) s.inputs,
      chans := [], dplls := tmapk {} (on 8 DpllUnit.retained {}) s.dplls, oscs := tmapk {} (fun _ u => u.retained) s.oscs,
      cairn := s.cairn.retained, oplls := tmapk {} (on 4 OpllUnit.retained {}) s.oplls,
      outs := tmapk {} (fun m u => if live (dieOfOut m) then u.retained (b.outs.contains m) else {}) s.outs,
      tds := tmapk {} (on 16 TdUnit.retained {}) s.tds, evs := tmapk {} (on 16 EvUnit.retained {}) s.evs,
      stitches := tmapk {} (on 28 Stitch.retained {}) s.stitches, crossings := [],
      xs := (List.range 8).map fun d => (d, if live d then (s.dx d).retained d else (s.dx d).kept true),
      host := s.host.retained,
      belay := { b with phase := 2, cnt := satInc b.cnt,
                        dpllsDue := ((s.all 8).filter fun k => live (dieOfDpll k) && (s.dpll k).enable),
                        tdsDue := b.carried.map (·.1),
                        opllsDue := ((s.all 4).filter fun o => live (dieOfOpll o) && ((s.opll o).enable || b.opllsDue.contains o)) } }

/-! ## The periodic wake (R534 to R538) -/

/-- The length of `n` master cycles in seconds. -/
def State.cycSec (s : State) (n : Nat) : Rat := let f := oscHz s.tb.oscFreq; if f = 0 then 0 else (n : Rat) / (f : Rat)

/-- Seconds of the belay by the always-on count, saturating (R549). -/
def State.belaySec (s : State) (count : Nat) : Nat := min 0xFFFFFFFF (s.cycSec count).floor.toNat

/-- A carried time after `l` seconds of the count at steering `dy`, with the correction of R535 (R534). -/
def Carried.advance (c : Carried) (l dy next : Rat) (fix : Bool) : Carried :=
  let corr : Rat := if fix then - ((dy + next) / 2 - dy) * l else 0
  let a : Rat := l * (wordOne + (c.rate : Rat) - dy) + corr
  { c with total := wrapNat tdMod ((c.total : Int) + (a / wordOne * (1000000000 * 2 ^ 48 : Nat)).floor) }

/-- The sum, over each of the next `secs` seconds, of the square root of the variance of a model at temperature `temp` (R223, R552). -/
def PortModel.sdSum (m : PortModel) (temp : Int) (secs : Nat) : Rat :=
  (List.range secs).foldl (fun (a : Rat) i => a + sqrtQ ((m.older i).variance temp)) 0

/-- The always-on count has advanced by `n` cycles; `next` is the steering of the next interval, `fix` asks for the
correction of the one that ends. -/
def State.carry (s : State) (n : Nat) (next : Rat) (fix : Bool) : State :=
  let b := s.belay
  let l := s.cycSec n
  let secs := (s.cycSec (b.count + n)).floor.toNat - (s.cycSec b.count).floor.toNat
  let s1 := s.modBelay fun x =>
    { x with count := x.count + n, seconds := s.belaySec (x.count + n), dy := next, sumSd := x.sumSd + (s.model s.masterPort).sdSum b.temp secs,
             carried := tmapk {} (fun _ c => c.advance l x.dy next fix) x.carried }
  (s1.forEach (s1.all 2) fun t o => t.modModel o fun q => q.older secs).portSeconds secs

/-- BELAY_WAKE: `n` cycles since the capture or the latest wake; the thermistor's reading, or none when it is invalid
(R535, R536, R538). The wake timer expires WAKE_S seconds of the count after the latest wake, not before. -/
def State.belayWake (s : State) (n : Nat) (temp : Option Int) : State :=
  let b := s.belay
  if b.phase ≠ 2 ∨ s.cycSec n < (b.wakeS : Rat) then s
  else
    let t := temp.getD b.temp
    let s0 := s.carry n b.dy false
    let m := s.masterPort
    let next : Rat := if b.modelSteer then (s0.model m).predict t (s0.osc m).sOn - b.pE else 0
    let l := s.cycSec n
    let s1 := s0.modBelay fun x =>
      { x with dy := next, temp := t, budget := 32, hist := setbIf x.hist 3 (temp.isNone && (s.model m).tsense),
               carried := if b.modelSteer then tmapk {} (fun _ c =>
                 { c with total := wrapNat tdMod ((c.total : Int) + (- ((b.dy + next) / 2 - b.dy) * l / wordOne * (1000000000 * 2 ^ 48 : Nat)).floor) }) x.carried
                 else x.carried }
    s1.modBelay fun x => { x with inc := s1.crossIncs }

/-- BELAY_OUTPUT_PULSE: the always-on generator emits a pulse of belay output `m`, at the first master edge at or after its crossing; the
next crossing lies one increment on, and the fraction carries (R537, R540). -/
def State.belayPulse (s : State) (m : Nat) : State :=
  let b := s.belay
  if b.gen.contains m && decide ((s.out m).state = .running) && !b.masterLost then
    let p := tget 0 b.cross m
    (s.modBelay fun x => { x with pulses := tset 0 x.pulses m (tget 0 x.pulses m + 1), edges := tset 0 x.edges m ((p + (2 ^ 32 - 1)) / 2 ^ 32),
                                  cross := tset 0 x.cross m (p + tget 0 x.inc m) }).modOut m fun u => { u with pulses := u.pulses + 1 }
  else s

/-- The master oscillator's activity is lost in belay (R538). -/
def State.belayOscLoss (s : State) (o : Nat) : State :=
  if s.belay.phase = 2 ∧ o = s.masterPort then
    let s1 := s.forEach s.belay.outs fun x m => x.modOut m fun u => { u with state := if u.enable then .stopped else .off }
    s1.modBelay fun b => { b with masterLost := true, hist := setb b.hist 2 }
  else s

/-! ## Exit from belay (R539 to R541) -/

/-- The exit criterion, `n` cycles after the latest wake (R539). -/
def State.exitMet (s : State) (n : Nat) : Bool :=
  let b := s.belay
  let back := b.sawLow && b.rose && !b.mainFail
  if b.cmd then back || (decide (b.duration ≠ 0) && decide (b.duration ≤ s.belaySec (b.count + n))) else b.rose && !b.mainFail

/-- BELAY_EXIT: `n` master cycles from the latest wake to the restart edge (R534, R540). DESIGN CHOICE, unsafe: log entry 41. -/
def State.belayExit (s : State) (n : Nat) : State :=
  let b := s.belay
  if b.phase ≠ 2 ∨ !s.exitMet n then s
  else
    let s1 := s.carry n b.dy false
    s1.modBelay fun x =>
      { x with phase := 3, rstCause := 3, hist := setb x.hist 1, budget := 0, loadDue := x.tbEn,
               edge := ((x.entryK.getD 0 : Nat) : Rat) + s.cycSec x.count * (winPerSec : Rat) }

/-- The carried domains of die `d` resume: each reads its carried time, run on at its rate from the restart edge to the
latest boundary (R540). -/
def State.resumeTds (s : State) (d : Nat) : State :=
  let ts := s.belay.tdsDue.filter fun t => decide (dieOfTd t = d)
  let s1 := s.forEach ts fun x t =>
    let c := tget {} s.belay.carried t
    let run : Rat := ((s.tb.k : Rat) - s.belay.edge) * windowNs
    x.modTd t fun u =>
      let v := { u with rate := c.rate }
      let w := v.setTotal ((c.total : Int) + (run * v.perNs).floor)
      { w with base := w.total, resid := 0, ahead := 0, maxCross := some (c.total / secUnit) }
  s1.modBelay fun b => { b with tdsDue := b.tdsDue.filter fun t => !ts.contains t }

/-- TBPLL_LOCK, with what the ROM does at it and, in an exit from belay, the load of the coarse counter (R397, R534, R540). -/
def State.tbpllLock (s : State) (d : Nat) : State :=
  let t := s.tbLocked d
  if d = 0 ∧ (t.die 0).tbLock ∧ s.belay.loadDue then
    let k := s.belay.edge.floor.toNat
    (((({ t with tb := { t.tb with k := k } } : State).modDie 0 fun u => u.count k).modBelay fun b => { b with loadDue := false }).resumeTds 0).belayAgain
  else t

/-- LINK_ALIGN_DONE, with the resumption of the domains of a captured follower (R540). -/
def State.linkAligned (s : State) (d l : Nat) : State :=
  let t := s.alignDone d l
  if (t.die d).skewValid then (t.resumeTds d).belayAgain else t

/-- The DPLLs of dies that have resumed take their retained state at this boundary (R541). -/
def State.resumeDplls (s : State) : State :=
  let ready := s.belay.dpllsDue.filter fun k => s.fitted (dieOfDpll k) && (s.die (dieOfDpll k)).skewValid
  if ready.isEmpty then s
  else
    let s1 := s.forEach ready fun x k =>
      let r := tget {} s.belay.retained k
      let u := x.dpll k
      if !u.enable then x
      else if u.cfg.role = 2 then
        let v := u.toHoldover x.tb.k 9
        x.setDpll k { v with ho := { v.ho with valid := true, word := r.word } }
      else if r.valid then
        let v := ({ u with ho := { u.ho with valid := true } } : DpllUnit).toHoldover x.tb.k 9
        let y := x.setDpll k { v with ho := { v.ho with kept := some r.means } }
        y.setDpll k { y.dpll k with ho := y.formHold k 0 false (((y.dx (dieOfDpll k)).plan.fm : Rat) / 256) }
      else
        let w := x.freeWordOf k
        x.setDpll k { (u.openSteer w.1) with freeWord := w.1, frBasis := w.2, stateAt := x.tb.k }
    s1.modBelay fun b => { b with dpllsDue := b.dpllsDue.filter fun k => !ready.contains k }

/-- At FILL_DONE each ROM enables its die's retained OPLLs (R540). -/
def State.resumeOplls (s : State) (d : Nat) : State :=
  let ready := s.belay.opllsDue.filter fun o => decide (dieOfOpll o = d)
  if ready.isEmpty || !s.fillDone d then s
  else (s.forEach ready fun x o => x.opllOn o).modBelay fun b => { b with opllsDue := b.opllsDue.filter fun o => !ready.contains o }

/-! ## Commands (R550 to R552, R555) -/

def belayConfigReply (_c : Nat) (p : List Byte) (s : State) : Reply :=
  let w := uAt p 0 2
  let d := uAt p 2 2
  let f := uAt p 4 1
  guarded s
    [(notSec _c, retDenied),
     (decide (w < 10) || decide (600 < w) || decide (d = 0) || decide (1000 < d) || decide (4 ≤ f) || !rsv p 5 3, retBadParam)]
    (okReply (s.modBelay fun b => { b with wakeS := w, debounceMs := d, mainfailEn := f.testBit 0, autoSave := f.testBit 1 }))

/-- BELAY_ENTER: entry begins once the acknowledge is written (R531, R551). -/
def belayEnterReply (c : Nat) (p : List Byte) (s : State) : Reply :=
  guarded s [(notSec c, retDenied), (decide (uAt p 0 4 ≠ 0x424C4159), retBadParam), (!s.tb.tbEn, retBusy)]
    (okReply (s.modBelay fun b => { b with armed := some c, duration := uAt p 4 4 }))

/-- TE_BOUND of the latest belay (R552). -/
def State.belayBound (s : State) : Int :=
  let b := s.belay
  let day : Rat := if 86400 ≤ b.seconds then 1 else (b.seconds : Rat) / 86400
  fmtPhase (((s.dx 0).plan.fm : Rat) / 256 * (3 * b.sumSd * (8 / 125) + (212992 / 5) * day))

def powerGetStatusReply (_c : Nat) (p : List Byte) (s : State) : Reply :=
  let b := s.belay
  guarded s [(!rsv p 0 4, retBadParam)]
    (okWith (leBytes 1 b.phase ++ leBytes 1 b.rstCause ++ leBytes 1 (fld b.hist 0 5) ++ leBytes 1 b.outs.length ++ leBytes 4 b.cnt ++
      leBytes 4 b.seconds ++ zeros 4 ++ leBytes 8 b.entryMts ++ leBytesI 8 s.belayBound) s)

end Sys2Proof.Machine
end

