-- ==== Sys2Proof/Machine/Ageing.lean ====
section
/-! DEFINITION. Ageing management: the margin plan, its evaluation and the commands that read them (R544 to R547, R553,
R554). -/

namespace Sys2Proof.Machine
open Sys2Proof

/-- Hours of operation of a die, saturating (R554). DESIGN CHOICE, unsafe: log entry 42. -/
def Age.hours (a : Age) : Nat := min 0xFFFFFFFF (a.onWin / (3600 * winPerSec))

/-- A background candidate of the die is counted; those older than 24 h are dropped (R545). -/
def Age.candidate (a : Age) (rejected : Bool) : Age :=
  { a with cands := (a.cands ++ [(a.onWin, rejected)]).filter fun c => decide (a.onWin < c.1 + 86400 * winPerSec) }

/-- Candidates and rejections of the last 24 h. DESIGN CHOICE, unsafe: log entry 42. -/
def Age.share (a : Age) : Nat × Nat :=
  let l := a.cands.filter fun c => decide (a.onWin < c.1 + 86400 * winPerSec)
  (l.length, (l.filter fun c => c.2).length)

/-- The largest departure of a band centre, by magnitude, over the die's OPLLs (R545). -/
def Age.drift (a : Age) : Int := a.drifts.foldl (fun x e => if x.natAbs < e.2.natAbs then e.2 else x) 0

/-- Events of a list of hours that lie in the last 30 days. -/
def Age.month (a : Age) (l : List Nat) : Nat := (l.filter fun h => decide (a.hours < h + 720)).length

/-- The rules of R546 for wear `d` in 0.01 %, before the plan in force is considered. DESIGN CHOICE, unsafe: log entry 42. -/
def Age.rulePlan (a : Age) (d : Nat) : Plan :=
  let c := a.share
  { fm := 256 + (256 * d + 999) / 1000,
    slip := max 120 (150 - 10 * (d / 200)),
    hits := if c.2 * 100 < c.1 ∨ c.1 = 0 then 28 else if c.2 * 100 ≤ 5 * c.1 then 25 else 22,
    band := min 5000 (2500 + 2 * a.drift.natAbs),
    verify := min 7 (2 + a.month a.scans + b2n a.scanWeak),
    scanH := if a.scanWeak then 24 else 168 }

/-- The tighter of the rule's values and those in force; SCAN_H follows its rule (R546). DESIGN CHOICE, unsafe: log entry 42. -/
def Plan.tighten (p r : Plan) : Plan :=
  { p with fm := max p.fm r.fm, slip := min p.slip r.slip, hits := min p.hits r.hits, band := max p.band r.band,
           verify := max p.verify r.verify, scanH := r.scanH }

/-- 24 h of powered operation outside belay have passed since the latest evaluation, or there has been none (R547).
DESIGN CHOICE, unsafe: log entry 42. -/
def Age.evalDue (a : Age) : Bool := match a.evalAt with | none => true | some t => decide (t + 86400000 ≤ a.opMs)

/-- MARGIN_PLAN_EVAL on die `d`, the wear monitors reading `wear` in 0.01 % (R544, R547). The first evaluation of a die, and
one that changes a field, saves a new plan. DESIGN CHOICE, unsafe: log entry 42. -/
def State.planEval (s : State) (d wear : Nat) : State :=
  let x := s.dx d
  if !s.fitted d || decide (x.mode ≠ 2) || !s.leadLive || !x.age.evalDue then s
  else
    let p := x.plan
    let q := p.tighten (x.age.rulePlan wear)
    let pops := (List.range 48).flatMap fun c =>
      let u := s.chan (48 * d + c)
      if (u.core u.active).table.isEmpty then [] else [popCodes (u.core u.active).table]
    let s1 := s.modDx d fun y => { y with age := { y.age with wear := wear, evalAt := some y.age.opMs, pops := lastN 31 (y.age.pops ++ [pops]) } }
    if p.stored && decide (q = p) then s1
    else
      let n : Plan := { q with stored := true, version := p.version + 1, evalHours := x.age.hours, evalMts := s.mts }
      (s1.modDx d fun y => { y with plan := n }).queueSave d 4 false (.plan n) none .none

def marginGetPlanReply (_c : Nat) (p : List Byte) (s : State) : Reply :=
  let d := uAt p 0 1
  let q := (s.dx d).plan
  guarded s [dieAbsent s d, dieDown s d, (decide (8 ≤ d) || !rsv p 1 3, retBadParam)]
    (okWith (leBytes 1 d ++ leBytes 1 (b2n q.stored) ++ zeros 2 ++ leBytes 4 q.version ++ leBytes 4 q.evalHours ++ leBytes 2 q.fm ++
      leBytes 1 q.slip ++ leBytes 1 q.hits ++ leBytes 2 q.band ++ leBytes 1 q.verify ++ zeros 1 ++ leBytes 2 q.scanH ++ zeros 2 ++
      leBytes 8 q.evalMts) s)

/-- The projected change of p of port `o` over the next 30 days (R554): the ageing terms of R219, 30 days on. -/
def State.p30 (s : State) (o : Nat) : Int :=
  let m := s.model o
  if m.isQualified then
    fmtFreq (({ m with ageS := m.ageS + 30 * 86400 } : PortModel).predBase (s.osc o).temp - m.predBase (s.osc o).temp)
  else 0

/-- DESIGN CHOICE, safe: log entry 12. -/
def ageingGetStatusReply (_c : Nat) (p : List Byte) (s : State) : Reply :=
  let d := uAt p 0 1
  let a := (s.dx d).age
  let c := a.share
  guarded s [dieAbsent s d, dieDown s d, (decide (8 ≤ d) || !rsv p 1 3, retBadParam)]
    (okWith (leBytes 1 d ++ zeros 3 ++ leBytes 4 a.hours ++ leBytes 2 a.wear ++ leBytes 2 (if c.1 = 0 then 0 else c.2 * 10000 / c.1) ++
      leBytesI 2 (Config.popTrend a.pops) ++ leBytesI 2 a.drift ++ leBytes 4 (a.month a.refreshes) ++ zeros 4 ++ leBytesI 8 (s.p30 (2 * d)) ++
      leBytesI 8 (s.p30 (2 * d + 1)) ++ zeros 8) s)

end Sys2Proof.Machine
end

