-- ==== Sys2Proof/Machine/Boundary.lean ====
section
/-! DEFINITION. What happens at an update boundary (R30, R121), in the order of the signal path, and the scrubber's safe
states (R477). -/

namespace Sys2Proof.Machine
open Sys2Proof

/-! ## DPLLs (R30 step 5) -/

/-- The words of the reference of DPLL `n` are those of a disqualified input (R153). -/
def State.refDisq (s : State) (n : Nat) : Bool :=
  let u := s.dpll n
  if u.cfg.role = 2 then false
  else match u.sel.cands.find? fun c => decide (c.input = u.selInput) with
    | some c => s.candDisq n c
    | none => decide ((s.streamWord u.selInput).state = 0)

/-- The holdover uncertainty factor that DPLL `n` uses (R236, R546). -/
def State.fmOf (s : State) (n : Nat) : Rat := ((s.dx (dieOfDpll n)).plan.fm : Rat) / 256

/-- STEER of a DPLL in FREERUN or HOLDOVER; a FROZEN one in FREERUN, and one held by parity without a valid history, keep it (R160,
R161, R162). -/
def DpllUnit.openNow (u : DpllUnit) : DpllUnit :=
  if !u.enable then u
  else match u.state with
    | .freerun => if u.frozen then u else u.openSteer u.freeWord
    | .holdover => if u.parityHold && !u.ho.valid then u else u.openSteer u.ho.word
    | _ => u

/-- The holdover word of a selecting DPLL is formed at its entry (R235). DEDUCED, unsafe: log entry 23. -/
def State.holdEntry (s : State) (n : Nat) : State :=
  let u := s.dpll n
  if u.enable ∧ u.state = .holdover ∧ u.cfg.role = 1 ∧ !u.ho.formed then s.setDpll n { u with ho := s.formHold n 0 false (s.fmOf n) } else s

/-- A DPLL that has just left its reference steers by its word from this boundary on. -/
def State.openEntry (s : State) (n : Nat) : State := (s.holdEntry n).modDpll n DpllUnit.openNow

/-- One boundary of the history tick in progress: `old` is the DPLL as it was through the window that ends, with its STEER, its reference and
its exclusions, before a switch of this boundary (R197, R198, R232, R233). -/
def State.histStep (s : State) (n : Nat) (old u : DpllUnit) : DpllUnit :=
  let j := s.portOfDpll n
  let h := u.ho
  let ok := decide (u.state = .locked) && decide (u.res = 0) && !u.acqFast && (decide (u.force = 0) || decide (u.force = 3)) && !u.frozen &&
    !u.parityHold && !s.tb.restart && !old.sel.driftIn.contains old.selInput
  let x : Rat := old.steer
  { u with ho := { h with accS := h.accS + x, accU := h.accU + x + s.meterMean j, accY := h.accY + s.cairn.y,
                          accN := h.accN + 1, accOk := h.accOk && ok, accC := h.accC && s.cairn.valid,
                          accIn := if old.selInput = 0x1FF ∨ h.accIn.contains old.selInput then h.accIn else h.accIn ++ [old.selInput] } }

/-- The numeric accumulator of a DPLL over the window that ends, under the STEER in force in it (R143). -/
def DpllUnit.stepNco (u old : DpllUnit) (k : Nat) (valid : Bool) : DpllUnit :=
  if old.numeric ∧ old.cfg.ncoDen ≠ 0 ∧ old.cfg.ncoNum ≠ 0 then
    let v := old.advanceNco k valid
    { u with ncoSteer := old.steer, ncoWord := v.ncoWord, ncoIdx := v.ncoIdx, ncoCyc := v.ncoCyc, ncoFrac := v.ncoFrac }
  else u

/-- At every boundary of the second in progress DPLL `n` must be fit to teach (R221). -/
def State.learnMark (s : State) (u : DpllUnit) : DpllUnit :=
  let ok := decide (u.state = .locked) && decide (u.res = 0) && !u.acqFast && !u.sel.driftExcl && !s.tb.restart &&
    decide ((s.input u.selInput).rankEff ≤ s.cairn.learnRankMax)
  { u with learnBad := u.learnBad || !ok }

/-- The loop of DPLL `n` at boundary `k`: the words count, and a mirror finds its leader; a DPLL that tracks takes its phase update, another
steers by its word; RES is released. Through a timebase restart state, STEER, BO and RES are held (R45, R145 to R153, R163). Feedback supervision
rests while a tap is measured (R270). -/
def State.dpllLoop (s : State) (n k : Nat) : DpllUnit :=
  let u0 := s.dpll n
  let s1 := if u0.cfg.role = 2 then s.setDpll n (s.dpllMirror n k u0) else s.holdEntry n
  let u1 := (s1.countWords n (s1.refDisq n)).acqNow
  if s.tb.restart then u1
  else
    let u2 := if u1.tracks then (s1.setDpll n u1).dpllTrack n u1.refStream (s1.refDisq n) k else u1.openNow
    if s1.tapBusy n then u2.releaseRes else s1.dpllFbRuns n u2.releaseRes

/-- DPLL `n` at boundary `k`, on the words of the window before the one that ends: its estimates, the switch that is due, its loop, and what
follows the loop (R30, R145 to R153, R163, R185, R193). DEDUCED, unsafe: log entry 22. -/
def State.dpllBoundary (s : State) (n k : Nat) : DpllUnit :=
  let old := s.dpll n
  let s0 := s.modDpll n fun u => { u with sel := { u.sel with cands := s.selBoundary n k } }
  let s1 := s0.setDpll n (s0.switchAt n k)
  let u1 := s1.dpll n
  if !u1.enable then { (u1.loadRows.refreshValid k) with learnBad := true }
  else
    let u2 := s1.dpllFfo n k old.steer (s1.dpllLoop n k)
    let u3 := if u1.cfg.role = 2 then { u2 with steerHist := lastN 3264 (u2.steerHist ++ [u2.steer]) }
      else (s1.histStep n old u2).refreshValid k
    ((s1.learnMark u3).loadRows).stepNco old k (s.numericValid (dieOfDpll n) && !s.tb.gapInWindow)

/-- Every DPLL at boundary `k` (R30). DEDUCED, unsafe: log entry 22. -/
def State.dpllsBoundary (s : State) (k : Nat) : State :=
  let s1 := s.forEach (s.all 8) fun t n => t.modDpll n DpllUnit.applyAdjust
  s1.forEach (s1.all 8) fun t n => t.setDpll n (s1.dpllBoundary n k)

/-! ## Edges (R104 to R106, R115, R121) -/

/-- An edge of that polarity is the active edge of channel `c` of die `d`, whose source is on: an input with an electrical mode, the
feedback of a DPLL that has one, an enabled event pin (R64, R65, R99, R141, R318). DESIGN CHOICE, unsafe: log entry 54. -/
def State.activeEdge (s : State) (d c : Nat) (rising : Bool) : Bool :=
  if c < 24 then decide ((s.input (24 * d + c)).decl.mode ≠ 0) && (rising != (s.input (24 * d + c)).decl.falling)
  else if c < 32 then s.fbUsed (8 * d + (c - 24))
  else (s.ev (16 * d + (c - 32))).effEnable && (rising != (s.ev (16 * d + (c - 32))).effEdge)

/-- The edge of input `n` that channel state `u` met at extended time `x`, accepted or dropped: it counts toward a clear of LOS (R74);
it is a glitch event when it was dropped, or when its interval lies outside the tolerance and below the LOS time, and the window then
carries the glitch mark (R80). DEDUCED, unsafe: log entry 25. DESIGN CHOICE, unsafe: log entry 54. -/
def State.edgeGlitch (s : State) (n : Nat) (u : TdcChan) (x : Nat) (accepted : Bool) : State :=
  let i := s.input n
  let p := s.chanPeriod (chanOfInput n) 0
  let gap : Option Rat := u.last.map fun l => ((wrapDiff extMod x l : Int) : Rat)
  let off := match gap with
    | none => false
    | some dx => decide (p * (i.mon.glitchTol : Rat) < ratAbs (dx - p) * 256) && decide (2 * dx < (i.mon.losN : Rat) * p)
  let s1 := if accepted then s.modInput n fun v => v.edgePeriod gap p else s
  if i.running && !i.los && (!accepted || (off && decide (i.mon.glitchTol ≠ 0))) then
    (s1.modInput n fun v => v.glitchEvent (s.tb.k / winPerMs)).modChan (chanOfInput n) fun c => { c with glitchMark := true }
  else s1

/-- Channel `c` of die `d` takes an edge at extended time `x` of the open window; once belay is entered no event is measured (R106, R114,
R324). -/
def State.edgeTake (s : State) (d c coarse code0 code1 x : Nat) : State :=
  let n := 48 * d + c
  let u := s.chan n
  let r := u.takeEdge x
  let s1 := s.setChan n (if r.2 then r.1.overlapEdge coarse code0 code1 else r.1)
  if c < 24 then s1.edgeGlitch (24 * d + c) u x r.2
  else if c < 32 then s1
  else if s1.belay.phase = 1 then s1
  else if r.2 then s1.evEdge (16 * d + (c - 32)) x
  else s1.modEv (16 * d + (c - 32)) fun v => { v with mergedMark := true }

/-- An edge on channel `c` of die `d` (R104 to R106): the coarse count and the codes of both cores. Its MTS says which window holds it,
and that window's core measures it: an edge of a window that has not opened, or whose core still waits for its swap, is kept until
then (R115, R121); one that was `kept` belongs to the open window, whatever the new core says of it (R130). An event channel measures only
while it is valid (R318). DEDUCED, unsafe: log entry 27. -/
def State.edgeMeasure (s : State) (kept : Bool) (d c coarse code0 code1 : Nat) : State :=
  let n := 48 * d + c
  let u := s.chan n
  let ready := s.running && (s.die d).tbLock && (s.die d).mclkOk && decide (c < 48) && s.hasChan n && decide (code0 < 1152) &&
    decide (code1 < 1152) && !s.tb.restart && u.cal.measures && (decide (c < 32) || s.chanValid n)
  if !ready then s
  else
    let x := s.extOfCapture n u.active coarse (if u.active = 0 then code0 else code1)
    let m := extToMts x
    if !kept && decide (wrapDiff (2 ^ 64) m s.mts < 0) then s
    else if decide ((u.core (1 - u.active)).role = .overlapEnd) || decide (0 ≤ wrapDiff (2 ^ 64) m (mtsOf (s.tb.k + 1))) then
      s.modChan n fun v => { v with ahead := v.ahead ++ [(coarse, code0, code1)] }
    else s.edgeTake d c coarse code0 code1 x

/-- An edge as it arrives (R104). DEDUCED, unsafe: log entry 27. -/
def State.edgeCapture (s : State) (d c coarse code0 code1 : Nat) : State := s.edgeMeasure false d c coarse code0 code1

/-- The edges that channel `n` has kept are measured (R115, R121, R130). -/
def State.takeAhead (s : State) (n : Nat) : State :=
  let q := (s.chan n).ahead
  if q.isEmpty then s
  else q.foldl (fun t e => t.edgeMeasure true (n / 48) (n % 48) e.1 e.2.1 e.2.2) (s.modChan n fun v => { v with ahead := [] })

/-! ## Windows (R121 to R124) -/

/-- The window of one channel closes at boundary `k`. The channel of a DPLL that has no feedback to measure idles (R141). -/
def State.closeChan (s : State) (n k : Nat) : State :=
  let d := dieOfChan n
  let c := n % 48
  let ok := s.chanValid n && !s.tb.gapInWindow
  if c < 24 then
    let i := s.input (24 * d + c)
    s.modChan n fun u => { u.closeWindow k (s.chanPeriod n 0) ok i.decl.boardDelay i.stepMark 0 0 with winValid := s.chanValid n }
  else if c < 32 then
    let m := 8 * d + (c - 24)
    let v := !s.tapBusy m && s.fbUsed m
    s.modChan n fun u => { u.closeWindow k (s.chanPeriod n (s.fbFreq m)) (ok && v) 0 false 0 0 with winValid := s.chanValid n && v }
  else s.modChan n fun u => { u with win := [], glitchMark := false, mergeMark := false, winValid := s.chanValid n }

/-- The cores of a channel at a boundary, and its age: `h` is HITS_LOG2 for a cycle that starts, which none does in a restart
(R114, R116, R120, R133, R134). DESIGN CHOICE, unsafe: log entry 54. -/
def TdcChan.coresBoundary (u : TdcChan) (k : Nat) (frozen restart : Bool) (h : Nat) : TdcChan :=
  let v := { u with c0 := u.c0.boundary frozen, c1 := u.c1.boundary frozen, cyc := if frozen then none else u.cyc,
                    calAge := if k % winPerMs = 0 ∧ u.cal.measures then satInc u.calAge else u.calAge }
  let v := if frozen then v.dropOverlap else v
  if frozen || restart then v else v.begun h

/-- Every present channel of die `d` has reached CALIBRATED or SINGLE (R119). -/
def State.allReached (s : State) (d : Nat) : Bool :=
  ((List.range 48).map (· + 48 * d)).all fun n => !s.hasChan n || (s.chan n).reached

/-- Die `d` notes when its channels have all first reached CALIBRATED or SINGLE, and whether a save is then called for: no seed was present
at power-up, or a channel has set SEED_REJ (R119). -/
def State.noteReached (s : State) (d k : Nat) : State :=
  if (s.die d).reachedK.isNone && s.allReached d then
    s.modDie d fun u => { u with reachedK := some k, seedDone := u.seedAtBoot && !u.seedRejAny }
  else s

/-- Every channel at boundary `k`. -/
def State.chansBoundary (s : State) (k : Nat) : State :=
  let s1 := s.forEach (List.range s.nDies) fun t d => (t.noteReached d k).modDie d fun u => { u with bgFrozen := !u.bgEn }
  let s2 := s1.forEach (s1.all 48) fun t n => t.closeChan n k
  s2.forEach (s2.all 48) fun t n =>
    t.modChan n fun u => u.coresBoundary k (t.die (dieOfChan n)).bgFrozen t.tb.restart (t.bgHits (dieOfChan n))

/-! ## Inputs (R81, R86 to R89, R124) -/

/-- The measurements of an input at a boundary: monitors start once they are valid; what a gap of more than 10 ms interrupts is
measured anew (R86 to R88). -/
def InputUnit.measured (u : InputUnit) (meas : Bool) : InputUnit :=
  if meas then
    let v := { u with invalidRun := 0, notValid := false }
    if u.enable && u.configured && !u.running then v.startMonitors else v
  else if u.enable then
    let v := { u with invalidRun := u.invalidRun + 1 }
    if 320 < u.invalidRun + 1 then { v with gateOpen := none, dm := { v.dm with opened := none } } else v
  else u

/-- Time and cycles of the word of input `n` that closed window `k`: of its phase word, or of its domain (R76, R91). -/
def State.gatePoint (s : State) (n k : Nat) : Nat × Nat :=
  if n < 192 then ((s.chan (chanOfInput n)).word.edgeT, (s.chan (chanOfInput n)).wordIdx) else (edgeOf k, (s.td (n - 192)).run)

/-- The word of input `n` that closes the latest window opens a FREQ gate when none is open: a valid one with EDGES at least 1, or the
count of a domain (R76, R91). -/
def State.opensGate (s : State) (n : Nat) : Bool :=
  if n < 192 then (s.chan (chanOfInput n)).word.valid && decide (1 ≤ (s.chan (chanOfInput n)).word.edges) else s.measValid n

/-- Input `n` at boundary `k`, its word of the closing window being formed: the monitors start, LOS of a virtual input follows its
domain, PJ, the gate, then disqualification (R74, R76, R81, R87, R88, R91). PJ_MTS is the MTS of boundary `k` (R81).
DEDUCED, unsafe: log entry 25. DESIGN CHOICE, unsafe: log entry 54. -/
def State.inputBoundary (s : State) (n k : Nat) : State :=
  let c := s.chan (chanOfInput n)
  let jump := decide (n < 192) && decide (1 ≤ c.word.edges) && c.word.valid
  let meas := s.measValid n
  s.modInput n fun u =>
    let v := u.measured meas
    let v := if decide (192 ≤ n) && !v.inGap meas then v.virtLos (s.domainLost n) else v
    let v := if jump then v.pjWord (c.word.edgeT, c.wordIdx) c.word.step k else v
    let v := if n < 192 then { v with stepMark := false } else v
    let v := if s.opensGate n then v.openGate (s.gatePoint n k) k else v
    v.evalDisq

/-- The word of the closing window carries the input's state as it now is (R89, R124). -/
def State.markWord (s : State) (n : Nat) : State :=
  let st := s.inState n
  let cs := (s.input n).cause
  if n < 192 then s.modChan (chanOfInput n) fun u => { u with word := { u.word with state := st, cause := cs } }
  else s.modTd (n - 192) fun u => { u with word := { u.word with state := st, cause := cs } }

/-- Every input at boundary `k`. -/
def State.inputsBoundary (s : State) (k : Nat) : State :=
  let s1 := s.forEach s.allInputs fun t n => t.inputBoundary n k
  s1.forEach s1.allInputs State.markWord

/-! ## Safe states of parity faults (R477) -/

/-- DPLL `n` takes its safe state, unless it is disabled or in it (R160, R477). -/
def State.dpllSafe (s : State) (n k : Nat) : State :=
  if (s.dpll n).enable && !(s.dpll n).parityHold then (s.modDpll n fun u => u.parityFault k).openEntry n else s

/-- The owner of offset `off` of die `d` takes its safe state at boundary `k`; a unit that is disabled, or in it, does not.
DEDUCED, unsafe: log entry 45. -/
def State.parSafe (s : State) (d k off : Nat) : State :=
  if 0x10000 ≤ off ∧ off < 0x10A00 then
    s.modInput (inputAt d ((off - 0x10000) / 0x40)) fun u => if u.enable then InputUnit.evalDisq { u with configured := false } else u
  else if 0x30000 ≤ off ∧ off < 0x30800 then s.dpllSafe (8 * d + (off - 0x30000) / 0x100) k
  else if 0x31000 ≤ off ∧ off < 0x31200 then s.dpllSafe (8 * d + (off - 0x31000) / 0x40) k
  else if 0x50000 ≤ off ∧ off < 0x50100 then
    let o := 4 * d + (off - 0x50000) / 0x40
    if (s.opll o).enable && !(s.opll o).parityHold then (s.modOpll o fun u => { u with parityHold := true }).fbFaultOf o else s
  else if 0x60000 ≤ off ∧ off < 0x60800 then
    s.modTd (16 * d + (off - 0x60000) / 0x80) fun u => if u.parityHold then u else u.parityFault
  else if 0x61000 ≤ off ∧ off < 0x61200 then
    s.modEv (16 * d + (off - 0x61000) / 0x20) fun u => { u with effEnable := false }
  else if 0x70000 ≤ off ∧ off < 0x70380 then
    s.modStitch (28 * d + (off - 0x70000) / 0x20) fun u => if u.enable then u.faultEnd else u
  else s

/-- The safe states that are due (R477); an event channel measures nothing for as long as its fault stands.
DEDUCED, unsafe: log entry 45. -/
def State.parBoundary (s : State) (k : Nat) : State :=
  s.forEach (List.range s.nDies) fun t d =>
    let x := t.dx d
    let evs := x.bad.filter fun off => decide (0x61000 ≤ off) && decide (off < 0x61200)
    let t1 := t.forEach (x.parDue ++ evs) fun y off => y.parSafe d k off
    if x.parDue.isEmpty then t1 else t1.modDx d fun y => { y with parDue := [] }

/-- The engine and the word of a die-local offset in the program windows (R379). -/
def progAt (o : Nat) : Option (Nat × Nat) := if 0x78000 ≤ o ∧ o < 0x7F000 then some ((o - 0x78000) / 0x400, (o - 0x78000) % 0x400 / 4) else none

/-- Words of installed programs whose parity bit has gone wrong: the fetch finds them, not the scrubber (R358, R367).
DEDUCED, unsafe: log entry 45. -/
def State.upset (s : State) (d : Nat) (bad : List Nat) : State :=
  bad.foldl (init := s) fun t o =>
    match progAt o with
    | some (j, a) => t.modStitch (28 * d + j) fun u => if u.loaded && !u.badParity.contains a then { u with badParity := u.badParity ++ [a] } else u
    | none => t

/-- CONFIG_SCRUB: the scrubber of die `d` finds the words `bad` (R477); live status, sticky bits and counters carry no parity. Words that
were bad before are found again. DEDUCED, unsafe: log entry 45. -/
def State.scrub (s : State) (d : Nat) (bad : List Nat) : State :=
  let x := s.dx d
  let fresh := (bad.filter fun o => parWord d o && !x.bad.contains o).eraseDups
  let n := satAdd x.parCnt fresh.length
  let all := x.bad ++ fresh
  if !s.fitted d then s
  else
    let s1 := s.upset d (bad.filter fun o => decide (o % 4 = 0))
    if fresh.isEmpty then (if all.isEmpty then s1 else s1.modDx d fun y => { y with parDue := all })
    else s1.modDx d fun y =>
      { y with bad := all, parDue := all, parCnt := n, parStat := satFlag (setb y.parStat 0) 1 n, parFaults := y.parFaults ++ fresh,
               parLog := if bit y.parStat 0 then y.parLog else fresh.headD 0 }

/-! ## The boundary (R121) -/

/-- OPLLs run their modulators through the window, take the STEER of their DPLLs and ramp (R257, R259, R280). -/
def State.opllsBoundary (s : State) : State :=
  s.forEach (s.all 4) fun t o => t.modOpll o fun u =>
    (u.modulate (s.osc (s.portOfOpll o)).active).boundary ((s.steererOf o).map fun n => (s.dpll n).steer)

/-- The time domains count through the window that ends; records form on the window as it was, but none once
belay is entered; then each domain takes its write, its offset and its rate (R293 to R304, R318, R324). -/
def State.tdsBoundary (s old : State) (k : Nat) : State :=
  let s1 := s.forEach (s.all 16) fun t n => t.tdCount n k
  let s2 := if s1.part.featE && decide (s1.belay.phase ≠ 1) then s1.forEach (List.range s1.nDies) fun t d => t.evBoundary old d k else s1
  s2.forEach (s2.all 16) fun t n => t.tdBoundary n (k + 1)

/-- What ends with the boundary: the skews move, but not through a restart (R353), the arrivals of the window are spent, the counters go on, the new words enter their
slots, and the edges that belong to the new window are measured (R30, R31, R103, R121, R344, R554).
DEDUCED, unsafe: log entry 22. -/
def State.endBoundary (s : State) : State :=
  let s1 := s.forEach (List.range s.nDies) fun t d =>
    (t.modDie d fun u => { ((if s.tb.restart then u else u.skewStep).count (s.tb.k + 1)) with arrived := [] }).modDx d fun x =>
      { x with age := { x.age with onWin := x.age.onWin + 1 } }
  let s2 := (({ s1 with tb := { s1.tb with k := s1.tb.k + 1, gapInWindow := s1.tb.restart } } : State).launchWords (s1.tb.k + 1)).launchRates
  s2.forEach (s2.all 48) State.takeAhead

/-- A DPLL whose history excludes an input ends that once the input's DRIFT reads 0 (R198). -/
def State.driftSync (s : State) : State :=
  s.forEach (s.all 8) fun t n =>
    let l := (t.dpll n).sel.driftIn.filter fun i => !(t.input i).drift
    if l.isEmpty then t else t.setDpll n (l.foldl DpllUnit.driftDrop (t.dpll n))

/-- UPDATE_BOUNDARY while the timebase runs (R121). DEDUCED, unsafe: log entry 22. -/
def State.boundary (s : State) : State :=
  if !s.running then s
  else
    let k := s.tb.k
    let s := s.pairAll
    let s1 := (s.dpllsBoundary (k + 1)).driftSync
    let s2 := s1.tdsBoundary s k
    let s3 := s2.chansBoundary (k + 1)
    let s4 := s3.inputsBoundary (k + 1)
    let s5 := s4.opllsBoundary
    let s6 := s5.forEach (s5.all 16) fun t m => (t.phaseNow m (k + 1)).startDue m (k + 1)
    let s7 := s6.forEach (s6.all 28) fun t e => if e % 28 < 24 then t else t.modStitch e fun u => u.event 0
    ((s7.endBoundary).parBoundary (k + 1)).resumeDplls

end Sys2Proof.Machine
end

