-- ==== Sys2Proof/Machine/CmdUnest.lean ====
section
/-! DEFINITION. The meanings of the Unest commands (chapter 12): each runs its command when the message that a channel holds
is that command, and answers it. The operand is the mailbox channel. -/

namespace Sys2Proof.Machine
open Sys2Proof

/-- NOP (R442). -/
def execNop (c : Nat) (s : State) : Host.Outcome State Fault Refusal := fin (s.runCmd c 0x0001 nopReply)

/-- GET_CAPS (R443). -/
def execGetCaps (c : Nat) (s : State) : Host.Outcome State Fault Refusal := fin (s.runCmd c 0x0002 getCapsReply)

/-- GET_VERSION (R444). -/
def execGetVersion (c : Nat) (s : State) : Host.Outcome State Fault Refusal := fin (s.runCmd c 0x0003 getVersionReply)

/-- RESET (R445). -/
def execReset (c : Nat) (s : State) : Host.Outcome State Fault Refusal := fin (s.runCmd c 0x0004 resetReply)

/-- GET_ABORT_STATUS (R446). -/
def execGetAbortStatus (c : Nat) (s : State) : Host.Outcome State Fault Refusal := fin (s.runCmd c 0x0005 getAbortStatusReply)

/-- EVENT_SUBSCRIBE (R454). -/
def execEventSubscribe (c : Nat) (s : State) : Host.Outcome State Fault Refusal := fin (s.runCmd c 0x0006 eventSubscribeReply)

/-- EVENT_READ (R455). -/
def execEventRead (c : Nat) (s : State) : Host.Outcome State Fault Refusal := fin (s.runCmd c 0x0007 eventReadReply)

/-- LOG_GET (R458). -/
def execLogGet (c : Nat) (s : State) : Host.Outcome State Fault Refusal := fin (s.runCmd c 0x0008 logGetReply)

/-- LOG_CLEAR (R459). -/
def execLogClear (c : Nat) (s : State) : Host.Outcome State Fault Refusal := fin (s.runCmd c 0x0009 logClearReply)

/-- SESSION_OPEN (R447). -/
def execSessionOpen (c : Nat) (s : State) : Host.Outcome State Fault Refusal := fin (s.runCmd c 0x000A sessionOpenReply)

/-- SESSION_AUTH (R448). -/
def execSessionAuth (c : Nat) (s : State) : Host.Outcome State Fault Refusal := fin (s.runCmd c 0x000B sessionAuthReply)

/-- SESSION_CLOSE (R449). -/
def execSessionClose (c : Nat) (s : State) : Host.Outcome State Fault Refusal := fin (s.runCmd c 0x000C sessionCloseReply)

/-- PORT_KEY_PROGRAM (R450). -/
def execPortKeyProgram (c : Nat) (s : State) : Host.Outcome State Fault Refusal := fin (s.runCmd c 0x000D portKeyProgramReply)

/-- CHANNEL_POLICY (R451). -/
def execChannelPolicy (c : Nat) (s : State) : Host.Outcome State Fault Refusal := fin (s.runCmd c 0x000E channelPolicyReply)

/-- TB_SET_MASTER (R44). -/
def execTbSetMaster (c : Nat) (s : State) : Host.Outcome State Fault Refusal := fin (s.runCmd c 0x0101 tbSetMasterReply)

/-- INPUT_CONFIG (R73). -/
def execInputConfig (c : Nat) (s : State) : Host.Outcome State Fault Refusal := fin (s.runCmd c 0x0201 inputConfigReply)

/-- INPUT_SET_MONITORS (R84). -/
def execInputSetMonitors (c : Nat) (s : State) : Host.Outcome State Fault Refusal := fin (s.runCmd c 0x0202 inputSetMonitorsReply)

/-- INPUT_GET_STATUS (R97). -/
def execInputGetStatus (c : Nat) (s : State) : Host.Outcome State Fault Refusal := fin (s.runCmd c 0x0203 inputGetStatusReply)

/-- INPUT_CLEAR (R98). -/
def execInputClear (c : Nat) (s : State) : Host.Outcome State Fault Refusal := fin (s.runCmd c 0x0204 inputClearReply)

/-- TDC_GET_PICOT (R136). -/
def execTdcGetPicot (c : Nat) (s : State) : Host.Outcome State Fault Refusal := fin (s.runCmd c 0x0301 tdcGetPicotReply)

/-- TDC_SAVE_SEED (R137). -/
def execTdcSaveSeed (c : Nat) (s : State) : Host.Outcome State Fault Refusal := fin (s.runCmd c 0x0302 tdcSaveSeedReply)

/-- TDC_CORE_RESET (R138). -/
def execTdcCoreReset (c : Nat) (s : State) : Host.Outcome State Fault Refusal := fin (s.runCmd c 0x0303 tdcCoreResetReply)

/-- DPLL_CONFIG (R175). -/
def execDpllConfig (c : Nat) (s : State) : Host.Outcome State Fault Refusal := fin (s.runCmd c 0x0401 dpllConfigReply)

/-- DPLL_SET_LOOP (R155). -/
def execDpllSetLoop (c : Nat) (s : State) : Host.Outcome State Fault Refusal := fin (s.runCmd c 0x0402 dpllSetLoopReply)

/-- DPLL_GET_LOOP (R176). -/
def execDpllGetLoop (c : Nat) (s : State) : Host.Outcome State Fault Refusal := fin (s.runCmd c 0x0403 dpllGetLoopReply)

/-- DPLL_SET_STEER (R165). -/
def execDpllSetSteer (c : Nat) (s : State) : Host.Outcome State Fault Refusal := fin (s.runCmd c 0x0404 dpllSetSteerReply)

/-- DPLL_PHASE_ADJUST (R166). -/
def execDpllPhaseAdjust (c : Nat) (s : State) : Host.Outcome State Fault Refusal := fin (s.runCmd c 0x0405 dpllPhaseAdjustReply)

/-- DPLL_GET_STATUS (R179). -/
def execDpllGetStatus (c : Nat) (s : State) : Host.Outcome State Fault Refusal := fin (s.runCmd c 0x0406 dpllGetStatusReply)

/-- DPLL_GET_CANDIDATES (R180). -/
def execDpllGetCandidates (c : Nat) (s : State) : Host.Outcome State Fault Refusal := fin (s.runCmd c 0x0407 dpllGetCandidatesReply)

/-- DPLL_SET_CANDIDATES (R182). -/
def execDpllSetCandidates (c : Nat) (s : State) : Host.Outcome State Fault Refusal := fin (s.runCmd c 0x0501 dpllSetCandidatesReply)

/-- DPLL_SET_SELECTION (R212). -/
def execDpllSetSelection (c : Nat) (s : State) : Host.Outcome State Fault Refusal := fin (s.runCmd c 0x0502 dpllSetSelectionReply)

/-- DPLL_GET_SWITCH_LOG (R213). -/
def execDpllGetSwitchLog (c : Nat) (s : State) : Host.Outcome State Fault Refusal := fin (s.runCmd c 0x0503 dpllGetSwitchLogReply)

/-- CAIRN_SET_MEMBER (R247). -/
def execCairnSetMember (c : Nat) (s : State) : Host.Outcome State Fault Refusal := fin (s.runCmd c 0x0601 cairnSetMemberReply)

/-- CAIRN_SET_CONFIG (R248). -/
def execCairnSetConfig (c : Nat) (s : State) : Host.Outcome State Fault Refusal := fin (s.runCmd c 0x0602 cairnSetConfigReply)

/-- CAIRN_GET_MODEL (R249). -/
def execCairnGetModel (c : Nat) (s : State) : Host.Outcome State Fault Refusal := fin (s.runCmd c 0x0603 cairnGetModelReply)

/-- CAIRN_SAVE (R250). -/
def execCairnSave (c : Nat) (s : State) : Host.Outcome State Fault Refusal := fin (s.runCmd c 0x0604 cairnSaveReply)

/-- CAIRN_FORGET (R250). -/
def execCairnForget (c : Nat) (s : State) : Host.Outcome State Fault Refusal := fin (s.runCmd c 0x0605 cairnForgetReply)

/-- DPLL_SET_HOLDOVER (R251). -/
def execDpllSetHoldover (c : Nat) (s : State) : Host.Outcome State Fault Refusal := fin (s.runCmd c 0x0606 dpllSetHoldoverReply)

/-- DPLL_GET_HOLDOVER (R252). -/
def execDpllGetHoldover (c : Nat) (s : State) : Host.Outcome State Fault Refusal := fin (s.runCmd c 0x0607 dpllGetHoldoverReply)

/-- OPLL_CONFIG (R287). -/
def execOpllConfig (c : Nat) (s : State) : Host.Outcome State Fault Refusal := fin (s.runCmd c 0x0701 opllConfigReply)

/-- OPLL_SET_FREQ (R280). -/
def execOpllSetFreq (c : Nat) (s : State) : Host.Outcome State Fault Refusal := fin (s.runCmd c 0x0702 opllSetFreqReply)

/-- OPLL_ALIGN (R288). -/
def execOpllAlign (c : Nat) (s : State) : Host.Outcome State Fault Refusal := fin (s.runCmd c 0x0703 opllAlignReply)

/-- OUTPUT_CONFIG (R289). -/
def execOutputConfig (c : Nat) (s : State) : Host.Outcome State Fault Refusal := fin (s.runCmd c 0x0704 outputConfigReply)

/-- OUTPUT_RUN (R290). -/
def execOutputRun (c : Nat) (s : State) : Host.Outcome State Fault Refusal := fin (s.runCmd c 0x0705 outputRunReply)

/-- TD_CONFIG (R327). -/
def execTdConfig (c : Nat) (s : State) : Host.Outcome State Fault Refusal := fin (s.runCmd c 0x0801 tdConfigReply)

/-- TD_GET_CONFIG (R327). -/
def execTdGetConfig (c : Nat) (s : State) : Host.Outcome State Fault Refusal := fin (s.runCmd c 0x0802 tdGetConfigReply)

/-- TD_SET_TIME (R296). -/
def execTdSetTime (c : Nat) (s : State) : Host.Outcome State Fault Refusal := fin (s.runCmd c 0x0803 tdSetTimeReply)

/-- TD_GET_TIME (R329). -/
def execTdGetTime (c : Nat) (s : State) : Host.Outcome State Fault Refusal := fin (s.runCmd c 0x0804 tdGetTimeReply)

/-- TD_SET_TOD (R330). -/
def execTdSetTod (c : Nat) (s : State) : Host.Outcome State Fault Refusal := fin (s.runCmd c 0x0805 tdSetTodReply)

/-- STITCH_LOAD (R380). -/
def execStitchLoad (c : Nat) (s : State) : Host.Outcome State Fault Refusal := fin (s.runCmd c 0x0901 stitchLoadReply)

/-- STITCH_COMMIT (R375). -/
def execStitchCommit (c : Nat) (s : State) : Host.Outcome State Fault Refusal := fin (s.runCmd c 0x0902 stitchCommitReply)

/-- STITCH_DEFAULT (R382). -/
def execStitchDefault (c : Nat) (s : State) : Host.Outcome State Fault Refusal := fin (s.runCmd c 0x0903 stitchDefaultReply)

/-- STITCH_RUN (R382). -/
def execStitchRun (c : Nat) (s : State) : Host.Outcome State Fault Refusal := fin (s.runCmd c 0x0904 stitchRunReply)

/-- BOOT_LOAD (R416). -/
def execBootLoad (c : Nat) (s : State) : Host.Outcome State Fault Refusal := fin (s.runCmd c 0x0A01 bootLoadReply)

/-- BOOT_START (R417). -/
def execBootStart (c : Nat) (s : State) : Host.Outcome State Fault Refusal := fin (s.runCmd c 0x0A02 bootStartReply)

/-- FW_FLASH (R410): one flash operation runs at a time; a later command waits for its end (R410, R435). -/
def execFwFlash (c : Nat) (s : State) : Host.Outcome State Fault Refusal :=
  fin (if s.host.flashOp.isSome then s else s.runCmd c 0x0A03 fwFlashReply)

/-- BOOT_CONFIRM (R409). -/
def execBootConfirm (c : Nat) (s : State) : Host.Outcome State Fault Refusal := fin (s.runCmd c 0x0A04 bootConfirmReply)

/-- BOOT_PROFILE_SET (R420). -/
def execBootProfileSet (c : Nat) (s : State) : Host.Outcome State Fault Refusal := fin (s.runCmd c 0x0A05 bootProfileSetReply)

/-- DMA_RING_CONFIG (R494). -/
def execDmaRingConfig (c : Nat) (s : State) : Host.Outcome State Fault Refusal := fin (s.runCmd c 0x0B01 dmaRingConfigReply)

/-- DMA_GET_STATUS (R495). -/
def execDmaGetStatus (c : Nat) (s : State) : Host.Outcome State Fault Refusal := fin (s.runCmd c 0x0B02 dmaGetStatusReply)

/-- IRQ_ROUTE (R496). -/
def execIrqRoute (c : Nat) (s : State) : Host.Outcome State Fault Refusal := fin (s.runCmd c 0x0B03 irqRouteReply)

/-- NV_READ (R520). -/
def execNvRead (c : Nat) (s : State) : Host.Outcome State Fault Refusal := fin (s.runCmd c 0x0C01 nvReadReply)

/-- NV_WRITE (R521). -/
def execNvWrite (c : Nat) (s : State) : Host.Outcome State Fault Refusal := fin (s.runCmd c 0x0C02 nvWriteReply)

/-- NV_LOGIN (R522). -/
def execNvLogin (c : Nat) (s : State) : Host.Outcome State Fault Refusal := fin (s.runCmd c 0x0C03 nvLoginReply)

/-- NV_SET_PASSWORD (R523). -/
def execNvSetPassword (c : Nat) (s : State) : Host.Outcome State Fault Refusal := fin (s.runCmd c 0x0C04 nvSetPasswordReply)

/-- NV_GET_STATUS (R524). -/
def execNvGetStatus (c : Nat) (s : State) : Host.Outcome State Fault Refusal := fin (s.runCmd c 0x0C05 nvGetStatusReply)

/-- BELAY_CONFIG (R550). -/
def execBelayConfig (c : Nat) (s : State) : Host.Outcome State Fault Refusal := fin (s.runCmd c 0x0D01 belayConfigReply)

/-- BELAY_ENTER (R551). -/
def execBelayEnter (c : Nat) (s : State) : Host.Outcome State Fault Refusal := fin (s.runCmd c 0x0D02 belayEnterReply)

/-- POWER_GET_STATUS (R552). -/
def execPowerGetStatus (c : Nat) (s : State) : Host.Outcome State Fault Refusal := fin (s.runCmd c 0x0D03 powerGetStatusReply)

/-- MARGIN_GET_PLAN (R553). -/
def execMarginGetPlan (c : Nat) (s : State) : Host.Outcome State Fault Refusal := fin (s.runCmd c 0x0D04 marginGetPlanReply)

/-- AGEING_GET_STATUS (R554). -/
def execAgeingGetStatus (c : Nat) (s : State) : Host.Outcome State Fault Refusal := fin (s.runCmd c 0x0D05 ageingGetStatusReply)

end Sys2Proof.Machine
end

