-- ==== Sys2Proof/Machine/CmdStitch.lean ====
section
/-! DEFINITION. The meanings of the stitch instructions and of the events of an engine (chapter 10). The operand is the engine;
an instruction acts when it is the one at the engine's program counter. After each, a commit that waits for an idle engine is
tried (R375). -/

namespace Sys2Proof.Machine
open Sys2Proof

/-- HALT (R359). -/
def execHalt (e : Nat) (s : State) : Host.Outcome State Fault Refusal := fin ((s.opHalt e).commitPoll e)

/-- WAIT_EVENT (R361). -/
def execWaitEvent (e : Nat) (s : State) : Host.Outcome State Fault Refusal := fin ((s.opWaitEvent e).commitPoll e)

/-- WAIT_TIME (R361). -/
def execWaitTime (e : Nat) (s : State) : Host.Outcome State Fault Refusal := fin ((s.opWaitTime e).commitPoll e)

/-- SET_FIELD (R361). -/
def execSetField (e : Nat) (s : State) : Host.Outcome State Fault Refusal := fin ((s.opSetField e).commitPoll e)

/-- CLR_FIELD (R361). -/
def execClrField (e : Nat) (s : State) : Host.Outcome State Fault Refusal := fin ((s.opClrField e).commitPoll e)

/-- READ (R361). -/
def execRead (e : Nat) (s : State) : Host.Outcome State Fault Refusal := fin ((s.opRead e).commitPoll e)

/-- CMP (R361). -/
def execCmp (e : Nat) (s : State) : Host.Outcome State Fault Refusal := fin ((s.opCmp e).commitPoll e)

/-- BRANCH (R361). -/
def execBranch (e : Nat) (s : State) : Host.Outcome State Fault Refusal := fin ((s.opBranch e).commitPoll e)

/-- ADD (R361). -/
def execAdd (e : Nat) (s : State) : Host.Outcome State Fault Refusal := fin ((s.opAdd e).commitPoll e)

/-- LOOP (R361). -/
def execLoop (e : Nat) (s : State) : Host.Outcome State Fault Refusal := fin ((s.opLoop e).commitPoll e)

/-- EMIT (R363). -/
def execEmit (e : Nat) (s : State) : Host.Outcome State Fault Refusal := fin ((s.opEmit e).commitPoll e)

/-- STITCH_INVOKE (R365). -/
def execStitchInvoke (e : Nat) (s : State) : Host.Outcome State Fault Refusal := fin ((s.stitchInvoke e).commitPoll e)

/-- STITCH_WAIT_RESUME (R361). -/
def execStitchWaitResume (e : Nat) (s : State) : Host.Outcome State Fault Refusal := fin ((s.stitchResume e).commitPoll e)

/-- STITCH_OVERRUN (R367). -/
def execStitchOverrun (e : Nat) (s : State) : Host.Outcome State Fault Refusal := fin ((s.stitchOverrun e).commitPoll e)

/-- STITCH_UNIT_WRITE (R359). -/
def execStitchUnitWrite (e : Nat) (s : State) : Host.Outcome State Fault Refusal := fin ((s.stitchUnitWrite e).commitPoll e)

end Sys2Proof.Machine
end

