-- ==== Sys2Proof/Machine/CmdRegs.lean ====
section
/-! DEFINITION. The meanings of the register writes that are commands of their own (chapters 01 to 13): each is the arrival of
the write at its register, by a path `p`, under the rules of the path (R25, R400, R471). The last rows are the accesses
themselves. A write that a table row gives in part keeps the other fields of the register. -/

namespace Sys2Proof.Machine
open Sys2Proof

/-! ## Where the registers stand -/

/-- Offset of IN_CTRL of input `n` in its die's window (R92). -/
def offInput (n : Nat) : Nat := 0x10000 + 0x40 * (if n < 192 then n % 24 else 24 + (n - 192) % 16)

/-- Offsets of DPLL_CTRL, OPLL_CTRL, OUT_CTRL, TD_CTRL, EV_CTRL and STITCH_CTRL by global index. -/
def offDpll (n : Nat) : Nat := 0x30000 + 0x100 * (n % 8)
def offOpll (n : Nat) : Nat := 0x50000 + 0x40 * (n % 4)
def offOut (n : Nat) : Nat := 0x51000 + 0x40 * (n % 16)
def offTd (n : Nat) : Nat := 0x60000 + 0x80 * (n % 16)
def offEv (n : Nat) : Nat := 0x61000 + 0x20 * (n % 16)
def offStitch (n : Nat) : Nat := 0x70000 + 0x20 * (n % 28)

/-- A register value with bit `i` replaced by `b`. -/
def withBit (w : Word) (i : Nat) (b : Bool) : Word := if b then w ||| bm i else w &&& ~~~ bm i

/-- A register value with the field `[lo + n - 1 : lo]` replaced by `v`. -/
def withFld (w : Word) (lo n v : Nat) : Word := (w &&& ~~~ fm (lo + n - 1) lo) ||| put lo n v

/-! ## Timebase (R35 to R42, R585) -/

/-- TB_EN_SET (R35, R42): a write of TB_CTRL that carries 1 for TB_EN. -/
def execTbEnSet (p : Path) (w : Word) (s : State) : Host.Outcome State Fault Refusal := fin (s.land p 0 0x100 (withBit w 1 true))

/-- TB_EN_CLEAR (R585): a write of TB_CTRL that carries 0 for TB_EN. -/
def execTbEnClear (p : Path) (w : Word) (s : State) : Host.Outcome State Fault Refusal := fin (s.land p 0 0x100 (withBit w 1 false))

/-- TB_CONFIG_WRITE (R41): a write of TB_CTRL that leaves TB_EN as it is. -/
def execTbConfigWrite (p : Path) (w : Word) (s : State) : Host.Outcome State Fault Refusal :=
  fin (s.land p 0 0x100 (withBit w 1 s.tb.tbEn))

/-! ## Inputs (R86, R87, R93) -/

/-- A write of IN_CTRL of input `n`. -/
def State.landInput (s : State) (p : Path) (n : Nat) (w : Word) : State :=
  if s.hasInput n then s.land p (dieOfInput n) (offInput n) w else s

/-- INPUT_ENABLE (R87). DESIGN CHOICE, safe: log entry 16. -/
def execInputEnable (p : Path) (n : Nat) (s : State) : Host.Outcome State Fault Refusal :=
  fin (s.landInput p n (withBit (s.input n).ctrl 0 true))

/-- INPUT_DISABLE (R87). -/
def execInputDisable (p : Path) (n : Nat) (s : State) : Host.Outcome State Fault Refusal :=
  fin (s.landInput p n (withBit (s.input n).ctrl 0 false))

/-- FORCE_DISQ_WRITE (R86). -/
def execForceDisqWrite (p : Path) (n : Nat) (b : Bool) (s : State) : Host.Outcome State Fault Refusal :=
  fin (s.landInput p n (withBit (s.input n).ctrl 1 b))

/-- RANK_PRIORITY_WRITE (R93). -/
def execRankPriorityWrite (p : Path) (n rank prio : Nat) (s : State) : Host.Outcome State Fault Refusal :=
  fin (s.landInput p n (withFld (withFld (s.input n).ctrl 8 8 rank) 16 5 prio))

/-! ## DPLLs (R160, R192, R201) -/

/-- A write of register `r` of DPLL `n`. -/
def State.landDpll (s : State) (p : Path) (n r : Nat) (w : Word) : State :=
  if s.hasDpll n then s.land p (dieOfDpll n) (offDpll n + r) w else s

/-- DPLL_ENABLE (R160). -/
def execDpllEnable (p : Path) (n : Nat) (s : State) : Host.Outcome State Fault Refusal :=
  fin (s.landDpll p n 0 (withBit (s.dpll n).ctrl 0 true))

/-- DPLL_DISABLE (R160). -/
def execDpllDisable (p : Path) (n : Nat) (s : State) : Host.Outcome State Fault Refusal :=
  fin (s.landDpll p n 0 (withBit (s.dpll n).ctrl 0 false))

/-- FORCE_FREERUN (R160): FORCE written 1. -/
def execForceFreerun (p : Path) (n : Nat) (s : State) : Host.Outcome State Fault Refusal :=
  fin (s.landDpll p n 0 (withFld (s.dpll n).ctrl 1 2 1))

/-- FORCE_HOLDOVER (R160): FORCE written 2. -/
def execForceHoldover (p : Path) (n : Nat) (s : State) : Host.Outcome State Fault Refusal :=
  fin (s.landDpll p n 0 (withFld (s.dpll n).ctrl 1 2 2))

/-- FORCE_AUTOMATIC (R160): FORCE written 0. -/
def execForceAutomatic (p : Path) (n : Nat) (s : State) : Host.Outcome State Fault Refusal :=
  fin (s.landDpll p n 0 (withFld (s.dpll n).ctrl 1 2 0))

/-- SEL_RETBLK_CLEAR (R201): a write of SEL_RETBLK. -/
def execSelRetblkClear (p : Path) (n : Nat) (w : Word) (s : State) : Host.Outcome State Fault Refusal := fin (s.landDpll p n 0x98 w)

/-- SEL_HOOK_VERDICT_WRITE (R192): a write of SEL_HOOK_VERDICT. -/
def execSelHookVerdictWrite (p : Path) (n : Nat) (w : Word) (s : State) : Host.Outcome State Fault Refusal := fin (s.landDpll p n 0x9C w)

/-! ## OPLLs and outputs (R263, R269, R273 to R276) -/

/-- A write of OPLL_CTRL of OPLL `n`. -/
def State.landOpll (s : State) (p : Path) (n : Nat) (w : Word) : State :=
  if s.hasOpll n then s.land p (dieOfOpll n) (offOpll n) w else s

/-- OPLL_ENABLE (R263). -/
def execOpllEnable (p : Path) (n : Nat) (s : State) : Host.Outcome State Fault Refusal := fin (s.landOpll p n 1)

/-- OPLL_DISABLE (R263). -/
def execOpllDisable (p : Path) (n : Nat) (s : State) : Host.Outcome State Fault Refusal := fin (s.landOpll p n 0)

/-- A write of register `r` of output `n`. -/
def State.landOut (s : State) (p : Path) (n r : Nat) (w : Word) : State :=
  if s.hasOut n then s.land p (dieOfOut n) (offOut n + r) w else s

/-- OUTPUT_ENABLE (R273). -/
def execOutputEnable (p : Path) (n : Nat) (s : State) : Host.Outcome State Fault Refusal :=
  fin (s.landOut p n 0 (withBit (s.out n).ctrl 0 true))

/-- OUTPUT_DISABLE (R273). -/
def execOutputDisable (p : Path) (n : Nat) (s : State) : Host.Outcome State Fault Refusal :=
  fin (s.landOut p n 0 (withBit (s.out n).ctrl 0 false))

/-- OUT_RUN_START (R276): RUN written 1. -/
def execOutRunStart (p : Path) (n : Nat) (s : State) : Host.Outcome State Fault Refusal :=
  fin (s.landOut p n 0 (withBit (s.out n).ctrl 1 true))

/-- OUT_RUN_STOP (R273): RUN written 0. -/
def execOutRunStop (p : Path) (n : Nat) (s : State) : Host.Outcome State Fault Refusal :=
  fin (s.landOut p n 0 (withBit (s.out n).ctrl 1 false))

/-- OUT_PHASE_WRITE (R269): a write of OUT_COARSE (0x10), OUT_FINE (0x14) or OUT_COARSE_HI (0x28). -/
def execOutPhaseWrite (p : Path) (n r : Nat) (w : Word) (s : State) : Host.Outcome State Fault Refusal :=
  fin (if r = 0x10 ∨ r = 0x14 ∨ r = 0x28 then s.landOut p n r w else s)

/-! ## Time domains and event channels (R299, R302, R318) -/

/-- A write of register `r` of time domain `n`. -/
def State.landTd (s : State) (p : Path) (n r : Nat) (w : Word) : State :=
  if s.hasTd n then s.land p (dieOfTd n) (offTd n + r) w else s

/-- TD_ENABLE (R302). -/
def execTdEnable (p : Path) (n : Nat) (s : State) : Host.Outcome State Fault Refusal := fin (s.landTd p n 0 1)

/-- TD_DISABLE (R302). -/
def execTdDisable (p : Path) (n : Nat) (s : State) : Host.Outcome State Fault Refusal := fin (s.landTd p n 0 0)

/-- TD_OFS_COMMIT (R299): COMMIT written 1. -/
def execTdOfsCommit (p : Path) (n : Nat) (s : State) : Host.Outcome State Fault Refusal := fin (s.landTd p n 0x40 1)

/-- EV_CONFIG_WRITE (R318): a write of EV_CTRL (0x00) or EV_RATE (0x04). -/
def execEvConfigWrite (p : Path) (n r : Nat) (w : Word) (s : State) : Host.Outcome State Fault Refusal :=
  fin (if s.hasEv n ∧ (r = 0 ∨ r = 4) then s.land p (n / 16) (offEv n + r) w else s)

/-! ## Stitch engines (R362, R378) -/

/-- A write of STITCH_CTRL of engine `n`. -/
def State.landStitch (s : State) (p : Path) (n : Nat) (w : Word) : State :=
  if s.hasStitch n then s.land p (dieOfStitch n) (offStitch n) w else s

/-- STITCH_ENABLE_WRITE (R378). -/
def execStitchEnableWrite (p : Path) (n : Nat) (b : Bool) (s : State) : Host.Outcome State Fault Refusal :=
  fin (s.landStitch p n (putb 0 b ||| put 4 3 (s.stitch n).dbChan))

/-- STITCH_SIGNAL (R362): SIGNAL written 1. -/
def execStitchSignal (p : Path) (n : Nat) (s : State) : Host.Outcome State Fault Refusal :=
  fin (s.landStitch p n (putb 0 (s.stitch n).enable ||| bm 1 ||| put 4 3 (s.stitch n).dbChan))

/-! ## Mailboxes and the abort unit (R401, R402, R405) -/

/-- A write of register `r` of mailbox channel `c`. -/
def State.landMbx (s : State) (p : Path) (c r : Nat) (w : Word) : State := if c < 8 then s.land p 0 (0x80000 + 0x800 * c + r) w else s

/-- MBX_H2C_DOORBELL (R401): doorbell bit 0 written 1. -/
def execMbxH2cDoorbell (p : Path) (c : Nat) (s : State) : Host.Outcome State Fault Refusal :=
  fin (s.landMbx p c 0x204 ((s.mbx c).h2cDb ||| 1))

/-- MBX_C2H_CLEAR (R401): doorbell bit 0 cleared. -/
def execMbxC2hClear (p : Path) (c : Nat) (s : State) : Host.Outcome State Fault Refusal := fin (s.landMbx p c 0x20C 1)

/-- H2C_BUF_WRITE (R402): word `i` of the buffer. -/
def execH2cBufWrite (p : Path) (c i : Nat) (w : Word) (s : State) : Host.Outcome State Fault Refusal :=
  fin (if i < 64 then s.landMbx p c (4 * i) w else s)

/-- ABORT_REQ_WRITE (R405). -/
def execAbortReqWrite (p : Path) (w : Word) (s : State) : Host.Outcome State Fault Refusal := fin (s.land p 0 0x84000 w)

/-! ## Semaphores, interrupts, rings, calibration (R120, R478 to R485) -/

/-- SEM_READ_ACQUIRE (R478): a read of SEM[n]; a port takes the value read. -/
def execSemReadAcquire (p : Path) (n : Nat) (s : State) : Host.Outcome State Fault Refusal :=
  fin (if s.pathLive p ∧ n < 64 then
    let r := s.semRead (masterOf p) n
    match portIdx p with
    | some i => r.1.portRd i r.2
    | none => r.1
  else s)

/-- SEM_RELEASE (R480): a write of 0 to SEM[n]. -/
def execSemRelease (p : Path) (n : Nat) (s : State) : Host.Outcome State Fault Refusal :=
  fin (if n < 64 then s.land p 0 (0x800 + 4 * n) 0 else s)

/-- SEM_HELD_RELEASE (R480): a write of SEM_HELD[r]. -/
def execSemHeldRelease (p : Path) (r : Nat) (w : Word) (s : State) : Host.Outcome State Fault Refusal :=
  fin (if r < 2 then s.land p 0 (0x900 + 4 * r) w else s)

/-- IRQ_VEC_ACK_WRITE (R482). -/
def execIrqVecAckWrite (p : Path) (w : Word) (s : State) : Host.Outcome State Fault Refusal := fin (s.land p 0 0x510 w)

/-- IND_DATA_ACCESS (R476): a read or a write of IND_DATA over the path. -/
def execIndDataAccess (p : Path) (write : Bool) (w : Word) (s : State) : Host.Outcome State Fault Refusal :=
  fin (s.access p (if p = .bar2 then 0x8404 else 0x404) write w)

/-- RING_RD_PTR_WRITE (R485): the read pointer of ring `r`, or of the local ring (0xFF). -/
def execRingRdPtrWrite (p : Path) (r : Nat) (w : Word) (s : State) : Host.Outcome State Fault Refusal :=
  fin (if r < 16 then s.land p 0 (0xA0020 + 0x40 * r) w else if r = 0xFF then s.land p 0 0xA0404 w else s)

/-- BG_EN_WRITE (R120): BG_EN of die `d`. -/
def execBgEnWrite (p : Path) (d : Nat) (b : Bool) (s : State) : Host.Outcome State Fault Refusal :=
  fin (s.land p d 0x20800 (withBit (s.calReg d 0) 0 b))

/-! ## Accesses (R19, R57, R464) -/

/-- ALIAS_WRITE (R464): a write through a set, clear or toggle view. DESIGN CHOICE, safe: log entry 16. -/
def execAliasWrite (p : Path) (a : Nat) (w : Word) (s : State) : Host.Outcome State Fault Refusal :=
  fin (if p ≠ .bar2 ∧ a < 2 ^ 25 ∧ accView a ≠ 0 then s.access p a true w else s)

/-- SAT_COUNTER_CLEAR (R57): a write over the register that holds a counter's clearing bit. -/
def execSatCounterClear (p : Path) (a : Nat) (w : Word) (s : State) : Host.Outcome State Fault Refusal := fin (s.access p a true w)

/-- REGISTER_WRITE (R19). DESIGN CHOICE, safe: log entry 16. -/
def execRegisterWrite (p : Path) (a : Nat) (w : Word) (s : State) : Host.Outcome State Fault Refusal := fin (s.access p a true w)

end Sys2Proof.Machine
end

