-- ==== Sys2Proof/Machine/EvtHost.lean ====
section
/-! DEFINITION. The meanings of the events of the ports, the resets, boot, belay, the mailboxes, the abort unit, the store and
the DMA engine (chapters 11, 13 to 15). An event that cannot happen in the state at hand has no effect. -/

namespace Sys2Proof.Machine
open Sys2Proof

/-! ## Ports (R340, R341, R468 to R473, R482, R488) -/

/-- SPI_STATUS (R468). -/
def execSpiStatus (s : State) : Host.Outcome State Fault Refusal := fin s.spiStatusOp

/-- SPI_CS_RISE (R469): a partial word is dropped. -/
def execSpiCsRise (s : State) : Host.Outcome State Fault Refusal := fin (s.modPort 1 fun t => { t with partWord := false })

/-- I2C_STOP (R470): a partial word is dropped. -/
def execI2cStop (s : State) : Host.Outcome State Fault Refusal := fin (s.modPort 2 fun t => { t with partWord := false })

/-- LATE_ACCESS (R341, R474). -/
def execLateAccess (p : Path) (s : State) : Host.Outcome State Fault Refusal :=
  fin (match portIdx p with | some i => s.lateEnd i | none => s)

/-- REMOTE_ACCESS_COMPLETE (R340). -/
def execRemoteAccessComplete (p : Path) (s : State) : Host.Outcome State Fault Refusal :=
  fin (match portIdx p with | some i => s.remoteDone i | none => s)

/-- SLOW_WRITE_DRAIN (R473). -/
def execSlowWriteDrain (s : State) : Host.Outcome State Fault Refusal := fin s.slowDrain

/-- PCIE_LINK_LOSS (R488). `k`: 0 the link is lost, 1 PERSTn, 2 a function-level reset, 3 Bus Master Enable written 0. -/
def execPcieLinkLoss (k : Nat) (s : State) : Host.Outcome State Fault Refusal := fin (if s.part.featX then s.linkLoss k else s)

/-- PCIE_LINK_UP (R488). -/
def execPcieLinkUp (s : State) : Host.Outcome State Fault Refusal := fin s.linkUpNow

/-- PCIE_CONFIG_WRITE (R482). -/
def execPcieConfigWrite (bme msix mask : Bool) (s : State) : Host.Outcome State Fault Refusal := fin (s.pcieConfig bme msix mask)

/-! ## Resets and boot (R389 to R403, R445, R527, R528) -/

/-- POWER_ON_RESET (R528). -/
def execPowerOnReset (cut : List (Nat × Nat)) (s : State) : Host.Outcome State Fault Refusal := fin (s.powerOn cut)

/-- RESETN (R527): RST_CAUSE 1. -/
def execResetn (s : State) : Host.Outcome State Fault Refusal := fin (s.resetPart 1 true)

/-- RESET_DELAY_EXPIRE (R445). -/
def execResetDelayExpire (s : State) : Host.Outcome State Fault Refusal := fin s.resetDue

/-- SYSPLL_LOCK (R262, R389). -/
def execSyspllLock (d : Nat) (s : State) : Host.Outcome State Fault Refusal := fin (s.sysLocked d)

/-- BOOT_ROM_START (R386 to R392); `strap` is the level of BOOTSEL1 and BOOTSEL0. -/
def execBootRomStart (strap : Nat) (s : State) : Host.Outcome State Fault Refusal := fin (s.romStart strap)

/-- UNIT_IMAGE_STREAMED (R389). -/
def execUnitImageStreamed (s : State) : Host.Outcome State Fault Refusal := fin s.unitStreamed

/-- FOLLOWER_IMAGE_START (R394). -/
def execFollowerImageStart (d : Nat) (s : State) : Host.Outcome State Fault Refusal := fin (s.followerStart d)

/-- LEAD_IMAGE_START (R389). -/
def execLeadImageStart (s : State) : Host.Outcome State Fault Refusal := fin s.leadStart

/-- MAILBOX_OPEN (R403). -/
def execMailboxOpen (s : State) : Host.Outcome State Fault Refusal := fin s.mailboxOpen

/-- FLASH_OPERATION_DONE (R410, R435). -/
def execFlashOperationDone (ok : Bool) (s : State) : Host.Outcome State Fault Refusal := fin (s.flashDone ok)

/-! ## Belay (R530 to R541) -/

/-- BELAY_TRIGGER (R531): MAIN_FAILn, or a BELAY_ENTER. -/
def execBelayTrigger (mainFail : Bool) (s : State) : Host.Outcome State Fault Refusal := fin (s.belayTrigger mainFail)

/-- MAIN_FAILN_RISE (R539). -/
def execMainFailnRise (s : State) : Host.Outcome State Fault Refusal := fin s.mainFailRise

/-- BELAY_CAPTURE (R532). -/
def execBelayCapture (s : State) : Host.Outcome State Fault Refusal := fin s.belayCapture

/-- BELAY_POWER_DOWN (R532, R533). -/
def execBelayPowerDown (s : State) : Host.Outcome State Fault Refusal := fin s.belayDown

/-- BELAY_WAKE (R536): master cycles since the latest wake, and the temperature when its reading is valid. -/
def execBelayWake (cnt : Nat) (temp : Option Int) (s : State) : Host.Outcome State Fault Refusal := fin (s.belayWake cnt temp)

/-- BELAY_OUTPUT_PULSE (R537). -/
def execBelayOutputPulse (m : Nat) (s : State) : Host.Outcome State Fault Refusal := fin (s.belayPulse m)

/-- BELAY_EXIT (R539, R540): master cycles from the latest wake to the restart edge. -/
def execBelayExit (cnt : Nat) (s : State) : Host.Outcome State Fault Refusal := fin (s.belayExit cnt)

/-! ## Mailboxes and CPs (R59, R60, R385, R401, R402) -/

/-- MBX_MESSAGE_TAKE (R401). -/
def execMbxMessageTake (c : Nat) (s : State) : Host.Outcome State Fault Refusal := fin (s.mbxTake c)

/-- RESPONSE_POST (R402). -/
def execResponsePost (c : Nat) (s : State) : Host.Outcome State Fault Refusal := fin (s.postHeld c)

/-- FORWARDED_REQUEST (R60). -/
def execForwardedRequest (d : Nat) (s : State) : Host.Outcome State Fault Refusal := fin (s.forwarded d)

/-- The periodic tasks of the CP of die `d`: the heartbeat, and on die 0 the firmware's clock, the event scan and the waits of
the commands on engines (R375, R385, R453, R457); an abort clean-up goes before them (R59). -/
def State.periodic (s : State) (d : Nat) : State :=
  if s.fitted d && decide ((s.dx d).mode = 2) && s.cpFree d && decide (s.belay.phase ≠ 2) then
    let s1 := s.modDx d fun x =>
      { x with heartbeat := (x.heartbeat + 1) % 65536, asleep := x.asleep.filter (· ≠ 0), age := { x.age with opMs := x.age.opMs + 1 } }
    if d = 0 then
      let s2 := (s1.modBoot fun b => { b with uptime := satInc b.uptime }).scanEvents
      s2.forEach (List.range s2.nDies) State.commitAge
    else s1
  else s

/-- CP_PERIODIC_TASK (R59). DESIGN CHOICE, safe: log entry 14. -/
def execCpPeriodicTask (d : Nat) (s : State) : Host.Outcome State Fault Refusal := fin (s.periodic d)

/-- CP_HALT (R385): the CP enters HALTED. -/
def execCpHalt (d : Nat) (s : State) : Host.Outcome State Fault Refusal :=
  fin (if s.fitted d then s.modDx d fun x => { x with mode := 3 } else s)

/-! ## Aborts (R406, R407) -/

/-- ABORT_REQUEST_ARRIVE (R406). -/
def execAbortRequestArrive (s : State) : Host.Outcome State Fault Refusal := fin s.abortArrive

/-- ABORT_CLEANUP_DONE (R406). -/
def execAbortCleanupDone (s : State) : Host.Outcome State Fault Refusal := fin s.abortClean

/-- ABORT_FORCE (R407). -/
def execAbortForce (s : State) : Host.Outcome State Fault Refusal := fin s.abortForced

/-- ABORT_COMPLETION (R406). -/
def execAbortCompletion (s : State) : Host.Outcome State Fault Refusal := fin s.abortComplete

/-- ABORT_UNCONFIRMED (R406). -/
def execAbortUnconfirmed (s : State) : Host.Outcome State Fault Refusal := fin s.abortUnconfirmed

/-! ## The store, the plan, the scrubber and sleep (R477, R502, R516, R529, R547) -/

/-- NV_PAGE_WRITE (R502 to R505): the supply levels in mV, and how the verify passes (0 at once, 1 after a second program,
2 on a spare, 3 not at all). The die holds the seeds of its store (R111). -/
def execNvPageWrite (d aonMv choldMv good : Nat) (s : State) : Host.Outcome State Fault Refusal :=
  let s1 := s.nvPage d aonMv choldMv good
  fin (if s.fitted d then s1.modDie d fun u => { u with seedRec := (s1.dx d).nv.seed } else s1)

/-- MARGIN_SCAN (R516). -/
def execMarginScan (d page : Nat) (weak : Bool) (s : State) : Host.Outcome State Fault Refusal := fin (s.marginScan d page weak)

/-- MARGIN_PLAN_EVAL (R547). -/
def execMarginPlanEval (d wear : Nat) (s : State) : Host.Outcome State Fault Refusal := fin (s.planEval d wear)

/-- CONFIG_SCRUB (R477): the words whose parity the scrubber of die `d` finds bad. -/
def execConfigScrub (d : Nat) (bad : List Nat) (s : State) : Host.Outcome State Fault Refusal := fin (s.scrub d bad)

/-- FABRIC_UNIT_SLEEP (R529). -/
def execFabricUnitSleep (d u : Nat) (s : State) : Host.Outcome State Fault Refusal := fin (s.unitSleep d u)

/-! ## The DMA engine (R484, R487) -/

/-- RING_RECORD_WRITE (R484). -/
def execRingRecordWrite (r : Nat) (s : State) : Host.Outcome State Fault Refusal := fin (s.recordWrite r)

/-- WRITEBACK_TIMER_EXPIRE (R487). -/
def execWritebackTimerExpire (r : Nat) (s : State) : Host.Outcome State Fault Refusal := fin (s.wbTimer r)

end Sys2Proof.Machine
end

