-- ==== Sys2Proof/Machine/EvtFabric.lean ====
section
/-! DEFINITION. The meanings of the events of the timebase, the oscillator ports, the shuttle links and the crossings
(chapters 01 and 09). -/

namespace Sys2Proof.Machine
open Sys2Proof

/-! ## Timebase and oscillator ports (R34, R35, R43, R45, R216, R231) -/

/-- TBPLL_LOCK (R35). -/
def execTbpllLock (d : Nat) (s : State) : Host.Outcome State Fault Refusal := fin (s.tbpllLock d)

/-- TIMEBASE_RESTART_END (R45). -/
def execTimebaseRestartEnd (s : State) : Host.Outcome State Fault Refusal := fin s.restartEnd

/-- PORT_ACTIVITY_LOSS (R216), in belay of the master oscillator R538. -/
def execPortActivityLoss (o : Nat) (s : State) : Host.Outcome State Fault Refusal := fin ((s.portLoss o).belayOscLoss o)

/-- PORT_START (R216). -/
def execPortStart (o : Nat) (s : State) : Host.Outcome State Fault Refusal := fin (s.portStart o)

/-- OSC_RETURN (R43, R231). -/
def execOscReturn (o : Nat) (s : State) : Host.Outcome State Fault Refusal := fin (s.oscReturn o)

/-! ## Links (R343 to R348) -/

/-- Port `l` of die `d` is in state `x`. -/
def State.linkIn (s : State) (d l : Nat) (x : LinkSt) : Bool := decide ((s.link d l).state = x) && (s.neighbour d l).isSome

/-- LINK_TRAIN_DONE (R346). -/
def execLinkTrainDone (d l : Nat) (s : State) : Host.Outcome State Fault Refusal :=
  fin (if s.linkIn d l .training then s.modLink d l fun p => { p with state := .align, exch := [], exchCnt := 0 } else s)

/-- LINK_TRAIN_TIMEOUT (R346): TRAIN_FAIL_H, and the next attempt follows after 10 ms. DESIGN CHOICE, safe: log entry 14. -/
def execLinkTrainTimeout (d l : Nat) (s : State) : Host.Outcome State Fault Refusal :=
  fin (if s.linkIn d l .training then (s.modLink d l fun p => { p with state := .down, retryWait := true }).shtHist d 1 else s)

/-- LINK_RETRAIN_RETRY (R346). -/
def execLinkRetrainRetry (d l : Nat) (s : State) : Host.Outcome State Fault Refusal :=
  fin (if s.linkIn d l .down && (s.link d l).retryWait then (s.modLink d l fun p => { p with retryWait := false }).trainStart d l else s)

/-- LINK_ALIGN_DONE (R344, R346). -/
def execLinkAlignDone (d l : Nat) (s : State) : Host.Outcome State Fault Refusal := fin (s.linkAligned d l)

/-- LINK_RESET_SIGNAL (R346, R347): a link fault, or a reset signal from the other side. -/
def execLinkResetSignal (d l : Nat) (s : State) : Host.Outcome State Fault Refusal := fin (s.linkLeaves d l)

/-- LANE_LOCK_LOSS (R346). -/
def execLaneLockLoss (d l : Nat) (s : State) : Host.Outcome State Fault Refusal := fin (s.linkLeaves d l)

/-- The other side of port `l` of die `d` can answer the pointer handshake: its link logic has left reset, and it is in RESYNC or UP
already (R347). -/
def State.peerAnswers (s : State) (d l : Nat) : Bool :=
  match s.neighbour d l with
  | some x => s.linkIn x (backPort l) .resync || s.linkIn x (backPort l) .up
  | none => false

/-- RESYNC_DONE (R346, R347): the handshake with the other side is complete. The link is UP again, RESYNC_H is set, the count goes up,
and what was not acknowledged is sent again. -/
def execResyncDone (d l : Nat) (s : State) : Host.Outcome State Fault Refusal :=
  fin (if s.linkIn d l .resync && s.peerAnswers d l then
    let n := satInc (s.die d).resyncCnt
    (s.modLink d l fun p => { p.resend with state := .up }).modDie d fun u =>
      { u with resyncCnt := n, shtHist := satFlag (setb u.shtHist 2) 7 n }
  else s)

/-- RESYNC_TIMEOUT (R346): the link goes to DOWN and trains anew. -/
def execResyncTimeout (d l : Nat) (s : State) : Host.Outcome State Fault Refusal :=
  fin (if s.linkIn d l .resync then (s.portDown d l).trainStart d l else s)

/-- REPARENT_RELOCK (R345). -/
def execReparentRelock (d : Nat) (s : State) : Host.Outcome State Fault Refusal := fin (s.reparentDone d)

/-- TWO_WAY_EXCHANGE (R343): the four timestamps in MTS units. DESIGN CHOICE, safe: log entry 14. -/
def execTwoWayExchange (d l t1 t2 t3 t4 : Nat) (s : State) : Host.Outcome State Fault Refusal := fin (s.exchange d l t1 t2 t3 t4)

/-- SKEW_UPDATE (R344). -/
def execSkewUpdate (d : Nat) (s : State) : Host.Outcome State Fault Refusal := fin (s.skewUpdate d)

/-- SHUTTLE_FRAME_RECEIVE (R54, R339): the frame in transmission on an UP link passes its CRC check and does its work, or is
discarded. -/
def execShuttleFrameReceive (d l : Nat) (ok : Bool) (f : Frame) (s : State) : Host.Outcome State Fault Refusal :=
  fin (if s.linkIn d l .up && s.frameNext d l f then
    let s1 := s.frameSent d l f
    if ok then (s1.frameAck d l f).frameWork d l f else s1.frameBad d l
  else s)

/-- FRAME_RETRANSMIT (R339). -/
def execFrameRetransmit (d l : Nat) (s : State) : Host.Outcome State Fault Refusal := fin (s.retransmit d l)

/-- SLOT_PLAN_ADOPT (R337). -/
def execSlotPlanAdopt (s : State) : Host.Outcome State Fault Refusal := fin s.adoptPlan

/-! ## Crossings (R350 to R352) -/

/-- CDC_VALUE_DELIVER (R350, R351): crossing `x` of die `d`, with the pulses and the values that came meanwhile. -/
def execCdcValueDeliver (d x pulses : Nat) (vals : List (BitVec 128)) (s : State) : Host.Outcome State Fault Refusal :=
  fin (if s.fitted d && decide (x < 256) then s.cdcDeliver d x pulses vals else s)

/-- PHASE_PREDICTOR_VALID (R352): crossing `x` of die `d` moves to its main path. -/
def execPhasePredictorValid (d x : Nat) (s : State) : Host.Outcome State Fault Refusal :=
  fin (if s.fitted d && decide (x < 256) then s.setCrossing (crossingOf d x) { s.crossing (crossingOf d x) with predictor := true } else s)

end Sys2Proof.Machine
end

