-- ==== Sys2Proof/Machine/EvtSignal.lean ====
section
/-! DEFINITION. The meanings of the events of the signal path: TDC channels, the update boundary and the decision tick,
monitors, DPLLs, oscillators and the cairn engine, OPLLs, outputs and time domains (chapters 02 to 08). The event says what the
environment decides; an event that cannot happen in the state at hand has no effect. -/

namespace Sys2Proof.Machine
open Sys2Proof

/-! ## TDC channels (R104 to R120) -/

/-- TDC_EDGE_CAPTURE (R104): an edge, given by its coarse count and whether it rises (R65). DESIGN CHOICE, safe: log entry 14. -/
def execTdcEdgeCapture (d c : Nat) (edge : Nat × Bool) (code0 code1 : Nat) (s : State) : Host.Outcome State Fault Refusal :=
  fin (if s.activeEdge d c edge.2 then s.edgeCapture d c edge.1 code0 code1 else s)

/-- A fill ends on the histograms of the two cores (R112, R116). -/
def State.fillEnd (s : State) (d c : Nat) (h0 h1 : List Nat) : State :=
  let n := 48 * d + c
  let ready := s.tb.tbEn && !s.tb.restart && decide (c < 48) && s.hasChan n && decide (h0.length = 1152) && decide (h1.length = 1152)
  if ready then
    let v := ((s.chan n).endFill h0 h1 (s.die d).seedRec.profile).begun (s.bgHits d)
    let s1 := s.setChan n v
    let s2 := if (s.chan n).filling && v.seedRej then s1.modDie d fun u => { u with calHist := setb u.calHist 9, seedRejAny := true } else s1
    s2.resumeOplls d
  else s

/-- TDC_FILL_END (R116). -/
def execTdcFillEnd (d c : Nat) (h0 h1 : List Nat) (s : State) : Host.Outcome State Fault Refusal := fin (s.fillEnd d c h0 h1)

/-- A background histogram of the calibrating core completes (R113): the candidate is accepted or rejected, and the die counts
it (R545). A die that BG_EN freezes goes on until its next boundary (R120). -/
def State.bgDone (s : State) (d c : Nat) (h : List Nat) : State :=
  let n := 48 * d + c
  let u := s.chan n
  let i := 1 - u.active
  let ready := s.tb.tbEn && !s.tb.restart && decide (c < 48) && s.hasChan n && !(s.die d).bgFrozen && u.cal.measures &&
    decide ((u.core i).role = .calibrating) && decide (h.length = 1152) && decide (2 ^ u.cyc.getD (s.bgHits d) ≤ sumN h)
  if ready then
    let v := (u.histogram i h).begun (s.bgHits d)
    let rejected := decide (v.calRejCnt ≠ u.calRejCnt) || decide (u.calRejCnt = 0xFFFFFFFF ∧ (v.core i).role ≠ .overlapNext)
    let s1 := (s.setChan n v).modDx d fun x => { x with age := x.age.candidate rejected }
    if v.retired i then s1.modDie d fun y => { y with calHist := setb y.calHist 8 } else s1
  else s

/-- BG_HISTOGRAM_DONE (R113). -/
def execBgHistogramDone (d c : Nat) (h : List Nat) (s : State) : Host.Outcome State Fault Refusal := fin (s.bgDone d c h)

/-- CORE_SWAP (R114); `pulses` sums the differences of the 256 pairing pulses. The edges that waited for the swap are measured by the
core that is now active (R115). -/
def execCoreSwap (d c : Nat) (pulses : Int) (s : State) : Host.Outcome State Fault Refusal :=
  fin (if decide (c < 48) && s.hasChan (48 * d + c) && !s.tb.restart && !(s.die d).bgFrozen then
    (s.modChan (48 * d + c) fun u => (u.swap pulses).begun (s.bgHits d)).takeAhead (48 * d + c) else s)

/-- A seed save of die `d` is due: 1 s after every channel has first reached CALIBRATED or SINGLE when no seed was present or one was
rejected, and every SEED_SAVE_H hours thereafter; with SEED_SAVE_H = 0 none is (R119, R134). DEDUCED, unsafe: log entry 27. -/
def State.seedDue (s : State) (d : Nat) : Bool :=
  let u := s.die d
  match u.reachedK with
  | none => false
  | some r =>
    let t := r + winPerSec
    decide (u.seedSaveH ≠ 0) && decide (t ≤ s.tb.k) && (!u.seedDone || decide (max t u.seedAt + u.seedSaveH * 3600 * winPerSec ≤ s.tb.k))

/-- SEED_SAVE (R119): firmware of a die in RUN writes the seed record when a save is due. -/
def execSeedSave (d : Nat) (s : State) : Host.Outcome State Fault Refusal :=
  fin (if s.dieUp d && decide ((s.dx d).mode = 2) && s.seedDue d then
    (s.saveSeed d none).modDie d fun u => { u with seedDone := true, seedAt := s.tb.k } else s)

/-! ## Boundary and tick (R30, R74, R87, R121, R187 to R193) -/

/-- UPDATE_BOUNDARY (R121). -/
def execUpdateBoundary (s : State) : Host.Outcome State Fault Refusal := fin s.boundary

/-- STALE_S has passed since the latest accepted offset of the domain of virtual input `n`, or since its latest enable when none has
been accepted since then (R91). -/
def State.staleNow (s : State) (n : Nat) : Bool :=
  let t := s.td (n - 192)
  let since := match t.lastAccK with | some k => k | none => t.enableK
  decide (192 ≤ n) && decide ((s.input n).mon.staleS ≠ 0) && decide (since + (s.input n).mon.staleS * winPerSec ≤ s.tb.k)

/-- The decision tick: qualification of every input, then selection of every DPLL (R74, R187). -/
def State.decisionTick (s : State) : State :=
  if s.running then
    let s1 := s.forEach s.allInputs fun t n => t.setInput n ((t.input n).tick (t.tb.k / winPerMs) (t.measValid n))
    if s1.belay.phase = 1 then s1 else s1.forEach (s1.all 8) fun t n => t.dpllTick n t.tb.k
  else s

/-- DECISION_TICK (R74). -/
def execDecisionTick (s : State) : Host.Outcome State Fault Refusal := fin s.decisionTick

/-- WTR_EXPIRE (R87): the wait-to-restore time has been served. DESIGN CHOICE, safe: log entry 14. -/
def execWtrExpire (n : Nat) (s : State) : Host.Outcome State Fault Refusal :=
  fin (let u := s.input n
    if s.hasInput n && decide (u.state = .qualifying) && u.causes.isEmpty && (u.endWtr || decide (u.wtrLeft = 0)) && !u.inGap (s.measValid n) then
      s.setInput n u.qualify else s)

/-- HOLDOFF_EXPIRE (R190). -/
def execHoldoffExpire (n : Nat) (s : State) : Host.Outcome State Fault Refusal :=
  fin (let u := s.dpll n
    if s.hasDpll n && decide (u.sel.holdoff ≠ 0) && decide (u.sel.holdoff ≤ s.tb.k) then
      s.setDpll n { u with sel := { u.sel with holdoff := 0 } } else s)

/-- SWITCH_EXECUTE (R193): the pending switch of DPLL `n` takes effect at the boundary S that ends the present window, on the estimates of
that boundary; the update of S then compares the new reference's words. UPDATE_BOUNDARY of S executes a switch that still pends.
DEDUCED, unsafe: log entry 26. -/
def execSwitchExecute (n : Nat) (s : State) : Host.Outcome State Fault Refusal :=
  fin (if s.hasDpll n && s.running && (s.dpll n).sel.pend.isSome then
    let k := s.tb.k + 1
    let c := (s.dpll n).sel.cands
    let s1 := s.modDpll n fun u => { u with sel := { u.sel with cands := s.selBoundary n k } }
    ((s1.setDpll n (s1.switchAt n k)).openEntry n).modDpll n fun u => { u with sel := { u.sel with cands := c } }
  else s)

/-! ## Monitors (R74 to R91) -/

/-- LOS_N half-periods can have passed in the open window since the last active edge of input `n` (R74). -/
def State.losDue (s : State) (n : Nat) : Bool :=
  match (s.chan (chanOfInput n)).last with
  | none => true
  | some l =>
    let p := s.chanPeriod (chanOfInput n) 0
    decide (((s.input n).mon.losN : Rat) * p ≤ 2 * ((wrapDiff extMod (extOf (s.tb.k + 1)) l : Int) : Rat))

/-- LOS_TIMEOUT (R74). DESIGN CHOICE, safe: log entry 14. DEDUCED, unsafe: log entry 52. -/
def execLosTimeout (n : Nat) (s : State) : Host.Outcome State Fault Refusal :=
  fin (if s.hasInput n && decide (n < 192) && !(s.input n).inGap (s.measValid n) && s.losDue n then s.modInput n InputUnit.losOn else s)

/-- LOS_CLEAR (R74): edges have arrived for as many consecutive periods as it takes. -/
def execLosClear (n : Nat) (s : State) : Host.Outcome State Fault Refusal :=
  fin (let u := s.input n
    if s.hasInput n && decide (n < 192) && !u.inGap (s.measValid n) && decide (u.losNeed ≤ u.edgeRun) then s.modInput n InputUnit.losOff else s)

/-- The nominal period of those cycles in 2^-16 ns: a domain counts in 2^-48 ns. -/
def State.gatePeriod (s : State) (n : Nat) : Rat := if n < 192 then (s.input n).decl.period else 1 / (2 ^ 32 : Nat)

/-- The latest word of input `n` can bound a gate or a second: it is valid, and an edge beyond the first has been indexed. -/
def State.gateWord (s : State) (n : Nat) : Bool :=
  if n < 192 then (s.chan (chanOfInput n)).word.valid && decide ((s.chan (chanOfInput n)).wordIdx ≠ 0) else s.measValid n

/-- FREQ_GATE_END (R76). DEDUCED, unsafe: log entry 24. -/
def execFreqGateEnd (n : Nat) (s : State) : Host.Outcome State Fault Refusal :=
  fin (if s.hasInput n && (s.input n).running && !(s.input n).los && s.gateWord n then
    s.modInput n fun u => u.gateEnd (s.gatePeriod n) (s.gatePoint n s.tb.k) s.tb.k else s)

/-- One second of the DRIFT monitor of input `n` (R77 to R79, R197, R198). While no new word with an edge has come, the sample waits for one
and spans the seconds since the last. DESIGN CHOICE, unsafe: log entry 54. -/
def State.driftEval (s : State) (n : Nat) : State :=
  let u := s.input n
  let now := s.gatePoint n s.tb.k
  if s.hasInput n && u.running && !u.los && s.gateWord n then
    match u.dm.opened with
    | none => s.setInput n { u with dm := { u.dm with opened := some now, openedK := s.tb.k } }
    | some a =>
      if decide (s.tb.k < u.dm.openedK + winPerSec) || decide (a = now) then s
      else
        let cairn := decide (u.mon.driftBasis = 0)
        let x := gateOffset (s.gatePeriod n) a now + (if cairn && s.cairn.valid then s.cairn.y else 0)
        let v := u.driftSample x (if cairn then !s.cairn.valid else u.dm.basisFb) u.dm.openedK
        let s1 := s.setInput n { v with dm := { v.dm with opened := some now, openedK := s.tb.k } }
        let t0 := (v.dm.samples.headD (s.tb.k, 0)).1
        (if v.drift && !u.drift then s1.forEach (s1.all 8) fun t k => t.setDpll k (t.driftExclude k n t0 s.tb.k) else s1).driftSync
  else s

/-- DRIFT_EVALUATION (R77). DEDUCED, unsafe: log entry 24. -/
def execDriftEvaluation (n : Nat) (s : State) : Host.Outcome State Fault Refusal := fin (s.driftEval n)

/-- STALE_TIMEOUT (R91): STALE_S seconds since the latest accepted offset, or since the domain's enable. -/
def execStaleTimeout (n : Nat) (s : State) : Host.Outcome State Fault Refusal :=
  fin (let u := s.input n
    if s.hasInput n && u.running && !u.inGap (s.measValid n) && s.staleNow n then
      s.setInput n { u with stale := true, hist := setb u.hist 7 } else s)

/-- STREAM_TIMEOUT (R90): 32 windows without a word of remote input `n` at DPLL `k`. -/
def execStreamTimeout (k n : Nat) (s : State) : Host.Outcome State Fault Refusal :=
  fin (if s.hasDpll k && decide (dieOfInput n ≠ dieOfDpll k) && s.dieUp (dieOfInput n) then
    s.modDpll k fun u => { u with sel := { u.sel with cands := u.sel.cands.map fun c =>
      if c.input = n ∧ 32 ≤ c.silent then { c with stream := true, rCause := 11 } else c } } else s)

/-- NOT_VALID_TIMEOUT (R86): measurements invalid for more than 10 ms, or never valid since enable. -/
def execNotValidTimeout (n : Nat) (s : State) : Host.Outcome State Fault Refusal :=
  fin (let u := s.input n
    if s.hasInput n && u.enable && !s.measValid n && (decide (320 < u.invalidRun) || !u.running) then
      s.setInput n (if u.state = .disqualified then InputUnit.evalDisq { u with notValid := true } else { u with notValid := true })
    else s)

/-! ## DPLLs (R48, R153, R156, R161, R232, R235) -/

/-- The measured alignment of every OPLL of DPLL `n` that has had none since it locked (R271). -/
def State.alignSet (s : State) (n : Nat) : State :=
  s.forEach ((List.range 4).map (· + 4 * dieOfDpll n)) fun t o =>
    if t.holds n o && decide ((t.opll o).state = .locked) && !(t.opll o).measured && !t.alignFull o then
      t.startAlign o (t.enabledOuts o) none else t

/-- LOCK_GATE_END (R156 to R158, R271). -/
def execLockGateEnd (n : Nat) (s : State) : Host.Outcome State Fault Refusal :=
  fin (let u := s.dpll n
    let f := s.streamFreq u.refStream
    if s.hasDpll n && u.enable && u.gate.running && !s.tb.restart && decide (u.gate.startK + 3200 * u.gateLenEval f ≤ s.tb.k) then
      let v := u.gateEval s.tb.k f (u.deltaAt s.tb.k (periodOf f) (periodOf (s.fbFreq n)))
      let s1 := s.setDpll n v
      if v.state = .locked ∧ !u.everLocked then s1.alignSet n else s1
    else s)

/-- MIRROR_LEADER_LOST (R48). -/
def execMirrorLeaderLost (n : Nat) (s : State) : Host.Outcome State Fault Refusal :=
  fin (let u := s.dpll n
    if s.hasDpll n && decide (u.cfg.role = 2) && u.enable && !s.tb.restart && decide (32 ≤ u.mirrorSilent) then
      (s.setDpll n (u.mirrorLoss s.tb.k)).openEntry n else s)

/-- FB_FAULT_TIMEOUT (R153): feedback words unusable for more than 10 ms; not while an alignment tap is measured (R270). -/
def execFbFaultTimeout (n : Nat) (s : State) : Host.Outcome State Fault Refusal :=
  fin (let u := s.dpll n
    if s.hasDpll n && u.enable && !u.fbFault && !s.tb.restart && !s.tapBusy n && decide (320 < u.fbBadRun) then (s.setDpll n (u.fbFaultRise s.tb.k)).openEntry n else s)

/-- FREERUN_WORD_REFRESH (R161). -/
def execFreerunWordRefresh (n : Nat) (s : State) : Host.Outcome State Fault Refusal :=
  fin (let u := s.dpll n
    let w := s.freeWordOf n
    if s.hasDpll n && u.enable then s.setDpll n { u with freeWord := w.1, frBasis := w.2 } else s)

/-- HOLDOVER_WORD_REFRESH (R235, R236): one more second of HOLDOVER. -/
def execHoldoverWordRefresh (n : Nat) (s : State) : Host.Outcome State Fault Refusal :=
  fin (let u := s.dpll n
    if s.hasDpll n && u.enable && decide (u.cfg.role = 1) && decide (u.state = .holdover) then
      s.setDpll n { u with ho := s.formHold n (min 0xFFFFFFFF (u.ho.holdS + 1)) true (s.fmOf n) } else s)

/-- HISTORY_SAMPLE (R232, R233): a tick of the history ends at the present boundary; what DPLL_SET_HOLDOVER has set outside HOLDOVER comes
into force (R242). -/
def execHistorySample (n : Nat) (s : State) : Host.Outcome State Fault Refusal :=
  fin (let u := s.dpll n
    if s.hasDpll n && u.enable && decide (u.cfg.role = 1) && decide (s.tb.k % tickWin u.ho.tick = 0) && decide (u.ho.accN ≠ 0) then
      let v := u.historySample s.tb.k (s.osc (s.portOfDpll n)).meterOk
      let v := if u.state = .holdover || v.ho.late then v else { v with ho := v.ho.take }
      s.setDpll n (v.refreshValid s.tb.k) else s)

/-! ## Oscillator ports and the cairn engine (R215 to R239) -/

/-- PORT_METER_SAMPLE (R215): the second's sample of port `o` in 2^-10 ppt; the package master's is 0 by construction. One that is not valid
spoils the history tick in progress of every DPLL that the port serves (R233). DESIGN CHOICE, safe: log entry 14. -/
def execPortMeterSample (o : Nat) (m : Int) (s : State) : Host.Outcome State Fault Refusal :=
  fin (if s.hasOsc o then
    (if (s.osc o).active && s.running && !s.tb.restart && !s.tb.oscLoss && s.dieUp (dieOfOsc o) then
      s.modOsc o fun u => { u with meter := lastN 16 (u.meter ++ [if o = s.masterPort then 0 else (m : Rat)]), meterOk := true }
    else (s.modOsc o fun u => { u with meterOk := false }).forEach (s.all 8) fun t n =>
      if t.portOfDpll n = o then t.modDpll n fun u => { u with ho := { u.ho with accOk := false } } else t)
  else s)

/-- THERMISTOR_READ (R217). DESIGN CHOICE, safe: log entry 14. -/
def execThermistorRead (o ohms : Nat) (s : State) : Host.Outcome State Fault Refusal :=
  fin (if s.hasOsc o then s.modOsc o fun u => u.reading (s.model o) ohms else s)

/-- CAIRN_SECOND (R226). -/
def execCairnSecond (s : State) : Host.Outcome State Fault Refusal := fin s.cairnSecond

/-- LEARNING_MEAN (R222). -/
def execLearningMean (o : Nat) (s : State) : Host.Outcome State Fault Refusal := fin (if s.hasOsc o then s.learningMean o else s)

/-- RESTORE_VERIFY (R225). -/
def execRestoreVerify (o : Nat) (s : State) : Host.Outcome State Fault Refusal := fin (if s.hasOsc o then s.restoreVerify o else s)

/-- MODEL_SAVE (R237). -/
def execModelSave (o : Nat) (s : State) : Host.Outcome State Fault Refusal := fin (if s.hasOsc o then s.modelSave o else s)

/-! ## OPLLs and outputs (R260 to R275) -/

/-- BAND_CAL of the die's OPLL `j` has found a band centre `x` ppm from its fused centre (R545). -/
def Age.noteDrift (a : Age) (j : Nat) (x : Int) : Age := { a with drifts := tset 0 a.drifts j x }

/-- OPLL_BAND_CAL_DONE (R263, R264): the band chosen, the guard it leaves in ppm, and the band's drift. -/
def execOpllBandCalDone (n band cover : Nat) (drift : Int) (s : State) : Host.Outcome State Fault Refusal :=
  fin (if s.hasOpll n && decide ((s.opll n).state = .bandCal) then
    (s.bandDone n band cover (s.dx (dieOfOpll n)).plan.band).modDx (dieOfOpll n) fun x => { x with age := x.age.noteDrift (n % 4) drift }
  else s)

/-- OPLL_GATE_END (R260). -/
def execOpllGateEnd (n count : Nat) (inGuard : Bool) (s : State) : Host.Outcome State Fault Refusal :=
  fin (if s.hasOpll n then s.opllGate n count inGuard else s)

/-- OPLL_CYCLE_SLIP (R261). -/
def execOpllCycleSlip (n : Nat) (s : State) : Host.Outcome State Fault Refusal :=
  fin (if s.hasOpll n && (decide ((s.opll n).state = .aligning) || decide ((s.opll n).state = .locked)) then s.opllFault n 2 1 true true
  else s)

/-- OPLL_LOCKING_TIMEOUT (R263). -/
def execOpllLockingTimeout (n : Nat) (s : State) : Host.Outcome State Fault Refusal :=
  fin (if s.hasOpll n && decide ((s.opll n).state = .locking) then s.modOpll n OpllUnit.relock else s)

/-- OPLL_FAULT_RETRY (R263). -/
def execOpllFaultRetry (n : Nat) (s : State) : Host.Outcome State Fault Refusal :=
  fin (if s.hasOpll n && decide ((s.opll n).state = .fault) && (s.osc (s.portOfOpll n)).active then s.modOpll n OpllUnit.relock else s)

/-- OPLL_ALIGN_SLOT (R270, R271): whether the slot's words were valid, and the correction they give. -/
def execOpllAlignSlot (n : Nat) (ok : Bool) (corr : Int) (s : State) : Host.Outcome State Fault Refusal :=
  fin (if s.hasOpll n then s.alignSlot n ok corr else s)

/-- OUTPUT_FIRST_EDGE (R273). -/
def execOutputFirstEdge (n : Nat) (s : State) : Host.Outcome State Fault Refusal := fin (if s.hasOut n then s.firstEdge n else s)

/-- OUTPUT_STOP_LEVEL (R275). -/
def execOutputStopLevel (n : Nat) (s : State) : Host.Outcome State Fault Refusal := fin (if s.hasOut n then s.stopLevel n else s)

/-! ## Time domains (R293, R302, R312) -/

/-- WHOLE_SECOND_CROSSING (R293): the crossing that the present window holds. -/
def execWholeSecondCrossing (t : Nat) (s : State) : Host.Outcome State Fault Refusal :=
  fin (if s.hasTd t && s.running && (s.td t).enable then s.crossAll t s.tb.k else s)

/-- TOD_MESSAGE_START (R312). -/
def execTodMessageStart (t : Nat) (s : State) : Host.Outcome State Fault Refusal := fin (if s.hasTd t then s.todMessage t else s)

/-- TD_HOLD_EXPIRE (R302). -/
def execTdHoldExpire (t : Nat) (s : State) : Host.Outcome State Fault Refusal :=
  fin (if s.hasTd t then s.modTd t fun u => u.holdExpire s.tb.k else s)

end Sys2Proof.Machine
end

