-- ==== Sys2Proof/Machine/Dispatch.lean ====
section
/-! DEFINITION. One arm per command: its meaning. -/

namespace Sys2Proof.Machine
open Sys2Proof

def exec (i : Instr) (s : State) : Host.Outcome State Fault Refusal :=
  match i with
  | .nop c => Sys2Proof.Machine.execNop c s
  | .getCaps c => Sys2Proof.Machine.execGetCaps c s
  | .getVersion c => Sys2Proof.Machine.execGetVersion c s
  | .reset c => Sys2Proof.Machine.execReset c s
  | .getAbortStatus c => Sys2Proof.Machine.execGetAbortStatus c s
  | .eventSubscribe c => Sys2Proof.Machine.execEventSubscribe c s
  | .eventRead c => Sys2Proof.Machine.execEventRead c s
  | .logGet c => Sys2Proof.Machine.execLogGet c s
  | .logClear c => Sys2Proof.Machine.execLogClear c s
  | .sessionOpen c => Sys2Proof.Machine.execSessionOpen c s
  | .sessionAuth c => Sys2Proof.Machine.execSessionAuth c s
  | .sessionClose c => Sys2Proof.Machine.execSessionClose c s
  | .portKeyProgram c => Sys2Proof.Machine.execPortKeyProgram c s
  | .channelPolicy c => Sys2Proof.Machine.execChannelPolicy c s
  | .tbSetMaster c => Sys2Proof.Machine.execTbSetMaster c s
  | .inputConfig c => Sys2Proof.Machine.execInputConfig c s
  | .inputSetMonitors c => Sys2Proof.Machine.execInputSetMonitors c s
  | .inputGetStatus c => Sys2Proof.Machine.execInputGetStatus c s
  | .inputClear c => Sys2Proof.Machine.execInputClear c s
  | .tdcGetPicot c => Sys2Proof.Machine.execTdcGetPicot c s
  | .tdcSaveSeed c => Sys2Proof.Machine.execTdcSaveSeed c s
  | .tdcCoreReset c => Sys2Proof.Machine.execTdcCoreReset c s
  | .dpllConfig c => Sys2Proof.Machine.execDpllConfig c s
  | .dpllSetLoop c => Sys2Proof.Machine.execDpllSetLoop c s
  | .dpllGetLoop c => Sys2Proof.Machine.execDpllGetLoop c s
  | .dpllSetSteer c => Sys2Proof.Machine.execDpllSetSteer c s
  | .dpllPhaseAdjust c => Sys2Proof.Machine.execDpllPhaseAdjust c s
  | .dpllGetStatus c => Sys2Proof.Machine.execDpllGetStatus c s
  | .dpllGetCandidates c => Sys2Proof.Machine.execDpllGetCandidates c s
  | .dpllSetCandidates c => Sys2Proof.Machine.execDpllSetCandidates c s
  | .dpllSetSelection c => Sys2Proof.Machine.execDpllSetSelection c s
  | .dpllGetSwitchLog c => Sys2Proof.Machine.execDpllGetSwitchLog c s
  | .cairnSetMember c => Sys2Proof.Machine.execCairnSetMember c s
  | .cairnSetConfig c => Sys2Proof.Machine.execCairnSetConfig c s
  | .cairnGetModel c => Sys2Proof.Machine.execCairnGetModel c s
  | .cairnSave c => Sys2Proof.Machine.execCairnSave c s
  | .cairnForget c => Sys2Proof.Machine.execCairnForget c s
  | .dpllSetHoldover c => Sys2Proof.Machine.execDpllSetHoldover c s
  | .dpllGetHoldover c => Sys2Proof.Machine.execDpllGetHoldover c s
  | .opllConfig c => Sys2Proof.Machine.execOpllConfig c s
  | .opllSetFreq c => Sys2Proof.Machine.execOpllSetFreq c s
  | .opllAlign c => Sys2Proof.Machine.execOpllAlign c s
  | .outputConfig c => Sys2Proof.Machine.execOutputConfig c s
  | .outputRun c => Sys2Proof.Machine.execOutputRun c s
  | .tdConfig c => Sys2Proof.Machine.execTdConfig c s
  | .tdGetConfig c => Sys2Proof.Machine.execTdGetConfig c s
  | .tdSetTime c => Sys2Proof.Machine.execTdSetTime c s
  | .tdGetTime c => Sys2Proof.Machine.execTdGetTime c s
  | .tdSetTod c => Sys2Proof.Machine.execTdSetTod c s
  | .stitchLoad c => Sys2Proof.Machine.execStitchLoad c s
  | .stitchCommit c => Sys2Proof.Machine.execStitchCommit c s
  | .stitchDefault c => Sys2Proof.Machine.execStitchDefault c s
  | .stitchRun c => Sys2Proof.Machine.execStitchRun c s
  | .bootLoad c => Sys2Proof.Machine.execBootLoad c s
  | .bootStart c => Sys2Proof.Machine.execBootStart c s
  | .fwFlash c => Sys2Proof.Machine.execFwFlash c s
  | .bootConfirm c => Sys2Proof.Machine.execBootConfirm c s
  | .bootProfileSet c => Sys2Proof.Machine.execBootProfileSet c s
  | .dmaRingConfig c => Sys2Proof.Machine.execDmaRingConfig c s
  | .dmaGetStatus c => Sys2Proof.Machine.execDmaGetStatus c s
  | .irqRoute c => Sys2Proof.Machine.execIrqRoute c s
  | .nvRead c => Sys2Proof.Machine.execNvRead c s
  | .nvWrite c => Sys2Proof.Machine.execNvWrite c s
  | .nvLogin c => Sys2Proof.Machine.execNvLogin c s
  | .nvSetPassword c => Sys2Proof.Machine.execNvSetPassword c s
  | .nvGetStatus c => Sys2Proof.Machine.execNvGetStatus c s
  | .belayConfig c => Sys2Proof.Machine.execBelayConfig c s
  | .belayEnter c => Sys2Proof.Machine.execBelayEnter c s
  | .powerGetStatus c => Sys2Proof.Machine.execPowerGetStatus c s
  | .marginGetPlan c => Sys2Proof.Machine.execMarginGetPlan c s
  | .ageingGetStatus c => Sys2Proof.Machine.execAgeingGetStatus c s
  | .halt e => Sys2Proof.Machine.execHalt e s
  | .waitEvent e => Sys2Proof.Machine.execWaitEvent e s
  | .waitTime e => Sys2Proof.Machine.execWaitTime e s
  | .setField e => Sys2Proof.Machine.execSetField e s
  | .clrField e => Sys2Proof.Machine.execClrField e s
  | .read e => Sys2Proof.Machine.execRead e s
  | .cmp e => Sys2Proof.Machine.execCmp e s
  | .branch e => Sys2Proof.Machine.execBranch e s
  | .add e => Sys2Proof.Machine.execAdd e s
  | .loop e => Sys2Proof.Machine.execLoop e s
  | .emit e => Sys2Proof.Machine.execEmit e s
  | .tbEnSet p w => Sys2Proof.Machine.execTbEnSet p w s
  | .tbEnClear p w => Sys2Proof.Machine.execTbEnClear p w s
  | .tbConfigWrite p w => Sys2Proof.Machine.execTbConfigWrite p w s
  | .inputEnable p n => Sys2Proof.Machine.execInputEnable p n s
  | .inputDisable p n => Sys2Proof.Machine.execInputDisable p n s
  | .forceDisqWrite p n b => Sys2Proof.Machine.execForceDisqWrite p n b s
  | .rankPriorityWrite p n rank prio => Sys2Proof.Machine.execRankPriorityWrite p n rank prio s
  | .dpllEnable p n => Sys2Proof.Machine.execDpllEnable p n s
  | .dpllDisable p n => Sys2Proof.Machine.execDpllDisable p n s
  | .forceFreerun p n => Sys2Proof.Machine.execForceFreerun p n s
  | .forceHoldover p n => Sys2Proof.Machine.execForceHoldover p n s
  | .forceAutomatic p n => Sys2Proof.Machine.execForceAutomatic p n s
  | .selRetblkClear p n w => Sys2Proof.Machine.execSelRetblkClear p n w s
  | .selHookVerdictWrite p n w => Sys2Proof.Machine.execSelHookVerdictWrite p n w s
  | .opllEnable p n => Sys2Proof.Machine.execOpllEnable p n s
  | .opllDisable p n => Sys2Proof.Machine.execOpllDisable p n s
  | .outputEnable p n => Sys2Proof.Machine.execOutputEnable p n s
  | .outputDisable p n => Sys2Proof.Machine.execOutputDisable p n s
  | .outRunStart p n => Sys2Proof.Machine.execOutRunStart p n s
  | .outRunStop p n => Sys2Proof.Machine.execOutRunStop p n s
  | .outPhaseWrite p n r w => Sys2Proof.Machine.execOutPhaseWrite p n r w s
  | .tdEnable p n => Sys2Proof.Machine.execTdEnable p n s
  | .tdDisable p n => Sys2Proof.Machine.execTdDisable p n s
  | .tdOfsCommit p n => Sys2Proof.Machine.execTdOfsCommit p n s
  | .evConfigWrite p n r w => Sys2Proof.Machine.execEvConfigWrite p n r w s
  | .stitchEnableWrite p n b => Sys2Proof.Machine.execStitchEnableWrite p n b s
  | .stitchSignal p n => Sys2Proof.Machine.execStitchSignal p n s
  | .mbxH2cDoorbell p c => Sys2Proof.Machine.execMbxH2cDoorbell p c s
  | .mbxC2hClear p c => Sys2Proof.Machine.execMbxC2hClear p c s
  | .h2cBufWrite p c k w => Sys2Proof.Machine.execH2cBufWrite p c k w s
  | .abortReqWrite p w => Sys2Proof.Machine.execAbortReqWrite p w s
  | .semReadAcquire p n => Sys2Proof.Machine.execSemReadAcquire p n s
  | .semRelease p n => Sys2Proof.Machine.execSemRelease p n s
  | .semHeldRelease p r w => Sys2Proof.Machine.execSemHeldRelease p r w s
  | .irqVecAckWrite p w => Sys2Proof.Machine.execIrqVecAckWrite p w s
  | .indDataAccess p write w => Sys2Proof.Machine.execIndDataAccess p write w s
  | .ringRdPtrWrite p r w => Sys2Proof.Machine.execRingRdPtrWrite p r w s
  | .bgEnWrite p d b => Sys2Proof.Machine.execBgEnWrite p d b s
  | .aliasWrite p a w => Sys2Proof.Machine.execAliasWrite p a w s
  | .satCounterClear p a w => Sys2Proof.Machine.execSatCounterClear p a w s
  | .registerWrite p a w => Sys2Proof.Machine.execRegisterWrite p a w s
  | .spiStatus => Sys2Proof.Machine.execSpiStatus s
  | .spiCsRise => Sys2Proof.Machine.execSpiCsRise s
  | .lateAccess p => Sys2Proof.Machine.execLateAccess p s
  | .remoteAccessComplete p => Sys2Proof.Machine.execRemoteAccessComplete p s
  | .slowWriteDrain => Sys2Proof.Machine.execSlowWriteDrain s
  | .pcieLinkLoss k => Sys2Proof.Machine.execPcieLinkLoss k s
  | .powerOnReset cut => Sys2Proof.Machine.execPowerOnReset cut s
  | .resetn => Sys2Proof.Machine.execResetn s
  | .resetDelayExpire => Sys2Proof.Machine.execResetDelayExpire s
  | .belayTrigger mainFail => Sys2Proof.Machine.execBelayTrigger mainFail s
  | .belayCapture => Sys2Proof.Machine.execBelayCapture s
  | .belayPowerDown => Sys2Proof.Machine.execBelayPowerDown s
  | .belayWake cnt temp => Sys2Proof.Machine.execBelayWake cnt temp s
  | .belayOutputPulse m => Sys2Proof.Machine.execBelayOutputPulse m s
  | .belayExit cnt => Sys2Proof.Machine.execBelayExit cnt s
  | .syspllLock d => Sys2Proof.Machine.execSyspllLock d s
  | .bootRomStart strap => Sys2Proof.Machine.execBootRomStart strap s
  | .unitImageStreamed => Sys2Proof.Machine.execUnitImageStreamed s
  | .followerImageStart d => Sys2Proof.Machine.execFollowerImageStart d s
  | .leadImageStart => Sys2Proof.Machine.execLeadImageStart s
  | .mailboxOpen => Sys2Proof.Machine.execMailboxOpen s
  | .tbpllLock d => Sys2Proof.Machine.execTbpllLock d s
  | .timebaseRestartEnd => Sys2Proof.Machine.execTimebaseRestartEnd s
  | .portActivityLoss o => Sys2Proof.Machine.execPortActivityLoss o s
  | .portStart o => Sys2Proof.Machine.execPortStart o s
  | .linkTrainDone d l => Sys2Proof.Machine.execLinkTrainDone d l s
  | .linkTrainTimeout d l => Sys2Proof.Machine.execLinkTrainTimeout d l s
  | .linkRetrainRetry d l => Sys2Proof.Machine.execLinkRetrainRetry d l s
  | .linkAlignDone d l => Sys2Proof.Machine.execLinkAlignDone d l s
  | .linkResetSignal d l => Sys2Proof.Machine.execLinkResetSignal d l s
  | .laneLockLoss d l => Sys2Proof.Machine.execLaneLockLoss d l s
  | .resyncDone d l => Sys2Proof.Machine.execResyncDone d l s
  | .resyncTimeout d l => Sys2Proof.Machine.execResyncTimeout d l s
  | .reparentRelock d => Sys2Proof.Machine.execReparentRelock d s
  | .twoWayExchange d l t1 t2 t3 t4 => Sys2Proof.Machine.execTwoWayExchange d l t1 t2 t3 t4 s
  | .skewUpdate d => Sys2Proof.Machine.execSkewUpdate d s
  | .shuttleFrameReceive d l ok f => Sys2Proof.Machine.execShuttleFrameReceive d l ok f s
  | .frameRetransmit d l => Sys2Proof.Machine.execFrameRetransmit d l s
  | .slotPlanAdopt => Sys2Proof.Machine.execSlotPlanAdopt s
  | .cdcValueDeliver d x pulses vals => Sys2Proof.Machine.execCdcValueDeliver d x pulses vals s
  | .tdcEdgeCapture d c edge code0 code1 => Sys2Proof.Machine.execTdcEdgeCapture d c edge code0 code1 s
  | .tdcFillEnd d c h0 h1 => Sys2Proof.Machine.execTdcFillEnd d c h0 h1 s
  | .bgHistogramDone d c h => Sys2Proof.Machine.execBgHistogramDone d c h s
  | .coreSwap d c pulses => Sys2Proof.Machine.execCoreSwap d c pulses s
  | .seedSave d => Sys2Proof.Machine.execSeedSave d s
  | .updateBoundary => Sys2Proof.Machine.execUpdateBoundary s
  | .decisionTick => Sys2Proof.Machine.execDecisionTick s
  | .wtrExpire n => Sys2Proof.Machine.execWtrExpire n s
  | .holdoffExpire n => Sys2Proof.Machine.execHoldoffExpire n s
  | .switchExecute n => Sys2Proof.Machine.execSwitchExecute n s
  | .losTimeout n => Sys2Proof.Machine.execLosTimeout n s
  | .losClear n => Sys2Proof.Machine.execLosClear n s
  | .freqGateEnd n => Sys2Proof.Machine.execFreqGateEnd n s
  | .driftEvaluation n => Sys2Proof.Machine.execDriftEvaluation n s
  | .staleTimeout n => Sys2Proof.Machine.execStaleTimeout n s
  | .streamTimeout k n => Sys2Proof.Machine.execStreamTimeout k n s
  | .notValidTimeout n => Sys2Proof.Machine.execNotValidTimeout n s
  | .lockGateEnd n => Sys2Proof.Machine.execLockGateEnd n s
  | .mirrorLeaderLost n => Sys2Proof.Machine.execMirrorLeaderLost n s
  | .fbFaultTimeout n => Sys2Proof.Machine.execFbFaultTimeout n s
  | .freerunWordRefresh n => Sys2Proof.Machine.execFreerunWordRefresh n s
  | .holdoverWordRefresh n => Sys2Proof.Machine.execHoldoverWordRefresh n s
  | .historySample n => Sys2Proof.Machine.execHistorySample n s
  | .portMeterSample o m => Sys2Proof.Machine.execPortMeterSample o m s
  | .thermistorRead o ohms => Sys2Proof.Machine.execThermistorRead o ohms s
  | .cairnSecond => Sys2Proof.Machine.execCairnSecond s
  | .learningMean o => Sys2Proof.Machine.execLearningMean o s
  | .restoreVerify o => Sys2Proof.Machine.execRestoreVerify o s
  | .modelSave o => Sys2Proof.Machine.execModelSave o s
  | .opllBandCalDone n band cover drift => Sys2Proof.Machine.execOpllBandCalDone n band cover drift s
  | .opllGateEnd n count inGuard => Sys2Proof.Machine.execOpllGateEnd n count inGuard s
  | .opllCycleSlip n => Sys2Proof.Machine.execOpllCycleSlip n s
  | .opllLockingTimeout n => Sys2Proof.Machine.execOpllLockingTimeout n s
  | .opllFaultRetry n => Sys2Proof.Machine.execOpllFaultRetry n s
  | .opllAlignSlot n ok corr => Sys2Proof.Machine.execOpllAlignSlot n ok corr s
  | .outputFirstEdge n => Sys2Proof.Machine.execOutputFirstEdge n s
  | .outputStopLevel n => Sys2Proof.Machine.execOutputStopLevel n s
  | .wholeSecondCrossing t => Sys2Proof.Machine.execWholeSecondCrossing t s
  | .todMessageStart t => Sys2Proof.Machine.execTodMessageStart t s
  | .tdHoldExpire t => Sys2Proof.Machine.execTdHoldExpire t s
  | .stitchInvoke e => Sys2Proof.Machine.execStitchInvoke e s
  | .stitchWaitResume e => Sys2Proof.Machine.execStitchWaitResume e s
  | .stitchOverrun e => Sys2Proof.Machine.execStitchOverrun e s
  | .stitchUnitWrite e => Sys2Proof.Machine.execStitchUnitWrite e s
  | .mbxMessageTake c => Sys2Proof.Machine.execMbxMessageTake c s
  | .responsePost c => Sys2Proof.Machine.execResponsePost c s
  | .forwardedRequest d => Sys2Proof.Machine.execForwardedRequest d s
  | .cpPeriodicTask d => Sys2Proof.Machine.execCpPeriodicTask d s
  | .cpHalt d => Sys2Proof.Machine.execCpHalt d s
  | .flashOperationDone ok => Sys2Proof.Machine.execFlashOperationDone ok s
  | .abortRequestArrive => Sys2Proof.Machine.execAbortRequestArrive s
  | .abortCleanupDone => Sys2Proof.Machine.execAbortCleanupDone s
  | .abortForce => Sys2Proof.Machine.execAbortForce s
  | .abortCompletion => Sys2Proof.Machine.execAbortCompletion s
  | .abortUnconfirmed => Sys2Proof.Machine.execAbortUnconfirmed s
  | .nvPageWrite d aonMv choldMv good => Sys2Proof.Machine.execNvPageWrite d aonMv choldMv good s
  | .marginScan d page weak => Sys2Proof.Machine.execMarginScan d page weak s
  | .marginPlanEval d wear => Sys2Proof.Machine.execMarginPlanEval d wear s
  | .configScrub d bad => Sys2Proof.Machine.execConfigScrub d bad s
  | .fabricUnitSleep d u => Sys2Proof.Machine.execFabricUnitSleep d u s
  | .ringRecordWrite r => Sys2Proof.Machine.execRingRecordWrite r s
  | .writebackTimerExpire r => Sys2Proof.Machine.execWritebackTimerExpire r s
  | .oscReturn o => Sys2Proof.Machine.execOscReturn o s
  | .mainFailnRise => Sys2Proof.Machine.execMainFailnRise s
  | .i2cStop => Sys2Proof.Machine.execI2cStop s
  | .pcieLinkUp => Sys2Proof.Machine.execPcieLinkUp s
  | .pcieConfigWrite bme msix mask => Sys2Proof.Machine.execPcieConfigWrite bme msix mask s
  | .phasePredictorValid d x => Sys2Proof.Machine.execPhasePredictorValid d x s

end Sys2Proof.Machine
end

