-- ==== Sys2Proof/Machine/Step.lean ====
section
/-! DEFINITION. One step: the command at the front of the queue is taken and executed with the rest of the queue. -/

namespace Sys2Proof.Machine
open Sys2Proof

/-- One step. On an empty queue the block idles: time passes by commands alone.
DESIGN CHOICE, safe: log entry 1. DESIGN CHOICE, unsafe: log entry 46. -/
def step (s : State) : Host.Outcome State Fault Refusal :=
  match s.pending with
  | [] => .next s
  | c :: q => exec c { s with pending := q }

/-- `s` with the command that a word spells put at the front of its queue; `s` itself where it spells none.
DESIGN CHOICE, safe: log entry 2. -/
def State.withFetchWord (s : State) (nbits w : Nat) : State :=
  match decodeTableWord nbits w with
  | some c => { s with pending := c :: s.pending }
  | none => s

end Sys2Proof.Machine
end

