-- ==== Sys2Proof/Safety.lean ====
section
/-! DEFINITION. The vocabulary of the statements: what holds in every state a run reaches, when a channel's command can execute,
and the state in which a command has been answered. -/

namespace Sys2Proof.Machine
open Sys2Proof

/-- The invariant of the block. The flash is in its canonical form; the timebase runs only on a declared oscillator (R42);
the part has at most eight dies (R1). -/
abbrev State.Inv (s : State) : Prop :=
  tcanon 0xFF none s.host.flash = true ∧ (s.tb.tbEn = true → oscBad s.tb.oscFreq = false) ∧ s.part.diesLog2 ≤ 3

/-- A CP serves channel `c` next: the lead CP runs and no abort's clean-up holds it, and a follower that has taken the channel's request
has no earlier one to serve (R59, R60, R404). -/
abbrev State.Serves (s : State) (c : Nat) : Prop := s.leadLive = true ∧ s.cpFree 0 = true ∧ s.behind c = false

/-- Mailbox channel `c` holds `m`, an accepted command with opcode `op` that can execute now: it has not begun, no follower still has
to take it, the channel is not read-only, and its CP serves it next (R401, R404, R451). -/
abbrev State.Ready (s : State) (c op : Nat) (m : Msg) : Prop :=
  (s.mbx c).msg = some m ∧ m.op = op ∧ m.held = false ∧ m.fwd = none ∧ m.ro = false ∧ s.Serves c

/-- The command `m` of channel `c`, whose effect leaves `t`, is answered with `ret` and the response bytes `b`: the message ends, and the
response goes out or waits for C2H_FULL (R401, R402). -/
def State.answered (t : State) (c : Nat) (m : Msg) (ret : Nat) (b : List Byte) : State :=
  ((t.modMbx c fun x => { x with msg := none }).respond c ret m.op m.seq b).after

/-- The accepted command `m`, whose effect leaves `t`: OWNER is noted (R457) and the parity of the configuration words it writes is right
again (R477). -/
def State.noted (t : State) (c : Nat) (m : Msg) : State := (t.blame c m.op m.payload).fixCmd m.op m.payload

/-- An accepted command acknowledges with RET_OK and the response bytes `b`. -/
def State.acked (t : State) (c : Nat) (m : Msg) (b : List Byte) : State := (t.noted c m).answered c m retOK b

/-- An accepted command that acknowledges later: its message is held. -/
def State.waits (t : State) (c : Nat) (m : Msg) : State := ((t.noted c m).modMbx c fun x => { x with msg := some { m with held := true } }).after

/-- A register write at offset `off` of die `d`, whose effect leaves `t`: the parity of the word is right again (R477). -/
def State.written (t : State) (d off : Nat) : State := (t.fixPar d off).after

/-- A command of stitch engine `e` whose effect leaves `t`: a commit that waits for the idle engine is tried (R375). -/
def State.ran (t : State) (e : Nat) : State := (t.commitPoll e).after

/-- The mailbox channel and the opcode of a Unest command (R439 to R441); none for every other command of the block. -/
def opcodeOf : Instr → Option (Nat × Nat)
  | .nop c => some (c, 0x0001) | .getCaps c => some (c, 0x0002) | .getVersion c => some (c, 0x0003)
  | .reset c => some (c, 0x0004) | .getAbortStatus c => some (c, 0x0005) | .eventSubscribe c => some (c, 0x0006)
  | .eventRead c => some (c, 0x0007) | .logGet c => some (c, 0x0008) | .logClear c => some (c, 0x0009)
  | .sessionOpen c => some (c, 0x000A) | .sessionAuth c => some (c, 0x000B) | .sessionClose c => some (c, 0x000C)
  | .portKeyProgram c => some (c, 0x000D) | .channelPolicy c => some (c, 0x000E) | .tbSetMaster c => some (c, 0x0101)
  | .inputConfig c => some (c, 0x0201) | .inputSetMonitors c => some (c, 0x0202) | .inputGetStatus c => some (c, 0x0203)
  | .inputClear c => some (c, 0x0204) | .tdcGetPicot c => some (c, 0x0301) | .tdcSaveSeed c => some (c, 0x0302)
  | .tdcCoreReset c => some (c, 0x0303) | .dpllConfig c => some (c, 0x0401) | .dpllSetLoop c => some (c, 0x0402)
  | .dpllGetLoop c => some (c, 0x0403) | .dpllSetSteer c => some (c, 0x0404) | .dpllPhaseAdjust c => some (c, 0x0405)
  | .dpllGetStatus c => some (c, 0x0406) | .dpllGetCandidates c => some (c, 0x0407) | .dpllSetCandidates c => some (c, 0x0501)
  | .dpllSetSelection c => some (c, 0x0502) | .dpllGetSwitchLog c => some (c, 0x0503) | .cairnSetMember c => some (c, 0x0601)
  | .cairnSetConfig c => some (c, 0x0602) | .cairnGetModel c => some (c, 0x0603) | .cairnSave c => some (c, 0x0604)
  | .cairnForget c => some (c, 0x0605) | .dpllSetHoldover c => some (c, 0x0606) | .dpllGetHoldover c => some (c, 0x0607)
  | .opllConfig c => some (c, 0x0701) | .opllSetFreq c => some (c, 0x0702) | .opllAlign c => some (c, 0x0703)
  | .outputConfig c => some (c, 0x0704) | .outputRun c => some (c, 0x0705) | .tdConfig c => some (c, 0x0801)
  | .tdGetConfig c => some (c, 0x0802) | .tdSetTime c => some (c, 0x0803) | .tdGetTime c => some (c, 0x0804)
  | .tdSetTod c => some (c, 0x0805) | .stitchLoad c => some (c, 0x0901) | .stitchCommit c => some (c, 0x0902)
  | .stitchDefault c => some (c, 0x0903) | .stitchRun c => some (c, 0x0904) | .bootLoad c => some (c, 0x0A01)
  | .bootStart c => some (c, 0x0A02) | .fwFlash c => some (c, 0x0A03) | .bootConfirm c => some (c, 0x0A04)
  | .bootProfileSet c => some (c, 0x0A05) | .dmaRingConfig c => some (c, 0x0B01) | .dmaGetStatus c => some (c, 0x0B02)
  | .irqRoute c => some (c, 0x0B03) | .nvRead c => some (c, 0x0C01) | .nvWrite c => some (c, 0x0C02)
  | .nvLogin c => some (c, 0x0C03) | .nvSetPassword c => some (c, 0x0C04) | .nvGetStatus c => some (c, 0x0C05)
  | .belayConfig c => some (c, 0x0D01) | .belayEnter c => some (c, 0x0D02) | .powerGetStatus c => some (c, 0x0D03)
  | .marginGetPlan c => some (c, 0x0D04) | .ageingGetStatus c => some (c, 0x0D05)
  | _ => none

/-- Channel `c` holds an accepted message with opcode `op` that its CP can execute now (R59, R401, R404). -/
def State.Takes (s : State) (c op : Nat) : Prop :=
  ∃ m, (s.mbx c).msg = some m ∧ m.op = op ∧ m.held = false ∧ m.fwd = none ∧ s.Serves c

/-- The commands of kind C in the opcode index (R440), which a read-only channel refuses (R451). -/
def changes (op : Nat) : Bool := match opOf op with | some r => r.change | none => false

end Sys2Proof.Machine
end

