-- ==== Sys2Proof/Certificates/Slice0/Obligations.lean ====
section
/-! DEFINITION. The statements for the provers. -/

open Sys2Proof Sys2Proof.Machine

/-- The housekeeping commands answer RET_OK with what the state holds, under the conditions that keep them from an error (R442 to R446,
R451, R454, R455, R458, R459). A new subscription mask and a new read-only mask come into force once the response has gone out. -/
def Obligations.HousekeepingCommandsComplete : Prop :=
  ∀ (s : State) (c : Nat) (m : Msg),
    let p := m.payload
    (s.Ready c 0x0001 m → exec (.nop c) s = .next (s.acked c m p)) ∧
    (s.Ready c 0x0002 m → exec (.getCaps c) s = .next (s.acked c m s.capsBytes)) ∧
    (s.Ready c 0x0003 m → exec (.getVersion c) s = .next (s.acked c m s.versionBytes)) ∧
    (s.Ready c 0x0004 m → c < 4 → uAt p 0 1 = 0 → uAt p 1 1 = 0 → 1 ≤ uAt p 2 2 → uAt p 2 2 ≤ 1000 →
      exec (.reset c) s = .next ((s.modHost fun h =>
        { h with resetReq := insReset (0, h.boot.uptime + uAt p 2 2, c, s.ownerOf c) h.resetReq }).acked c m [])) ∧
    (s.Ready c 0x0004 m → c < 4 → uAt p 0 1 = 1 → 1 ≤ uAt p 1 1 → uAt p 1 1 < 8 → s.fitted (uAt p 1 1) = true →
      (s.dieUp (uAt p 1 1) = true ∨ (s.dx (uAt p 1 1)).bootedOnce = true) → 1 ≤ uAt p 2 2 → uAt p 2 2 ≤ 1000 →
      exec (.reset c) s = .next ((s.modHost fun h =>
        { h with resetReq := insReset (uAt p 1 1, h.boot.uptime + uAt p 2 2, c, s.ownerOf c) h.resetReq }).acked c m [])) ∧
    (s.Ready c 0x0005 m → uAt p 0 4 = 0 → s.host.boot.rom = false →
      exec (.getAbortStatus c) s = .next (s.acked c m (leBytes 1 s.host.abort.result ++ leBytes 1 s.host.abort.log.length ++
        leBytes 2 s.host.abort.func ++ leBytes 4 s.host.abort.total ++ s.host.abort.log.flatMap AbortLog.bytes))) ∧
    (s.Ready c 0x0006 m → (uAt p 0 2).testBit 0 = false → (uAt p 0 2).testBit 15 = false → uAt p 2 1 ≤ 1 → uAt p 3 1 = 0 →
      exec (.eventSubscribe c) s = .next ((s.modMbx c fun x =>
        { x with maskDue := some (uAt p 0 2), queue := if uAt p 2 1 = 1 then [] else x.queue,
                 lost := if uAt p 2 1 = 1 then 0 else x.lost }).acked c m (leBytes 2 (uAt p 0 2 + 32768) ++ zeros 2))) ∧
    (s.Ready c 0x0007 m → 1 ≤ uAt p 0 1 → uAt p 0 1 ≤ 15 → uAt p 1 3 = 0 →
      let n := uAt p 0 1
      let q := (s.mbx c).queue
      exec (.eventRead c) s = .next ((s.modMbx c fun x => { x with queue := q.drop n, lost := 0 }).acked c m
        (leBytes 1 (q.take n).length ++ leBytes 1 (q.drop n).length ++ leBytes 2 (s.mbx c).lost ++ zeros 4 ++
          (q.take n).flatMap EventEntry.bytes))) ∧
    (s.Ready c 0x0008 m → uAt p 0 1 ≤ 1 → uAt p 1 1 ≤ 4 → 1 ≤ uAt p 2 1 → uAt p 2 1 ≤ 7 → uAt p 3 1 = 0 →
      ∃ b, exec (.logGet c) s = .next (s.acked c m b) ∧ b.getD 1 0 = BitVec.ofNat 8 (uAt p 0 1)) ∧
    (s.Ready c 0x0009 m → c < 4 → uAt p 0 1 = 1 → uAt p 1 3 = 0 →
      exec (.logClear c) s = .next ((s.modHost fun h => { h with ramLog := [] }).acked c m [])) ∧
    (s.Ready c 0x0009 m → c < 4 → uAt p 0 1 = 2 ∨ uAt p 0 1 = 3 → uAt p 1 3 = 0 →
      exec (.logClear c) s = .next ((s.queueSave 0 7 false (.log [] s.host.nvSeq) (some c)
        (.clearLog ((uAt p 0 1).testBit 0) s.host.nvSeq)).waits c m)) ∧
    (s.Ready c 0x000E m → c < 4 → uAt p 0 1 < 16 → uAt p 1 3 = 0 →
      exec (.channelPolicy c) s = .next ((s.modMbx c fun x => { x with roDue := some (uAt p 0 1) }).acked c m []))

/-- The session commands: a session opens on a channel without one, closes, and authenticates with the right MAC; the port key is
programmed once (R447 to R450). -/
def Obligations.SessionCommandsComplete : Prop :=
  ∀ (s : State) (c : Nat) (m : Msg),
    let p := m.payload
    (s.Ready c 0x000A m → (s.mbx c).sess = none → uAt p 0 1 = 0 → uAt p 1 1 = 0 → uAt p 2 2 ≠ 0xFFFF →
      let id := (s.host.sessions + 1) % 2 ^ 32
      let q : Session := { port := m.port, owner := uAt p 4 4, id := id, nextSeq := uAt p 2 2, nonce := none }
      exec (.sessionOpen c) s = .next (((s.modMbx c fun x => { x with sess := some q }).modHost fun h => { h with sessions := id }).acked c m
        (leBytes 1 c ++ leBytes 1 m.port ++ leBytes 1 (b2n (s.dx 0).otp.portKey) ++ zeros 1 ++ leBytes 4 id ++ zeros 32))) ∧
    (∀ q : Session, s.Ready c 0x000B m → (s.mbx c).sess = some q → (s.port m.port).authLocked = false → uAt p 0 4 = q.id →
      q.nonce.isSome = true → (s.dx 0).otp.macOk (q.nonce.getD []) c q.port q.id ((p.drop 4).take 32) = true →
      exec (.sessionAuth c) s = .next ((((s.modMbx c fun x => { x with sess := some { q with nonce := none, authed := true } }).modPort m.port
        fun t => { t with authFails := 0 }).refreshAuth).acked c m [])) ∧
    (s.Ready c 0x000C m → uAt p 0 4 = 0 → exec (.sessionClose c) s = .next ((s.endSession c).acked c m [])) ∧
    (s.Ready c 0x000D m → c < 4 → (s.dx 0).otp.portKey = false → uAt p 0 4 = 0x4B590001 → (p.drop 4).take 32 ≠ zeros 32 →
      ((s.dx 0).nv.queue.any fun j => decide (j.fin = .confirm)) = false →
      exec (.portKeyProgram c) s = .next (if s.draw.1.getLsbD 0 then
          (s.draw.2.modDx 0 fun x => { x with otp := { x.otp with portKey := true, portPart := true } }).answered c m retNv []
        else (s.draw.2.modDx 0 fun x => { x with otp := { x.otp with portKey := true, key := (p.drop 4).take 32 } }).acked c m []))

/-- The commands of the timebase, the inputs and the TDC channels (R44, R73, R84, R97, R98, R136 to R138). -/
def Obligations.InputAndTdcCommandsComplete : Prop :=
  ∀ (s : State) (c : Nat) (m : Msg),
    let p := m.payload
    let n := uAt p 0 2
    (s.Ready c 0x0101 m → c < 4 → s.tb.tbEn = true → s.tb.restart = false → uAt p 0 1 ≤ 1 → oscBad (uAt p 1 1) = false → uAt p 2 2 = 0 →
      ∃ u, exec (.tbSetMaster c) s = .next (State.acked u c m []) ∧ u.tb.master = decide (uAt p 0 1 = 1) ∧ u.tb.oscFreq = uAt p 1 1 ∧
        u.tb.tbEn = true ∧ u.tb.restart = true) ∧
    (s.Ready c 0x0201 m → n < 320 → s.hasInput n = true → s.dieUp (dieOfInput n) = true → declBad n p = false →
      exec (.inputConfig c) s = .next ((s.modInput n fun u => u.config (declOf p)).acked c m [])) ∧
    (s.Ready c 0x0202 m → n < 320 → s.hasInput n = true → s.dieUp (dieOfInput n) = true → (s.input n).configured = true →
      monBad n (s.input n).decl p = false →
      exec (.inputSetMonitors c) s = .next ((s.modInput n fun u => { u with monPend := some (monOf p) }).acked c m [])) ∧
    (s.Ready c 0x0203 m → n < 320 → s.hasInput n = true → s.dieUp (dieOfInput n) = true → uAt p 2 2 = 0 →
      exec (.inputGetStatus c) s = .next (s.acked c m (inputStatusBytes s n (s.measValid n)))) ∧
    (s.Ready c 0x0204 m → n < 320 → s.hasInput n = true → s.dieUp (dieOfInput n) = true → 1 ≤ uAt p 2 1 → uAt p 2 1 ≤ 3 → uAt p 3 1 = 0 →
      exec (.inputClear c) s = .next ((s.modInput n fun u =>
        let v := if uAt p 2 1 ≠ 2 ∧ u.state = .qualifying then { u with endWtr := true } else u
        if 2 ≤ uAt p 2 1 then v.driftDiscard else v).acked c m [])) ∧
    (s.Ready c 0x0301 m → n < 384 → s.hasChan n = true → s.dieUp (dieOfChan n) = true → (s.chan n).cal.measures = true → uAt p 2 1 ≤ 1 →
      uAt p 3 1 = 0 → 1 ≤ uAt p 6 1 → uAt p 6 1 ≤ 32 → uAt p 4 2 + uAt p 6 1 ≤ 1152 → uAt p 7 1 = 0 →
      let k := (s.chan n).core (uAt p 2 1)
      exec (.tdcGetPicot c) s = .next (s.acked c m (leBytes 2 n ++ leBytes 1 (uAt p 2 1) ++ leBytes 1 k.role.code ++ leBytes 2 (uAt p 4 2) ++
        leBytes 1 (uAt p 6 1) ++ zeros 1 ++ leBytes 8 k.hits ++
        (List.range (uAt p 6 1)).flatMap fun i => leBytes 4 (k.table.getD (uAt p 4 2 + i) 0)))) ∧
    (s.Ready c 0x0302 m →
      let ds := (List.range 8).filter fun d => (uAt p 0 1).testBit d
      ds ≠ [] → (∀ d ∈ ds, s.dieUp d = true) → s.nvSaving = false → uAt p 1 3 = 0 →
      exec (.tdcSaveSeed c) s = .next ((s.forEach ds fun x d => x.saveSeed d (some c)).waits c m)) ∧
    (s.Ready c 0x0303 m → n < 384 → s.hasChan n = true → s.dieUp (dieOfChan n) = true → (s.chan n).cal.measures = true → uAt p 2 1 ≤ 1 →
      uAt p 2 1 ≠ (s.chan n).active → uAt p 3 1 = 0 →
      exec (.tdcCoreReset c) s = .next ((s.modChan n fun u =>
        u.resetCore (uAt p 2 1) ((s.die (dieOfChan n)).seedRec.segW.getD (2 * (n % 48) + uAt p 2 1) [])).acked c m []))

/-- The commands of the DPLLs (R155, R165, R166, R175, R176, R179, R180, R182, R212, R213, R251, R252). -/
def Obligations.DpllCommandsComplete : Prop :=
  ∀ (s : State) (c : Nat) (m : Msg),
    let p := m.payload
    let n := uAt p 0 2
    let up := n < 64 ∧ s.dieUp (dieOfDpll n) = true
    let on := up ∧ (s.dpll n).cfg.role ≠ 0
    (s.Ready c 0x0401 m → up → (s.dpll n).enable = false → s.dpllCfgBad n p = false →
      ((dpllCfgOf p).opllMask ≠ 0 → (dpllCfgOf p).fbOutput < 128 → s.hasOut (dpllCfgOf p).fbOutput = true) →
      ((dpllCfgOf p).role = 2 → s.dieUp (dieOfDpll (dpllCfgOf p).leader) = true) →
      (∀ o < 4, (dpllCfgOf p).opllMask.testBit o = true → ∀ k, s.holderOf (4 * dieOfDpll n + o) = some k → k = n) →
      exec (.dpllConfig c) s = .next ((s.modDpll n fun u => u.config (dpllCfgOf p) s.tb.k).acked c m [])) ∧
    (s.Ready c 0x0402 m → on → rowBad p = false →
      exec (.dpllSetLoop c) s = .next ((s.modDpll n fun u => { u with rowPend := u.rowPend ++ [(uAt p 2 1, rowOf p)] }).acked c m [])) ∧
    (s.Ready c 0x0403 m → up → 1 ≤ uAt p 2 1 → uAt p 2 1 ≤ 7 → uAt p 3 1 = 0 →
      exec (.dpllGetLoop c) s = .next (s.acked c m (rowBytes n (uAt p 2 1) ((s.dpll n).rowAt (uAt p 2 1))))) ∧
    (s.Ready c 0x0404 m → on → uAt p 2 6 = 0 → (sAt p 8 8).natAbs ≤ 204800000000 →
      exec (.dpllSetSteer c) s = .next ((s.modDpll n fun u => { u with hostSteer := sAt p 8 8 }).acked c m [])) ∧
    (s.Ready c 0x0405 m → on → uAt p 2 6 = 0 → (sAt p 8 8).natAbs ≤ 65536000000 →
      ratAbs ((s.dpll n).res - (sAt p 8 8 : Rat)) ≤ 65536000000 →
      exec (.dpllPhaseAdjust c) s = .next ((s.modDpll n fun u => { u with adjust := some (u.adjust.getD 0 + sAt p 8 8) }).acked c m [])) ∧
    (s.Ready c 0x0406 m → up → uAt p 2 2 = 0 → exec (.dpllGetStatus c) s = .next (s.acked c m (s.dpllStatusBytes n))) ∧
    (s.Ready c 0x0407 m → on → 1 ≤ uAt p 3 1 → uAt p 3 1 ≤ 8 → uAt p 2 1 ≤ (s.dpll n).sel.cands.length →
      let e := ((s.dpll n).sel.cands.drop (uAt p 2 1)).take (uAt p 3 1)
      exec (.dpllGetCandidates c) s = .next (s.acked c m (leBytes 2 n ++ leBytes 1 (uAt p 2 1) ++ leBytes 1 e.length ++
        leBytes 1 (s.dpll n).sel.cands.length ++ zeros 3 ++ e.flatMap (s.candBytes n)))) ∧
    (s.Ready c 0x0501 m → on → (s.dpll n).cfg.role ≠ 2 → uAt p 2 1 ≤ 16 → uAt p 3 1 = 0 → (∀ i ∈ candList p, s.hasInput i = true) →
      (candList p).Nodup → uAt p (4 + 2 * uAt p 2 1) (36 - (4 + 2 * uAt p 2 1)) = 0 →
      exec (.dpllSetCandidates c) s = .next ((s.modDpll n fun u => { u with sel := u.sel.setList (candList p) }).acked c m [])) ∧
    (s.Ready c 0x0502 m → on → (s.dpll n).cfg.role ≠ 2 → uAt p 2 1 ≤ 3 → uAt p 3 1 < 8 → (uAt p 2 1 < 2 → uAt p 4 2 = 0x1FF) →
      (2 ≤ uAt p 2 1 → s.hasInput (uAt p 4 2) = true ∧ uAt p 4 2 ∈ (s.dpll n).sel.latest) → uAt p 10 6 = 0 →
      exec (.dpllSetSelection c) s = .next ((s.modDpll n fun u => { u with sel := { u.sel with
        set := { mode := uAt p 2 1, hookChg := (uAt p 3 1).testBit 0, hookSw := (uAt p 3 1).testBit 1, retBlock := (uAt p 3 1).testBit 2,
                 manual := uAt p 4 2, holdoffMs := uAt p 6 2, retAllow := uAt p 8 2 } } }).acked c m [])) ∧
    (s.Ready c 0x0503 m → on → (s.dpll n).cfg.role ≠ 2 → 1 ≤ uAt p 3 1 → uAt p 3 1 ≤ 7 → ((s.dpll n).sel.log = [] ∨ uAt p 2 1 < (s.dpll n).sel.log.length) → uAt p 2 1 ≤ 15 →
      let e := ((s.dpll n).sel.log.drop (uAt p 2 1)).take (uAt p 3 1)
      exec (.dpllGetSwitchLog c) s = .next (s.acked c m (leBytes 2 n ++ leBytes 1 (uAt p 2 1) ++ leBytes 1 e.length ++
        leBytes 1 (s.dpll n).sel.log.length ++ zeros 3 ++ e.flatMap SwLog.bytes))) ∧
    (s.Ready c 0x0606 m → on → (s.dpll n).state ≠ .holdover → uAt p 2 1 ≤ 2 → uAt p 3 1 ≤ 2 → uAt p 3 1 = (s.dpll n).ho.tick → uAt p 4 4 ≠ 0 →
      uAt p 4 4 % tickSec (uAt p 3 1) = 0 → uAt p 8 4 % tickSec (uAt p 3 1) = 0 → uAt p 4 4 + uAt p 8 4 ≤ 8192 * tickSec (uAt p 3 1) →
      uAt p 12 4 = 0 →
      exec (.dpllSetHoldover c) s = .next ((s.modDpll n fun u =>
        let h : Hold := { u.ho with basis := uAt p 2 1, avgS := uAt p 4 4, guardS := uAt p 8 4, late := false }
        { u with ho := if u.enable = true ∧ u.cfg.role = 1 then h else h.take }).acked c m [])) ∧
    (s.Ready c 0x0607 m → on → uAt p 2 2 = 0 → exec (.dpllGetHoldover c) s = .next (s.acked c m (s.holdBytes n)))
/-- The commands of the cairn engine (R247 to R250). -/
def Obligations.CairnCommandsComplete : Prop :=
  ∀ (s : State) (c : Nat) (m : Msg),
    let p := m.payload
    let o := uAt p 0 2
    let up := o < 16 ∧ s.noK o = false ∧ s.dieUp (dieOfOsc o) = true
    (s.Ready c 0x0601 m → up → (s.part.featK = true ∨ uAt p 2 1 = 0 ∨ s.otherMember o = false) → memberBad p = false →
      (uAt p 2 1 = 1 → s.isMember o = false → (s.cairn.slots.all fun x => x.used) = false) →
      exec (.cairnSetMember c) s = .next ((s.setMember o p).acked c m [])) ∧
    (s.Ready c 0x0602 m →
      let named := ((List.range 4).map fun i => uAt p i 1).filter (· ≠ 0xFF)
      (∀ k ∈ named, k < 64 ∧ s.dieUp (dieOfDpll k) = true ∧ (s.dpll k).cfg.role ≠ 2) → noRepeat named = true →
      uAt p 4 1 ≤ 254 → 16 ≤ uAt p 5 1 → 60 ≤ uAt p 6 2 → 1 ≤ uAt p 8 2 → uAt p 8 2 ≤ 1440 →
      uAt p 10 2 ≤ 1440 → 1 ≤ uAt p 12 2 → uAt p 12 2 ≤ 3650 → uAt p 14 1 < 128 → s.hasTd (uAt p 14 1) = true → 1 ≤ uAt p 15 1 → 60 ≤ uAt p 18 2 →
      uAt p 20 4 = 0 → exec (.cairnSetConfig c) s = .next (State.acked { s with cairn := s.cairn.configure p } c m [])) ∧
    (s.Ready c 0x0603 m → up → uAt p 2 2 = 0 → exec (.cairnGetModel c) s = .next (s.acked c m (s.modelBytes o))) ∧
    (s.Ready c 0x0604 m →
      let os := (List.range 16).filter fun o => (uAt p 0 2).testBit o
      let q := os.filter fun o => decide ((s.model o).state = .qualified)
      (∀ o ∈ os, s.hasOsc o = true ∧ s.noK o = false ∧ s.dieUp (dieOfOsc o) = true) → s.nvSaving = false → uAt p 2 2 = 0 →
      exec (.cairnSave c) s = .next (if q = [] then s.acked c m [] else (s.forEach q fun x o => x.saveModel o (some c)).waits c m)) ∧
    (s.Ready c 0x0605 m → up → uAt p 2 2 = 0 →
      exec (.cairnForget c) s = .next ((s.forgetModel o (if s.isMember o then .learning else .none)).acked c m []))

/-- The commands of the OPLLs, the outputs and the time domains (R280, R287 to R290, R296, R327 to R330). -/
def Obligations.OutputAndTimeCommandsComplete : Prop :=
  ∀ (s : State) (c : Nat) (m : Msg),
    let p := m.payload
    let n := uAt p 0 2
    let pll := n < 32 ∧ s.dieUp (dieOfOpll n) = true
    let td := n < 128 ∧ s.dieUp (dieOfTd n) = true
    (s.Ready c 0x0701 m → pll → (s.opll n).enable = false → s.opllBad n p = false →
      exec (.opllConfig c) s = .next ((s.setOpll n (opllOf (s.opll n) p)).acked c m [])) ∧
    (s.Ready c 0x0702 m → pll → (s.opll n).state = .locked → s.steererOf n = none → s.opllFreqBad n p = false →
      let u := s.opll n
      let rate := if uAt p 2 2 = 0 then 2000 else uAt p 2 2
      let w := freqOf p
      exec (.opllSetFreq c) s = .next (if ratAbs ((w : Rat) / u.nNom - 1) ≤ 2 / 1000 then
          (s.setOpll n { u with rate := rate, steer := 0, rampTo := if u.nNom = (w : Rat) ∧ u.nCur = w then none else some w }).acked c m []
        else ((s.setOpll n { u with rate := rate, steer := 0, newFreq := some (uAt p 4 2, uAt p 8 8), rampTo := none }).toQuiesce n false).acked c m [])) ∧
    (s.Ready c 0x0703 m → pll → (s.opll n).state = .locked → uAt p 2 2 = 0 →
      exec (.opllAlign c) s = .next (if (s.aligner n).isSome = true ∧ s.enabledOuts n ≠ [] then (s.startAlign n (s.enabledOuts n) (some c)).waits c m
        else s.acked c m [])) ∧
    (s.Ready c 0x0704 m → n < 128 → s.dieUp (dieOfOut n) = true → s.outBad n p = false → (s.out n).state = .off ∨ (s.out n).state = .stopped →
      exec (.outputConfig c) s = .next (((s.configOut n p).bypassCheck (dieOfOut n)).acked c m [])) ∧
    (s.Ready c 0x0705 m → uAt p 0 1 < 8 → s.dieUp (uAt p 0 1) = true → uAt p 1 1 < 2 → uAt p 2 2 ≠ 0 → uAt p 4 4 = 0 →
      (∀ x ∈ runOuts (uAt p 0 1) (uAt p 2 2), (s.out x).configured = true) →
      exec (.outputRun c) s = .next ((s.draw.2.forEach (List.range 4) fun t b =>
        t.runGroup (uAt p 0 1) b (uAt p 2 2) (uAt p 1 1) (s.tb.k + 1 + s.draw.1.toNat % 2)).acked c m [])) ∧
    (s.Ready c 0x0705 m → uAt p 0 1 < 8 → s.dieUp (uAt p 0 1) = true → uAt p 1 1 = 2 → uAt p 2 2 ≠ 0 → uAt p 4 4 = 0 →
      (∀ x ∈ runOuts (uAt p 0 1) (uAt p 2 2), (s.out x).configured = true) →
      exec (.outputRun c) s = .next ((s.forEach (runOuts (uAt p 0 1) (uAt p 2 2)) fun t i =>
        if (t.out i).onBypass = true ∧ (t.opll (t.opllOfOut i)).state = .locked then
          ((t.toClock i false).modOut i fun u => { u with hist := setb u.hist 3 }).tryStart i
        else t).acked c m [])) ∧
    (s.Ready c 0x0801 m → td → tdSetBad p = false → ((tdSetOf p).syn = true → s.hasDpll (tdSetOf p).synDpll = true) →
      exec (.tdConfig c) s = .next ((s.modTd n fun u => { u with setPend := some (tdSetOf p) }).acked c m [])) ∧
    (s.Ready c 0x0802 m → td → uAt p 2 2 = 0 → exec (.tdGetConfig c) s = .next (s.acked c m ((s.td n).setBytes n))) ∧
    (s.Ready c 0x0803 m → td → (s.td n).state ≠ .off → (s.td n).held = false → s.timeBad p = false →
      exec (.tdSetTime c) s = .next ((s.setTd n { s.td n with timeWrite := (s.td n).timeWrite ++ [timeWriteOf p], firstOfs := true }).acked c m [])) ∧
    (s.Ready c 0x0804 m → td → uAt p 2 2 = 0 →
      exec (.tdGetTime c) s = .next (s.acked c m (leBytes 2 n ++ leBytes 1 (s.td n).state.code ++ leBytes 1 ((s.td n).stat.toNat % 256) ++
        leBytes 4 (s.td n).snapNs ++ leBytes 8 (s.td n).snapSec ++ leBytes 4 (s.td n).snapFrac ++ zeros 4 ++ leBytes 8 (s.td n).snapMts ++
        leBytesI 8 (s.td n).rate))) ∧
    (s.Ready c 0x0805 m → td → todBad p = false →
      exec (.tdSetTod c) s = .next ((s.modTd n fun u => { u with todPend := some (todOf p) }).acked c m []))

/-- The commands of the stitch engines (R375, R378, R380, R382). A commit for an engine that runs, or that has a trigger it can start on, waits
behind those that wait already. -/
def Obligations.StitchCommandsComplete : Prop :=
  ∀ (s : State) (c : Nat) (m : Msg),
    let p := m.payload
    let e := uAt p 0 2
    let up := e < 224 ∧ s.dieUp (dieOfStitch e) = true
    (s.Ready c 0x0901 m → c < 4 → up → uAt p 2 1 < 8 → uAt p 3 5 = 0 →
      let old := stagedWords (s.stitch e).staging
      exec (.stitchLoad c) s = .next ((s.modStitch e fun u =>
        { u with staging := old.take (32 * uAt p 2 1) ++ wordsAt p 8 32 ++ old.drop (32 * uAt p 2 1 + 32) }).acked c m [])) ∧
    (s.Ready c 0x0902 m → c < 4 → up →
      let entries := (List.range 4).map fun i => uAt p (4 + i) 1
      let prog := stagedWords (s.stitch e).staging
      1 ≤ uAt p 2 2 → uAt p 2 2 ≤ 256 → commitFail prog (classOf e) (uAt p 2 2) entries (BitVec.ofNat 32 (uAt p 8 4)) = none →
      exec (.stitchCommit c) s = .next (if (s.stitch e).engaged
        then (s.modStitch e fun u => { u with commitBy := u.commitBy ++ [{
          chan := c, prog := prog, entries := entries, tag := BitVec.ofNat 32 (uAt p 12 4), dflt := false, first := !u.busy }] }).waits c m
        else (s.setStitch e ((s.stitch e).install prog entries (BitVec.ofNat 32 (uAt p 12 4)) false)).acked c m
          (leBytes 2 e ++ leBytes 2 0xFFFF))) ∧
    (s.Ready c 0x0903 m → c < 4 → up → uAt p 2 2 = 0 →
      exec (.stitchDefault c) s = .next (if (s.stitch e).engaged
        then (s.modStitch e fun u => { u with commitBy := u.commitBy ++ [{
          chan := c, prog := (defaultOf (classOf e)).1.map SInstr.encode, entries := (defaultOf (classOf e)).2, tag := 0, dflt := true,
          first := !u.busy }] }).waits c m
        else (s.installDefault e).acked c m [])) ∧
    (s.Ready c 0x0904 m → up → classOf e ≠ 0 → (s.stitch e).ready (hostPoint e) = true → uAt p 2 2 = 0 →
      ((s.stitch e).trig.any fun t => decide (t.1 = hostPoint e)) = false →
      exec (.stitchRun c) s = .next ((s.trigger e (hostPoint e) (wordsAt p 4 4)).acked c m []))

/-- The commands of boot and the flash (R393, R409, R410, R416, R417, R420). The flash is touched only once the record says that the slot is
UNKNOWN (the model's choice of order, log entry 40). -/
def Obligations.BootCommandsComplete : Prop :=
  ∀ (s : State) (c : Nat) (m : Msg),
    let p := m.payload
    (s.Ready c 0x0A01 m → bootDenied c = false → (uAt p 0 1 = 2 ∨ uAt p 0 1 = 1 ∧ s.host.boot.download = true) → uAt p 1 1 = 0 →
      let old := if uAt p 4 4 = 0 then [] else if uAt p 0 1 = 1 then s.host.boot.leadBuf else s.host.boot.unitBuf
      old.length = uAt p 4 4 → 1 ≤ (p.drop 8).length → (p.drop 8).length ≤ 192 → old.length + (p.drop 8).length < 1024 →
      exec (.bootLoad c) s = .next (State.acked (if uAt p 0 1 = 1 then s.modBoot fun x => { x with leadBuf := old ++ p.drop 8 }
        else (s.modBoot fun x => { x with unitBuf := old ++ p.drop 8 }).streamChunk (uAt p 4 4) (p.drop 8).length false) c m [])) ∧
    (∀ l u : Manifest, s.Ready c 0x0A02 m → bootDenied c = false → s.host.boot.download = true → uAt p 0 4 = 0 →
      1024 ≤ s.host.boot.leadBuf.length → s.host.boot.leadBuf.length = 1024 + uAt s.host.boot.leadBuf 16 4 →
      1024 ≤ s.host.boot.unitBuf.length → (s.nDies = 1 ∨ s.host.boot.unitBuf.length = 1024 + uAt s.host.boot.unitBuf 16 4) →
      s.pairCheck (s.host.boot.leadBuf.take 1024) (s.host.boot.unitBuf.take 1024) = .good l u →
      bodyOk (s.host.boot.leadBuf.take 1024) (s.host.boot.leadBuf.drop 1024) = true →
      (s.nDies = 1 ∨ bodyOk (s.host.boot.unitBuf.take 1024) (s.host.boot.unitBuf.drop 1024) = true) →
      ∃ t, exec (.bootStart c) s = .next (State.acked t c m []) ∧ t.host.boot.lead = some l ∧ t.host.boot.unit = some u ∧
        t.host.boot.srcHost = true ∧ ∀ j < 8, bit (t.mbx j).h2cMask 0 = true) ∧
    (s.Ready c 0x0A03 m → bootDenied c = false → s.host.flashOp = none → uAt p 0 1 = 2 → uAt p 1 1 ≤ 1 →
      (s.host.boot.srcHost = true ∨ uAt p 1 1 ≠ s.host.boot.slot) → 1 ≤ uAt p 2 2 → uAt p 2 2 ≤ 192 → uAt p 4 4 + uAt p 2 2 ≤ slotSize →
      exec (.fwFlash c) s = .next (s.acked c m (s.flashBytes (slotSize * uAt p 1 1 + uAt p 4 4) (uAt p 2 2)))) ∧
    (s.Ready c 0x0A03 m → bootDenied c = false → s.host.flashOp = none → uAt p 0 1 ≤ 1 → uAt p 1 1 ≤ 1 →
      (s.host.boot.srcHost = true ∨ uAt p 1 1 ≠ s.host.boot.slot) →
      (if uAt p 0 1 = 0 then uAt p 2 2 = 0 ∧ uAt p 4 4 % 65536 = 0 else 1 ≤ uAt p 2 2 ∧ uAt p 2 2 ≤ 192) →
      uAt p 4 4 + uAt p 2 2 ≤ slotSize → uAt p 4 4 < slotSize → s.savingNow 0 = false →
      let r := s.bootNext
      exec (.fwFlash c) s = .next (State.waits (if r.state (uAt p 1 1) = 0
        then s.modHost fun h => { h with flashOp := some (uAt p 0 1, uAt p 1 1, uAt p 4 4, p.drop 8, c) }
        else s.saveBoot (r.set (uAt p 1 1) 0 0) (some c) (.flash (uAt p 0 1) (uAt p 1 1) (uAt p 4 4) (p.drop 8))) c m)) ∧
    (s.Ready c 0x0A04 m → bootDenied c = false → s.host.boot.srcHost = false → uAt p 0 1 ≤ 1 → uAt p 1 3 = 0 → s.savingNow 0 = false →
      let b := s.host.boot.slot
      exec (.bootConfirm c) s = .next (if uAt p 0 1 = 0 then (s.saveBoot (s.bootNext.set b 2 0) (some c) .confirm).waits c m
        else (s.saveBoot { s.bootNext.set (1 - b) 1 3 with pref := 1 - b } (some c) .none).waits c m)) ∧
    (s.Ready c 0x0A05 m → bootDenied c = false → uAt p 0 1 < 8 → s.dieUp (uAt p 0 1) = true → uAt p 3 1 < 4 →
      let d := uAt p 0 1
      let kind := uAt p 1 1
      let idx := uAt p 2 1
      let present := (uAt p 3 1).testBit 0
      let blk := (p.drop 8).take 32
      kind ≤ 4 → (kind = 0 → d = 0) → (kind = 1 → idx < 4) → (kind = 2 → idx < 16) → (kind ≠ 1 → kind ≠ 2 → idx = 0) →
      (kind ≠ 2 → (uAt p 3 1).testBit 1 = false) → uAt p 4 4 = 0 → (present = true ∨ 3 ≤ kind → s.blockBad d kind idx blk = false) →
      (present = true → s.blockAbsent kind blk = false) → (3 ≤ kind → s.savingNow d = false) →
      exec (.bootProfileSet c) s = .next (if kind = 3 then (s.queueSave d 5 false (.profile (s.dx d).staging) (some c) .none).waits c m
        else if kind = 4 then (s.queueSave d 5 true .none (some c) .none).waits c m
        else (s.modDx d fun x => { x with staging := x.staging.edit kind idx present ((uAt p 3 1).testBit 1) blk }).acked c m []))

/-- The commands of the DMA engine and the interrupt routes (R494 to R496). -/
def Obligations.DmaCommandsComplete : Prop :=
  ∀ (s : State) (c : Nat) (m : Msg),
    let p := m.payload
    let r := uAt p 0 1
    (s.Ready c 0x0B01 m → c < 4 → s.part.featX = true → s.host.linkUp = true → s.host.bme = true → (s.ring r).enable = false → r < 16 → uAt p 1 1 = 1 →
      12 ≤ uAt p 2 1 → uAt p 2 1 ≤ 24 → (uAt p 3 1 = 1 ∧ uAt p 6 1 ≤ 127 ∨ uAt p 3 1 = 2 ∧ uAt p 6 1 ≤ 223) → 1 ≤ uAt p 4 1 → uAt p 4 1 ≤ 15 →
      uAt p 5 1 ≤ uAt p 6 1 → uAt p 7 1 = 0 →
      uAt p 8 8 % 4096 = 0 → uAt p 16 8 % 16 = 0 → 1 ≤ uAt p 24 2 → uAt p 24 2 ≤ min (2 ^ uAt p 2 1 / 16 / 2) 65535 → 1 ≤ uAt p 26 2 → uAt p 28 4 = 0 →
      exec (.dmaRingConfig c) s = .next ((s.admitAll.modRing r fun q =>
        ({ q with enable := true, size := uAt p 2 1, source := uAt p 3 1, weight := uAt p 4 1, base := uAt p 8 8, wb := uAt p 16 8,
                  lo := uAt p 5 1, hi := uAt p 6 1, thresh := uAt p 24 2, timer := uAt p 26 2, wr := 0, rd := 0, drop := 0,
                  written := 0, mem := [], q := [] } : Ring).writeBack s.mts).acked c m [])) ∧
    (s.Ready c 0x0B01 m → c < 4 → s.part.featX = true → r < 16 → uAt p 1 1 = 0 → uAt p 2 1 = 0 → uAt p 3 1 = 0 → uAt p 7 1 = 0 → uAt p 28 4 = 0 →
      exec (.dmaRingConfig c) s = .next ((s.ringOff r false true).acked c m [])) ∧
    (s.Ready c 0x0B02 m → (r < 16 ∧ s.part.featX = true ∨ r = 0xFF) → uAt p 1 3 = 0 →
      let q := if r = 0xFF then s.host.loc else s.ring r
      exec (.dmaGetStatus c) s = .next (s.acked c m (leBytes 1 r ++ leBytes 1 (b2n (q.enable || decide (r = 0xFF)) + 2 * b2n s.host.bme + 4 * b2n s.host.linkUp) ++
        zeros 2 ++ leBytes 4 q.wr ++ leBytes 4 q.rd ++ leBytes 4 q.drop ++ leBytes 8 q.written ++ leBytes 8 (if r = 0xFF then 0 else q.lastWb)))) ∧
    (s.Ready c 0x0B03 m → c < 4 → uAt p 0 2 < 128 → (uAt p 0 2 < 11 ∨ 16 ≤ uAt p 0 2) → s.srcAbsent (uAt p 0 2) = false →
      (uAt p 2 1 = 0xFF ∨ uAt p 2 1 ≤ 31 ∧ s.part.featX = true) → uAt p 3 1 < 4 →
      exec (.irqRoute c) s = .next ((s.modHost fun h =>
        { h with route := tset 0x100 h.route (uAt p 0 2) (put 0 5 (if uAt p 2 1 = 0xFF then 0 else uAt p 2 1) ||| putb 5 (decide (uAt p 2 1 = 0xFF)) |||
          put 8 2 (uAt p 3 1)) }).acked c m []))

/-- The commands of the store (R520 to R524). -/
def Obligations.NvCommandsComplete : Prop :=
  ∀ (s : State) (c : Nat) (m : Msg),
    let p := m.payload
    let d := uAt p 0 1
    let part := uAt p 1 1
    let off := uAt p 4 4
    let up := d < 8 ∧ s.dieUp d = true
    (s.Ready c 0x0C01 m → up → 1 ≤ part → part < 8 → s.partOk c d part false = true → 1 ≤ uAt p 2 1 → uAt p 2 1 ≤ 192 → uAt p 3 1 = 0 →
      off + uAt p 2 1 ≤ 24576 →
      exec (.nvRead c) s = .next (s.acked c m (p.take 8 ++ (List.range (uAt p 2 1)).map fun i => tget 0xFF (s.dx d).nv.cells (cellAt part (off + i))))) ∧
    (s.Ready c 0x0C02 m → up → 1 ≤ part → part < 8 → s.partOk c d part true = true → 1 ≤ uAt p 2 1 → uAt p 2 1 ≤ 64 → uAt p 3 1 = 0 →
      off + uAt p 2 1 ≤ 24576 → off % 64 + uAt p 2 1 ≤ 64 →
      exec (.nvWrite c) s = .next ((s.modNv d fun n =>
        { n with queue := n.queue ++ [{ work := .cells (cellAt part off) (p.drop 8), chan := some c }] }).waits c m)) ∧
    (s.Ready c 0x0C03 m → up → 1 ≤ part → part < 8 → (s.dx d).nv.isLocked part = false → uAt p 2 1 ≤ 1 → uAt p 3 1 = 0 →
      let g := (d, part, decide (uAt p 2 1 = 1))
      (s.dx d).nv.passwords.getD (passIdx part (decide (uAt p 2 1 = 1))) [] = p.drop 4 →
      exec (.nvLogin c) s = .next (((s.modNv d fun v => { v with wrong := tset 0 v.wrong part 0 }).modGrants c fun l =>
        if l.contains g then l else l ++ [g]).acked c m [])) ∧
    (s.Ready c 0x0C03 m → up → 1 ≤ part → part < 8 → (s.dx d).nv.isLocked part = false → uAt p 2 1 = 2 → uAt p 3 1 = 0 → uAt p 4 8 = 0 →
      exec (.nvLogin c) s = .next ((s.modGrants c fun l => l.filter fun x => !(decide (x.1 = d) && decide (x.2.1 = part))).acked c m [])) ∧
    (s.Ready c 0x0C04 m → up → 1 ≤ part → part < 8 → s.partOk c d part true = true → uAt p 2 1 ≤ 1 → uAt p 3 5 = 0 →
      let w := decide (uAt p 2 1 = 1)
      exec (.nvSetPassword c) s = .next ((s.queueSave d 8 false (.pass ((s.dx d).nv.passNext.set (passIdx part w) ((p.drop 8).take 8))) (some c)
        (.grants part w)).waits c m)) ∧
    (s.Ready c 0x0C04 m → c < 4 → up → 1 ≤ part → part < 8 → uAt p 2 1 = 2 → uAt p 3 5 = 0 → uAt p 8 8 = 0 →
      exec (.nvSetPassword c) s = .next (((s.modNv d fun v => { v with queue := v.queue ++ [{ work := .erase part 384, chan := some c }] }).queueSave d 8
        false (.pass (((s.dx d).nv.passNext.set (passIdx part false) (zeros 8)).set (passIdx part true) (zeros 8))) (some c) (.unlock part)).waits c m)) ∧
    (s.Ready c 0x0C05 m → up → uAt p 1 3 = 0 →
      let v := (s.dx d).nv
      ∃ b, exec (.nvGetStatus c) s = .next (s.acked c m b) ∧ b.length = 32 ∧ b.take 1 = leBytes 1 d ∧
        (b.drop 2).take 5 = leBytes 2 v.spares ++ leBytes 2 (v.torn.getD 0) ++ leBytes 1 v.locked ∧
        b.drop 12 = leBytes 4 v.writeCnt ++ leBytes 4 v.rejCnt ++ leBytes 4 v.refreshCnt ++ leBytes 2 v.aonMv ++ leBytes 2 v.choldMv ++ zeros 4)

/-- The commands of power, belay, the margin plan and the ageing record (R550 to R554). -/
def Obligations.PowerCommandsComplete : Prop :=
  ∀ (s : State) (c : Nat) (m : Msg),
    let p := m.payload
    let d := uAt p 0 1
    (s.Ready c 0x0D01 m → c < 4 → 10 ≤ uAt p 0 2 → uAt p 0 2 ≤ 600 → 1 ≤ uAt p 2 2 → uAt p 2 2 ≤ 1000 → uAt p 4 1 < 4 → uAt p 5 3 = 0 →
      exec (.belayConfig c) s = .next ((s.modBelay fun b => { b with wakeS := uAt p 0 2, debounceMs := uAt p 2 2,
                                                                     mainfailEn := (uAt p 4 1).testBit 0, autoSave := (uAt p 4 1).testBit 1 }).acked c m [])) ∧
    (s.Ready c 0x0D02 m → c < 4 → uAt p 0 4 = 0x424C4159 → s.tb.tbEn = true →
      exec (.belayEnter c) s = .next ((s.modBelay fun b => { b with armed := some c, duration := uAt p 4 4 }).acked c m [])) ∧
    (s.Ready c 0x0D03 m → uAt p 0 4 = 0 →
      exec (.powerGetStatus c) s = .next (s.acked c m (leBytes 1 s.belay.phase ++ leBytes 1 s.belay.rstCause ++ leBytes 1 (fld s.belay.hist 0 5) ++
        leBytes 1 s.belay.outs.length ++ leBytes 4 s.belay.cnt ++ leBytes 4 s.belay.seconds ++ zeros 4 ++ leBytes 8 s.belay.entryMts ++
        leBytesI 8 s.belayBound))) ∧
    (s.Ready c 0x0D04 m → d < 8 → s.dieUp d = true → uAt p 1 3 = 0 →
      let q := (s.dx d).plan
      exec (.marginGetPlan c) s = .next (s.acked c m (leBytes 1 d ++ leBytes 1 (b2n q.stored) ++ zeros 2 ++ leBytes 4 q.version ++
        leBytes 4 q.evalHours ++ leBytes 2 q.fm ++ leBytes 1 q.slip ++ leBytes 1 q.hits ++ leBytes 2 q.band ++ leBytes 1 q.verify ++ zeros 1 ++
        leBytes 2 q.scanH ++ zeros 2 ++ leBytes 8 q.evalMts))) ∧
    (s.Ready c 0x0D05 m → d < 8 → s.dieUp d = true → uAt p 1 3 = 0 →
      let a := (s.dx d).age
      exec (.ageingGetStatus c) s = .next (s.acked c m (leBytes 1 d ++ zeros 3 ++ leBytes 4 a.hours ++ leBytes 2 a.wear ++
        leBytes 2 (if a.share.1 = 0 then 0 else a.share.2 * 10000 / a.share.1) ++ leBytesI 2 (Config.popTrend a.pops) ++ leBytesI 2 a.drift ++
        leBytes 4 (a.month a.refreshes) ++ zeros 4 ++ leBytesI 8 (s.p30 (2 * d)) ++ leBytesI 8 (s.p30 (2 * d + 1)) ++ zeros 8)))

/-- Writes of TB_CTRL and of the input registers that reach the part: the fields they leave (R35, R41, R42, R86, R87, R93, R585). -/
def Obligations.TimebaseAndInputWritesComplete : Prop :=
  ∀ (s : State) (p : Path), s.pathLive p = true →
    (∀ w : Word,
      let t := s.setMaster (bit w 0) (fld w 4 4)
      t.tb.master = bit w 0 ∧ t.tb.oscFreq = fld w 4 4 ∧ t.tb.tbEn = s.tb.tbEn ∧
        (bit w 0 = s.tb.master → t = { s with tb := { s.tb with master := bit w 0, oscFreq := fld w 4 4 } }) ∧
        (bit w 0 ≠ s.tb.master → t.tb.oscLoss = !(t.osc t.masterPort).active) ∧
        (s.tb.tbEn = false → oscBad (fld w 4 4) = false →
          exec (.tbEnSet p w) s = .next (State.written { t with tb := { t.tb with tbEn := true } } 0 0x100)) ∧
        (s.tb.tbEn = false → oscBad (fld w 4 4) = true →
          exec (.tbEnSet p w) s = .next (State.written { t with tb := { t.tb with cfgRej := true } } 0 0x100)) ∧
        (s.tb.tbEn = false →
          exec (.tbConfigWrite p w) s = .next (t.written 0 0x100) ∧ exec (.tbEnClear p w) s = .next (t.written 0 0x100))) ∧
    (∀ w : Word, s.tb.tbEn = true →
      let t : State := { s with tb := { s.tb with cfgRej := s.tb.cfgRej || decide (bit w 0 ≠ s.tb.master) || decide (fld w 4 4 ≠ s.tb.oscFreq) } }
      exec (.tbEnSet p w) s = .next (t.written 0 0x100) ∧ exec (.tbConfigWrite p w) s = .next (t.written 0 0x100) ∧
        exec (.tbEnClear p w) s = .next (t.tbOff.written 0 0x100)) ∧
    (∀ n, s.hasInput n = true →
      let d := dieOfInput n
      let off := offInput n
      let t := if (s.input n).enable = false ∧ n < 192 then s.modChan (chanOfInput n) fun x =>
        { x with seen := false, word := {}, win := [], glitchMark := false, mergeMark := false } else s
      exec (.inputEnable p n) s = .next ((t.modInput n fun u =>
          { u.turnOn with forceDisq := u.forceDisq, rank := u.rank % 256, prio := u.prio % 32 }).written d off) ∧
        exec (.inputDisable p n) s = .next ((s.modInput n fun u =>
          { u.turnOff with forceDisq := u.forceDisq, rank := u.rank % 256, prio := u.prio % 32 }).written d off) ∧
        (∀ b, exec (.forceDisqWrite p n b) s = .next ((s.modInput n fun u =>
          { u with forceDisq := b, rank := u.rank % 256, prio := u.prio % 32 }).written d off)) ∧
        ∀ rank prio, exec (.rankPriorityWrite p n rank prio) s = .next ((s.modInput n fun u =>
          { u with rank := rank % 256, prio := prio % 32 }).written d off))

/-- Writes of the registers of the DPLLs that reach the part (R160, R192, R201). -/
def Obligations.DpllWritesComplete : Prop :=
  ∀ (s : State) (p : Path) (n : Nat), s.pathLive p = true → s.hasDpll n = true →
    let d := dieOfDpll n
    let off := offDpll n
    let t := if (s.dpll n).enable = false then s.modChan (chanOfFb n) fun x =>
      { x with seen := false, word := {}, win := [], glitchMark := false, mergeMark := false } else s
    let held := fun (u : DpllUnit) => if u.enable = true then u else { u with frozen := false, parityHold := false }
    exec (.dpllEnable p n) s = .next ((t.modDpll n fun u =>
        { (u.turnOn s.tb.k (s.freeWordOf n).1 (s.freeWordOf n).2).writeForce s.tb.k (u.force % 4) with glitchUse := u.glitchUse }).written d off) ∧
      exec (.dpllDisable p n) s = .next ((s.modDpll n fun u =>
        { (u.turnOff s.tb.k).writeForce s.tb.k (u.force % 4) with glitchUse := u.glitchUse }).written d off) ∧
      exec (.forceFreerun p n) s = .next ((s.modDpll n fun u => { (held u).writeForce s.tb.k 1 with glitchUse := u.glitchUse }).written d off) ∧
      exec (.forceHoldover p n) s = .next ((s.modDpll n fun u => { (held u).writeForce s.tb.k 2 with glitchUse := u.glitchUse }).written d off) ∧
      exec (.forceAutomatic p n) s = .next ((s.modDpll n fun u => { (held u).writeForce s.tb.k 0 with glitchUse := u.glitchUse }).written d off) ∧
      (∀ w, exec (.selRetblkClear p n w) s = .next ((s.modDpll n fun u => { u with sel := { u.sel with
        retblk := (BitVec.ofNat 32 u.sel.retblk &&& ~~~(w &&& 0xFFFF)).toNat } }).written d (off + 0x98))) ∧
      ∀ w, exec (.selHookVerdictWrite p n w) s = .next ((s.modDpll n fun u => u.writeVerdict w
        (s.hookBusy n && decide ((s.stitch (engineOfDpll n)).point = 0))).written d (off + 0x9C))

/-- Writes of the registers of the OPLLs, the outputs, the time domains and the event channels that reach the part (R263, R269, R273,
R276, R299, R302, R318). -/
def Obligations.SynthesisAndTimeWritesComplete : Prop :=
  ∀ (s : State) (p : Path) (n : Nat), s.pathLive p = true →
    (s.hasOpll n = true → exec (.opllEnable p n) s = .next ((s.opllOn n).written (dieOfOpll n) (offOpll n)) ∧
      exec (.opllDisable p n) s = .next ((s.opllOff n).written (dieOfOpll n) (offOpll n))) ∧
    (s.hasOut n = true →
      let d := dieOfOut n
      let t := s.modOut n fun u => { u with stopLvl := u.stopLvl % 4 }
      let keep := fun (x : State) => if (s.out n).enable then x.outOn n else x.outOff n
      exec (.outputEnable p n) s = .next (((t.outOn n).tryStart n).written d (offOut n)) ∧
        exec (.outputDisable p n) s = .next (((t.outOff n).tryStart n).written d (offOut n)) ∧
        ((s.out n).run = false → exec (.outRunStart p n) s = .next (((keep t).outRun n true false).written d (offOut n))) ∧
        ((s.out n).run = true → exec (.outRunStart p n) s = .next (((keep t).tryStart n).written d (offOut n))) ∧
        ((s.out n).run = true → exec (.outRunStop p n) s = .next (((keep t).outRun n false false).written d (offOut n))) ∧
        ((s.out n).run = false → exec (.outRunStop p n) s = .next (((keep t).tryStart n).written d (offOut n))) ∧
        ∀ r w, r = 0x10 ∨ r = 0x14 ∨ r = 0x28 → exec (.outPhaseWrite p n r w) s = .next ((s.writePhase n r w).written d (offOut n + r))) ∧
    (s.hasTd n = true → exec (.tdEnable p n) s = .next (((s.modTd n fun u => u.turnOn s.tb.k).losOfDomain n).written (dieOfTd n) (offTd n)) ∧
      exec (.tdDisable p n) s = .next (((s.modTd n TdUnit.turnOff).losOfDomain n).written (dieOfTd n) (offTd n)) ∧
      exec (.tdOfsCommit p n) s = .next ((s.modTd n TdUnit.commitOfs).written (dieOfTd n) (offTd n + 0x40))) ∧
    (s.hasEv n = true → ∀ w,
      exec (.evConfigWrite p n 0 w) s = .next ((s.modEv n fun u =>
        { u with enable := bit w 0, mode := bit w 1, edge := bit w 2, mtsOnly := bit w 3, td := fld w 4 4 }).written (n / 16) (offEv n)) ∧
      exec (.evConfigWrite p n 4 w) s = .next ((s.modEv n fun u =>
        { u with rateLim := min 16000000 (fld w 0 24), decim := fld w 24 8 }).written (n / 16) (offEv n + 4)))

/-- Writes of the stitch engines, the mailboxes and the abort unit that reach the part (R362, R378, R401, R402, R405). The times that the
history shows of an abort in progress are a free draw (the model's choice, log entry 38). -/
def Obligations.EngineAndMailboxWritesComplete : Prop :=
  ∀ (s : State) (p : Path), s.pathLive p = true →
    (∀ e, s.hasStitch e = true →
      (∀ b, exec (.stitchEnableWrite p e b) s = .next ((s.modStitch e fun u =>
        { u with enable := b, dbChan := u.dbChan % 8 }).written (dieOfStitch e) (offStitch e))) ∧
      exec (.stitchSignal p e) s = .next ((s.modStitch e fun u =>
        ({ u with dbChan := u.dbChan % 8 } : Stitch).event 15).written (dieOfStitch e) (offStitch e))) ∧
    (∀ c, c < 8 →
      let off := 0x80000 + 0x800 * c
      (s.violates p 0 (off + 0x204) true = false → bit (s.mbx c).h2cDb 0 = false → exec (.mbxH2cDoorbell p c) s = .next ((s.modMbx c fun m =>
        { m with h2cDb := m.h2cDb ||| 1, h2cFull := true, port := (portIdx p).getD 0 }).written 0 (off + 0x204))) ∧
      (s.violates p 0 (off + 0x204) true = false → bit (s.mbx c).h2cDb 0 = true →
        exec (.mbxH2cDoorbell p c) s = .next ((s.modMbx c fun m => { m with h2cDb := m.h2cDb ||| 1 }).written 0 (off + 0x204))) ∧
      (s.violates p 0 (off + 0x20C) true = false → exec (.mbxC2hClear p c) s = .next ((s.modMbx c fun m =>
        { m with c2hDb := m.c2hDb &&& ~~~1#32, c2hFull := false }).written 0 (off + 0x20C))) ∧
      ∀ i w, i < 64 → s.violates p 0 (off + 4 * i) true = false → exec (.h2cBufWrite p c i w) s = .next ((s.modMbx c fun m =>
        { m with h2c := bufSet m.h2c i w, collision := m.collision || m.h2cFull }).written 0 (off + 4 * i))) ∧
    (∀ w, s.host.abort.result = 1 → exec (.abortReqWrite p w) s = .next ((s.modAbort fun a => { a with reqIgn := true }).written 0 0x84000)) ∧
    (∀ w d, s.host.abort.result ≠ 1 → abortDie (fld w 12 4) (fld w 0 12) = some d → s.fitted d = true → (d = 0 ∨ s.dieUp d = true) →
      (fld w 12 4 = 3 → s.part.featX = true) → (s.secureBy p = true ∨ fld w 12 4 = 5 ∧ 4 ≤ fld w 0 12) →
      exec (.abortReqWrite p w) s = .next ((s.draw.2.modAbort fun a => { a with
        req := fld w 0 16, func := fld w 0 16, path := pathCode p, mts := s.mts, total := satInc a.total, stage := 1, clean := false,
        result := 1, log := ({ mts := s.mts, cls := fld w 12 4, idx := fld w 0 12, result := 1, path := pathCode p, cleanUs := s.draw.1.toNat % 2 ^ 32,
                               totalUs := s.draw.1.toNat / 2 ^ 32 } :: a.log).take 8 }).written 0 0x84000))

/-- Semaphores, interrupt acknowledges, ring pointers and the calibration enable (R120, R478, R480, R482, R485). -/
def Obligations.SemaphoreAndInterruptWritesComplete : Prop :=
  ∀ (s : State) (p : Path), s.pathLive p = true →
    (∀ n i, n < 64 → portIdx p = some i → s.semOwner n = 0 → exec (.semReadAcquire p n) s = .next (((s.setSem n (masterOf p)).portRd i 0).after)) ∧
    (∀ n i, n < 64 → portIdx p = some i → s.semOwner n ≠ 0 → exec (.semReadAcquire p n) s = .next ((s.portRd i (cw (s.semOwner n))).after)) ∧
    (∀ n, n < 64 → s.semOwner n = masterOf p → exec (.semRelease p n) s = .next ((s.setSem n 0).written 0 (0x800 + 4 * n))) ∧
    (∀ n, n < 64 → s.semOwner n ≠ masterOf p → exec (.semRelease p n) s =
      .next ((s.modHost fun h => { h with hpStat := setb h.hpStat 2 }).written 0 (0x800 + 4 * n))) ∧
    (∀ r w, r < 2 → s.secureBy p = true → exec (.semHeldRelease p r w) s = .next ((s.forEach (List.range 32) fun x i =>
      if bit w i then x.setSem (32 * r + i) 0 else x).written 0 (0x900 + 4 * r))) ∧
    (∀ w, exec (.irqVecAckWrite p w) s = .next ((s.modHost fun h => ({ h with vecAck := h.vecAck &&& ~~~w } : HostSide).sendVecs
      (if s.part.featX && s.host.msix then s.vecOrs &&& w.toNat else 0)).written 0 0x510)) ∧
    (∀ r w, r < 16 → s.part.featX = true → exec (.ringRdPtrWrite p r w) s = .next ((s.modRing r fun q =>
      q.writeRd w 2).written 0 (0xA0020 + 0x40 * r))) ∧
    (∀ w, exec (.ringRdPtrWrite p 0xFF w) s = .next ((s.modHost fun h => { h with loc := h.loc.writeRd w 2 }).written 0 0xA0404)) ∧
    (∀ d b, s.fitted d = true → exec (.bgEnWrite p d b) s = .next ((s.modDie d fun u =>
      { u with bgEn := b, hitsLog2 := min 28 (max 22 (u.hitsLog2 % 32)), seedSaveH := u.seedSaveH % 256 }).written d 0x20800))

/-- The accesses over SPI, I2C or BAR0 of a port that is free (R19, R57, R340, R464, R471, R473, R476): a fast register of die 0 is
written at once, in the view addressed; a slow one waits in the bridge queue; a follower's write goes out and stalls the port; a
non-secure write into a secure range is dropped and marked. -/
def Obligations.AccessesComplete : Prop :=
  ∀ (s : State) (p : Path) (i a : Nat) (w : Word), s.pathLive p = true → p ≠ .bar2 → portIdx p = some i → (s.port i).busy = none →
    a < 2 ^ 25 → a % 4 = 0 → isInd a = false →
    let off := accOff a
    let v := accView a
    let here : Prop := s.letterAbsent off = false
    (here → accDie a = 0 → s.violates p 0 off true = false → isSlow off = false → v = 0 →
      exec (.registerWrite p a w) s = .next ((s.writeBase p 0 off w).after) ∧
      exec (.satCounterClear p a w) s = .next ((s.writeBase p 0 off w).after)) ∧
    (here → accDie a = 0 → s.violates p 0 off true = false → isSlow off = false → v ≠ 0 →
      let m := w &&& rwMask off
      let x := match v with | 1 => s.rdReg 0 off ||| m | 2 => s.rdReg 0 off &&& ~~~m | _ => s.rdReg 0 off ^^^ m
      exec (.aliasWrite p a w) s = .next (if m = 0 then s.after else (s.writeBase p 0 off (x &&& rwMask off)).after) ∧
        exec (.registerWrite p a w) s = exec (.aliasWrite p a w) s) ∧
    (accDie a = 0 → s.violates p 0 off true = false → isSlow off = true → s.host.slowQ.length < 8 →
      exec (.registerWrite p a w) s = .next ((s.modHost fun h => { h with slowQ := h.slowQ ++ [(a % 2 ^ 22, w)] }).after)) ∧
    (here → accDie a ≠ 0 → s.dieUp (accDie a) = true → exec (.registerWrite p a w) s =
      .next (((s.sendWrite (accDie a) a w).modPort i fun t =>
        { t with busy := some { path := p, addr := a, write := true, val := w } }).after)) ∧
    (accDie a = 0 → s.violates p 0 off true = true →
      exec (.registerWrite p a w) s = .next ((s.modHost fun h => { h with violH := true }).after)) ∧
    (s.fitted (accDie a) = false ∨ ¬here → exec (.registerWrite p a w) s = .next s.after) ∧
    (here → (s.port i).indAddr = a → accDie a = 0 → s.violates p 0 off true = false → isSlow off = false → v = 0 → indForbidden a = false →
      let next := fun (t : Port) => { t with indAddr := if t.indInc then (t.indAddr + 4) % 2 ^ 25 else t.indAddr }
      exec (.indDataAccess p true w) s = .next (((s.writeBase p 0 off w).modPort i next).after) ∧
      ((off < 0x800 ∨ 0x900 ≤ off) → s.violates p 0 off false = false →
        exec (.indDataAccess p false w) s = .next (((s.portRd i (s.rdReg 0 off)).modPort i next).after)))

/-- A stitch engine that stands at an instruction executes it (R359, R361, R363, R364). -/
def Obligations.StitchInstructionsComplete : Prop :=
  ∀ (s : State) (e : Nat), s.hasStitch e = true →
    let u := s.stitch e
    let v := u.next 1
    (u.fetch = .instr .halt → u.wq ≠ [] →
      exec (.halt e) s = .next ((s.setStitch e { u with steps := u.steps + 1, draining := true }).ran e)) ∧
    (u.fetch = .instr .halt → u.wq = [] → ∃ t, exec (.halt e) s = .next (State.ran t e) ∧ (t.stitch e).busy = false ∧
      (t.stitch e).runCnt = satInc u.runCnt ∧ (t.stitch e).overrun = false ∧ (t.stitch e).prog = u.prog ∧ (t.stitch e).g = u.g) ∧
    (∀ gd m, u.fetch = .instr (.waitEvent gd m) → u.events &&& m.toNat = 0 →
      exec (.waitEvent e) s = .next ((s.setStitch e { v with wait := .event gd.toNat m.toNat }).ran e)) ∧
    (∀ gd m, u.fetch = .instr (.waitEvent gd m) → u.events &&& m.toNat ≠ 0 →
      let x := u.events &&& m.toNat
      exec (.waitEvent e) s = .next ((s.setStitch e { v with wait := .none, g := u.g.set gd.toNat (cw x), events := u.events - x }).ran e)) ∧
    (∀ x n, u.fetch = .instr (.waitTime x n) →
      exec (.waitTime e) s = .next ((s.setStitch e (if n = 0 then v else
        { v with wait := .time x.toNat (if x = 1 then s.tb.k + n.toNat else n.toNat) })).ran e)) ∧
    (∀ g w lo wd, u.fetch = .instr (.setField g w lo wd) → w.toNat < 0x40 → u.wq.length < 8 →
      let q : UnitWrite := { word := w.toNat, mask := fieldMask lo.toNat wd.toNat, val := (u.reg g <<< lo.toNat) &&& fieldMask lo.toNat wd.toNat }
      exec (.setField e) s = .next ((s.setStitch e { v with wq := u.wq ++ [q] }).ran e)) ∧
    (∀ g w lo wd, u.fetch = .instr (.setField g w lo wd) → w.toNat < 0x40 → 8 ≤ u.wq.length → exec (.setField e) s = .next (s.ran e)) ∧
    (∀ g w lo wd, u.fetch = .instr (.setField g w lo wd) → 0x60 ≤ w.toNat → w.toNat < 0x80 →
      let f := fieldMask lo.toNat wd.toNat
      let x := (u.loc.getD (w.toNat - 0x60) 0 &&& ~~~f) ||| ((u.reg g <<< lo.toNat) &&& f)
      exec (.setField e) s = .next ((s.setStitch e { v with loc := u.loc.set (w.toNat - 0x60) x }).ran e)) ∧
    (∀ w lo wd, u.fetch = .instr (.clrField w lo wd) → w.toNat < 0x40 → u.wq.length < 8 →
      exec (.clrField e) s = .next ((s.setStitch e { v with wq := u.wq ++ [{ word := w.toNat, mask := fieldMask lo.toNat wd.toNat, val := 0 }] }).ran e)) ∧
    (∀ w lo wd, u.fetch = .instr (.clrField w lo wd) → 0x60 ≤ w.toNat → w.toNat < 0x80 →
      let x := u.loc.getD (w.toNat - 0x60) 0 &&& ~~~fieldMask lo.toNat wd.toNat
      exec (.clrField e) s = .next ((s.setStitch e { v with loc := u.loc.set (w.toNat - 0x60) x }).ran e)) ∧
    (∀ g w lo wd, u.fetch = .instr (.setField g w lo wd) → 0x40 ≤ w.toNat → (w.toNat < 0x60 ∨ 0x80 ≤ w.toNat) →
      exec (.setField e) s = .next ((s.setStitch e v).ran e)) ∧
    (∀ w lo wd, u.fetch = .instr (.clrField w lo wd) → 0x40 ≤ w.toNat → (w.toNat < 0x60 ∨ 0x80 ≤ w.toNat) →
      exec (.clrField e) s = .next ((s.setStitch e v).ran e)) ∧
    (∀ w lo wd, u.fetch = .instr (.clrField w lo wd) → w.toNat < 0x40 → 8 ≤ u.wq.length → exec (.clrField e) s = .next (s.ran e)) ∧
    (∀ g w lo wd, u.fetch = .instr (.read g w lo wd) →
      let far := decide (w.toNat < 0x40)
      exec (.read e) s = .next (((if far then s.draw.2 else s).setStitch e { v with
        steps := u.steps + (if far then 1 + s.draw.1.toNat % 16 else 1), g := u.g.set g.toNat ((s.viewWord e w.toNat >>> lo.toNat) &&& fieldMask 0 wd.toNat) }).ran e)) ∧
    (∀ g o, u.fetch = .instr (.cmp g o) →
      let a := u.reg g
      let b := u.operand o
      exec (.cmp e) s = .next ((s.setStitch e { v with
        fz := decide (a = b), fn := (a - b).msb, fc := decide (b.toNat ≤ a.toNat), fv := decide (a.msb ≠ b.msb) && decide ((a - b).msb ≠ a.msb) }).ran e)) ∧
    (∀ c x, u.fetch = .instr (.branch c x) →
      exec (.branch e) s = .next ((s.setStitch e (if condHolds u.fz u.fn u.fc u.fv c.toNat then { v with pc := x.toNat } else v)).ran e)) ∧
    (∀ gd l ga o, u.fetch = .instr (.add gd l ga o) →
      let a : Word := if l then 0 else u.reg ga
      let b := u.operand o
      exec (.add e) s = .next ((s.setStitch e { v with
        g := u.g.set gd.toNat (a + b), fz := decide (a + b = 0), fn := (a + b).msb, fc := decide (2 ^ 32 ≤ a.toNat + b.toNat), fv := decide (a.msb = b.msb) && decide ((a + b).msb ≠ a.msb) }).ran e)) ∧
    (∀ g x, u.fetch = .instr (.loop g x) →
      exec (.loop e) s = .next ((s.setStitch e { v with
        g := u.g.set g.toNat (u.reg g - 1), pc := if u.reg g - 1 = 0 then v.pc else x.toNat }).ran e)) ∧
    (∀ b, u.fetch = .instr (.emitDb b) → u.emit0 < 16 →
      exec (.emit e) s = .next (((s.setStitch e { v with emit0 := u.emit0 + 1 }).modMbx u.dbChan fun m =>
        { m with c2hDb := setb m.c2hDb b.toNat }).ran e)) ∧
    (∀ x, u.fetch = .instr (.emitRec x) → u.emit1 < 16 →
      exec (.emit e) s = .next (((s.setStitch e { v with emit1 := u.emit1 + 1, seq := (u.seq + 1) % 256 }).pushExport (dieOfStitch e)
        [u.record e x.toNat]).ran e)) ∧
    (∀ b, u.fetch = .instr (.emitDb b) → 16 ≤ u.emit0 →
      exec (.emit e) s = .next ((s.setStitch e { v with hist := setb u.hist 4 }).ran e)) ∧
    (∀ x, u.fetch = .instr (.emitRec x) → 16 ≤ u.emit1 →
      exec (.emit e) s = .next ((s.setStitch e { v with hist := setb u.hist 4 }).ran e))

/-- The events of a stitch engine: the lowest pending point starts at its entry with its context words, a wait ends, 4 096 steps overrun, and
the head of the write queue reaches its unit whole, which after a HALT ends the invocation once the queue is empty (R357, R359, R361, R365 to
R367, R369). The steps of a unit access, and of a stall for it, are a free draw of 1 to 16 (the model's choice, log entry 6). -/
def Obligations.StitchEventsComplete : Prop :=
  ∀ (s : State) (e : Nat), s.hasStitch e = true →
    let u := s.stitch e
    (∀ pt ws ts, u.trig = (pt, ws) :: ts → (∀ t ∈ ts, pt < t.1) → u.busy = false → u.commitBy.all (·.first) = true → u.enable = true →
      u.loaded = true → u.entries.getD pt 0xFF ≠ 0xFF →
      exec (.stitchInvoke e) s = .next ((s.setStitch e { u with
        trig := ts, commitBy := u.commitBy.map fun w => { w with first := false }, busy := true, point := pt, pc := u.entries.getD pt 0, ctx := (ws ++ List.replicate 32 0).take 32, fz := false, fn := false,
        fc := false, fv := false, steps := 0, emit0 := 0, emit1 := 0, events := 0, wait := .none, draining := false, wq := [] }).ran e)) ∧
    (∀ gd m, u.busy = true → u.wait = .event gd m → u.events &&& m ≠ 0 →
      exec (.stitchWaitResume e) s = .next ((s.setStitch e { u with
        wait := .none, g := u.g.set gd (cw (u.events &&& m)), events := u.events - (u.events &&& m) }).ran e)) ∧
    (∀ x n, u.busy = true → u.wait = .time x n → (x = 1 → n ≤ s.tb.k) →
      exec (.stitchWaitResume e) s = .next ((s.setStitch e { u with wait := .none }).ran e)) ∧
    (u.busy = true → 4096 ≤ u.steps →
      exec (.stitchOverrun e) s = .next ((s.setStitch e { u with
        busy := false, overrun := true, wq := [], wait := .none, draining := false, events := 0, runCnt := satInc u.runCnt,
        maxStep := max u.maxStep 4096, hist := setb (satFlag u.hist 6 (satInc u.runCnt)) 0,
        happened := u.happened ++ [{ sub := 0, data := u.point }] }).ran e)) ∧
    (∀ q qs, u.wq = q :: qs → u.awaits = true → 4096 ≤ u.steps + 1 + s.draw.1.toNat % 16 →
      exec (.stitchUnitWrite e) s = .next ((s.draw.2.setStitch e { u with
        steps := 4096, busy := false, overrun := true, wq := [], wait := .none, draining := false, events := 0, runCnt := satInc u.runCnt,
        maxStep := max u.maxStep 4096, hist := setb (satFlag u.hist 6 (satInc u.runCnt)) 0,
        happened := u.happened ++ [{ sub := 0, data := u.point }] }).ran e)) ∧
    (∀ q qs, u.wq = q :: qs →
      let n := if u.awaits then 1 + s.draw.1.toNat % 16 else 0
      u.steps + n < 4096 →
      let a := (if u.awaits then s.draw.2 else s).setStitch e { u with wq := qs, steps := u.steps + n }
      let b := a.applyUnitWrite e q
      let x := b.stitch e
      let h := b.setStitch e { x with
        busy := false, overrun := false, wait := .none, draining := false, events := 0, runCnt := satInc x.runCnt,
        maxStep := max x.maxStep (min 4096 x.steps), hist := satFlag x.hist 6 (satInc x.runCnt),
        crossDone := if classOf e = 1 ∧ x.point = 0 then (x.ctx.drop 6).take 2 else x.crossDone }
      (u.draining = false ∨ qs ≠ [] → exec (.stitchUnitWrite e) s = .next (b.ran e)) ∧
      (u.draining = true → qs = [] → (classOf e ≠ 0 ∨ x.point ≠ 0) → exec (.stitchUnitWrite e) s = .next (h.ran e)) ∧
      (u.draining = true → qs = [] → classOf e = 0 → x.point = 0 →
        exec (.stitchUnitWrite e) s = .next (State.ran (h.modDpll (8 * dieOfStitch e + e % 28) fun v =>
          { v with sel := { v.sel with pend := v.sel.pend.map fun p => { p with halted := true } } }) e))) ∧
    (∀ (a : State) (q : UnitWrite), (viewReg e q.word = none → a.applyUnitWrite e q = a) ∧
      ∀ d off, viewReg e q.word = some (d, off) →
        let w := (a.rdReg d off &&& rwMask off &&& ~~~ q.mask) ||| (q.val &&& q.mask)
        a.applyUnitWrite e q = (a.wrReg 0 d off w true).modDx d fun x =>
          { x with bad := x.bad.filter (· ≠ off), parDue := x.parDue.filter (· ≠ off) })

/-- The events of the TDC channels: an edge is taken or merged, a fill ends, a background histogram completes, the cores swap, the seeds are
saved (R104, R106, R112 to R116, R119). -/
def Obligations.TdcEventsComplete : Prop :=
  ∀ (s : State) (d c : Nat), c < 48 → s.hasChan (48 * d + c) = true →
    let n := 48 * d + c
    let u := s.chan n
    (∀ coarse a b rising, s.running = true → (s.die d).tbLock = true → (s.die d).mclkOk = true → s.tb.restart = false → u.cal.measures = true →
      a < 1152 → b < 1152 → s.activeEdge d c rising = true → (u.core (1 - u.active)).role ≠ .overlapEnd →
      (c < 32 ∨ s.chanValid n = true) →
      let x := s.extOfCapture n u.active coarse (if u.active = 0 then a else b)
      let m := extToMts x
      0 ≤ wrapDiff (2 ^ 64) m s.mts →
      (wrapDiff (2 ^ 64) m (mtsOf (s.tb.k + 1)) < 0 → ∃ t, exec (.tdcEdgeCapture d c (coarse, rising) a b) s = .next t ∧
        ((∀ l, u.last = some l → mergeGap ≤ (wrapDiff extMod x l).natAbs) → (t.chan n).last = some x ∧ (t.chan n).win = u.win ++ [x]) ∧
        (∀ l, u.last = some l → (wrapDiff extMod x l).natAbs < mergeGap →
          (t.chan n).merged = satInc u.merged ∧ (t.chan n).last = some l ∧ (t.chan n).win = u.win)) ∧
      (0 ≤ wrapDiff (2 ^ 64) m (mtsOf (s.tb.k + 1)) → exec (.tdcEdgeCapture d c (coarse, rising) a b) s =
        .next ((s.setChan n { u with ahead := u.ahead ++ [(coarse, a, b)] }).after))) ∧
    (∀ coarse a b, c < 24 → exec (.tdcEdgeCapture d c (coarse, (s.input (24 * d + c)).decl.falling) a b) s = .next s.after) ∧
    (∀ h0 h1 : List Nat, s.tb.tbEn = true → s.tb.restart = false → h0.length = 1152 → h1.length = 1152 →
      ∃ t, exec (.tdcFillEnd d c h0 h1) s = .next t ∧ t.chan n = (u.endFill h0 h1 (s.die d).seedRec.profile).begun (s.bgHits d) ∧
        (u.cal = .fill → (t.chan n).cal.measures = true)) ∧
    (∀ h : List Nat, s.tb.tbEn = true → s.tb.restart = false → (s.die d).bgFrozen = false → u.cal.measures = true →
      (u.core (1 - u.active)).role = .calibrating → h.length = 1152 → 2 ^ u.cyc.getD (s.bgHits d) ≤ sumN h →
      ∃ t, exec (.bgHistogramDone d c h) s = .next t ∧ t.chan n = (u.histogram (1 - u.active) h).begun (s.bgHits d)) ∧
    (∀ pulses : Int, s.tb.restart = false → (s.die d).bgFrozen = false → u.active ≤ 1 → (u.core (1 - u.active)).role = .overlapEnd → u.ahead = [] →
      ∃ t, exec (.coreSwap d c pulses) s = .next t ∧ (t.chan n).active = 1 - u.active ∧ (t.chan n).swapCnt = satInc u.swapCnt ∧
        (t.chan n).delta = u.delta + (if 256 ≤ u.ovlCnt then divRound u.ovlSum u.ovlCnt else divRound pulses 256)) ∧
    (s.dieUp d = true → (s.dx d).mode = 2 → s.seedDue d = true → exec (.seedSave d) s =
      .next (((s.queueSave d 1 false (.seed (s.seedRecord d (s.dx d).nv.seed)) none .none).modDie d fun x =>
        { x with seedDone := true, seedAt := s.tb.k }).after))

/-- The update boundary and the decision tick (R31, R74, R121). -/
def Obligations.BoundaryAndTickComplete : Prop :=
  ∀ s : State, s.running = true →
    (∃ t, exec .updateBoundary s = .next t ∧ t.tb.k = s.tb.k + 1 ∧ t.tb.tbEn = true ∧ t.tb.restart = s.tb.restart ∧
      t.tb.gapInWindow = s.tb.restart) ∧
    (∃ t, exec .decisionTick s = .next t ∧ t.tb = s.tb ∧
      ∀ n, s.hasInput n = true → t.input n = (s.input n).tick (s.tb.k / winPerMs) (s.measValid n))

/-- The timers and monitors of the inputs (R74 to R77, R86, R87, R90, R91). -/
def Obligations.InputEventsComplete : Prop :=
  ∀ (s : State) (n : Nat), s.hasInput n = true →
    let u := s.input n
    (u.state = .qualifying → u.causes = [] → (u.endWtr = true ∨ u.wtrLeft = 0) → u.inGap (s.measValid n) = false →
      ∃ t, exec (.wtrExpire n) s = .next t ∧ (t.input n).state = .qualified ∧ bit (t.input n).hist 10 = true ∧ (t.input n).wtrLeft = 0) ∧
    (n < 192 → u.running = true → u.inGap (s.measValid n) = false → s.losDue n = true → exec (.losTimeout n) s =
      .next ((s.setInput n { u with
        los := true, hist := setb u.hist 2, gateOpen := none, pjFit := 0, edgeRun := 0, dm := { u.dm with opened := none } }).after)) ∧
    (n < 192 → u.running = true → u.los = true → u.inGap (s.measValid n) = false → (if u.decl.freq < 1000 then 2 else 16) ≤ u.edgeRun →
      (u.decl.mode ≠ 0 ∨ u.decl.type = 6) → exec (.losClear n) s =
      .next ((s.setInput n { u with los := false, freq := true, gateOpen := none, hist := setb u.hist 3 }).after)) ∧
    (∀ a, u.running = true → u.los = false → s.gateWord n = true → u.gateOpen = some a → a ≠ s.gatePoint n s.tb.k →
      u.gateK + winPerMs * gateMs u.mon.freqGate ≤ s.tb.k →
      let b := s.gatePoint n s.tb.k
      let q := gateOffset (s.gatePeriod n) a b
      let mag : Rat := ((ratRound q).natAbs : Rat)
      let set : Bool := decide (pptWord (10000 * u.mon.freqSet) < mag)
      let clr : Bool := decide (mag ≤ pptWord (10000 * u.mon.freqClr))
      exec (.freqGateEnd n) s = .next ((s.setInput n { u with
        fofs := fmtFreq q, gateOpen := some b, gateK := s.tb.k, freq := set || (u.freq && !clr), hist := setbIf u.hist 3 set }).after)) ∧
    (u.gateOpen = none → u.running = true → u.los = false → s.gateWord n = true → exec (.freqGateEnd n) s = .next ((s.setInput n u).after)) ∧
    (u.running = true → u.los = false → s.gateWord n = true → u.dm.opened = none → exec (.driftEvaluation n) s =
      .next ((s.setInput n { u with dm := { u.dm with opened := some (s.gatePoint n s.tb.k), openedK := s.tb.k } }).after)) ∧
    (u.running = true → u.los = false → s.gateWord n = true → u.dm.opened = some (s.gatePoint n s.tb.k) →
      exec (.driftEvaluation n) s = .next s.after) ∧
    (∀ a, u.running = true → u.los = false → s.gateWord n = true → u.dm.opened = some a → a ≠ s.gatePoint n s.tb.k →
      u.dm.openedK + winPerSec ≤ s.tb.k → ∃ t, exec (.driftEvaluation n) s = .next t ∧ (t.input n).dm.opened = some (s.gatePoint n s.tb.k) ∧ (t.input n).dm.openedK = s.tb.k ∧
        (t.input n).state = u.state ∧ (t.input n).dm.samples.length ≤ u.mon.driftWin) ∧
    (192 ≤ n → u.running = true → u.inGap (s.measValid n) = false → u.mon.staleS ≠ 0 →
      ((s.td (n - 192)).lastAccK.getD (s.td (n - 192)).enableK) + u.mon.staleS * winPerSec ≤ s.tb.k →
      exec (.staleTimeout n) s = .next ((s.setInput n { u with stale := true, hist := setb u.hist 7 }).after)) ∧
    (∀ k, s.hasDpll k = true → dieOfInput n ≠ dieOfDpll k → s.dieUp (dieOfInput n) = true →
      exec (.streamTimeout k n) s = .next ((s.modDpll k fun q => { q with sel := { q.sel with
        cands := q.sel.cands.map fun c => if c.input = n ∧ 32 ≤ c.silent then { c with stream := true, rCause := 11 } else c } }).after)) ∧
    (u.enable = true → s.measValid n = false → (320 < u.invalidRun ∨ u.running = false) →
      ∃ t, exec (.notValidTimeout n) s = .next t ∧ (t.input n).notValid = true)

/-- The events of the DPLLs (R48, R153, R155 to R158, R160, R161, R190, R192 to R194, R232, R233, R235). A switch executes on the estimates of the
boundary that ends the window (the model's reading, log entry 26). -/
def Obligations.DpllEventsComplete : Prop :=
  ∀ (s : State) (n : Nat), s.hasDpll n = true →
    let u := s.dpll n
    (u.sel.holdoff ≠ 0 → u.sel.holdoff ≤ s.tb.k →
      exec (.holdoffExpire n) s = .next ((s.setDpll n { u with sel := { u.sel with holdoff := 0 } }).after)) ∧
    (∀ p, s.running = true → u.sel.pend = some p → p.atK ≤ s.tb.k → p.hook = false → u.enable = true → u.frozen = false → u.parityHold = false → u.fbFault = false →
      u.force ≠ 1 → u.force ≠ 2 →
      let b := s.modDpll n fun x => { x with sel := { x.sel with cands := s.selBoundary n (s.tb.k + 1) } }
      (p.want ≠ 0x1FF → p.want ≠ u.selInput → b.stillEligible n p.want = true → ∃ t, exec (.switchExecute n) s = .next t ∧
        (t.dpll n).selInput = p.want ∧ (t.dpll n).sel.pend = none ∧ (t.dpll n).row = (s.input p.want).decl.type ∧
        (t.dpll n).state = (if u.state = .locked then .locked else .acquiring) ∧ bit (t.dpll n).sel.hist 0 = true ∧
        (t.dpll n).sel.switchCnt = satInc u.sel.switchCnt) ∧
      (p.want ≠ 0x1FF → p.want ≠ u.selInput → b.stillEligible n p.want = false → ∃ t, exec (.switchExecute n) s = .next t ∧
        (t.dpll n).selInput = u.selInput ∧ (t.dpll n).sel.pend = none ∧ (t.dpll n).state = u.state ∧
        (t.dpll n).sel.cancelCnt = satInc u.sel.cancelCnt ∧ bit (t.dpll n).sel.hist 6 = true) ∧
      (p.want = 0x1FF → u.cfg.role = 1 → u.state = .locked ∨ u.state = .acquiring → ∃ t, exec (.switchExecute n) s = .next t ∧
        (t.dpll n).selInput = 0x1FF ∧ (t.dpll n).sel.pend = none ∧ (t.dpll n).state = if u.ho.valid then .holdover else .freerun)) ∧
    (∀ δ : Rat, u.enable = true → u.gate.running = true → s.tb.restart = false →
      let f := s.streamFreq u.refStream
      u.gate.startK + 3200 * u.gateLenEval f ≤ s.tb.k → u.deltaAt s.tb.k (periodOf f) (periodOf (s.fbFreq n)) = some δ →
      let r := ({ u with rows := u.rowsEval } : DpllUnit).rowNow
      let lim := 4 * (r.lockThr : Rat) + (if u.res = 0 then 0 else (r.psl : Rat))
      (u.state = .locked → ∃ t, exec (.lockGateEnd n) s = .next t ∧
        (lim < ratAbs δ → (t.dpll n).state = .acquiring ∧ (t.dpll n).locklossCnt = satInc u.locklossCnt ∧ bit (t.dpll n).hist 1 = true) ∧
        (ratAbs δ ≤ lim → (t.dpll n).state = .locked ∧ (t.dpll n).locklossCnt = u.locklossCnt)) ∧
      (u.state = .acquiring → u.acqFast = true → ∃ t, exec (.lockGateEnd n) s = .next t ∧ (t.dpll n).state = .acquiring ∧
        (t.dpll n).gate.passed = 0 ∧ (t.dpll n).steer = u.steer ∧ (t.dpll n).acqFast = decide ((r.lockThr : Rat) < ratAbs δ)) ∧
      (u.state = .acquiring → u.acqFast = false →
        ratAbs δ ≤ (r.lockThr : Rat) → u.res = 0 → ratAbs u.phLast ≤ (r.phWin : Rat) → u.gate.bad = false →
        ∃ t, exec (.lockGateEnd n) s = .next t ∧ (t.dpll n).state = (if 2 ≤ u.gate.passed then .locked else .acquiring) ∧
          (t.dpll n).gate.passed = (if 2 ≤ u.gate.passed then 3 else u.gate.passed + 1))) ∧
    (u.cfg.role = 2 → u.enable = true → s.tb.restart = false → 32 ≤ u.mirrorSilent →
      ∃ t, exec (.mirrorLeaderLost n) s = .next t ∧ (t.dpll n).mirrorLost = true ∧ bit (t.dpll n).hist 7 = true ∧ (t.dpll n).state =
        if u.mirrorHad = true ∧ u.frozen = false ∧ u.parityHold = false ∧ u.force ≠ 1 ∧ u.force ≠ 2 then .holdover else u.state) ∧
    (u.enable = true → u.fbFault = false → s.tb.restart = false → s.tapBusy n = false → 320 < u.fbBadRun →
      ∃ t, exec (.fbFaultTimeout n) s = .next t ∧ (t.dpll n).fbFault = true ∧ bit (t.dpll n).hist 6 = true ∧ (t.dpll n).state =
        if u.state = .locked ∨ u.state = .acquiring then (if u.holdValid then .holdover else .freerun) else u.state) ∧
    (u.enable = true → exec (.freerunWordRefresh n) s =
      .next ((s.setDpll n { u with freeWord := (s.freeWordOf n).1, frBasis := (s.freeWordOf n).2 }).after)) ∧
    (u.enable = true → u.cfg.role = 1 → u.state = .holdover →
      let h := min 0xFFFFFFFF (u.ho.holdS + 1)
      exec (.holdoverWordRefresh n) s = .next ((s.setDpll n { u with ho := s.formHold n h true (s.fmOf n) }).after) ∧
        (s.formHold n h true (s.fmOf n)).holdS = h ∧ (s.formHold n h true (s.fmOf n)).word = fmtFreq (s.holdWordOf n).2.2) ∧
    (u.enable = true → u.cfg.role = 1 → s.tb.k % tickWin u.ho.tick = 0 → u.ho.accN ≠ 0 →
      let c : Rat := u.ho.accN
      let x : HoSample := { u := u.ho.accU / c, y := u.ho.accY / c, c := u.ho.accC, s := u.ho.accS / c, tickEnd := s.tb.k, inputs := u.ho.accIn,
                            valid := u.ho.accOk && (s.osc (s.portOfDpll n)).meterOk && decide (u.ho.accN = tickWin u.ho.tick) }
      ∃ t, exec (.historySample n) s = .next t ∧ (t.dpll n).state = u.state ∧ (t.dpll n).ho.accN = 0 ∧ (t.dpll n).ho.tickStart = s.tb.k ∧
        (u.ho.frozenE = none ∨ x.valid = true → (t.dpll n).ho.ring = lastN 8192 (u.ho.ring ++ [x])) ∧
        (u.ho.frozenE ≠ none → x.valid = false → (t.dpll n).ho.ring = u.ho.ring))


/-- The events of the oscillator ports and the cairn engine (R43, R215 to R217, R221, R222, R224 to R226, R237). -/
def Obligations.OscillatorEventsComplete : Prop :=
  ∀ (s : State) (o : Nat), s.hasOsc o = true →
    let u := s.osc o
    (∀ x : Int, u.active = true → s.running = true → s.tb.restart = false → s.tb.oscLoss = false → s.dieUp (dieOfOsc o) = true →
      exec (.portMeterSample o x) s = .next ((s.setOsc o { u with
        meter := lastN 16 (u.meter ++ [if o = s.masterPort then 0 else (x : Rat)]), meterOk := true }).after)) ∧
    (∀ x : Int, u.active = false → exec (.portMeterSample o x) s = .next (((s.setOsc o { u with meterOk := false }).forEach (s.all 8) fun t k =>
      if t.portOfDpll k = o then t.modDpll k fun v => { v with ho := { v.ho with accOk := false } } else t).after)) ∧
    (∀ ohms, (s.model o).tsense = true → tempFault (s.model o).r25 ohms = false → exec (.thermistorRead o ohms) s = .next ((s.setOsc o { u with
      goods := u.goods + 1, faults := 0, temp := fmtS 16 (tempOf (s.model o).r25 (s.model o).beta ohms (s.model o).tofs),
      tempValid := u.tempValid || decide (10 ≤ u.goods + 1) }).after)) ∧
    (∀ ohms, (s.model o).tsense = true → tempFault (s.model o).r25 ohms = true → exec (.thermistorRead o ohms) s = .next ((s.setOsc o { u with
      faults := u.faults + 1, goods := 0, tempFaultH := true, tempValid := u.tempValid && decide (u.faults + 1 < 10) }).after)) ∧
    (u.active = true → ∃ t, exec (.portActivityLoss o) s = .next t ∧
      t.osc o = { u with active := false, started := false, lossH := true, meterOk := false } ∧
      (o = s.masterPort → t.tb = { s.tb with oscLoss := true, oscLossH := true }) ∧ (o ≠ s.masterPort → t.tb = s.tb)) ∧
    (s.belay.phase ≠ 2 → ∃ t, exec .cairnSecond s = .next t ∧ t.cairn.learnUse = ((if s.tb.oscLoss then none else s.learnDpll).getD 0x7F) ∧
      t.cairn.secs = s.cairn.secs + 1 ∧ t.inputs = s.inputs ∧ (t.osc o).sOn = (if u.active then u.sOn + 1 else u.sOn) ∧
      ∀ k, t.dpll k = { s.dpll k with learnBad := (t.dpll k).learnBad }) ∧
    (64 ≤ (s.model o).obsSec →
      let r := (s.model o).learn s.cairn.learnMin s.cairn.learnTauD s.cairn.secs u.sOn s.fresh
      exec (.learningMean o) s = .next (State.after { s.setModel o r.1 with
        cairn := { s.cairn with hist := setbIf (setbIf s.cairn.hist 5 r.2.1) 6 r.2.2 }, fresh := s.fresh + 1 }) ∧
      r.1.obs = [] ∧ r.1.obsSec = 0 ∧
      ((s.model o).obs.length < 48 → r.1 = { s.model o with obs := [], obsSec := 0 }) ∧
      (48 ≤ (s.model o).obs.length → (s.model o).state = .learning ∨ (s.model o).state = .qualified →
        r.1.sinceLearn = 0 ∧ r.1.sinceStart = false ∧ r.1.unsaved = true)) ∧
    ((s.model o).state = .restored → s.cairn.restoreVerifyS ≤ (s.model o).verN → (s.model o).verified s.cairn.kRej = true →
      exec (.restoreVerify o) s = .next ((s.setModel o { s.model o with state := .qualified }).after)) ∧
    ((s.model o).state = .restored → s.cairn.restoreVerifyS ≤ (s.model o).verN → (s.model o).verified s.cairn.kRej = false →
      ∃ t, exec (.restoreVerify o) s = .next t ∧ (t.model o).state = .learning ∧ bit t.cairn.hist 3 = true) ∧
    ((s.model o).state = .qualified → s.learns o = true → s.cairn.saveMin ≠ 0 → exec (.modelSave o) s = .next ((s.saveModel o none).after))


/-- The events of the OPLLs and the outputs (R260 to R263, R270, R271, R273, R275). -/
def Obligations.SynthesisEventsComplete : Prop :=
  ∀ (s : State) (n : Nat),
    (s.hasOpll n = true →
      let u := s.opll n
      (∀ band cover x, u.state = .bandCal → ∃ t, exec (.opllBandCalDone n band cover x) s = .next t ∧
        ((s.dx (dieOfOpll n)).plan.band ≤ cover → t.opll n = { u with state := .locking, band := band % 64, gates := 0, slipThr := (s.dx (dieOfOpll n)).plan.slip }) ∧
        (cover < (s.dx (dieOfOpll n)).plan.band → (t.opll n).state = .fault ∧ (t.opll n).faultCause = 3)) ∧
      (∀ count g, u.state = .locking → u.passes count = true → u.gates < 2 →
        exec (.opllGateEnd n count g) s = .next ((s.setOpll n { u with gates := u.gates + 1 }).after)) ∧
      (∀ count g, u.state = .locking → u.passes count = false →
        exec (.opllGateEnd n count g) s = .next ((s.setOpll n { u with gates := 0 }).after)) ∧
      (∀ count g, u.state = .locked → u.passes count = true →
        exec (.opllGateEnd n count g) s = .next ((s.setOpll n { u with hist := setbIf u.hist 5 (!g) }).after)) ∧
      (∀ count g, u.state = .locked → u.passes count = false → ∃ t, exec (.opllGateEnd n count g) s = .next t ∧
        (t.opll n).state = .fault ∧ (t.opll n).faultCause = 2 ∧ (t.opll n).locklossCnt = satInc u.locklossCnt) ∧
      (u.state = .locked ∨ u.state = .aligning → ∃ t, exec (.opllCycleSlip n) s = .next t ∧
        (t.opll n).state = .fault ∧ (t.opll n).faultCause = 2 ∧ (t.opll n).locklossCnt = satInc u.locklossCnt) ∧
      (u.state = .locking → ∃ t, exec (.opllLockingTimeout n) s = .next t ∧ (t.opll n).state = .bandCal ∧ (t.opll n).relockCnt = satInc u.relockCnt) ∧
      (u.state = .fault → (s.osc (s.portOfOpll n)).active = true → ∃ t, exec (.opllFaultRetry n) s = .next t ∧
        (t.opll n).state = .bandCal ∧ (t.opll n).relockCnt = satInc u.relockCnt) ∧
      (∀ r m ms, u.align = some r → r.todo = m :: ms → ms ≠ [] → s.tb.restart = false → ∀ corr : Int,
        exec (.opllAlignSlot n true corr) s = .next ((s.setOpll n { u with align := some { r with
          todo := ms, rep := 0, done := r.done ++ [(m, some (if (s.aligner n).any (fun k => decide ((s.dpll k).cfg.fbOutput = m)) then 0 else fdWrap corr))] } }).after)) ∧
      (∀ r m, u.align = some r → r.todo = [m] → u.state = .locked → s.tb.restart = false → ∀ corr : Int,
        ∃ t, exec (.opllAlignSlot n true corr) s = .next t ∧ (t.opll n).align = none ∧ (t.out m).aligned = true)) ∧
    (s.hasOut n = true →
      let u := s.out n
      (u.state = .starting → u.startAt = none → ∃ t, exec (.outputFirstEdge n) s = .next t ∧ (t.out n).state = .running ∧ bit (t.out n).hist 0 = true) ∧
      (u.state = .stopping → u.offPend = true → ∃ t, exec (.outputStopLevel n) s = .next t ∧ (t.out n).state = .off ∧ (t.out n).offPend = false))

/-- The events of the time domains (R293, R302, R312). -/
def Obligations.TimeDomainEventsComplete : Prop :=
  ∀ (s : State) (n : Nat), s.hasTd n = true →
    let u := s.td n
    let live : Prop := (u.state = .tracking ∨ u.state = .freerun) ∧ s.belay.phase ≠ 1
    (s.running = true → u.enable = true → u.atSec = none → u.crossOffset < windowNs → ∃ t, exec (.wholeSecondCrossing n) s = .next t ∧
      (t.td n).sec = (u.sec + 1) % 2 ^ 64 ∧ (t.td n).sub = 0 ∧ (t.td n).tod = u.todPend.getD u.tod ∧ (t.td n).todPend = none) ∧
    (u.todDue = true → live → u.tod.format = 1 ∨ u.tod.format = 2 → ∃ t, exec (.todMessageStart n) s = .next t ∧ (t.td n).todDue = false ∧
      (t.td n).todSeq = (u.todSeq + 1) % 256) ∧
    (u.todDue = true → ¬live → exec (.todMessageStart n) s = .next ((s.setTd n { u with todDue := false }).after)) ∧
    (let e := s.stitch (engineOfTd n)
      let len := fld (e.loc.getD 24 0) 0 7
      u.todDue = true → live → 3 ≤ u.tod.format → e.crossDone = cw2 u.crossMts → 1 ≤ len → len ≤ 96 → u.tod.delayMs ≠ 0 → todFits u.tod.delayMs len u.tod.baud = true →
      ∃ t, exec (.todMessageStart n) s = .next t ∧ (t.td n).todDue = false ∧ (t.td n).todOut = e.todBuf len) ∧
    (∀ j, u.lastAccK = some j → u.state = .tracking → j + u.set.holdMs * winPerMs ≤ s.tb.k →
      exec (.tdHoldExpire n) s = .next ((s.setTd n { u with state := .freerun, y := u.integ, slewLimit := false, hist := setb u.hist 1 }).after))

/-- The events of the timebase and of the oscillator ports' starts (R35, R43, R45, R216). -/
def Obligations.TimebaseEventsComplete : Prop :=
  ∀ s : State,
    (∀ d, s.fitted d = true → s.tb.tbEn = true → (d = 0 ∨ (∃ l x, s.parentPort d = some l ∧ s.neighbour d l = some x ∧ (s.die x).tbLock = true) ∨
        (s.parentPort d = none ∧ (s.die (gridParent d)).tbLock = true)) →
      ∃ t, exec (.tbpllLock d) s = .next t ∧ (t.die d).tbLock = true ∧ (d = 0 → (t.die 0).skewValid = true ∧ t.tb.started = true)) ∧
    (s.tb.restart = true → (s.die 0).tbLock = true →
      (∀ d l, s.fitted d = true → l < 4 → (s.link d l).state = .up → 32 ≤ (s.link d l).exchCnt) →
      ∃ t, exec .timebaseRestartEnd s = .next t ∧ t.tb = { s.tb with restart := false } ∧
        ∀ k, s.hasDpll k = true → (s.dpll k).state = .locked → (t.dpll k).state = .locked ∧ (t.dpll k).gate.running = true ∧ (t.dpll k).gate.startK = s.tb.k ∧ (t.dpll k).gate.start = none) ∧
    (∀ o, s.hasOsc o = true → (s.osc o).started = false →
      let v := s.osc o
      let u := (s.setOsc o { v with active := true, started := true, sOn := 0, startCnt := v.startCnt + 1,
                                    meter := if v.active then v.meter else [] }).setModel o (s.model o).onStart
      (o ≠ s.masterPort → exec (.portStart o) s = .next u.after) ∧
      (o = s.masterPort → exec (.portStart o) s = .next (State.after { u with tb := { u.tb with oscLoss := false } }))) ∧
    (∀ o, s.hasOsc o = true → (s.osc o).active = false →
      let u := s.setOsc o { s.osc o with active := true, meter := [] }
      (o ≠ s.masterPort → exec (.oscReturn o) s = .next u.after) ∧
      (o = s.masterPort → exec (.oscReturn o) s = .next (State.after { u with tb := { u.tb with oscLoss := false } })))

/-- The states of a shuttle link (R343 to R347): port `l` of die `d`, which faces die `x`. -/
def Obligations.LinkEventsComplete : Prop :=
  ∀ (s : State) (d l x : Nat), s.neighbour d l = some x → s.fitted d = true → l < (s.die d).links.length →
    let p := s.link d l
    (p.state = .training → ∃ t, exec (.linkTrainDone d l) s = .next t ∧ t.link d l = { p with state := .align, exch := [], exchCnt := 0 }) ∧
    (p.state = .training → ∃ t, exec (.linkTrainTimeout d l) s = .next t ∧ t.link d l = { p with state := .down, retryWait := true } ∧
      bit (t.die d).shtHist 1 = true) ∧
    (p.state = .down → p.retryWait = true → s.tb.tbEn = true → (s.die d).tbLock = true → (s.die x).tbLock = true →
      ∃ t, exec (.linkRetrainRetry d l) s = .next t ∧ (t.link d l).state = .training ∧ (t.link d l).retryWait = false) ∧
    (p.state = .align → 32 ≤ p.exchCnt → (p.parent = true → d ≠ 0 → 32 ≤ p.exch.length) → ∃ t, exec (.linkAlignDone d l) s = .next t ∧
      (t.link d l).state = .up ∧ (t.link d l).skew = p.mean ∧
      (s.parentPort d = some l → d ≠ 0 → (s.die d).cutOff = false →
        (t.die d).skewValid = true ∧ (t.die d).skew = p.mean + (s.die x).skew)) ∧
    (p.state = .up → ∃ t, exec (.linkResetSignal d l) s = .next t ∧ bit (t.die d).shtHist 0 = true ∧
      (s.part.diesLog2 ≠ 1 → t.link d l = { p with state := .resync, crcRun := 0, lane := [] }) ∧
      (s.part.diesLog2 = 1 → (t.link d l).state = .down ∨ (t.link d l).state = .training)) ∧
    (p.state = .up → exec (.laneLockLoss d l) s = exec (.linkResetSignal d l) s) ∧
    (p.state = .resync → s.peerAnswers d l = true → ∃ t, exec (.resyncDone d l) s = .next t ∧ t.link d l = { p.resend with state := .up } ∧
      (t.die d).resyncCnt = satInc (s.die d).resyncCnt ∧ bit (t.die d).shtHist 2 = true) ∧
    (p.state = .resync → s.peerAnswers d l = false → exec (.resyncDone d l) s = .next s.after) ∧
    (p.state = .resync → ∃ t, exec (.resyncTimeout d l) s = .next t ∧ ((t.link d l).state = .down ∨ (t.link d l).state = .training) ∧
      (t.link d l).exch = []) ∧
    (∀ t1 t2 t3 t4, p.state = .align ∨ p.state = .up → ∃ t, exec (.twoWayExchange d l t1 t2 t3 t4) s = .next t ∧
      (t.link d l).exch = lastN 64 (p.exch ++ [((wrapDiff (2 ^ 64) t2 t1 - wrapDiff (2 ^ 64) t4 t3 - tget 0 s.fused.asym (4 * d + l) : Int) : Rat) / 2]) ∧
      (t.link d l).exchCnt = p.exchCnt + 1 ∧ (t.link d l).state = p.state ∧
      (t.link d l).skew = if p.state = .up then meanExch (t.link d l).exch else p.skew)

/-- Frames, skews and the slot plan (R337, R339, R344, R345). -/
def Obligations.FrameEventsComplete : Prop :=
  ∀ (s : State) (d l x : Nat), s.neighbour d l = some x → s.fitted d = true → l < (s.die d).links.length →
    let p := s.link d l
    (∀ f, p.state = .up → s.frameNext d l f = true → ∃ t, exec (.shuttleFrameReceive d l true f) s = .next t ∧
      ((∀ a w, f ≠ .write a w) → (t.link d l).crcRun = 0) ∧
      ∀ i k, f = .word i k → s.tb.k = k → ((s.die d).planned.contains i = true → (t.die d).arrived.contains i = true) ∧
        ∀ j, j < (s.die d).links.length → j < 4 → j ≠ l → (s.link d j).slots.contains i = true → f ∈ (t.link d j).lane) ∧
    (∀ f, p.state = .up → s.frameNext d l f = true → p.crcRun < 15 → ∃ t, exec (.shuttleFrameReceive d l false f) s = .next t ∧
      (t.link d l).crcRun = p.crcRun + 1 ∧ (t.link d l).state = .up ∧ (t.die d).crcCnt = satInc (s.die d).crcCnt ∧
      (t.die d).arrived = (s.die d).arrived) ∧
    (∀ f, p.state = .up → s.frameNext d l f = true → 15 ≤ p.crcRun →
      ∃ t, exec (.shuttleFrameReceive d l false f) s = .next t ∧ (t.link d l).state ≠ .up) ∧
    (∀ f, (p.replay.find? fun g => !p.lane.contains g) = some f → p.state = .up →
      ∃ t, exec (.frameRetransmit d l) s = .next t ∧ t.link d l = { p with lane := enqueue f p.lane }) ∧
    (s.parentPort d = some l → p.state = .up → p.exch ≠ [] → (s.die d).skewValid = true → (s.die d).cutOff = false → s.tb.restart = false → d ≠ 0 →
      ∃ t, exec (.skewUpdate d) s = .next t ∧ (t.die d).skewTarget = ratRound (meanQ (lastN 64 p.exch) + ((s.die x).skew : Rat)) ∧
        (t.die d).skew = (s.die d).skew) ∧
    ((s.die d).reparent = true → s.newParent d = some l → p.exch ≠ [] → (s.die d).cutOff = false → ∃ t, exec (.reparentRelock d) s = .next t ∧ (t.die d).reparent = false ∧
      (t.die d).tbLock = true ∧ (t.die d).skew = p.mean + (s.die x).skew ∧ bit (t.die d).shtHist 4 = true ∧ (t.link d l).parent = true) ∧
    (∃ t, exec .slotPlanAdopt s = .next t ∧
      (t.die d).planned = ((s.streamsOf d).filter fun i =>
        decide (dieOfStream i ≠ d) && s.fitted (dieOfStream i) && decide (s.dist (dieOfStream i) d ≤ 4)).eraseDups ∧
      (l < 4 → (t.link d l).slots.Nodup))

/-- The clock crossings (R350 to R352): crossing `x` of die `d`. -/
def Obligations.CrossingEventsComplete : Prop :=
  ∀ (s : State) (d x : Nat), s.fitted d = true → x < 256 →
    let c := s.crossing (256 * d + x)
    (∀ n, c.inFlight = true → c.pending = none → c.next + n ≤ 15 → exec (.cdcValueDeliver d x n []) s =
      .next ((s.setCrossing (256 * d + x) { c with received := c.holding, inFlight := false, recvCnt := c.recvCnt + c.sent,
                                                   sent := c.next + n, next := 0 }).after)) ∧
    (∀ n v, c.inFlight = false → c.pending = none → c.next + n ≤ 15 → exec (.cdcValueDeliver d x n [v]) s =
      .next ((s.setCrossing (256 * d + x) { c with holding := v, received := v, recvCnt := c.recvCnt + c.sent, sent := c.next + n, next := 0 }).after)) ∧
    (∀ n v w vs, c.inFlight = true → ∃ t, exec (.cdcValueDeliver d x n (vs ++ [v, w])) s = .next t ∧
      (t.crossing (256 * d + x)).received = c.holding ∧ (t.crossing (256 * d + x)).holding = w ∧ (t.crossing (256 * d + x)).pending = none) ∧
    (∀ n vs, 15 < c.next + n → ∃ t, exec (.cdcValueDeliver d x n vs) s = .next t ∧ (t.crossing (256 * d + x)).sent = 15 ∧
      (t.die d).cdcOvfCnt = satInc (s.die d).cdcOvfCnt ∧ bit (t.die d).shtHist 6 = true) ∧
    exec (.phasePredictorValid d x) s = .next ((s.setCrossing (256 * d + x) { c with predictor := true }).after)

/-- The host ports: the SPI status byte, partial words, late, remote and slow accesses (R340, R341, R468 to R474). -/
def Obligations.PortEventsComplete : Prop :=
  ∀ s : State,
    (s.pathLive .spi = true → exec .spiStatus s =
      .next ((s.modHost fun h => { h with spiStatus := b2n (s.port 1).queue.isEmpty + 2 * b2n (bit h.hpStat 0) }).after)) ∧
    exec .spiCsRise s = .next ((s.modPort 1 fun t => { t with partWord := false }).after) ∧
    exec .i2cStop s = .next ((s.modPort 2 fun t => { t with partWord := false }).after) ∧
    (∀ p i a, portIdx p = some i → (s.port i).busy = some a → (s.port i).queue = [] →
      (∃ t, exec (.lateAccess p) s = .next t ∧ (t.port i).busy = none ∧ (t.die 0).rtLateCnt = satInc (s.die 0).rtLateCnt ∧
        bit (t.die 0).shtHist 5 = true ∧ (a.write = false → (t.port i).rd = 0xFFFFFFFF) ∧
        (a.write = true → accDie a.addr = 0 → t.host.slowQ = s.host.slowQ ++ [(slowKey a, a.val)])) ∧
      (∀ d, accDie a.addr = d → d ≠ 0 → a.lost = false → s.routeUp 0 d = true → a.write = false → (s.die d).inbound = [] →
        ∃ t, exec (.remoteAccessComplete p) s = .next t ∧
          (t.port i).busy = none ∧ (t.port i).rd = ((s.dropFrames (isWriteTo d)).modDie d fun u => { u with inbound := [] }).rdReg d (accOff a.addr)) ∧
      (accDie a.addr ≠ 0 → a.lost = false → s.routeUp 0 (accDie a.addr) = true → a.write = true → (s.die (accDie a.addr)).inbound = [] →
        ∃ t, exec (.remoteAccessComplete p) s = .next t ∧ (t.port i).busy = none) ∧
      (a.lost = true ∨ s.routeUp 0 (accDie a.addr) = false → exec (.remoteAccessComplete p) s = .next s.after)) ∧
    (∀ x q, s.host.slowQ = x :: q → exec .slowWriteDrain s = .next
      (((((s.modHost fun h => { h with slowQ := q }).writeView .bar2 0 (x.1 / 2 ^ 20) (x.1 % 2 ^ 20) x.2).slowAdmit 0).slowAdmit 1).slowAdmit 2).after)

/-- The PCIe link and the DMA engine (R482, R484, R487, R488). -/
def Obligations.PcieAndDmaEventsComplete : Prop :=
  ∀ s : State,
    (∀ k, s.part.featX = true → k ≤ 3 → ∃ t, exec (.pcieLinkLoss k) s = .next t ∧ t.host.bme = false ∧
      (∀ i, i < 16 → (t.ring i).enable = false) ∧
      t.host.linkUp = (s.host.linkUp && decide (2 ≤ k)) ∧ t.host.msix = (s.host.msix && decide (k = 3))) ∧
    (s.part.featX = true → exec .pcieLinkUp s = .next ((s.modHost fun h => { h with linkUp := true }).after)) ∧
    (∀ bme msix mask, s.part.featX = true → s.host.linkUp = true → ∃ t, exec (.pcieConfigWrite bme msix mask) s = .next t ∧
      t.host.bme = bme ∧ t.host.msix = msix ∧ t.host.funcMask = mask ∧ (bme = false → ∀ i, i < 16 → (t.ring i).enable = false)) ∧
    (let u := s.admitAll
      ∀ r x xs, u.ringTurn = some r → (u.ring r).q = x :: xs → exec (.ringRecordWrite r) s =
        .next (((u.modRing r fun q => ({ q with q := xs } : Ring).take x s.mts).modHost fun h => { h with
          wrrRing := r, wrrLeft := (if r = h.wrrRing ∧ 0 < h.wrrLeft then h.wrrLeft else (u.ring r).weight) - 1 }).after)) ∧
    (∀ r, s.admitAll.ringTurn ≠ some r → exec (.ringRecordWrite r) s = .next s.admitAll.after) ∧
    (∀ r, (s.ring r).enable = true → 0 < (s.ring r).unreported → ∃ t, exec (.writebackTimerExpire r) s = .next t ∧
      (t.ring r).unreported = 0 ∧ (t.ring r).lastWb = s.mts ∧ bit (t.ring r).hist 0 = true ∧ (t.ring r).wr = (s.ring r).wr)

/-- The resets (R445, R527, R528), each the whole next state: a power-up keeps the contents of the store and clears the rest; RESETn and RESET
with SCOPE 0 also keep the wrong-password counts and the locks, BOOT_OVR and the configuration, history and count of belay; RESET with SCOPE 1
resets the units, the CP and the registers of one die, once the answer to it has left its channel; SYSPLL locks and the ROM of a follower reads
its store. The flash, the fuses, the ageing record and the level of MAIN_FAILn are kept as the model's choice (log entry 15); a page that a power-up cuts is torn (log entry 35). -/
def Obligations.ResetEventsComplete : Prop :=
  ∀ s : State,
    let b := s.belay
    let o := s.host.boot
    let kept : Bool → DieX → DieX := fun locks x =>
      { nv := { cells := x.nv.cells, recA := x.nv.recA, recB := x.nv.recB, journal := x.nv.journal, spares := x.nv.spares, remap := x.nv.remap,
                locked := if locks then x.nv.locked else 0, wrong := if locks then x.nv.wrong else [] }, otp := x.otp, age := x.age }
    let cold : State → State := fun t => { State.reset with
      part := s.part, fused := s.fused, pending := s.pending, fresh := s.fresh, xs := t.xs.map fun x => (x.1, kept false x.2),
      host := { flash := s.host.flash }, belay := { rstCause := 0 } }
    let warm : Nat → State := fun cause => { State.reset with
      part := s.part, fused := s.fused, pending := s.pending, fresh := s.fresh, xs := s.xs.map fun x => (x.1, kept true x.2),
      host := { flash := s.host.flash, boot := { ovrSrc := o.ovrSrc, ovrValid := o.ovrValid } },
      belay := { wakeS := b.wakeS, mainfailEn := b.mainfailEn, autoSave := b.autoSave, debounceMs := b.debounceMs, hist := b.hist, cnt := b.cnt,
                 mainFail := b.mainFail, rstCause := cause } }
    exec (.powerOnReset []) s = .next (cold s).after ∧
    (∀ d mask, exec (.powerOnReset [(d, mask)]) s = .next (cold (s.modNv d fun n => n.cut mask)).after) ∧
    exec .resetn s = .next (warm 1).after ∧
    (∀ x, (s.host.resetReq.find? fun x => (s.mbx x.2.2.1).held.isEmpty) = some x →
      (x.1 = 0 → exec .resetDelayExpire s = .next (warm 2).after) ∧
      (x.1 ≠ 0 → exec .resetDelayExpire s = .next (((s.modHost fun h => { h with
        resetReq := h.resetReq.filter fun y => decide (y ≠ x), cause := (0, x.1, x.2.2.2) :: h.cause }).resetDie x.1).after))) ∧
    ((s.host.resetReq.find? fun x => (s.mbx x.2.2.1).held.isEmpty) = none → exec .resetDelayExpire s = .next s.after) ∧
    (∀ d n, let t := s.resetDie d
      (24 * d ≤ n → n < 24 * d + 24 → t.input n = {}) ∧ (8 * d ≤ n → n < 8 * d + 8 → t.dpll n = {}) ∧ (2 * d ≤ n → n < 2 * d + 2 → t.osc n = {}) ∧
      (4 * d ≤ n → n < 4 * d + 4 → t.opll n = {}) ∧ (16 * d ≤ n → n < 16 * d + 16 → t.out n = {} ∧ t.td n = {} ∧ t.ev n = {}) ∧
      (28 * d ≤ n → n < 28 * d + 28 → t.stitch n = {}) ∧ (48 * d ≤ n → n < 48 * d + 48 → t.chan n = {}) ∧
      (d < 8 → (t.dx d).mode = 0 ∧ (t.dx d).nv.queue = [] ∧ (t.dx d).nv.locked = (s.dx d).nv.locked ∧ (t.die d).booted = false ∧ (t.die d).sysLock = false)) ∧
    (∀ d, s.fitted d = true → (s.die d).sysLock = false → s.belay.phase ≠ 2 →
      let t := s.modDie d fun x => { x with sysLock := true }
      (d = 0 ∨ (s.dx d).rom = true → exec (.syspllLock d) s = .next t.after) ∧
      (d ≠ 0 → (s.dx d).rom = false →
        let n := (s.dx d).nv.bootCheck.readAll
        let v := (((t.modNv d fun _ => n).modDx d fun x => { x with
            rom := true, staging := (match n.record 5 with | .profile p => p | _ => {}), plan := (match n.record 4 with | .plan p => p | _ => {}) })).modDie d
          fun x => { x with seedRec := n.seed, seedAtBoot := !n.seed.segW.isEmpty }
        exec (.syspllLock d) s = .next (if (s.die d).tbLock then v.applyProfile d else v).after))

/-- Boot (R386 to R403, R410). -/
def Obligations.BootEventsComplete : Prop :=
  ∀ s : State,
    let b := s.host.boot
    (∀ strap, (s.die 0).sysLock = true → (s.dx 0).rom = false → s.belay.phase ≠ 3 →
      let src := if b.ovrValid then b.ovrSrc else strap % 4
      ∃ t, exec (.bootRomStart strap) s = .next t ∧ (t.dx 0).rom = true ∧ t.host.boot.ovrValid = false ∧
        (src = 3 → t.host.boot.safe = true ∧ (t.dx 0).mode = 1) ∧ (src = 1 → t.host.boot.download = true)) ∧
    (∀ strap, (s.die 0).sysLock = true → (s.dx 0).rom = false → s.belay.phase = 3 → ∃ t, exec (.bootRomStart strap) s = .next t ∧
      (t.dx 0).rom = true ∧ t.tb.tbEn = (s.belay.tbEn && !oscBad s.tb.oscFreq)) ∧
    ((s.dx 0).mode ≠ 3 → b.step = 1 ∨ (3 ≤ b.step ∧ b.srcHost = false) → ∃ t, exec .unitImageStreamed s = .next t ∧
      t.host.boot.step = (if b.step = 1 then 2 else b.step) ∧
      ∀ d, d ≠ 0 → s.fitted d = true → s.routeUp 0 d = true → (s.dx d).mode = 0 → (s.dx d).rom = true → (t.dx d).gotImage = true) ∧
    ((s.dx 0).mode ≠ 3 → 3 ≤ b.step → b.srcHost = true → ∃ t, exec .unitImageStreamed s = .next t ∧
      ∀ d, d ≠ 0 → s.fitted d = true → s.hasPath d = true → (s.dx d).mode = 0 → (s.dx d).rom = true → (s.dx d).gotImage = false →
        t.host.boot.folNoimg.testBit d = true) ∧
    (∀ d, d ≠ 0 → s.fitted d = true → (s.dx d).gotImage = true → (s.dx d).mode = 0 →
      let i := s.unitImage (s.dx d).gotHost
      let ok := decide (s.manCheck d 2 i.1 = 0) && bodyOk i.1 i.2
      ∃ t, exec (.followerImageStart d) s = .next t ∧ (t.dx d).mode = (if ok then 2 else 1) ∧ (t.dx d).gotImage = false ∧
        (ok = true → (t.die d).booted = true) ∧ (ok = false → t.host.boot.folSafe.testBit d = true)) ∧
    (b.step = 2 → (s.dx 0).mode ≠ 3 → s.bootSaves = false → bodyOk s.leadImage.1 s.leadImage.2 = true →
      ∃ t, exec .leadImageStart s = .next t ∧ (t.dx 0).mode = 2 ∧ t.host.boot.step = 3 ∧ t.host.boot.safe = false ∧ t.host.boot.uptime = 0 ∧ t.host.boot.major = manField b.lead (·.major)) ∧
    (b.step = 2 → (s.dx 0).mode ≠ 3 → s.bootSaves = false → bodyOk s.leadImage.1 s.leadImage.2 = false →
      ∃ t, exec .leadImageStart s = .next t ∧ t.host.boot.step ≤ 1) ∧
    ((s.dx 0).mode = 3 ∨ s.bootSaves = true → exec .leadImageStart s = .next s.after) ∧
    (b.step = 3 → (s.dx 0).mode = 2 → ∃ t, exec .mailboxOpen s = .next t ∧ t.host.boot.step = 4 ∧ t.host.sessions = 0 ∧
      t.host.roMask = 0 ∧ ∀ c, c < 8 → (t.mbx c).sess = none ∧ (t.mbx c).msg = none ∧ bit (t.mbx c).h2cMask 0 = false) ∧
    (∀ slot off data c, s.host.flashOp = some (0, slot, off, data, c) → exec (.flashOperationDone true) s =
      .next (((s.modHost fun h => { h with flashOp := none, flash := flashErase h.flash (slotSize * slot + off) }).finish c retOK []).after)) ∧
    (∀ slot off data c, s.host.flashOp = some (0, slot, off, data, c) → exec (.flashOperationDone false) s =
      .next (((s.modHost fun h => { h with flashOp := none }).finish c retImage []).after)) ∧
    (∀ slot off data c, s.host.flashOp = some (1, slot, off, data, c) →
      let a := slotSize * slot + off
      let t := s.modHost fun h => { h with flashOp := none, flash := flashPut h.flash a data (2 ^ data.length - 1) }
      exec (.flashOperationDone true) s = .next ((t.finish c (if t.flashBytes a data.length = data then retOK else retImage) []).after)) ∧
    (∀ slot off data c, s.host.flashOp = some (1, slot, off, data, c) → ∃ t, exec (.flashOperationDone false) s = .next t ∧ t.host.flashOp = none)

/-- Belay (R530 to R541). -/
def Obligations.BelayEventsComplete : Prop :=
  ∀ s : State,
    let b := s.belay
    (b.phase = 0 → b.mainfailEn = true → ∃ t, exec (.belayTrigger true) s = .next t ∧ t.belay.phase = 1 ∧ t.belay.cmd = false ∧
      t.belay.mainFail = true ∧ t.belay.trigK = s.tb.k ∧ bit t.belay.hist 0 = true ∧ t.tb = s.tb) ∧
    (∀ c, b.phase = 0 → b.armed = some c → (s.mbx c).held = [] → ∃ t, exec (.belayTrigger false) s = .next t ∧ t.belay.phase = 1 ∧
      t.belay.cmd = true ∧ t.belay.armed = none ∧ t.belay.duration = b.duration ∧ ∀ n, (t.td n).pendOfs = none ∧ (t.td n).timeWrite = []) ∧
    (∀ c, b.armed = some c → (s.mbx c).held ≠ [] → exec (.belayTrigger false) s = .next s.after) ∧
    (b.mainfailEn = false → exec (.belayTrigger true) s = .next ((s.modBelay fun x =>
      { x with mainFail := true, sawLow := x.sawLow || decide (x.phase ≠ 0), rose := false }).after)) ∧
    exec .mainFailnRise s = .next ((s.modBelay fun x => { x with mainFail := false, rose := true }).after) ∧
    (b.phase = 1 → b.entryK = none → s.tb.restart = false → (s.running = true → b.trigK + 4 ≤ s.tb.k) →
      ∃ t, exec .belayCapture s = .next t ∧ t.belay.entryK = some s.tb.k ∧ t.belay.entryMts = s.mts ∧ t.belay.y = s.cairn.y ∧
        t.belay.phase = 1 ∧ ∀ n, (t.dpll n).sel.pend = none) ∧
    (b.phase = 1 → b.entryK.isSome = true → s.outsRest = true → s.savesEnd = true → ∃ t, exec .belayPowerDown s = .next t ∧
      t.belay.phase = 2 ∧ t.belay.cnt = satInc b.cnt ∧ t.tb.tbEn = false ∧ t.tb.k = s.tb.k ∧ t.chans = []) ∧
    (∀ cnt temp, b.phase = 2 → (b.wakeS : Rat) ≤ s.cycSec cnt → ∃ t, exec (.belayWake cnt temp) s = .next t ∧ t.belay.count = b.count + cnt ∧
      t.belay.temp = temp.getD b.temp ∧ t.belay.phase = 2) ∧
    (∀ m, b.gen.contains m = true → (s.out m).state = .running → b.masterLost = false →
      ∃ t, exec (.belayOutputPulse m) s = .next t ∧ (t.out m).pulses = (s.out m).pulses + 1 ∧
        tget 0 t.belay.cross m = tget 0 b.cross m + tget 0 b.inc m) ∧
    (∀ cnt, b.phase = 2 → s.exitMet cnt = true → ∃ t, exec (.belayExit cnt) s = .next t ∧ t.belay.phase = 3 ∧ t.belay.rstCause = 3 ∧
      t.belay.count = b.count + cnt)

/-- Mailbox messages, forwarded requests and the tasks of the CPs (R59, R60, R385, R401, R402, R404, R430, R451, R454). -/
def Obligations.MailboxEventsComplete : Prop :=
  ∀ s : State,
    (∀ c, s.takeReady c = true →
      let m := s.mbx c
      let op := uAt m.h2c 2 2
      let seq := uAt m.h2c 4 2
      let p := (m.h2c.drop 8).take (uAt m.h2c 6 2)
      let m1 := { m with h2cFull := false, h2cDb := m.h2cDb &&& ~~~ bm 0 }
      let s0 := (s.modHost fun h => { h with rrChan := c }).dropRun c
      let err := framing s.host.boot m (uAt m.h2c 0 1) (uAt m.h2c 1 1) (uAt m.h2c 6 2) op seq p
      (m.collision = true → exec (.mbxMessageTake c) s = .next (((s0.setMbx c m1).respond c retCollision op 0xFFFF []).after)) ∧
      (∀ e, m.collision = false → err = some e → exec (.mbxMessageTake c) s = .next (((s0.setMbx c m1).respond c e op seq []).after)) ∧
      (m.collision = false → err = none → s.fwdOf op p = none → exec (.mbxMessageTake c) s = .next ((s0.setMbx c { m1 with
        sess := m.sess.map fun x => { x with nextSeq := nextSeqOf x.nextSeq },
        msg := some { op := op, seq := seq, payload := p, port := m.port, ro := decide (4 ≤ c) && s.host.roMask.testBit (c - 4) } }).after)) ∧
      (∀ d, m.collision = false → err = none → s.fwdOf op p = some d → ∃ t, exec (.mbxMessageTake c) s = .next t ∧
        (t.mbx c).h2cFull = false ∧ (t.dx d).fwdQ = (s0.dx d).fwdQ ++ [c] ∧ (t.mbx c).msg = some
          { op := op, seq := seq, payload := p, port := m.port, ro := decide (4 ≤ c) && s.host.roMask.testBit (c - 4), fwd := some d })) ∧
    (∀ c h hs, (s.mbx c).held = h :: hs → (s.mbx c).c2hFull = false → s.leadLive = true →
      exec (.responsePost c) s = .next (((s.setMbx c (({ s.mbx c with held := hs } : Mbx).post h.1 h.2.1 h.2.2)).posted c).after)) ∧
    (∀ d c cs, (s.dx d).fwdQ = c :: cs → (s.dx d).mode = 2 → s.dieUp d = true → s.cpFree d = true → s.routeUp 0 d = true →
      ∃ t, exec (.forwardedRequest d) s = .next t ∧ (t.dx d).fwdQ = cs ∧ (t.dx d).fwdRun = (s.dx d).fwdRun ++ [c] ∧
        ∀ m, (s.mbx c).msg = some m → m.fwd = some d → m.held = false → (t.mbx c).msg = some { m with fwd := none }) ∧
    (∀ d c cs, (s.dx d).fwdQ = c :: cs → s.dieUp d = false → (s.die d).booted = true →
      ∃ t, exec (.forwardedRequest d) s = .next t ∧ (t.dx d).fwdQ = cs ∧ (t.dx d).fwdRun = (s.dx d).fwdRun) ∧
    (∀ d, s.fitted d = true → (s.dx d).mode = 2 → s.cpFree d = true → s.belay.phase ≠ 2 → ∃ t, exec (.cpPeriodicTask d) s = .next t ∧
      (t.dx d).heartbeat = ((s.dx d).heartbeat + 1) % 65536 ∧ (t.dx d).age.opMs = (s.dx d).age.opMs + 1 ∧
      (d = 0 → t.host.boot.uptime = satInc s.host.boot.uptime)) ∧
    (∀ d, s.fitted d = true → exec (.cpHalt d) s = .next ((s.modDx d fun x => { x with mode := 3 }).after))


/-- The stages of an abort, each the whole next state: the request reaches its die, firmware reports clean-up, hardware forces the function to
the state of its class and releases semaphores that its CP holds for it, the completion reaches die 0 or reads UNCONFIRMED (R376, R405 to R407,
R411, R446). Which semaphores those are, and the times noted in the abort log within the bounds of R406, are free draws (the model's choice, log
entry 38). -/
def Obligations.AbortEventsComplete : Prop :=
  ∀ s : State,
    let a := s.host.abort
    let i := a.func % 4096
    let d := (abortDie (a.func / 4096) i).getD 0
    let y := s.semAbort d
    let hook := classOf i = 0 ∧ (y.stitch i).busy = true ∧ (y.stitch i).point = 0
    let forced : State := match a.func / 4096 with
      | 1 => y.modDpll i fun u =>
          let z := { u with integ := 0, bo := 0, res := 0 }
          let v := if u.enable then z.toFreerun s.tb.k 9 u.bo else z
          { v with frozen := true, gate := { v.gate with passed := 0 }, sel := { v.sel with pend := none } }
      | 2 => y.modTd i fun u => if u.state = .off then u else { u with state := .freerun, frozen := true, integ := 0, y := 0, slewLimit := false }
      | 3 => y.ringOff i true true
      | 4 => (((if hook then y.modDpll (8 * dieOfStitch i + i % 28) fun v => { v with sel := { v.sel with
              verdict := 0, pend := v.sel.pend.map fun p => if p.hook && !p.halted then { p with verdict := 0, halted := true } else p } } else y).modStitch i
            fun u =>
              let v := if u.busy then { u with busy := false, wait := .none, draining := false, events := 0, runCnt := satInc u.runCnt,
                                               hist := satFlag u.hist 6 (satInc u.runCnt), maxStep := max u.maxStep (min 4096 u.steps) } else u
              { v with wq := [], g := List.replicate 8 0, loc := List.replicate 32 0, trig := [], events := 0, hist := setb v.hist 3 })).commitPoll i
      | _ => y.abortSession i
    let line : Abort → Nat → Nat → Nat → AbortLog := fun x r clean total =>
      { mts := x.mts, cls := x.func / 4096, idx := x.func % 4096, result := r, path := x.path, cleanUs := clean, totalUs := total }
    let ended : Nat → Nat → Nat → Abort → Abort := fun r clean total x => { x with
      result := r, doneH := true, stage := 0,
      log := match x.log with | h :: t => if h.result = 1 then line x r clean total :: t else x.log | [] => [] }
    (a.stage = 1 → exec .abortRequestArrive s = .next ((s.modAbort fun x => { x with stage := 2, clean := false }).after)) ∧
    (a.stage = 2 → (s.dx d).mode = 2 →
      exec .abortCleanupDone s = .next ((s.modAbort fun x => { x with stage := 3, clean := true }).after)) ∧
    (∀ n, n < 64 → y.semOwner n = s.semOwner n ∨ s.semOwner n = 8 + d ∧ y.semOwner n = 0) ∧
    (a.stage = 2 ∨ a.stage = 3 → exec .abortForce s = .next ((forced.modAbort fun x => { x with stage := 4 }).after)) ∧
    ((s.ring i).enable = true → ((s.ringOff i true true).ring i).enable = false ∧ ((s.ringOff i true true).ring i).q = [] ∧
      ((s.ringOff i true true).ring i).unreported = 0 ∧ bit ((s.ringOff i true true).ring i).hist 3 = true) ∧
    (s.abortSession i).mbx i = { h2cMask := (s.mbx i).h2cMask, c2hMask := (s.mbx i).c2hMask } ∧
    (a.stage = 4 → a.result = 1 → (d = 0 ∨ s.dieUp d = true) →
      exec .abortCompletion s = .next ((s.draw.2.draw.2.modAbort (ended (if a.clean then 2 else 3) (if a.clean then s.draw.1.toNat % 501 else 500)
        (s.draw.2.draw.1.toNat % 1001))).after)) ∧
    (a.stage ≠ 0 → a.result = 1 →
      let t := if a.stage = 4 then s else forced
      exec .abortUnconfirmed s = .next ((t.draw.2.modAbort fun x =>
        ended 4 (if x.clean then t.draw.1.toNat % 501 else 500) 0xFFFFFFFF x).after))


/-- The store, the margin plan, the scrubber and sleep (R358, R367, R477, R502 to R505, R516, R529, R547). -/
def Obligations.StoreEventsComplete : Prop :=
  ∀ (s : State) (d : Nat),
    let n := (s.dx d).nv
    let x := s.dx d
    (∀ j js aon chold good, n.queue = j :: js → s.nvPowered d = true → (aonOk aon && choldOk chold) = false →
      ∃ t, exec (.nvPageWrite d aon chold good) s = .next t ∧ (t.dx d).nv.rejCnt = satInc n.rejCnt ∧ bit (t.dx d).nv.hist 1 = true ∧
        (t.dx d).nv.writeCnt = n.writeCnt ∧ (n.undo = none → (t.dx d).nv.cells = n.cells) ∧
        (s.belay.phase ≠ 2 → j.ofRom = false → (t.dx d).nv.queue = dropChan j.chan js)) ∧
    (∀ j js aon chold, n.queue = j :: js → j.fin = .none → s.nvPowered d = true → aonOk aon = true → choldOk chold = true →
      ∃ t, exec (.nvPageWrite d aon chold 0) s = .next t ∧ (t.dx d).nv.writeCnt = satInc n.writeCnt ∧
        ((n.resolve j.work).rest = none → (t.dx d).nv.queue = js) ∧
        (∀ w, (n.resolve j.work).rest = some w → (t.dx d).nv.queue = { j with work := w } :: js) ∧
        (∀ a b, j.work = .cells a b → (t.dx d).nv.cells = putCells n.cells a b allNew)) ∧
    (∀ j js aon chold, n.queue = j :: js → j.ofRom = false → s.nvPowered d = true → aonOk aon = true → choldOk chold = true →
      ∃ t, exec (.nvPageWrite d aon chold 3) s = .next t ∧ (t.dx d).nv.writeCnt = n.writeCnt ∧ bit (t.dx d).nv.hist 2 = true ∧
        (t.dx d).nv.queue = dropChan j.chan js) ∧
    (∀ page weak, s.nvPowered d = true → page < 4032 → n.queue = [] → ∃ t, exec (.marginScan d page weak) s = .next t ∧
      (t.dx d).age.scanPage = page ∧ (t.dx d).nv.queue = if weak then [{ work := .refresh page }] else []) ∧
    (∀ wear, s.fitted d = true → x.mode = 2 → s.leadLive = true → x.age.evalDue = true →
      let q := x.plan.tighten (x.age.rulePlan wear)
      ∃ t, exec (.marginPlanEval d wear) s = .next t ∧ (t.dx d).age.wear = wear ∧ (t.dx d).age.evalAt = some x.age.opMs ∧
        (x.plan.stored = true → q = x.plan → (t.dx d).plan = x.plan) ∧
        (x.plan.stored = false ∨ q ≠ x.plan → (t.dx d).plan = { q with
          stored := true, version := x.plan.version + 1, evalHours := x.age.hours, evalMts := s.mts })) ∧
    (∀ off, s.fitted d = true → parWord d off = true → x.bad.contains off = false →
      exec (.configScrub d [off]) s = .next ((s.modDx d fun y => { y with
        bad := x.bad ++ [off], parDue := x.bad ++ [off], parCnt := satAdd x.parCnt 1, parFaults := y.parFaults ++ [off],
        parStat := satFlag (setb y.parStat 0) 1 (satAdd x.parCnt 1), parLog := if bit y.parStat 0 then y.parLog else off }).after)) ∧
    (∀ off e a, s.fitted d = true → off % 4 = 0 → progAt off = some (e, a) → x.bad = [] → (s.stitch (28 * d + e)).loaded = true →
      (s.stitch (28 * d + e)).badParity.contains a = false → exec (.configScrub d [off]) s = .next ((s.modStitch (28 * d + e) fun u =>
        { u with badParity := u.badParity ++ [a] }).after)) ∧
    (∀ u, s.fitted d = true → u < 44 → s.unitIdle d u = true → x.asleep.contains u = false →
      exec (.fabricUnitSleep d u) s = .next ((s.modDx d fun y => { y with asleep := y.asleep ++ [u] }).after))


/-- One step runs the command at the front of the queue on the machine that holds the rest of the queue; a machine with nothing waiting
idles (the model's choice, log entry 1). -/
def Obligations.StepRunsFrontCommand : Prop :=
  (∀ (s : State) (c : Instr) (cs : List Instr), s.pending = c :: cs → step s = exec c { s with pending := cs }) ∧
  ∀ s : State, s.pending = [] → step s = .next s

/-- The machine right after reset meets the invariant. -/
def Obligations.ResetMeetsInvariant : Prop := State.reset.Inv

/-- Every step keeps the invariant: the flash stays canonical (the model's choice of form, log entry 4), the timebase never runs on an
undeclared oscillator (R42), and the part never has more than eight dies (R1). -/
def Obligations.StepKeepsInvariant : Prop := ∀ s t : State, s.Inv → step s = .next t → t.Inv

/-- No command changes the fused identity of the part, its fused values, or the queue of waiting commands (R1, R8). -/
def Obligations.CommandsKeepIdentityAndQueue : Prop :=
  ∀ (c : Instr) (s t : State), exec c s = .next t → t.part = s.part ∧ t.fused = s.fused ∧ t.pending = s.pending

/-- The flash changes only where a flash operation is done (R410): no other command, reset or power cycle changes a byte of it. -/
def Obligations.FlashChangesOnlyAtOperationEnd : Prop :=
  ∀ (c : Instr) (s t : State), (∀ ok, c ≠ .flashOperationDone ok) → exec c s = .next t → ∀ a, tget 0xFF t.host.flash a = tget 0xFF s.host.flash a

/-- Every stitch instruction of used codes is what its word decodes to, and a word that decodes is the word of what it decodes to (R360). -/
def Obligations.StitchWordsRoundTrip : Prop :=
  (∀ i : SInstr, i.used = true → decodeStitch i.encode = some i) ∧
  ∀ (w : Word) (i : SInstr), decodeStitch w = some i → i.used = true ∧ i.encode = w

/-- Words written out from the table of R360, and words it does not use. -/
def Obligations.StitchDecodesTableWords : Prop :=
  decodeStitch 0x00000000 = some .halt ∧ decodeStitch 0x0B008001 = some (.waitEvent 3 0x8001) ∧
  decodeStitch 0x120003E8 = some (.waitTime 1 1000) ∧ decodeStitch 0x1978F9C0 = some (.setField 1 0x78 31 7) ∧
  decodeStitch 0x20790840 = some (.clrField 0x79 1 1) ∧ decodeStitch 0x2D4007C0 = some (.read 5 0x40 0 31) ∧
  decodeStitch 0x32A0FFFF = some (.cmp 2 (.imm 1 0xFFFF)) ∧ decodeStitch 0x3A00000C = some (.branch 2 12) ∧
  decodeStitch 0x42900001 = some (.add 2 true 0 (.imm 0 1)) ∧ decodeStitch 0x4F000005 = some (.loop 7 5) ∧
  decodeStitch 0x5000000F = some (.emitDb 15) ∧ decodeStitch 0x51AA0000 = some (.emitRec 0xAA) ∧
  decodeStitch 0x58000000 = none ∧ decodeStitch 0x00000001 = none ∧ decodeStitch 0x16000000 = none ∧ decodeStitch 0x3F000000 = none ∧
  decodeStitch 0x30E00000 = none ∧ decodeStitch 0x52000000 = none

/-- An engine at a word with bad parity, or at a word that R360 does not use, ends its invocation at that word: FAULT_H is set, ENABLE is
cleared, the unit writes that wait are dropped, and no register of the engine changes (R359, R378). -/
def Obligations.StitchFetchFaults : Prop :=
  ∀ (s : State) (e : Nat) (i : Instr), s.hasStitch e = true → (s.stitch e).runs = true →
    ((s.stitch e).badParity.contains (s.stitch e).pc = true ∨ decodeStitch ((s.stitch e).prog.getD (s.stitch e).pc 0) = none) →
    i ∈ [Instr.halt e, .waitEvent e, .waitTime e, .setField e, .clrField e, .read e, .cmp e, .branch e, .add e, .loop e, .emit e] →
    ∃ u : Stitch, exec i s = .next ((s.setStitch e u).ran e) ∧ u.busy = false ∧ u.enable = false ∧ bit u.hist 1 = true ∧ u.wq = [] ∧
      u.g = (s.stitch e).g ∧ u.loc = (s.stitch e).loc ∧ u.prog = (s.stitch e).prog ∧ u.runCnt = satInc (s.stitch e).runCnt

/-- The frame of the stitch instructions: beside its own engine, the pending switch that HALT releases and what EMIT sends out, nothing
changes; no other engine changes at all (R358, R361, R363). An engine that a commit waits for is set aside. -/
def Obligations.StitchInstructionsFrame : Prop :=
  ∀ (s t : State) (e : Nat) (i : Instr), (s.stitch e).commitBy = [] →
    (i ∈ [Instr.waitEvent e, .waitTime e, .setField e, .clrField e, .read e, .cmp e, .branch e, .add e, .loop e] → exec i s = .next t →
      ∃ u : State, t = u.after ∧ u = { s with stitches := u.stitches, fresh := u.fresh } ∧ (∀ j, j ≠ e → u.stitch j = s.stitch j) ∧
        (i ≠ .read e → u.fresh = s.fresh)) ∧
    (exec (.halt e) s = .next t →
      ∃ u : State, t = u.after ∧ u = { s with stitches := u.stitches, dplls := u.dplls } ∧ (∀ j, j ≠ e → u.stitch j = s.stitch j) ∧
        ∀ k, (u.dpll k).steer = (s.dpll k).steer ∧ (u.dpll k).state = (s.dpll k).state ∧
          (k ≠ 8 * dieOfStitch e + e % 28 → u.dpll k = s.dpll k)) ∧
    (exec (.emit e) s = .next t →
      ∃ u : State, t = u.after ∧ u = { s with stitches := u.stitches, host := u.host, dies := u.dies, tb := u.tb } ∧
        (∀ j, j ≠ e → u.stitch j = s.stitch j) ∧ (∀ d, d ≠ dieOfStitch e → u.die d = s.die d) ∧ u.tb.tbEn = s.tb.tbEn ∧ u.tb.k = s.tb.k)

/-- The sixteen EMITs of each KIND of an invocation are performed; a further one has no effect but EMIT_LIM_H (R364). -/
def Obligations.EmitLimitPerInvocation : Prop :=
  ∀ (s : State) (e : Nat), s.hasStitch e = true →
    let u := s.stitch e
    (∀ b, u.fetch = .instr (.emitDb b) →
      (u.emit0 < 16 → ∃ t, exec (.emit e) s = .next (State.ran t e) ∧ (t.stitch e).emit0 = u.emit0 + 1 ∧ bit (t.mbx u.dbChan).c2hDb b.toNat = true ∧
        (t.stitch e).hist = u.hist) ∧
      (16 ≤ u.emit0 → ∃ v : Stitch, exec (.emit e) s = .next ((s.setStitch e v).ran e) ∧ bit v.hist 4 = true ∧ v.emit0 = u.emit0)) ∧
    (∀ x, u.fetch = .instr (.emitRec x) →
      (u.emit1 < 16 → ∃ t, exec (.emit e) s = .next (State.ran t e) ∧ (t.stitch e).emit1 = u.emit1 + 1 ∧ (t.stitch e).hist = u.hist ∧
        (dieOfStitch e = 0 → (t.die 0).intake = (s.die 0).intake ++ [u.record e x.toNat])) ∧
      (16 ≤ u.emit1 → ∃ v : Stitch, exec (.emit e) s = .next ((s.setStitch e v).ran e) ∧ bit v.hist 4 = true ∧ v.emit1 = u.emit1))

/-- A Unest command that its channel does not hold as the message to execute has no effect (R401, R404). -/
def Obligations.UnaskedCommandsDoNothing : Prop :=
  ∀ (s : State) (i : Instr) (c op : Nat), opcodeOf i = some (c, op) → ¬ s.Takes c op → exec i s = .next s.after

/-- A Unest command ends in one of three ways: it executes and answers OK, it executes and answers later, or it answers another code and has
changed nothing (R437); SESSION_AUTH, PORT_KEY_PROGRAM, BOOT_LOAD, BOOT_START and NV_LOGIN, whose failures the spec lets leave a mark, stand
aside. -/
def Obligations.RefusedCommandsChangeNothing : Prop :=
  ∀ (s t : State) (i : Instr) (c op : Nat) (m : Msg), opcodeOf i = some (c, op) → ¬ op ∈ [0x000B, 0x000D, 0x0A01, 0x0A02, 0x0C03] →
    s.host.flashOp = none → (s.mbx c).msg = some m → m.op = op → m.held = false → m.fwd = none → s.Serves c → exec i s = .next t →
    (∃ (u : State) (b : List Byte), t = u.acked c m b) ∨ (∃ u : State, t = u.waits c m) ∨ ∃ (ret : Nat) (b : List Byte), ret ≠ retOK ∧ t = s.answered c m ret b

/-- A read-only channel refuses every command of kind C with ERR_DENIED, but for the ERR_ABSENT that R12 puts before it, and the command
changes nothing (R437, R451). -/
def Obligations.ReadOnlyChannelsRefuseChanges : Prop :=
  ∀ (s : State) (i : Instr) (c op : Nat) (m : Msg), opcodeOf i = some (c, op) → changes op = true → s.host.flashOp = none →
    (s.mbx c).msg = some m → m.op = op → m.held = false → m.fwd = none → m.ro = true → s.Serves c →
    exec i s = .next (s.answered c m retDenied []) ∨ exec i s = .next (s.answered c m retAbsent [])

/-- A response reaches the host: with C2H_FULL clear it stands in C2H_BUF, with its code and sequence in MBX_ACK, C2H_FULL set and bit 0 of the
doorbell set; with C2H_FULL set it is held behind those that wait, and the buffer stays (R401, R402, R427). -/
def Obligations.AnswersReachTheHost : Prop :=
  ∀ (s : State) (c ret : Nat) (m : Msg) (b : List Byte),
    let t := s.answered c m ret b
    let r := leBytes 2 ret ++ leBytes 2 m.op ++ leBytes 2 m.seq ++ leBytes 2 b.length ++ b
    (t.mbx c).msg = none ∧
    ((s.mbx c).c2hFull = false → (t.mbx c).c2h.take r.length = r ∧ (t.mbx c).ack = put 0 16 ret ||| put 16 16 m.seq ∧
      (t.mbx c).c2hFull = true ∧ bit (t.mbx c).c2hDb 0 = true ∧ (t.mbx c).held = (s.mbx c).held) ∧
    ((s.mbx c).c2hFull = true → (t.mbx c).held = (s.mbx c).held ++ [(ret, m.seq, r)] ∧ (t.mbx c).c2h = (s.mbx c).c2h ∧
      (t.mbx c).ack = (s.mbx c).ack)

/-- A write of TB_CTRL while TB_EN is 1 leaves MASTER and OSC_FREQ, sets CFG_REJ just when it carries another value for one of them, and still
gives TB_EN its value (R41). -/
def Obligations.TimebaseWriteWhileOn : Prop :=
  ∀ (s : State) (p : Path) (w : Word) (i : Instr), s.pathLive p = true → s.tb.tbEn = true → i ∈ [Instr.tbEnSet p w, .tbEnClear p w, .tbConfigWrite p w] →
    ∃ t, exec i s = .next t ∧ t.tb.master = s.tb.master ∧ t.tb.oscFreq = s.tb.oscFreq ∧
      t.tb.cfgRej = (s.tb.cfgRej || decide (bit w 0 ≠ s.tb.master) || decide (fld w 4 4 ≠ s.tb.oscFreq)) ∧
      t.tb.tbEn = decide (i ≠ .tbEnClear p w)

/-- One mark that each event of a DPLL, of an oscillator port, of the abort unit, of a store and of a CP leaves where it takes place (R43, R60,
R194, R216, R222, R406, R505, R516): the unit says that the event has happened. -/
def Obligations.EventsLeaveTheirMark : Prop :=
  ∀ (s : State) (n : Nat),
    (s.hasDpll n = true → (s.dpll n).enable = true → s.tb.restart = false →
      let u := s.dpll n
      (u.sel.holdoff ≠ 0 → u.sel.holdoff ≤ s.tb.k → ∃ t, exec (.holdoffExpire n) s = .next t ∧ (t.dpll n).sel.holdoff = 0) ∧
      (∀ p, s.running = true → u.sel.pend = some p → p.atK ≤ s.tb.k → ∃ t, exec (.switchExecute n) s = .next t ∧ (t.dpll n).sel.pend = none) ∧
      (u.gate.running = true → u.gate.startK + 3200 * u.gateLenEval (s.streamFreq u.refStream) ≤ s.tb.k →
        u.state = .acquiring ∨ u.state = .locked → ∃ t, exec (.lockGateEnd n) s = .next t ∧ (t.dpll n).gate.startK = s.tb.k) ∧
      (u.cfg.role = 2 → 32 ≤ u.mirrorSilent → ∃ t, exec (.mirrorLeaderLost n) s = .next t ∧ (t.dpll n).mirrorLost = true) ∧
      (u.fbFault = false → s.tapBusy n = false → 320 < u.fbBadRun → ∃ t, exec (.fbFaultTimeout n) s = .next t ∧ (t.dpll n).fbFault = true) ∧
      (∃ t, exec (.freerunWordRefresh n) s = .next t ∧ (t.dpll n).freeWord = (s.freeWordOf n).1) ∧
      (u.cfg.role = 1 → u.state = .holdover → ∃ t, exec (.holdoverWordRefresh n) s = .next t ∧ (t.dpll n).ho.holdS = min 0xFFFFFFFF (u.ho.holdS + 1)) ∧
      (u.cfg.role = 1 → s.tb.k % tickWin u.ho.tick = 0 → u.ho.accN ≠ 0 →
        ∃ t, exec (.historySample n) s = .next t ∧ (t.dpll n).ho.accN = 0 ∧ (t.dpll n).ho.tickStart = s.tb.k)) ∧
    (s.hasOsc n = true →
      let u := s.osc n
      (∀ x, u.active = true → s.running = true → s.tb.restart = false → s.tb.oscLoss = false → s.dieUp (dieOfOsc n) = true →
        ∃ t, exec (.portMeterSample n x) s = .next t ∧ (t.osc n).meterOk = true) ∧
      (∀ ohms, (s.model n).tsense = true → tempFault (s.model n).r25 ohms = true → ∃ t, exec (.thermistorRead n ohms) s = .next t ∧
        (t.osc n).tempFaultH = true) ∧
      (u.active = true → ∃ t, exec (.portActivityLoss n) s = .next t ∧ (t.osc n).active = false ∧ (t.osc n).lossH = true) ∧
      (s.belay.phase ≠ 2 → ∃ t, exec .cairnSecond s = .next t ∧ t.cairn.secs = s.cairn.secs + 1) ∧
      (64 ≤ (s.model n).obsSec → ∃ t, exec (.learningMean n) s = .next t ∧ (t.model n).obsSec = 0) ∧
      ((s.model n).state = .restored → s.cairn.restoreVerifyS ≤ (s.model n).verN → ∃ t, exec (.restoreVerify n) s = .next t ∧
        (t.model n).state ≠ .restored) ∧
      ((s.model n).state = .qualified → s.learns n = true → s.cairn.saveMin ≠ 0 → ∃ t, exec (.modelSave n) s = .next t ∧ (t.model n).unsaved = false)) ∧
    (let a := s.host.abort
     (a.stage = 1 → ∃ t, exec .abortRequestArrive s = .next t ∧ t.host.abort.stage = 2) ∧
     (a.stage = 2 → (s.dx ((abortDie (a.func / 4096) (a.func % 4096)).getD 0)).mode = 2 →
        ∃ t, exec .abortCleanupDone s = .next t ∧ t.host.abort.stage = 3 ∧ t.host.abort.clean = true) ∧
     (a.stage = 2 ∨ a.stage = 3 → ∃ t, exec .abortForce s = .next t ∧ t.host.abort.stage = 4) ∧
     (a.stage = 4 → a.result = 1 → (abortDie (a.func / 4096) (a.func % 4096)).getD 0 = 0 →
        ∃ t, exec .abortCompletion s = .next t ∧ t.host.abort.result = (if a.clean then 2 else 3) ∧ t.host.abort.doneH = true) ∧
     (a.stage = 4 → a.result = 1 → ∃ t, exec .abortUnconfirmed s = .next t ∧ t.host.abort.result = 4 ∧ t.host.abort.doneH = true)) ∧
    (s.fitted n = true →
      let x := s.dx n
      (∀ j js aon chold good, x.nv.queue = j :: js → s.belay.phase ≠ 2 → j.ofRom = false → (aonOk aon && choldOk chold) = false →
        ∃ t, exec (.nvPageWrite n aon chold good) s = .next t ∧ (t.dx n).nv.rejCnt = satInc x.nv.rejCnt) ∧
      (∀ page weak, s.belay.phase ≠ 2 → page < 4032 → x.nv.queue = [] → ∃ t, exec (.marginScan n page weak) s = .next t ∧ (t.dx n).age.scanPage = page) ∧
      (∀ wear, x.mode = 2 → s.leadLive = true → x.age.evalDue = true → ∃ t, exec (.marginPlanEval n wear) s = .next t ∧
        (t.dx n).age.evalAt = some x.age.opMs) ∧
      (∀ off, parWord n off = true → x.bad.contains off = false → ∃ t, exec (.configScrub n [off]) s = .next t ∧
        (t.dx n).parCnt = satAdd x.parCnt 1 ∧ (t.dx n).bad.contains off = true) ∧
      (x.mode = 2 → s.cpFree n = true → s.belay.phase ≠ 2 → n ≠ 0 → ∃ t, exec (.cpPeriodicTask n) s = .next t ∧
        (t.dx n).heartbeat = (x.heartbeat + 1) % 65536) ∧
      (∃ t, exec (.cpHalt n) s = .next t ∧ (t.dx n).mode = 3) ∧
      (∀ c cs, x.fwdQ = c :: cs → x.mode = 2 → s.dieUp n = true → s.cpFree n = true → s.routeUp 0 n = true →
        ∃ t, exec (.forwardedRequest n) s = .next t ∧ (t.dx n).fwdQ = cs))

/-- The frame of the Unest commands: a command that only reads changes nothing but its channel and the note of its session; a command that
configures units of one kind changes no unit of another kind, and of that kind only the unit it names. -/
def Obligations.UnitCommandsFrame : Prop :=
  ∀ (s t : State) (c : Nat) (m : Msg) (i : Instr), (s.mbx c).msg = some m → exec i s = .next t →
    let n := uAt m.payload 0 2
    (i ∈ [Instr.nop c, .getCaps c, .getVersion c, .getAbortStatus c, .logGet c, .inputGetStatus c, .tdcGetPicot c, .dpllGetLoop c, .dpllGetStatus c,
        .dpllGetCandidates c, .dpllGetSwitchLog c, .cairnGetModel c, .dpllGetHoldover c, .tdGetConfig c, .tdGetTime c, .dmaGetStatus c, .nvRead c,
        .nvGetStatus c, .powerGetStatus c, .marginGetPlan c, .ageingGetStatus c] →
      ∃ u : State, t = u.after ∧ u = { s with host := u.host, xs := u.xs } ∧ (∀ j, (u.dx j).nv = (s.dx j).nv) ∧
        (∀ j, j ≠ c → u.mbx j = s.mbx j) ∧ u.host.rings = s.host.rings ∧ u.host.boot = s.host.boot) ∧
    (i ∈ [Instr.inputConfig c, .inputSetMonitors c, .inputClear c] →
      ∃ u : State, t = u.after ∧ u = { s with inputs := u.inputs, host := u.host, xs := u.xs } ∧ ∀ j, j ≠ n → u.input j = s.input j) ∧
    (i ∈ [Instr.dpllConfig c, .dpllSetLoop c, .dpllSetSteer c, .dpllPhaseAdjust c, .dpllSetCandidates c, .dpllSetSelection c, .dpllSetHoldover c] →
      ∃ u : State, t = u.after ∧ u = { s with dplls := u.dplls, host := u.host, xs := u.xs } ∧ ∀ j, j ≠ n → u.dpll j = s.dpll j) ∧
    (i ∈ [Instr.dpllSetLoop c, .dpllSetSteer c, .dpllPhaseAdjust c, .dpllSetCandidates c, .dpllSetSelection c] →
      (t.dpll n).state = (s.dpll n).state ∧ (t.dpll n).steer = (s.dpll n).steer ∧ (t.dpll n).pherr = (s.dpll n).pherr) ∧
    (i ∈ [Instr.tdConfig c, .tdSetTime c, .tdSetTod c] →
      ∃ u : State, t = u.after ∧ u = { s with tds := u.tds, host := u.host, xs := u.xs } ∧ (∀ j, j ≠ n → u.td j = s.td j) ∧
        (u.td n).sec = (s.td n).sec ∧ (u.td n).sub = (s.td n).sub) ∧
    (i = .opllConfig c → ∃ u : State, t = u.after ∧ u = { s with oplls := u.oplls, host := u.host, xs := u.xs } ∧ ∀ j, j ≠ n → u.opll j = s.opll j) ∧
    (i = .stitchLoad c → ∃ u : State, t = u.after ∧ u = { s with stitches := u.stitches, host := u.host, xs := u.xs } ∧
      (∀ j, j ≠ n → u.stitch j = s.stitch j) ∧ (u.stitch n).prog = (s.stitch n).prog) ∧
    (i = .irqRoute c → ∃ u : State, t = u.after ∧ u = { s with host := u.host, xs := u.xs } ∧
      ∀ j, j ≠ n → tget 0x100 u.host.route j = tget 0x100 s.host.route j)

/-- The frame of the events of one unit: no other unit of its kind changes, and nothing of another kind but what the event is about: a meter
reading that is not valid marks the running tick of the DPLLs of its port, and the edges that wait for a core swap reach their input or their
event channel. -/
def Obligations.UnitEventsFrame : Prop :=
  ∀ (s t : State) (i : Instr) (n : Nat), exec i s = .next t →
    (i ∈ [Instr.wtrExpire n, .losTimeout n, .losClear n, .freqGateEnd n, .staleTimeout n, .notValidTimeout n] →
      ∃ u : State, t = u.after ∧ u = { s with inputs := u.inputs } ∧ ∀ j, j ≠ n → u.input j = s.input j) ∧
    (i ∈ [Instr.holdoffExpire n, .switchExecute n, .mirrorLeaderLost n, .fbFaultTimeout n, .freerunWordRefresh n, .holdoverWordRefresh n,
        .historySample n] ∨ (∃ k, i = .streamTimeout n k) →
      ∃ u : State, t = u.after ∧ u = { s with dplls := u.dplls } ∧ ∀ j, j ≠ n → u.dpll j = s.dpll j) ∧
    ((∃ x, i = .portMeterSample n x) ∨ (∃ x, i = .thermistorRead n x) →
      ∃ u : State, t = u.after ∧ u = { s with oscs := u.oscs, dplls := u.dplls } ∧ (∀ j, j ≠ n → u.osc j = s.osc j) ∧
        ∀ j, u.dpll j = { s.dpll j with ho := { (s.dpll j).ho with accOk := (u.dpll j).ho.accOk } }) ∧
    (i ∈ [Instr.opllLockingTimeout n, .opllFaultRetry n] →
      ∃ u : State, t = u.after ∧ u = { s with oplls := u.oplls } ∧ ∀ j, j ≠ n → u.opll j = s.opll j) ∧
    (i ∈ [Instr.todMessageStart n, .tdHoldExpire n] →
      ∃ u : State, t = u.after ∧ u = { s with tds := u.tds } ∧ (∀ j, j ≠ n → u.td j = s.td j) ∧ (u.td n).sec = (s.td n).sec ∧ (u.td n).sub = (s.td n).sub) ∧
    (∀ d c x, i = .coreSwap d c x → ∃ u : State, t = u.after ∧ u = { s with chans := u.chans, inputs := u.inputs, evs := u.evs } ∧
      (∀ j, j ≠ 48 * d + c → u.chan j = s.chan j) ∧ ∀ j, j ≠ 24 * d + c → u.input j = s.input j)

/-- A register write over a path that is not live reaches nothing, one to a unit that is not there is ignored (R11), and one that is not secure
to a secure register changes nothing but VIOL_H (R471). -/
def Obligations.UnreachedWritesDoNothing : Prop :=
  ∀ (s : State) (p : Path) (i : Instr),
    (s.pathLive p = false → ∀ w n r b a k, i ∈ [Instr.tbEnSet p w, .tbEnClear p w, .tbConfigWrite p w, .inputEnable p n, .inputDisable p n,
        .forceDisqWrite p n b, .rankPriorityWrite p n r k, .dpllEnable p n, .dpllDisable p n, .forceFreerun p n, .forceHoldover p n, .forceAutomatic p n,
        .selRetblkClear p n w, .selHookVerdictWrite p n w, .opllEnable p n, .opllDisable p n, .outputEnable p n, .outputDisable p n, .outRunStart p n,
        .outRunStop p n, .outPhaseWrite p n r w, .tdEnable p n, .tdDisable p n, .tdOfsCommit p n, .evConfigWrite p n r w, .stitchEnableWrite p n b,
        .stitchSignal p n, .mbxH2cDoorbell p n, .mbxC2hClear p n, .h2cBufWrite p n r w, .abortReqWrite p w, .semReadAcquire p n, .semRelease p n,
        .semHeldRelease p r w, .irqVecAckWrite p w, .indDataAccess p b w, .ringRdPtrWrite p n w, .bgEnWrite p n b, .aliasWrite p a w,
        .satCounterClear p a w, .registerWrite p a w] → exec i s = .next s.after) ∧
    (∀ n, s.hasInput n = false → ∀ b r k, i ∈ [Instr.inputEnable p n, .inputDisable p n, .forceDisqWrite p n b, .rankPriorityWrite p n r k] →
      exec i s = .next s.after) ∧
    (∀ n, s.hasDpll n = false → ∀ w, i ∈ [Instr.dpllEnable p n, .dpllDisable p n, .forceFreerun p n, .forceHoldover p n, .forceAutomatic p n,
      .selRetblkClear p n w, .selHookVerdictWrite p n w] → exec i s = .next s.after) ∧
    (∀ n, s.hasOut n = false → ∀ r w, i ∈ [Instr.outputEnable p n, .outputDisable p n, .outRunStart p n, .outRunStop p n, .outPhaseWrite p n r w] →
      exec i s = .next s.after) ∧
    (∀ n, s.hasEv n = false → ∀ r w, i = .evConfigWrite p n r w → exec i s = .next s.after) ∧
    (s.pathLive p = true → s.secureBy p = false → s.host.boot.download = false → ∀ c k w, c < 4 → k < 64 →
      i ∈ [Instr.mbxH2cDoorbell p c, .mbxC2hClear p c, .h2cBufWrite p c k w, .semHeldRelease p (k % 2) w] →
      exec i s = .next ((s.modHost fun h => { h with violH := true }).after))

/-- A record that arrives at a full ring is dropped: DROP_CNT counts it, OVF_H is set, and no entry and no pointer of the ring changes
(R486). -/
def Obligations.FullRingDropsRecord : Prop :=
  ∀ (s : State) (i : Nat) (r : BitVec 128) (rs : List (BitVec 128)), s.admitAll.ringTurn = some i →
    let u := s.admitAll.ring i
    u.q = r :: rs → u.entries ≤ u.unread →
    ∃ t, exec (.ringRecordWrite i) s = .next t ∧ (t.ring i).drop = satAdd u.drop 1 ∧ bit (t.ring i).hist 1 = true ∧
      (t.ring i).mem = u.mem ∧ (t.ring i).wr = u.wr ∧ (t.ring i).rd = u.rd ∧ (t.ring i).q = rs

/-- Once ALIGNING or LOCKED, an OPLL loses lock at the first failing gate or at the first cycle slip; a passing gate keeps it. For the
9 830.4 MHz VCO the tolerance is 3 counts (R260, R261). -/
def Obligations.OpllLosesLockAtFirstFailure : Prop :=
  ∀ (s : State) (n : Nat), s.hasOpll n = true → (s.opll n).state = .aligning ∨ (s.opll n).state = .locked →
    let u := s.opll n
    (∀ count g, u.passes count = false → ∃ t, exec (.opllGateEnd n count g) s = .next t ∧ (t.opll n).state = .fault ∧
      (t.opll n).locklossCnt = satInc u.locklossCnt) ∧
    (∀ count g, u.passes count = true → ∃ t, exec (.opllGateEnd n count g) s = .next t ∧ (t.opll n).state = u.state ∧
      (t.opll n).locklossCnt = u.locklossCnt) ∧
    (∃ t, exec (.opllCycleSlip n) s = .next t ∧ (t.opll n).state = .fault ∧ (t.opll n).locklossCnt = satInc u.locklossCnt) ∧
    (u.expect = 98304 → ∀ count, u.passes count = true ↔ 98301 ≤ count ∧ count ≤ 98307)

/-- A phase word that arrives after the boundary at which it would be used is discarded: SHT_LATE counts it, and the words that have arrived stay
as they are, so the update treats it as missing (R31). -/
def Obligations.LateWordsAreDiscarded : Prop :=
  ∀ (s : State) (d l x i k : Nat), s.neighbour d l = some x → (s.link d l).state = .up →
    s.frameNext d l (.word i k) = true → k < s.tb.k →
    ∃ t, exec (.shuttleFrameReceive d l true (.word i k)) s = .next t ∧ (t.die d).late = satInc (s.die d).late ∧
      (t.die d).arrived = (s.die d).arrived
end

