-- ==== Sys2Proof/Laws/Data.lean ====
section
/-! SUPPORT. Laws of the sparse tables: what a key reads after a write, and that every table operation keeps the canonical
form. -/

namespace Sys2Proof.Machine
open Sys2Proof

variable {α : Type}

@[simp] theorem tget_nil (d : α) (k : Nat) : tget d [] k = d := rfl

theorem tget_trem (d : α) (t : Tbl α) (k j : Nat) : tget d (trem k t) j = if j = k then d else tget d t j := by
  induction t with
  | nil => simp [trem]
  | cons e t ih =>
    obtain ⟨a, v⟩ := e
    by_cases h : a = k
    · subst h
      by_cases h2 : j = a
      · simpa [trem, h2] using ih
      · simp [trem, ih, h2, tget]
    · by_cases h2 : j = a
      · subst h2; simp [trem, h, tget]
      · simp [trem, h, tget, h2, ih]

theorem tget_tins (d : α) (t : Tbl α) (k j : Nat) (v : α) (h : tget d t k = d) (hk : ∀ e ∈ t, e.1 ≠ k) :
    tget d (tins k v t) j = if j = k then v else tget d t j := by
  induction t with
  | nil => simp [tins, tget]
  | cons e t ih =>
    obtain ⟨a, w⟩ := e
    have ha : a ≠ k := hk (a, w) (by simp)
    by_cases h1 : k < a
    · simp [tins, h1, tget]
    · have ht : tget d t k = d := by simpa [tget, Ne.symm ha] using h
      have := ih ht (fun e he => hk e (by simp [he]))
      by_cases h2 : j = a
      · subst h2; simp [tins, h1, tget, ha]
      · simp [tins, h1, tget, h2, this]

theorem trem_ne (t : Tbl α) (k : Nat) : ∀ e ∈ trem k t, e.1 ≠ k := by
  induction t with
  | nil => simp [trem]
  | cons e t ih =>
    obtain ⟨a, v⟩ := e
    by_cases h : a = k
    · simpa [trem, h] using ih
    · intro e he
      simp only [trem, h, if_false, List.mem_cons] at he
      rcases he with rfl | he
      · exact h
      · exact ih e he

/-- What a key reads after a listed write. -/
@[simp] theorem tget_tput (d : α) (t : Tbl α) (k j : Nat) (v : α) :
    tget d (tput t k v) j = if j = k then v else tget d t j := by
  have h := tget_tins d (trem k t) k j v (by simp [tget_trem]) (trem_ne t k)
  rw [tput, h, tget_trem]
  by_cases hj : j = k <;> simp [hj]

/-- What a key reads after a write. -/
@[simp] theorem tget_tset [DecidableEq α] (d : α) (t : Tbl α) (k j : Nat) (v : α) :
    tget d (tset d t k v) j = if j = k then v else tget d t j := by
  by_cases h : v = d
  · subst h; simp [tset, tget_trem]
  · simp [tset, h]

/-! ## Canonical form -/

theorem tcanon_lo [DecidableEq α] (d : α) (a b : Nat) (h : b ≤ a) (t : Tbl α) (ht : tcanon d (some a) t = true) :
    tcanon d (some b) t = true := by
  cases t with
  | nil => rfl
  | cons e t =>
    simp only [tcanon, Bool.and_eq_true, decide_eq_true_eq] at ht ⊢
    exact ⟨⟨lt_of_le_of_lt h ht.1.1, ht.1.2⟩, ht.2⟩

theorem tcanon_none [DecidableEq α] (d : α) (a : Nat) (t : Tbl α) (ht : tcanon d (some a) t = true) : tcanon d none t = true := by
  cases t with
  | nil => rfl
  | cons e t =>
    simp only [tcanon, Bool.and_eq_true, decide_eq_true_eq] at ht ⊢
    exact ⟨⟨trivial, ht.1.2⟩, ht.2⟩

/-- Taking a key out keeps the form. -/
theorem tcanon_trem [DecidableEq α] (d : α) (k : Nat) (t : Tbl α) (lo : Option Nat) (h : tcanon d lo t = true) :
    tcanon d lo (trem k t) = true := by
  induction t generalizing lo with
  | nil => exact h
  | cons e t ih =>
    obtain ⟨a, v⟩ := e
    simp only [tcanon, Bool.and_eq_true, decide_eq_true_eq] at h
    by_cases hk : a = k
    · simp only [trem, hk, if_true]
      cases lo with
      | none => exact tcanon_none d a _ (ih _ h.2)
      | some l => exact ih _ (tcanon_lo d a l (le_of_lt (of_decide_eq_true h.1.1)) _ h.2)
    · simp only [trem, hk, if_false, tcanon, Bool.and_eq_true, decide_eq_true_eq]
      exact ⟨h.1, ih _ h.2⟩

/-- Putting a value in keeps the form. -/
theorem tcanon_tins [DecidableEq α] (d : α) (k : Nat) (v : α) (hv : v ≠ d) (t : Tbl α) (lo : Option Nat)
    (h : tcanon d lo t = true) (hk : ∀ e ∈ t, e.1 ≠ k) (hl : ∀ l, lo = some l → l < k) : tcanon d lo (tins k v t) = true := by
  induction t generalizing lo with
  | nil => cases lo <;> simp [tins, tcanon, hv] ; exact hl _ rfl
  | cons e t ih =>
    obtain ⟨a, w⟩ := e
    have ha : a ≠ k := hk (a, w) (by simp)
    have h0 := h
    simp only [tcanon, Bool.and_eq_true, decide_eq_true_eq] at h
    by_cases h1 : k < a
    · simp only [tins, if_pos h1, tcanon, Bool.and_eq_true, decide_eq_true_eq]
      refine ⟨⟨?_, hv⟩, ⟨h1, h.1.2⟩, h.2⟩
      cases lo with
      | none => trivial
      | some l => exact decide_eq_true (hl l rfl)
    · simp only [tins, h1, if_false, tcanon, Bool.and_eq_true, decide_eq_true_eq]
      exact ⟨h.1, ih _ h.2 (fun e he => hk e (by simp [he])) (fun l hl' => by cases hl'; omega)⟩

/-- Every write keeps the canonical form. -/
theorem tcanon_tset [DecidableEq α] (d : α) (t : Tbl α) (k : Nat) (v : α) (h : tcanon d none t = true) :
    tcanon d none (tset d t k v) = true := by
  by_cases hv : v = d
  · simpa [tset, hv] using tcanon_trem d k t none h
  · simpa [tset, hv, tput] using tcanon_tins d k v hv _ none (tcanon_trem d k t none h) (trem_ne t k) (by simp)

end Sys2Proof.Machine
end

