-- ==== Sys2Proof/Laws/State.lean ====
section
/-! SUPPORT. One lemma per field and per update of the state: what each named update leaves and what it makes read. -/

namespace Sys2Proof.Machine
open Sys2Proof

variable (s : State)

/-! ## `setInput` -/

@[simp] theorem State.setInput_part (n : Nat) (u : InputUnit) : (s.setInput n u).part = s.part := (rfl)
@[simp] theorem State.setInput_fused (n : Nat) (u : InputUnit) : (s.setInput n u).fused = s.fused := (rfl)
@[simp] theorem State.setInput_tb (n : Nat) (u : InputUnit) : (s.setInput n u).tb = s.tb := (rfl)
@[simp] theorem State.setInput_dies (n : Nat) (u : InputUnit) : (s.setInput n u).dies = s.dies := (rfl)
@[simp] theorem State.setInput_chans (n : Nat) (u : InputUnit) : (s.setInput n u).chans = s.chans := (rfl)
@[simp] theorem State.setInput_dplls (n : Nat) (u : InputUnit) : (s.setInput n u).dplls = s.dplls := (rfl)
@[simp] theorem State.setInput_oscs (n : Nat) (u : InputUnit) : (s.setInput n u).oscs = s.oscs := (rfl)
@[simp] theorem State.setInput_models (n : Nat) (u : InputUnit) : (s.setInput n u).models = s.models := (rfl)
@[simp] theorem State.setInput_cairn (n : Nat) (u : InputUnit) : (s.setInput n u).cairn = s.cairn := (rfl)
@[simp] theorem State.setInput_oplls (n : Nat) (u : InputUnit) : (s.setInput n u).oplls = s.oplls := (rfl)
@[simp] theorem State.setInput_outs (n : Nat) (u : InputUnit) : (s.setInput n u).outs = s.outs := (rfl)
@[simp] theorem State.setInput_tds (n : Nat) (u : InputUnit) : (s.setInput n u).tds = s.tds := (rfl)
@[simp] theorem State.setInput_evs (n : Nat) (u : InputUnit) : (s.setInput n u).evs = s.evs := (rfl)
@[simp] theorem State.setInput_stitches (n : Nat) (u : InputUnit) : (s.setInput n u).stitches = s.stitches := (rfl)
@[simp] theorem State.setInput_crossings (n : Nat) (u : InputUnit) : (s.setInput n u).crossings = s.crossings := (rfl)
@[simp] theorem State.setInput_xs (n : Nat) (u : InputUnit) : (s.setInput n u).xs = s.xs := (rfl)
@[simp] theorem State.setInput_host (n : Nat) (u : InputUnit) : (s.setInput n u).host = s.host := (rfl)
@[simp] theorem State.setInput_belay (n : Nat) (u : InputUnit) : (s.setInput n u).belay = s.belay := (rfl)
@[simp] theorem State.setInput_pending (n : Nat) (u : InputUnit) : (s.setInput n u).pending = s.pending := (rfl)
@[simp] theorem State.setInput_fresh (n : Nat) (u : InputUnit) : (s.setInput n u).fresh = s.fresh := (rfl)
@[simp] theorem State.setInput_chan_same (n : Nat) (u : InputUnit) (j : Nat) : (s.setInput n u).chan j = s.chan j := (rfl)
@[simp] theorem State.setInput_dpll_same (n : Nat) (u : InputUnit) (j : Nat) : (s.setInput n u).dpll j = s.dpll j := (rfl)
@[simp] theorem State.setInput_osc_same (n : Nat) (u : InputUnit) (j : Nat) : (s.setInput n u).osc j = s.osc j := (rfl)
@[simp] theorem State.setInput_model_same (n : Nat) (u : InputUnit) (j : Nat) : (s.setInput n u).model j = s.model j := (rfl)
@[simp] theorem State.setInput_opll_same (n : Nat) (u : InputUnit) (j : Nat) : (s.setInput n u).opll j = s.opll j := (rfl)
@[simp] theorem State.setInput_out_same (n : Nat) (u : InputUnit) (j : Nat) : (s.setInput n u).out j = s.out j := (rfl)
@[simp] theorem State.setInput_td_same (n : Nat) (u : InputUnit) (j : Nat) : (s.setInput n u).td j = s.td j := (rfl)
@[simp] theorem State.setInput_ev_same (n : Nat) (u : InputUnit) (j : Nat) : (s.setInput n u).ev j = s.ev j := (rfl)
@[simp] theorem State.setInput_stitch_same (n : Nat) (u : InputUnit) (j : Nat) : (s.setInput n u).stitch j = s.stitch j := (rfl)
@[simp] theorem State.setInput_crossing_same (n : Nat) (u : InputUnit) (j : Nat) : (s.setInput n u).crossing j = s.crossing j := (rfl)
@[simp] theorem State.setInput_die_same (n : Nat) (u : InputUnit) (j : Nat) : (s.setInput n u).die j = s.die j := (rfl)
@[simp] theorem State.setInput_dx_same (n : Nat) (u : InputUnit) (j : Nat) : (s.setInput n u).dx j = s.dx j := (rfl)
@[simp] theorem State.setInput_mbx_same (n : Nat) (u : InputUnit) (j : Nat) : (s.setInput n u).mbx j = s.mbx j := (rfl)
@[simp] theorem State.setInput_ring_same (n : Nat) (u : InputUnit) (j : Nat) : (s.setInput n u).ring j = s.ring j := (rfl)

@[simp] theorem State.setInput_input (n j : Nat) (u : InputUnit) : (s.setInput n u).input j = if j = n then u else s.input j := by
  simp only [State.setInput, State.input, tget_tset]

/-! ## `modInput` -/

@[simp] theorem State.modInput_part (n : Nat) (g : InputUnit → InputUnit) : (s.modInput n g).part = s.part := (rfl)
@[simp] theorem State.modInput_fused (n : Nat) (g : InputUnit → InputUnit) : (s.modInput n g).fused = s.fused := (rfl)
@[simp] theorem State.modInput_tb (n : Nat) (g : InputUnit → InputUnit) : (s.modInput n g).tb = s.tb := (rfl)
@[simp] theorem State.modInput_dies (n : Nat) (g : InputUnit → InputUnit) : (s.modInput n g).dies = s.dies := (rfl)
@[simp] theorem State.modInput_chans (n : Nat) (g : InputUnit → InputUnit) : (s.modInput n g).chans = s.chans := (rfl)
@[simp] theorem State.modInput_dplls (n : Nat) (g : InputUnit → InputUnit) : (s.modInput n g).dplls = s.dplls := (rfl)
@[simp] theorem State.modInput_oscs (n : Nat) (g : InputUnit → InputUnit) : (s.modInput n g).oscs = s.oscs := (rfl)
@[simp] theorem State.modInput_models (n : Nat) (g : InputUnit → InputUnit) : (s.modInput n g).models = s.models := (rfl)
@[simp] theorem State.modInput_cairn (n : Nat) (g : InputUnit → InputUnit) : (s.modInput n g).cairn = s.cairn := (rfl)
@[simp] theorem State.modInput_oplls (n : Nat) (g : InputUnit → InputUnit) : (s.modInput n g).oplls = s.oplls := (rfl)
@[simp] theorem State.modInput_outs (n : Nat) (g : InputUnit → InputUnit) : (s.modInput n g).outs = s.outs := (rfl)
@[simp] theorem State.modInput_tds (n : Nat) (g : InputUnit → InputUnit) : (s.modInput n g).tds = s.tds := (rfl)
@[simp] theorem State.modInput_evs (n : Nat) (g : InputUnit → InputUnit) : (s.modInput n g).evs = s.evs := (rfl)
@[simp] theorem State.modInput_stitches (n : Nat) (g : InputUnit → InputUnit) : (s.modInput n g).stitches = s.stitches := (rfl)
@[simp] theorem State.modInput_crossings (n : Nat) (g : InputUnit → InputUnit) : (s.modInput n g).crossings = s.crossings := (rfl)
@[simp] theorem State.modInput_xs (n : Nat) (g : InputUnit → InputUnit) : (s.modInput n g).xs = s.xs := (rfl)
@[simp] theorem State.modInput_host (n : Nat) (g : InputUnit → InputUnit) : (s.modInput n g).host = s.host := (rfl)
@[simp] theorem State.modInput_belay (n : Nat) (g : InputUnit → InputUnit) : (s.modInput n g).belay = s.belay := (rfl)
@[simp] theorem State.modInput_pending (n : Nat) (g : InputUnit → InputUnit) : (s.modInput n g).pending = s.pending := (rfl)
@[simp] theorem State.modInput_fresh (n : Nat) (g : InputUnit → InputUnit) : (s.modInput n g).fresh = s.fresh := (rfl)
@[simp] theorem State.modInput_chan_same (n : Nat) (g : InputUnit → InputUnit) (j : Nat) : (s.modInput n g).chan j = s.chan j := (rfl)
@[simp] theorem State.modInput_dpll_same (n : Nat) (g : InputUnit → InputUnit) (j : Nat) : (s.modInput n g).dpll j = s.dpll j := (rfl)
@[simp] theorem State.modInput_osc_same (n : Nat) (g : InputUnit → InputUnit) (j : Nat) : (s.modInput n g).osc j = s.osc j := (rfl)
@[simp] theorem State.modInput_model_same (n : Nat) (g : InputUnit → InputUnit) (j : Nat) : (s.modInput n g).model j = s.model j := (rfl)
@[simp] theorem State.modInput_opll_same (n : Nat) (g : InputUnit → InputUnit) (j : Nat) : (s.modInput n g).opll j = s.opll j := (rfl)
@[simp] theorem State.modInput_out_same (n : Nat) (g : InputUnit → InputUnit) (j : Nat) : (s.modInput n g).out j = s.out j := (rfl)
@[simp] theorem State.modInput_td_same (n : Nat) (g : InputUnit → InputUnit) (j : Nat) : (s.modInput n g).td j = s.td j := (rfl)
@[simp] theorem State.modInput_ev_same (n : Nat) (g : InputUnit → InputUnit) (j : Nat) : (s.modInput n g).ev j = s.ev j := (rfl)
@[simp] theorem State.modInput_stitch_same (n : Nat) (g : InputUnit → InputUnit) (j : Nat) : (s.modInput n g).stitch j = s.stitch j := (rfl)
@[simp] theorem State.modInput_crossing_same (n : Nat) (g : InputUnit → InputUnit) (j : Nat) : (s.modInput n g).crossing j = s.crossing j := (rfl)
@[simp] theorem State.modInput_die_same (n : Nat) (g : InputUnit → InputUnit) (j : Nat) : (s.modInput n g).die j = s.die j := (rfl)
@[simp] theorem State.modInput_dx_same (n : Nat) (g : InputUnit → InputUnit) (j : Nat) : (s.modInput n g).dx j = s.dx j := (rfl)
@[simp] theorem State.modInput_mbx_same (n : Nat) (g : InputUnit → InputUnit) (j : Nat) : (s.modInput n g).mbx j = s.mbx j := (rfl)
@[simp] theorem State.modInput_ring_same (n : Nat) (g : InputUnit → InputUnit) (j : Nat) : (s.modInput n g).ring j = s.ring j := (rfl)

@[simp] theorem State.modInput_input (n j : Nat) (g : InputUnit → InputUnit) : (s.modInput n g).input j = if j = n then g (s.input n) else s.input j :=
  State.setInput_input s n j _

theorem State.modInput_eq (n : Nat) (g : InputUnit → InputUnit) : s.modInput n g = s.setInput n (g (s.input n)) := (rfl)

/-! ## `setChan` -/

@[simp] theorem State.setChan_part (n : Nat) (u : TdcChan) : (s.setChan n u).part = s.part := (rfl)
@[simp] theorem State.setChan_fused (n : Nat) (u : TdcChan) : (s.setChan n u).fused = s.fused := (rfl)
@[simp] theorem State.setChan_tb (n : Nat) (u : TdcChan) : (s.setChan n u).tb = s.tb := (rfl)
@[simp] theorem State.setChan_dies (n : Nat) (u : TdcChan) : (s.setChan n u).dies = s.dies := (rfl)
@[simp] theorem State.setChan_inputs (n : Nat) (u : TdcChan) : (s.setChan n u).inputs = s.inputs := (rfl)
@[simp] theorem State.setChan_dplls (n : Nat) (u : TdcChan) : (s.setChan n u).dplls = s.dplls := (rfl)
@[simp] theorem State.setChan_oscs (n : Nat) (u : TdcChan) : (s.setChan n u).oscs = s.oscs := (rfl)
@[simp] theorem State.setChan_models (n : Nat) (u : TdcChan) : (s.setChan n u).models = s.models := (rfl)
@[simp] theorem State.setChan_cairn (n : Nat) (u : TdcChan) : (s.setChan n u).cairn = s.cairn := (rfl)
@[simp] theorem State.setChan_oplls (n : Nat) (u : TdcChan) : (s.setChan n u).oplls = s.oplls := (rfl)
@[simp] theorem State.setChan_outs (n : Nat) (u : TdcChan) : (s.setChan n u).outs = s.outs := (rfl)
@[simp] theorem State.setChan_tds (n : Nat) (u : TdcChan) : (s.setChan n u).tds = s.tds := (rfl)
@[simp] theorem State.setChan_evs (n : Nat) (u : TdcChan) : (s.setChan n u).evs = s.evs := (rfl)
@[simp] theorem State.setChan_stitches (n : Nat) (u : TdcChan) : (s.setChan n u).stitches = s.stitches := (rfl)
@[simp] theorem State.setChan_crossings (n : Nat) (u : TdcChan) : (s.setChan n u).crossings = s.crossings := (rfl)
@[simp] theorem State.setChan_xs (n : Nat) (u : TdcChan) : (s.setChan n u).xs = s.xs := (rfl)
@[simp] theorem State.setChan_host (n : Nat) (u : TdcChan) : (s.setChan n u).host = s.host := (rfl)
@[simp] theorem State.setChan_belay (n : Nat) (u : TdcChan) : (s.setChan n u).belay = s.belay := (rfl)
@[simp] theorem State.setChan_pending (n : Nat) (u : TdcChan) : (s.setChan n u).pending = s.pending := (rfl)
@[simp] theorem State.setChan_fresh (n : Nat) (u : TdcChan) : (s.setChan n u).fresh = s.fresh := (rfl)
@[simp] theorem State.setChan_input_same (n : Nat) (u : TdcChan) (j : Nat) : (s.setChan n u).input j = s.input j := (rfl)
@[simp] theorem State.setChan_dpll_same (n : Nat) (u : TdcChan) (j : Nat) : (s.setChan n u).dpll j = s.dpll j := (rfl)
@[simp] theorem State.setChan_osc_same (n : Nat) (u : TdcChan) (j : Nat) : (s.setChan n u).osc j = s.osc j := (rfl)
@[simp] theorem State.setChan_model_same (n : Nat) (u : TdcChan) (j : Nat) : (s.setChan n u).model j = s.model j := (rfl)
@[simp] theorem State.setChan_opll_same (n : Nat) (u : TdcChan) (j : Nat) : (s.setChan n u).opll j = s.opll j := (rfl)
@[simp] theorem State.setChan_out_same (n : Nat) (u : TdcChan) (j : Nat) : (s.setChan n u).out j = s.out j := (rfl)
@[simp] theorem State.setChan_td_same (n : Nat) (u : TdcChan) (j : Nat) : (s.setChan n u).td j = s.td j := (rfl)
@[simp] theorem State.setChan_ev_same (n : Nat) (u : TdcChan) (j : Nat) : (s.setChan n u).ev j = s.ev j := (rfl)
@[simp] theorem State.setChan_stitch_same (n : Nat) (u : TdcChan) (j : Nat) : (s.setChan n u).stitch j = s.stitch j := (rfl)
@[simp] theorem State.setChan_crossing_same (n : Nat) (u : TdcChan) (j : Nat) : (s.setChan n u).crossing j = s.crossing j := (rfl)
@[simp] theorem State.setChan_die_same (n : Nat) (u : TdcChan) (j : Nat) : (s.setChan n u).die j = s.die j := (rfl)
@[simp] theorem State.setChan_dx_same (n : Nat) (u : TdcChan) (j : Nat) : (s.setChan n u).dx j = s.dx j := (rfl)
@[simp] theorem State.setChan_mbx_same (n : Nat) (u : TdcChan) (j : Nat) : (s.setChan n u).mbx j = s.mbx j := (rfl)
@[simp] theorem State.setChan_ring_same (n : Nat) (u : TdcChan) (j : Nat) : (s.setChan n u).ring j = s.ring j := (rfl)

@[simp] theorem State.setChan_chan (n j : Nat) (u : TdcChan) : (s.setChan n u).chan j = if j = n then u else s.chan j := by
  simp only [State.setChan, State.chan, tget_tset]

/-! ## `modChan` -/

@[simp] theorem State.modChan_part (n : Nat) (g : TdcChan → TdcChan) : (s.modChan n g).part = s.part := (rfl)
@[simp] theorem State.modChan_fused (n : Nat) (g : TdcChan → TdcChan) : (s.modChan n g).fused = s.fused := (rfl)
@[simp] theorem State.modChan_tb (n : Nat) (g : TdcChan → TdcChan) : (s.modChan n g).tb = s.tb := (rfl)
@[simp] theorem State.modChan_dies (n : Nat) (g : TdcChan → TdcChan) : (s.modChan n g).dies = s.dies := (rfl)
@[simp] theorem State.modChan_inputs (n : Nat) (g : TdcChan → TdcChan) : (s.modChan n g).inputs = s.inputs := (rfl)
@[simp] theorem State.modChan_dplls (n : Nat) (g : TdcChan → TdcChan) : (s.modChan n g).dplls = s.dplls := (rfl)
@[simp] theorem State.modChan_oscs (n : Nat) (g : TdcChan → TdcChan) : (s.modChan n g).oscs = s.oscs := (rfl)
@[simp] theorem State.modChan_models (n : Nat) (g : TdcChan → TdcChan) : (s.modChan n g).models = s.models := (rfl)
@[simp] theorem State.modChan_cairn (n : Nat) (g : TdcChan → TdcChan) : (s.modChan n g).cairn = s.cairn := (rfl)
@[simp] theorem State.modChan_oplls (n : Nat) (g : TdcChan → TdcChan) : (s.modChan n g).oplls = s.oplls := (rfl)
@[simp] theorem State.modChan_outs (n : Nat) (g : TdcChan → TdcChan) : (s.modChan n g).outs = s.outs := (rfl)
@[simp] theorem State.modChan_tds (n : Nat) (g : TdcChan → TdcChan) : (s.modChan n g).tds = s.tds := (rfl)
@[simp] theorem State.modChan_evs (n : Nat) (g : TdcChan → TdcChan) : (s.modChan n g).evs = s.evs := (rfl)
@[simp] theorem State.modChan_stitches (n : Nat) (g : TdcChan → TdcChan) : (s.modChan n g).stitches = s.stitches := (rfl)
@[simp] theorem State.modChan_crossings (n : Nat) (g : TdcChan → TdcChan) : (s.modChan n g).crossings = s.crossings := (rfl)
@[simp] theorem State.modChan_xs (n : Nat) (g : TdcChan → TdcChan) : (s.modChan n g).xs = s.xs := (rfl)
@[simp] theorem State.modChan_host (n : Nat) (g : TdcChan → TdcChan) : (s.modChan n g).host = s.host := (rfl)
@[simp] theorem State.modChan_belay (n : Nat) (g : TdcChan → TdcChan) : (s.modChan n g).belay = s.belay := (rfl)
@[simp] theorem State.modChan_pending (n : Nat) (g : TdcChan → TdcChan) : (s.modChan n g).pending = s.pending := (rfl)
@[simp] theorem State.modChan_fresh (n : Nat) (g : TdcChan → TdcChan) : (s.modChan n g).fresh = s.fresh := (rfl)
@[simp] theorem State.modChan_input_same (n : Nat) (g : TdcChan → TdcChan) (j : Nat) : (s.modChan n g).input j = s.input j := (rfl)
@[simp] theorem State.modChan_dpll_same (n : Nat) (g : TdcChan → TdcChan) (j : Nat) : (s.modChan n g).dpll j = s.dpll j := (rfl)
@[simp] theorem State.modChan_osc_same (n : Nat) (g : TdcChan → TdcChan) (j : Nat) : (s.modChan n g).osc j = s.osc j := (rfl)
@[simp] theorem State.modChan_model_same (n : Nat) (g : TdcChan → TdcChan) (j : Nat) : (s.modChan n g).model j = s.model j := (rfl)
@[simp] theorem State.modChan_opll_same (n : Nat) (g : TdcChan → TdcChan) (j : Nat) : (s.modChan n g).opll j = s.opll j := (rfl)
@[simp] theorem State.modChan_out_same (n : Nat) (g : TdcChan → TdcChan) (j : Nat) : (s.modChan n g).out j = s.out j := (rfl)
@[simp] theorem State.modChan_td_same (n : Nat) (g : TdcChan → TdcChan) (j : Nat) : (s.modChan n g).td j = s.td j := (rfl)
@[simp] theorem State.modChan_ev_same (n : Nat) (g : TdcChan → TdcChan) (j : Nat) : (s.modChan n g).ev j = s.ev j := (rfl)
@[simp] theorem State.modChan_stitch_same (n : Nat) (g : TdcChan → TdcChan) (j : Nat) : (s.modChan n g).stitch j = s.stitch j := (rfl)
@[simp] theorem State.modChan_crossing_same (n : Nat) (g : TdcChan → TdcChan) (j : Nat) : (s.modChan n g).crossing j = s.crossing j := (rfl)
@[simp] theorem State.modChan_die_same (n : Nat) (g : TdcChan → TdcChan) (j : Nat) : (s.modChan n g).die j = s.die j := (rfl)
@[simp] theorem State.modChan_dx_same (n : Nat) (g : TdcChan → TdcChan) (j : Nat) : (s.modChan n g).dx j = s.dx j := (rfl)
@[simp] theorem State.modChan_mbx_same (n : Nat) (g : TdcChan → TdcChan) (j : Nat) : (s.modChan n g).mbx j = s.mbx j := (rfl)
@[simp] theorem State.modChan_ring_same (n : Nat) (g : TdcChan → TdcChan) (j : Nat) : (s.modChan n g).ring j = s.ring j := (rfl)

@[simp] theorem State.modChan_chan (n j : Nat) (g : TdcChan → TdcChan) : (s.modChan n g).chan j = if j = n then g (s.chan n) else s.chan j :=
  State.setChan_chan s n j _

theorem State.modChan_eq (n : Nat) (g : TdcChan → TdcChan) : s.modChan n g = s.setChan n (g (s.chan n)) := (rfl)

/-! ## `setDpll` -/

@[simp] theorem State.setDpll_part (n : Nat) (u : DpllUnit) : (s.setDpll n u).part = s.part := (rfl)
@[simp] theorem State.setDpll_fused (n : Nat) (u : DpllUnit) : (s.setDpll n u).fused = s.fused := (rfl)
@[simp] theorem State.setDpll_tb (n : Nat) (u : DpllUnit) : (s.setDpll n u).tb = s.tb := (rfl)
@[simp] theorem State.setDpll_dies (n : Nat) (u : DpllUnit) : (s.setDpll n u).dies = s.dies := (rfl)
@[simp] theorem State.setDpll_inputs (n : Nat) (u : DpllUnit) : (s.setDpll n u).inputs = s.inputs := (rfl)
@[simp] theorem State.setDpll_chans (n : Nat) (u : DpllUnit) : (s.setDpll n u).chans = s.chans := (rfl)
@[simp] theorem State.setDpll_oscs (n : Nat) (u : DpllUnit) : (s.setDpll n u).oscs = s.oscs := (rfl)
@[simp] theorem State.setDpll_models (n : Nat) (u : DpllUnit) : (s.setDpll n u).models = s.models := (rfl)
@[simp] theorem State.setDpll_cairn (n : Nat) (u : DpllUnit) : (s.setDpll n u).cairn = s.cairn := (rfl)
@[simp] theorem State.setDpll_oplls (n : Nat) (u : DpllUnit) : (s.setDpll n u).oplls = s.oplls := (rfl)
@[simp] theorem State.setDpll_outs (n : Nat) (u : DpllUnit) : (s.setDpll n u).outs = s.outs := (rfl)
@[simp] theorem State.setDpll_tds (n : Nat) (u : DpllUnit) : (s.setDpll n u).tds = s.tds := (rfl)
@[simp] theorem State.setDpll_evs (n : Nat) (u : DpllUnit) : (s.setDpll n u).evs = s.evs := (rfl)
@[simp] theorem State.setDpll_stitches (n : Nat) (u : DpllUnit) : (s.setDpll n u).stitches = s.stitches := (rfl)
@[simp] theorem State.setDpll_crossings (n : Nat) (u : DpllUnit) : (s.setDpll n u).crossings = s.crossings := (rfl)
@[simp] theorem State.setDpll_xs (n : Nat) (u : DpllUnit) : (s.setDpll n u).xs = s.xs := (rfl)
@[simp] theorem State.setDpll_host (n : Nat) (u : DpllUnit) : (s.setDpll n u).host = s.host := (rfl)
@[simp] theorem State.setDpll_belay (n : Nat) (u : DpllUnit) : (s.setDpll n u).belay = s.belay := (rfl)
@[simp] theorem State.setDpll_pending (n : Nat) (u : DpllUnit) : (s.setDpll n u).pending = s.pending := (rfl)
@[simp] theorem State.setDpll_fresh (n : Nat) (u : DpllUnit) : (s.setDpll n u).fresh = s.fresh := (rfl)
@[simp] theorem State.setDpll_input_same (n : Nat) (u : DpllUnit) (j : Nat) : (s.setDpll n u).input j = s.input j := (rfl)
@[simp] theorem State.setDpll_chan_same (n : Nat) (u : DpllUnit) (j : Nat) : (s.setDpll n u).chan j = s.chan j := (rfl)
@[simp] theorem State.setDpll_osc_same (n : Nat) (u : DpllUnit) (j : Nat) : (s.setDpll n u).osc j = s.osc j := (rfl)
@[simp] theorem State.setDpll_model_same (n : Nat) (u : DpllUnit) (j : Nat) : (s.setDpll n u).model j = s.model j := (rfl)
@[simp] theorem State.setDpll_opll_same (n : Nat) (u : DpllUnit) (j : Nat) : (s.setDpll n u).opll j = s.opll j := (rfl)
@[simp] theorem State.setDpll_out_same (n : Nat) (u : DpllUnit) (j : Nat) : (s.setDpll n u).out j = s.out j := (rfl)
@[simp] theorem State.setDpll_td_same (n : Nat) (u : DpllUnit) (j : Nat) : (s.setDpll n u).td j = s.td j := (rfl)
@[simp] theorem State.setDpll_ev_same (n : Nat) (u : DpllUnit) (j : Nat) : (s.setDpll n u).ev j = s.ev j := (rfl)
@[simp] theorem State.setDpll_stitch_same (n : Nat) (u : DpllUnit) (j : Nat) : (s.setDpll n u).stitch j = s.stitch j := (rfl)
@[simp] theorem State.setDpll_crossing_same (n : Nat) (u : DpllUnit) (j : Nat) : (s.setDpll n u).crossing j = s.crossing j := (rfl)
@[simp] theorem State.setDpll_die_same (n : Nat) (u : DpllUnit) (j : Nat) : (s.setDpll n u).die j = s.die j := (rfl)
@[simp] theorem State.setDpll_dx_same (n : Nat) (u : DpllUnit) (j : Nat) : (s.setDpll n u).dx j = s.dx j := (rfl)
@[simp] theorem State.setDpll_mbx_same (n : Nat) (u : DpllUnit) (j : Nat) : (s.setDpll n u).mbx j = s.mbx j := (rfl)
@[simp] theorem State.setDpll_ring_same (n : Nat) (u : DpllUnit) (j : Nat) : (s.setDpll n u).ring j = s.ring j := (rfl)

@[simp] theorem State.setDpll_dpll (n j : Nat) (u : DpllUnit) : (s.setDpll n u).dpll j = if j = n then u else s.dpll j := by
  simp only [State.setDpll, State.dpll, tget_tset]

/-! ## `modDpll` -/

@[simp] theorem State.modDpll_part (n : Nat) (g : DpllUnit → DpllUnit) : (s.modDpll n g).part = s.part := (rfl)
@[simp] theorem State.modDpll_fused (n : Nat) (g : DpllUnit → DpllUnit) : (s.modDpll n g).fused = s.fused := (rfl)
@[simp] theorem State.modDpll_tb (n : Nat) (g : DpllUnit → DpllUnit) : (s.modDpll n g).tb = s.tb := (rfl)
@[simp] theorem State.modDpll_dies (n : Nat) (g : DpllUnit → DpllUnit) : (s.modDpll n g).dies = s.dies := (rfl)
@[simp] theorem State.modDpll_inputs (n : Nat) (g : DpllUnit → DpllUnit) : (s.modDpll n g).inputs = s.inputs := (rfl)
@[simp] theorem State.modDpll_chans (n : Nat) (g : DpllUnit → DpllUnit) : (s.modDpll n g).chans = s.chans := (rfl)
@[simp] theorem State.modDpll_oscs (n : Nat) (g : DpllUnit → DpllUnit) : (s.modDpll n g).oscs = s.oscs := (rfl)
@[simp] theorem State.modDpll_models (n : Nat) (g : DpllUnit → DpllUnit) : (s.modDpll n g).models = s.models := (rfl)
@[simp] theorem State.modDpll_cairn (n : Nat) (g : DpllUnit → DpllUnit) : (s.modDpll n g).cairn = s.cairn := (rfl)
@[simp] theorem State.modDpll_oplls (n : Nat) (g : DpllUnit → DpllUnit) : (s.modDpll n g).oplls = s.oplls := (rfl)
@[simp] theorem State.modDpll_outs (n : Nat) (g : DpllUnit → DpllUnit) : (s.modDpll n g).outs = s.outs := (rfl)
@[simp] theorem State.modDpll_tds (n : Nat) (g : DpllUnit → DpllUnit) : (s.modDpll n g).tds = s.tds := (rfl)
@[simp] theorem State.modDpll_evs (n : Nat) (g : DpllUnit → DpllUnit) : (s.modDpll n g).evs = s.evs := (rfl)
@[simp] theorem State.modDpll_stitches (n : Nat) (g : DpllUnit → DpllUnit) : (s.modDpll n g).stitches = s.stitches := (rfl)
@[simp] theorem State.modDpll_crossings (n : Nat) (g : DpllUnit → DpllUnit) : (s.modDpll n g).crossings = s.crossings := (rfl)
@[simp] theorem State.modDpll_xs (n : Nat) (g : DpllUnit → DpllUnit) : (s.modDpll n g).xs = s.xs := (rfl)
@[simp] theorem State.modDpll_host (n : Nat) (g : DpllUnit → DpllUnit) : (s.modDpll n g).host = s.host := (rfl)
@[simp] theorem State.modDpll_belay (n : Nat) (g : DpllUnit → DpllUnit) : (s.modDpll n g).belay = s.belay := (rfl)
@[simp] theorem State.modDpll_pending (n : Nat) (g : DpllUnit → DpllUnit) : (s.modDpll n g).pending = s.pending := (rfl)
@[simp] theorem State.modDpll_fresh (n : Nat) (g : DpllUnit → DpllUnit) : (s.modDpll n g).fresh = s.fresh := (rfl)
@[simp] theorem State.modDpll_input_same (n : Nat) (g : DpllUnit → DpllUnit) (j : Nat) : (s.modDpll n g).input j = s.input j := (rfl)
@[simp] theorem State.modDpll_chan_same (n : Nat) (g : DpllUnit → DpllUnit) (j : Nat) : (s.modDpll n g).chan j = s.chan j := (rfl)
@[simp] theorem State.modDpll_osc_same (n : Nat) (g : DpllUnit → DpllUnit) (j : Nat) : (s.modDpll n g).osc j = s.osc j := (rfl)
@[simp] theorem State.modDpll_model_same (n : Nat) (g : DpllUnit → DpllUnit) (j : Nat) : (s.modDpll n g).model j = s.model j := (rfl)
@[simp] theorem State.modDpll_opll_same (n : Nat) (g : DpllUnit → DpllUnit) (j : Nat) : (s.modDpll n g).opll j = s.opll j := (rfl)
@[simp] theorem State.modDpll_out_same (n : Nat) (g : DpllUnit → DpllUnit) (j : Nat) : (s.modDpll n g).out j = s.out j := (rfl)
@[simp] theorem State.modDpll_td_same (n : Nat) (g : DpllUnit → DpllUnit) (j : Nat) : (s.modDpll n g).td j = s.td j := (rfl)
@[simp] theorem State.modDpll_ev_same (n : Nat) (g : DpllUnit → DpllUnit) (j : Nat) : (s.modDpll n g).ev j = s.ev j := (rfl)
@[simp] theorem State.modDpll_stitch_same (n : Nat) (g : DpllUnit → DpllUnit) (j : Nat) : (s.modDpll n g).stitch j = s.stitch j := (rfl)
@[simp] theorem State.modDpll_crossing_same (n : Nat) (g : DpllUnit → DpllUnit) (j : Nat) : (s.modDpll n g).crossing j = s.crossing j := (rfl)
@[simp] theorem State.modDpll_die_same (n : Nat) (g : DpllUnit → DpllUnit) (j : Nat) : (s.modDpll n g).die j = s.die j := (rfl)
@[simp] theorem State.modDpll_dx_same (n : Nat) (g : DpllUnit → DpllUnit) (j : Nat) : (s.modDpll n g).dx j = s.dx j := (rfl)
@[simp] theorem State.modDpll_mbx_same (n : Nat) (g : DpllUnit → DpllUnit) (j : Nat) : (s.modDpll n g).mbx j = s.mbx j := (rfl)
@[simp] theorem State.modDpll_ring_same (n : Nat) (g : DpllUnit → DpllUnit) (j : Nat) : (s.modDpll n g).ring j = s.ring j := (rfl)

@[simp] theorem State.modDpll_dpll (n j : Nat) (g : DpllUnit → DpllUnit) : (s.modDpll n g).dpll j = if j = n then g (s.dpll n) else s.dpll j :=
  State.setDpll_dpll s n j _

theorem State.modDpll_eq (n : Nat) (g : DpllUnit → DpllUnit) : s.modDpll n g = s.setDpll n (g (s.dpll n)) := (rfl)

/-! ## `setOsc` -/

@[simp] theorem State.setOsc_part (n : Nat) (u : OscPort) : (s.setOsc n u).part = s.part := (rfl)
@[simp] theorem State.setOsc_fused (n : Nat) (u : OscPort) : (s.setOsc n u).fused = s.fused := (rfl)
@[simp] theorem State.setOsc_tb (n : Nat) (u : OscPort) : (s.setOsc n u).tb = s.tb := (rfl)
@[simp] theorem State.setOsc_dies (n : Nat) (u : OscPort) : (s.setOsc n u).dies = s.dies := (rfl)
@[simp] theorem State.setOsc_inputs (n : Nat) (u : OscPort) : (s.setOsc n u).inputs = s.inputs := (rfl)
@[simp] theorem State.setOsc_chans (n : Nat) (u : OscPort) : (s.setOsc n u).chans = s.chans := (rfl)
@[simp] theorem State.setOsc_dplls (n : Nat) (u : OscPort) : (s.setOsc n u).dplls = s.dplls := (rfl)
@[simp] theorem State.setOsc_models (n : Nat) (u : OscPort) : (s.setOsc n u).models = s.models := (rfl)
@[simp] theorem State.setOsc_cairn (n : Nat) (u : OscPort) : (s.setOsc n u).cairn = s.cairn := (rfl)
@[simp] theorem State.setOsc_oplls (n : Nat) (u : OscPort) : (s.setOsc n u).oplls = s.oplls := (rfl)
@[simp] theorem State.setOsc_outs (n : Nat) (u : OscPort) : (s.setOsc n u).outs = s.outs := (rfl)
@[simp] theorem State.setOsc_tds (n : Nat) (u : OscPort) : (s.setOsc n u).tds = s.tds := (rfl)
@[simp] theorem State.setOsc_evs (n : Nat) (u : OscPort) : (s.setOsc n u).evs = s.evs := (rfl)
@[simp] theorem State.setOsc_stitches (n : Nat) (u : OscPort) : (s.setOsc n u).stitches = s.stitches := (rfl)
@[simp] theorem State.setOsc_crossings (n : Nat) (u : OscPort) : (s.setOsc n u).crossings = s.crossings := (rfl)
@[simp] theorem State.setOsc_xs (n : Nat) (u : OscPort) : (s.setOsc n u).xs = s.xs := (rfl)
@[simp] theorem State.setOsc_host (n : Nat) (u : OscPort) : (s.setOsc n u).host = s.host := (rfl)
@[simp] theorem State.setOsc_belay (n : Nat) (u : OscPort) : (s.setOsc n u).belay = s.belay := (rfl)
@[simp] theorem State.setOsc_pending (n : Nat) (u : OscPort) : (s.setOsc n u).pending = s.pending := (rfl)
@[simp] theorem State.setOsc_fresh (n : Nat) (u : OscPort) : (s.setOsc n u).fresh = s.fresh := (rfl)
@[simp] theorem State.setOsc_input_same (n : Nat) (u : OscPort) (j : Nat) : (s.setOsc n u).input j = s.input j := (rfl)
@[simp] theorem State.setOsc_chan_same (n : Nat) (u : OscPort) (j : Nat) : (s.setOsc n u).chan j = s.chan j := (rfl)
@[simp] theorem State.setOsc_dpll_same (n : Nat) (u : OscPort) (j : Nat) : (s.setOsc n u).dpll j = s.dpll j := (rfl)
@[simp] theorem State.setOsc_model_same (n : Nat) (u : OscPort) (j : Nat) : (s.setOsc n u).model j = s.model j := (rfl)
@[simp] theorem State.setOsc_opll_same (n : Nat) (u : OscPort) (j : Nat) : (s.setOsc n u).opll j = s.opll j := (rfl)
@[simp] theorem State.setOsc_out_same (n : Nat) (u : OscPort) (j : Nat) : (s.setOsc n u).out j = s.out j := (rfl)
@[simp] theorem State.setOsc_td_same (n : Nat) (u : OscPort) (j : Nat) : (s.setOsc n u).td j = s.td j := (rfl)
@[simp] theorem State.setOsc_ev_same (n : Nat) (u : OscPort) (j : Nat) : (s.setOsc n u).ev j = s.ev j := (rfl)
@[simp] theorem State.setOsc_stitch_same (n : Nat) (u : OscPort) (j : Nat) : (s.setOsc n u).stitch j = s.stitch j := (rfl)
@[simp] theorem State.setOsc_crossing_same (n : Nat) (u : OscPort) (j : Nat) : (s.setOsc n u).crossing j = s.crossing j := (rfl)
@[simp] theorem State.setOsc_die_same (n : Nat) (u : OscPort) (j : Nat) : (s.setOsc n u).die j = s.die j := (rfl)
@[simp] theorem State.setOsc_dx_same (n : Nat) (u : OscPort) (j : Nat) : (s.setOsc n u).dx j = s.dx j := (rfl)
@[simp] theorem State.setOsc_mbx_same (n : Nat) (u : OscPort) (j : Nat) : (s.setOsc n u).mbx j = s.mbx j := (rfl)
@[simp] theorem State.setOsc_ring_same (n : Nat) (u : OscPort) (j : Nat) : (s.setOsc n u).ring j = s.ring j := (rfl)

@[simp] theorem State.setOsc_osc (n j : Nat) (u : OscPort) : (s.setOsc n u).osc j = if j = n then u else s.osc j := by
  simp only [State.setOsc, State.osc, tget_tset]

/-! ## `modOsc` -/

@[simp] theorem State.modOsc_part (n : Nat) (g : OscPort → OscPort) : (s.modOsc n g).part = s.part := (rfl)
@[simp] theorem State.modOsc_fused (n : Nat) (g : OscPort → OscPort) : (s.modOsc n g).fused = s.fused := (rfl)
@[simp] theorem State.modOsc_tb (n : Nat) (g : OscPort → OscPort) : (s.modOsc n g).tb = s.tb := (rfl)
@[simp] theorem State.modOsc_dies (n : Nat) (g : OscPort → OscPort) : (s.modOsc n g).dies = s.dies := (rfl)
@[simp] theorem State.modOsc_inputs (n : Nat) (g : OscPort → OscPort) : (s.modOsc n g).inputs = s.inputs := (rfl)
@[simp] theorem State.modOsc_chans (n : Nat) (g : OscPort → OscPort) : (s.modOsc n g).chans = s.chans := (rfl)
@[simp] theorem State.modOsc_dplls (n : Nat) (g : OscPort → OscPort) : (s.modOsc n g).dplls = s.dplls := (rfl)
@[simp] theorem State.modOsc_models (n : Nat) (g : OscPort → OscPort) : (s.modOsc n g).models = s.models := (rfl)
@[simp] theorem State.modOsc_cairn (n : Nat) (g : OscPort → OscPort) : (s.modOsc n g).cairn = s.cairn := (rfl)
@[simp] theorem State.modOsc_oplls (n : Nat) (g : OscPort → OscPort) : (s.modOsc n g).oplls = s.oplls := (rfl)
@[simp] theorem State.modOsc_outs (n : Nat) (g : OscPort → OscPort) : (s.modOsc n g).outs = s.outs := (rfl)
@[simp] theorem State.modOsc_tds (n : Nat) (g : OscPort → OscPort) : (s.modOsc n g).tds = s.tds := (rfl)
@[simp] theorem State.modOsc_evs (n : Nat) (g : OscPort → OscPort) : (s.modOsc n g).evs = s.evs := (rfl)
@[simp] theorem State.modOsc_stitches (n : Nat) (g : OscPort → OscPort) : (s.modOsc n g).stitches = s.stitches := (rfl)
@[simp] theorem State.modOsc_crossings (n : Nat) (g : OscPort → OscPort) : (s.modOsc n g).crossings = s.crossings := (rfl)
@[simp] theorem State.modOsc_xs (n : Nat) (g : OscPort → OscPort) : (s.modOsc n g).xs = s.xs := (rfl)
@[simp] theorem State.modOsc_host (n : Nat) (g : OscPort → OscPort) : (s.modOsc n g).host = s.host := (rfl)
@[simp] theorem State.modOsc_belay (n : Nat) (g : OscPort → OscPort) : (s.modOsc n g).belay = s.belay := (rfl)
@[simp] theorem State.modOsc_pending (n : Nat) (g : OscPort → OscPort) : (s.modOsc n g).pending = s.pending := (rfl)
@[simp] theorem State.modOsc_fresh (n : Nat) (g : OscPort → OscPort) : (s.modOsc n g).fresh = s.fresh := (rfl)
@[simp] theorem State.modOsc_input_same (n : Nat) (g : OscPort → OscPort) (j : Nat) : (s.modOsc n g).input j = s.input j := (rfl)
@[simp] theorem State.modOsc_chan_same (n : Nat) (g : OscPort → OscPort) (j : Nat) : (s.modOsc n g).chan j = s.chan j := (rfl)
@[simp] theorem State.modOsc_dpll_same (n : Nat) (g : OscPort → OscPort) (j : Nat) : (s.modOsc n g).dpll j = s.dpll j := (rfl)
@[simp] theorem State.modOsc_model_same (n : Nat) (g : OscPort → OscPort) (j : Nat) : (s.modOsc n g).model j = s.model j := (rfl)
@[simp] theorem State.modOsc_opll_same (n : Nat) (g : OscPort → OscPort) (j : Nat) : (s.modOsc n g).opll j = s.opll j := (rfl)
@[simp] theorem State.modOsc_out_same (n : Nat) (g : OscPort → OscPort) (j : Nat) : (s.modOsc n g).out j = s.out j := (rfl)
@[simp] theorem State.modOsc_td_same (n : Nat) (g : OscPort → OscPort) (j : Nat) : (s.modOsc n g).td j = s.td j := (rfl)
@[simp] theorem State.modOsc_ev_same (n : Nat) (g : OscPort → OscPort) (j : Nat) : (s.modOsc n g).ev j = s.ev j := (rfl)
@[simp] theorem State.modOsc_stitch_same (n : Nat) (g : OscPort → OscPort) (j : Nat) : (s.modOsc n g).stitch j = s.stitch j := (rfl)
@[simp] theorem State.modOsc_crossing_same (n : Nat) (g : OscPort → OscPort) (j : Nat) : (s.modOsc n g).crossing j = s.crossing j := (rfl)
@[simp] theorem State.modOsc_die_same (n : Nat) (g : OscPort → OscPort) (j : Nat) : (s.modOsc n g).die j = s.die j := (rfl)
@[simp] theorem State.modOsc_dx_same (n : Nat) (g : OscPort → OscPort) (j : Nat) : (s.modOsc n g).dx j = s.dx j := (rfl)
@[simp] theorem State.modOsc_mbx_same (n : Nat) (g : OscPort → OscPort) (j : Nat) : (s.modOsc n g).mbx j = s.mbx j := (rfl)
@[simp] theorem State.modOsc_ring_same (n : Nat) (g : OscPort → OscPort) (j : Nat) : (s.modOsc n g).ring j = s.ring j := (rfl)

@[simp] theorem State.modOsc_osc (n j : Nat) (g : OscPort → OscPort) : (s.modOsc n g).osc j = if j = n then g (s.osc n) else s.osc j :=
  State.setOsc_osc s n j _

theorem State.modOsc_eq (n : Nat) (g : OscPort → OscPort) : s.modOsc n g = s.setOsc n (g (s.osc n)) := (rfl)

/-! ## `setModel` -/

@[simp] theorem State.setModel_part (n : Nat) (u : PortModel) : (s.setModel n u).part = s.part := (rfl)
@[simp] theorem State.setModel_fused (n : Nat) (u : PortModel) : (s.setModel n u).fused = s.fused := (rfl)
@[simp] theorem State.setModel_tb (n : Nat) (u : PortModel) : (s.setModel n u).tb = s.tb := (rfl)
@[simp] theorem State.setModel_dies (n : Nat) (u : PortModel) : (s.setModel n u).dies = s.dies := (rfl)
@[simp] theorem State.setModel_inputs (n : Nat) (u : PortModel) : (s.setModel n u).inputs = s.inputs := (rfl)
@[simp] theorem State.setModel_chans (n : Nat) (u : PortModel) : (s.setModel n u).chans = s.chans := (rfl)
@[simp] theorem State.setModel_dplls (n : Nat) (u : PortModel) : (s.setModel n u).dplls = s.dplls := (rfl)
@[simp] theorem State.setModel_oscs (n : Nat) (u : PortModel) : (s.setModel n u).oscs = s.oscs := (rfl)
@[simp] theorem State.setModel_cairn (n : Nat) (u : PortModel) : (s.setModel n u).cairn = s.cairn := (rfl)
@[simp] theorem State.setModel_oplls (n : Nat) (u : PortModel) : (s.setModel n u).oplls = s.oplls := (rfl)
@[simp] theorem State.setModel_outs (n : Nat) (u : PortModel) : (s.setModel n u).outs = s.outs := (rfl)
@[simp] theorem State.setModel_tds (n : Nat) (u : PortModel) : (s.setModel n u).tds = s.tds := (rfl)
@[simp] theorem State.setModel_evs (n : Nat) (u : PortModel) : (s.setModel n u).evs = s.evs := (rfl)
@[simp] theorem State.setModel_stitches (n : Nat) (u : PortModel) : (s.setModel n u).stitches = s.stitches := (rfl)
@[simp] theorem State.setModel_crossings (n : Nat) (u : PortModel) : (s.setModel n u).crossings = s.crossings := (rfl)
@[simp] theorem State.setModel_xs (n : Nat) (u : PortModel) : (s.setModel n u).xs = s.xs := (rfl)
@[simp] theorem State.setModel_host (n : Nat) (u : PortModel) : (s.setModel n u).host = s.host := (rfl)
@[simp] theorem State.setModel_belay (n : Nat) (u : PortModel) : (s.setModel n u).belay = s.belay := (rfl)
@[simp] theorem State.setModel_pending (n : Nat) (u : PortModel) : (s.setModel n u).pending = s.pending := (rfl)
@[simp] theorem State.setModel_fresh (n : Nat) (u : PortModel) : (s.setModel n u).fresh = s.fresh := (rfl)
@[simp] theorem State.setModel_input_same (n : Nat) (u : PortModel) (j : Nat) : (s.setModel n u).input j = s.input j := (rfl)
@[simp] theorem State.setModel_chan_same (n : Nat) (u : PortModel) (j : Nat) : (s.setModel n u).chan j = s.chan j := (rfl)
@[simp] theorem State.setModel_dpll_same (n : Nat) (u : PortModel) (j : Nat) : (s.setModel n u).dpll j = s.dpll j := (rfl)
@[simp] theorem State.setModel_osc_same (n : Nat) (u : PortModel) (j : Nat) : (s.setModel n u).osc j = s.osc j := (rfl)
@[simp] theorem State.setModel_opll_same (n : Nat) (u : PortModel) (j : Nat) : (s.setModel n u).opll j = s.opll j := (rfl)
@[simp] theorem State.setModel_out_same (n : Nat) (u : PortModel) (j : Nat) : (s.setModel n u).out j = s.out j := (rfl)
@[simp] theorem State.setModel_td_same (n : Nat) (u : PortModel) (j : Nat) : (s.setModel n u).td j = s.td j := (rfl)
@[simp] theorem State.setModel_ev_same (n : Nat) (u : PortModel) (j : Nat) : (s.setModel n u).ev j = s.ev j := (rfl)
@[simp] theorem State.setModel_stitch_same (n : Nat) (u : PortModel) (j : Nat) : (s.setModel n u).stitch j = s.stitch j := (rfl)
@[simp] theorem State.setModel_crossing_same (n : Nat) (u : PortModel) (j : Nat) : (s.setModel n u).crossing j = s.crossing j := (rfl)
@[simp] theorem State.setModel_die_same (n : Nat) (u : PortModel) (j : Nat) : (s.setModel n u).die j = s.die j := (rfl)
@[simp] theorem State.setModel_dx_same (n : Nat) (u : PortModel) (j : Nat) : (s.setModel n u).dx j = s.dx j := (rfl)
@[simp] theorem State.setModel_mbx_same (n : Nat) (u : PortModel) (j : Nat) : (s.setModel n u).mbx j = s.mbx j := (rfl)
@[simp] theorem State.setModel_ring_same (n : Nat) (u : PortModel) (j : Nat) : (s.setModel n u).ring j = s.ring j := (rfl)

@[simp] theorem State.setModel_model (n j : Nat) (u : PortModel) : (s.setModel n u).model j = if j = n then u else s.model j := by
  simp only [State.setModel, State.model, tget_tset]

/-! ## `modModel` -/

@[simp] theorem State.modModel_part (n : Nat) (g : PortModel → PortModel) : (s.modModel n g).part = s.part := (rfl)
@[simp] theorem State.modModel_fused (n : Nat) (g : PortModel → PortModel) : (s.modModel n g).fused = s.fused := (rfl)
@[simp] theorem State.modModel_tb (n : Nat) (g : PortModel → PortModel) : (s.modModel n g).tb = s.tb := (rfl)
@[simp] theorem State.modModel_dies (n : Nat) (g : PortModel → PortModel) : (s.modModel n g).dies = s.dies := (rfl)
@[simp] theorem State.modModel_inputs (n : Nat) (g : PortModel → PortModel) : (s.modModel n g).inputs = s.inputs := (rfl)
@[simp] theorem State.modModel_chans (n : Nat) (g : PortModel → PortModel) : (s.modModel n g).chans = s.chans := (rfl)
@[simp] theorem State.modModel_dplls (n : Nat) (g : PortModel → PortModel) : (s.modModel n g).dplls = s.dplls := (rfl)
@[simp] theorem State.modModel_oscs (n : Nat) (g : PortModel → PortModel) : (s.modModel n g).oscs = s.oscs := (rfl)
@[simp] theorem State.modModel_cairn (n : Nat) (g : PortModel → PortModel) : (s.modModel n g).cairn = s.cairn := (rfl)
@[simp] theorem State.modModel_oplls (n : Nat) (g : PortModel → PortModel) : (s.modModel n g).oplls = s.oplls := (rfl)
@[simp] theorem State.modModel_outs (n : Nat) (g : PortModel → PortModel) : (s.modModel n g).outs = s.outs := (rfl)
@[simp] theorem State.modModel_tds (n : Nat) (g : PortModel → PortModel) : (s.modModel n g).tds = s.tds := (rfl)
@[simp] theorem State.modModel_evs (n : Nat) (g : PortModel → PortModel) : (s.modModel n g).evs = s.evs := (rfl)
@[simp] theorem State.modModel_stitches (n : Nat) (g : PortModel → PortModel) : (s.modModel n g).stitches = s.stitches := (rfl)
@[simp] theorem State.modModel_crossings (n : Nat) (g : PortModel → PortModel) : (s.modModel n g).crossings = s.crossings := (rfl)
@[simp] theorem State.modModel_xs (n : Nat) (g : PortModel → PortModel) : (s.modModel n g).xs = s.xs := (rfl)
@[simp] theorem State.modModel_host (n : Nat) (g : PortModel → PortModel) : (s.modModel n g).host = s.host := (rfl)
@[simp] theorem State.modModel_belay (n : Nat) (g : PortModel → PortModel) : (s.modModel n g).belay = s.belay := (rfl)
@[simp] theorem State.modModel_pending (n : Nat) (g : PortModel → PortModel) : (s.modModel n g).pending = s.pending := (rfl)
@[simp] theorem State.modModel_fresh (n : Nat) (g : PortModel → PortModel) : (s.modModel n g).fresh = s.fresh := (rfl)
@[simp] theorem State.modModel_input_same (n : Nat) (g : PortModel → PortModel) (j : Nat) : (s.modModel n g).input j = s.input j := (rfl)
@[simp] theorem State.modModel_chan_same (n : Nat) (g : PortModel → PortModel) (j : Nat) : (s.modModel n g).chan j = s.chan j := (rfl)
@[simp] theorem State.modModel_dpll_same (n : Nat) (g : PortModel → PortModel) (j : Nat) : (s.modModel n g).dpll j = s.dpll j := (rfl)
@[simp] theorem State.modModel_osc_same (n : Nat) (g : PortModel → PortModel) (j : Nat) : (s.modModel n g).osc j = s.osc j := (rfl)
@[simp] theorem State.modModel_opll_same (n : Nat) (g : PortModel → PortModel) (j : Nat) : (s.modModel n g).opll j = s.opll j := (rfl)
@[simp] theorem State.modModel_out_same (n : Nat) (g : PortModel → PortModel) (j : Nat) : (s.modModel n g).out j = s.out j := (rfl)
@[simp] theorem State.modModel_td_same (n : Nat) (g : PortModel → PortModel) (j : Nat) : (s.modModel n g).td j = s.td j := (rfl)
@[simp] theorem State.modModel_ev_same (n : Nat) (g : PortModel → PortModel) (j : Nat) : (s.modModel n g).ev j = s.ev j := (rfl)
@[simp] theorem State.modModel_stitch_same (n : Nat) (g : PortModel → PortModel) (j : Nat) : (s.modModel n g).stitch j = s.stitch j := (rfl)
@[simp] theorem State.modModel_crossing_same (n : Nat) (g : PortModel → PortModel) (j : Nat) : (s.modModel n g).crossing j = s.crossing j := (rfl)
@[simp] theorem State.modModel_die_same (n : Nat) (g : PortModel → PortModel) (j : Nat) : (s.modModel n g).die j = s.die j := (rfl)
@[simp] theorem State.modModel_dx_same (n : Nat) (g : PortModel → PortModel) (j : Nat) : (s.modModel n g).dx j = s.dx j := (rfl)
@[simp] theorem State.modModel_mbx_same (n : Nat) (g : PortModel → PortModel) (j : Nat) : (s.modModel n g).mbx j = s.mbx j := (rfl)
@[simp] theorem State.modModel_ring_same (n : Nat) (g : PortModel → PortModel) (j : Nat) : (s.modModel n g).ring j = s.ring j := (rfl)

@[simp] theorem State.modModel_model (n j : Nat) (g : PortModel → PortModel) : (s.modModel n g).model j = if j = n then g (s.model n) else s.model j :=
  State.setModel_model s n j _

theorem State.modModel_eq (n : Nat) (g : PortModel → PortModel) : s.modModel n g = s.setModel n (g (s.model n)) := (rfl)

/-! ## `setOpll` -/

@[simp] theorem State.setOpll_part (n : Nat) (u : OpllUnit) : (s.setOpll n u).part = s.part := (rfl)
@[simp] theorem State.setOpll_fused (n : Nat) (u : OpllUnit) : (s.setOpll n u).fused = s.fused := (rfl)
@[simp] theorem State.setOpll_tb (n : Nat) (u : OpllUnit) : (s.setOpll n u).tb = s.tb := (rfl)
@[simp] theorem State.setOpll_dies (n : Nat) (u : OpllUnit) : (s.setOpll n u).dies = s.dies := (rfl)
@[simp] theorem State.setOpll_inputs (n : Nat) (u : OpllUnit) : (s.setOpll n u).inputs = s.inputs := (rfl)
@[simp] theorem State.setOpll_chans (n : Nat) (u : OpllUnit) : (s.setOpll n u).chans = s.chans := (rfl)
@[simp] theorem State.setOpll_dplls (n : Nat) (u : OpllUnit) : (s.setOpll n u).dplls = s.dplls := (rfl)
@[simp] theorem State.setOpll_oscs (n : Nat) (u : OpllUnit) : (s.setOpll n u).oscs = s.oscs := (rfl)
@[simp] theorem State.setOpll_models (n : Nat) (u : OpllUnit) : (s.setOpll n u).models = s.models := (rfl)
@[simp] theorem State.setOpll_cairn (n : Nat) (u : OpllUnit) : (s.setOpll n u).cairn = s.cairn := (rfl)
@[simp] theorem State.setOpll_outs (n : Nat) (u : OpllUnit) : (s.setOpll n u).outs = s.outs := (rfl)
@[simp] theorem State.setOpll_tds (n : Nat) (u : OpllUnit) : (s.setOpll n u).tds = s.tds := (rfl)
@[simp] theorem State.setOpll_evs (n : Nat) (u : OpllUnit) : (s.setOpll n u).evs = s.evs := (rfl)
@[simp] theorem State.setOpll_stitches (n : Nat) (u : OpllUnit) : (s.setOpll n u).stitches = s.stitches := (rfl)
@[simp] theorem State.setOpll_crossings (n : Nat) (u : OpllUnit) : (s.setOpll n u).crossings = s.crossings := (rfl)
@[simp] theorem State.setOpll_xs (n : Nat) (u : OpllUnit) : (s.setOpll n u).xs = s.xs := (rfl)
@[simp] theorem State.setOpll_host (n : Nat) (u : OpllUnit) : (s.setOpll n u).host = s.host := (rfl)
@[simp] theorem State.setOpll_belay (n : Nat) (u : OpllUnit) : (s.setOpll n u).belay = s.belay := (rfl)
@[simp] theorem State.setOpll_pending (n : Nat) (u : OpllUnit) : (s.setOpll n u).pending = s.pending := (rfl)
@[simp] theorem State.setOpll_fresh (n : Nat) (u : OpllUnit) : (s.setOpll n u).fresh = s.fresh := (rfl)
@[simp] theorem State.setOpll_input_same (n : Nat) (u : OpllUnit) (j : Nat) : (s.setOpll n u).input j = s.input j := (rfl)
@[simp] theorem State.setOpll_chan_same (n : Nat) (u : OpllUnit) (j : Nat) : (s.setOpll n u).chan j = s.chan j := (rfl)
@[simp] theorem State.setOpll_dpll_same (n : Nat) (u : OpllUnit) (j : Nat) : (s.setOpll n u).dpll j = s.dpll j := (rfl)
@[simp] theorem State.setOpll_osc_same (n : Nat) (u : OpllUnit) (j : Nat) : (s.setOpll n u).osc j = s.osc j := (rfl)
@[simp] theorem State.setOpll_model_same (n : Nat) (u : OpllUnit) (j : Nat) : (s.setOpll n u).model j = s.model j := (rfl)
@[simp] theorem State.setOpll_out_same (n : Nat) (u : OpllUnit) (j : Nat) : (s.setOpll n u).out j = s.out j := (rfl)
@[simp] theorem State.setOpll_td_same (n : Nat) (u : OpllUnit) (j : Nat) : (s.setOpll n u).td j = s.td j := (rfl)
@[simp] theorem State.setOpll_ev_same (n : Nat) (u : OpllUnit) (j : Nat) : (s.setOpll n u).ev j = s.ev j := (rfl)
@[simp] theorem State.setOpll_stitch_same (n : Nat) (u : OpllUnit) (j : Nat) : (s.setOpll n u).stitch j = s.stitch j := (rfl)
@[simp] theorem State.setOpll_crossing_same (n : Nat) (u : OpllUnit) (j : Nat) : (s.setOpll n u).crossing j = s.crossing j := (rfl)
@[simp] theorem State.setOpll_die_same (n : Nat) (u : OpllUnit) (j : Nat) : (s.setOpll n u).die j = s.die j := (rfl)
@[simp] theorem State.setOpll_dx_same (n : Nat) (u : OpllUnit) (j : Nat) : (s.setOpll n u).dx j = s.dx j := (rfl)
@[simp] theorem State.setOpll_mbx_same (n : Nat) (u : OpllUnit) (j : Nat) : (s.setOpll n u).mbx j = s.mbx j := (rfl)
@[simp] theorem State.setOpll_ring_same (n : Nat) (u : OpllUnit) (j : Nat) : (s.setOpll n u).ring j = s.ring j := (rfl)

@[simp] theorem State.setOpll_opll (n j : Nat) (u : OpllUnit) : (s.setOpll n u).opll j = if j = n then u else s.opll j := by
  simp only [State.setOpll, State.opll, tget_tset]

/-! ## `modOpll` -/

@[simp] theorem State.modOpll_part (n : Nat) (g : OpllUnit → OpllUnit) : (s.modOpll n g).part = s.part := (rfl)
@[simp] theorem State.modOpll_fused (n : Nat) (g : OpllUnit → OpllUnit) : (s.modOpll n g).fused = s.fused := (rfl)
@[simp] theorem State.modOpll_tb (n : Nat) (g : OpllUnit → OpllUnit) : (s.modOpll n g).tb = s.tb := (rfl)
@[simp] theorem State.modOpll_dies (n : Nat) (g : OpllUnit → OpllUnit) : (s.modOpll n g).dies = s.dies := (rfl)
@[simp] theorem State.modOpll_inputs (n : Nat) (g : OpllUnit → OpllUnit) : (s.modOpll n g).inputs = s.inputs := (rfl)
@[simp] theorem State.modOpll_chans (n : Nat) (g : OpllUnit → OpllUnit) : (s.modOpll n g).chans = s.chans := (rfl)
@[simp] theorem State.modOpll_dplls (n : Nat) (g : OpllUnit → OpllUnit) : (s.modOpll n g).dplls = s.dplls := (rfl)
@[simp] theorem State.modOpll_oscs (n : Nat) (g : OpllUnit → OpllUnit) : (s.modOpll n g).oscs = s.oscs := (rfl)
@[simp] theorem State.modOpll_models (n : Nat) (g : OpllUnit → OpllUnit) : (s.modOpll n g).models = s.models := (rfl)
@[simp] theorem State.modOpll_cairn (n : Nat) (g : OpllUnit → OpllUnit) : (s.modOpll n g).cairn = s.cairn := (rfl)
@[simp] theorem State.modOpll_outs (n : Nat) (g : OpllUnit → OpllUnit) : (s.modOpll n g).outs = s.outs := (rfl)
@[simp] theorem State.modOpll_tds (n : Nat) (g : OpllUnit → OpllUnit) : (s.modOpll n g).tds = s.tds := (rfl)
@[simp] theorem State.modOpll_evs (n : Nat) (g : OpllUnit → OpllUnit) : (s.modOpll n g).evs = s.evs := (rfl)
@[simp] theorem State.modOpll_stitches (n : Nat) (g : OpllUnit → OpllUnit) : (s.modOpll n g).stitches = s.stitches := (rfl)
@[simp] theorem State.modOpll_crossings (n : Nat) (g : OpllUnit → OpllUnit) : (s.modOpll n g).crossings = s.crossings := (rfl)
@[simp] theorem State.modOpll_xs (n : Nat) (g : OpllUnit → OpllUnit) : (s.modOpll n g).xs = s.xs := (rfl)
@[simp] theorem State.modOpll_host (n : Nat) (g : OpllUnit → OpllUnit) : (s.modOpll n g).host = s.host := (rfl)
@[simp] theorem State.modOpll_belay (n : Nat) (g : OpllUnit → OpllUnit) : (s.modOpll n g).belay = s.belay := (rfl)
@[simp] theorem State.modOpll_pending (n : Nat) (g : OpllUnit → OpllUnit) : (s.modOpll n g).pending = s.pending := (rfl)
@[simp] theorem State.modOpll_fresh (n : Nat) (g : OpllUnit → OpllUnit) : (s.modOpll n g).fresh = s.fresh := (rfl)
@[simp] theorem State.modOpll_input_same (n : Nat) (g : OpllUnit → OpllUnit) (j : Nat) : (s.modOpll n g).input j = s.input j := (rfl)
@[simp] theorem State.modOpll_chan_same (n : Nat) (g : OpllUnit → OpllUnit) (j : Nat) : (s.modOpll n g).chan j = s.chan j := (rfl)
@[simp] theorem State.modOpll_dpll_same (n : Nat) (g : OpllUnit → OpllUnit) (j : Nat) : (s.modOpll n g).dpll j = s.dpll j := (rfl)
@[simp] theorem State.modOpll_osc_same (n : Nat) (g : OpllUnit → OpllUnit) (j : Nat) : (s.modOpll n g).osc j = s.osc j := (rfl)
@[simp] theorem State.modOpll_model_same (n : Nat) (g : OpllUnit → OpllUnit) (j : Nat) : (s.modOpll n g).model j = s.model j := (rfl)
@[simp] theorem State.modOpll_out_same (n : Nat) (g : OpllUnit → OpllUnit) (j : Nat) : (s.modOpll n g).out j = s.out j := (rfl)
@[simp] theorem State.modOpll_td_same (n : Nat) (g : OpllUnit → OpllUnit) (j : Nat) : (s.modOpll n g).td j = s.td j := (rfl)
@[simp] theorem State.modOpll_ev_same (n : Nat) (g : OpllUnit → OpllUnit) (j : Nat) : (s.modOpll n g).ev j = s.ev j := (rfl)
@[simp] theorem State.modOpll_stitch_same (n : Nat) (g : OpllUnit → OpllUnit) (j : Nat) : (s.modOpll n g).stitch j = s.stitch j := (rfl)
@[simp] theorem State.modOpll_crossing_same (n : Nat) (g : OpllUnit → OpllUnit) (j : Nat) : (s.modOpll n g).crossing j = s.crossing j := (rfl)
@[simp] theorem State.modOpll_die_same (n : Nat) (g : OpllUnit → OpllUnit) (j : Nat) : (s.modOpll n g).die j = s.die j := (rfl)
@[simp] theorem State.modOpll_dx_same (n : Nat) (g : OpllUnit → OpllUnit) (j : Nat) : (s.modOpll n g).dx j = s.dx j := (rfl)
@[simp] theorem State.modOpll_mbx_same (n : Nat) (g : OpllUnit → OpllUnit) (j : Nat) : (s.modOpll n g).mbx j = s.mbx j := (rfl)
@[simp] theorem State.modOpll_ring_same (n : Nat) (g : OpllUnit → OpllUnit) (j : Nat) : (s.modOpll n g).ring j = s.ring j := (rfl)

@[simp] theorem State.modOpll_opll (n j : Nat) (g : OpllUnit → OpllUnit) : (s.modOpll n g).opll j = if j = n then g (s.opll n) else s.opll j :=
  State.setOpll_opll s n j _

theorem State.modOpll_eq (n : Nat) (g : OpllUnit → OpllUnit) : s.modOpll n g = s.setOpll n (g (s.opll n)) := (rfl)

/-! ## `setOut` -/

@[simp] theorem State.setOut_part (n : Nat) (u : OutUnit) : (s.setOut n u).part = s.part := (rfl)
@[simp] theorem State.setOut_fused (n : Nat) (u : OutUnit) : (s.setOut n u).fused = s.fused := (rfl)
@[simp] theorem State.setOut_tb (n : Nat) (u : OutUnit) : (s.setOut n u).tb = s.tb := (rfl)
@[simp] theorem State.setOut_dies (n : Nat) (u : OutUnit) : (s.setOut n u).dies = s.dies := (rfl)
@[simp] theorem State.setOut_inputs (n : Nat) (u : OutUnit) : (s.setOut n u).inputs = s.inputs := (rfl)
@[simp] theorem State.setOut_chans (n : Nat) (u : OutUnit) : (s.setOut n u).chans = s.chans := (rfl)
@[simp] theorem State.setOut_dplls (n : Nat) (u : OutUnit) : (s.setOut n u).dplls = s.dplls := (rfl)
@[simp] theorem State.setOut_oscs (n : Nat) (u : OutUnit) : (s.setOut n u).oscs = s.oscs := (rfl)
@[simp] theorem State.setOut_models (n : Nat) (u : OutUnit) : (s.setOut n u).models = s.models := (rfl)
@[simp] theorem State.setOut_cairn (n : Nat) (u : OutUnit) : (s.setOut n u).cairn = s.cairn := (rfl)
@[simp] theorem State.setOut_oplls (n : Nat) (u : OutUnit) : (s.setOut n u).oplls = s.oplls := (rfl)
@[simp] theorem State.setOut_tds (n : Nat) (u : OutUnit) : (s.setOut n u).tds = s.tds := (rfl)
@[simp] theorem State.setOut_evs (n : Nat) (u : OutUnit) : (s.setOut n u).evs = s.evs := (rfl)
@[simp] theorem State.setOut_stitches (n : Nat) (u : OutUnit) : (s.setOut n u).stitches = s.stitches := (rfl)
@[simp] theorem State.setOut_crossings (n : Nat) (u : OutUnit) : (s.setOut n u).crossings = s.crossings := (rfl)
@[simp] theorem State.setOut_xs (n : Nat) (u : OutUnit) : (s.setOut n u).xs = s.xs := (rfl)
@[simp] theorem State.setOut_host (n : Nat) (u : OutUnit) : (s.setOut n u).host = s.host := (rfl)
@[simp] theorem State.setOut_belay (n : Nat) (u : OutUnit) : (s.setOut n u).belay = s.belay := (rfl)
@[simp] theorem State.setOut_pending (n : Nat) (u : OutUnit) : (s.setOut n u).pending = s.pending := (rfl)
@[simp] theorem State.setOut_fresh (n : Nat) (u : OutUnit) : (s.setOut n u).fresh = s.fresh := (rfl)
@[simp] theorem State.setOut_input_same (n : Nat) (u : OutUnit) (j : Nat) : (s.setOut n u).input j = s.input j := (rfl)
@[simp] theorem State.setOut_chan_same (n : Nat) (u : OutUnit) (j : Nat) : (s.setOut n u).chan j = s.chan j := (rfl)
@[simp] theorem State.setOut_dpll_same (n : Nat) (u : OutUnit) (j : Nat) : (s.setOut n u).dpll j = s.dpll j := (rfl)
@[simp] theorem State.setOut_osc_same (n : Nat) (u : OutUnit) (j : Nat) : (s.setOut n u).osc j = s.osc j := (rfl)
@[simp] theorem State.setOut_model_same (n : Nat) (u : OutUnit) (j : Nat) : (s.setOut n u).model j = s.model j := (rfl)
@[simp] theorem State.setOut_opll_same (n : Nat) (u : OutUnit) (j : Nat) : (s.setOut n u).opll j = s.opll j := (rfl)
@[simp] theorem State.setOut_td_same (n : Nat) (u : OutUnit) (j : Nat) : (s.setOut n u).td j = s.td j := (rfl)
@[simp] theorem State.setOut_ev_same (n : Nat) (u : OutUnit) (j : Nat) : (s.setOut n u).ev j = s.ev j := (rfl)
@[simp] theorem State.setOut_stitch_same (n : Nat) (u : OutUnit) (j : Nat) : (s.setOut n u).stitch j = s.stitch j := (rfl)
@[simp] theorem State.setOut_crossing_same (n : Nat) (u : OutUnit) (j : Nat) : (s.setOut n u).crossing j = s.crossing j := (rfl)
@[simp] theorem State.setOut_die_same (n : Nat) (u : OutUnit) (j : Nat) : (s.setOut n u).die j = s.die j := (rfl)
@[simp] theorem State.setOut_dx_same (n : Nat) (u : OutUnit) (j : Nat) : (s.setOut n u).dx j = s.dx j := (rfl)
@[simp] theorem State.setOut_mbx_same (n : Nat) (u : OutUnit) (j : Nat) : (s.setOut n u).mbx j = s.mbx j := (rfl)
@[simp] theorem State.setOut_ring_same (n : Nat) (u : OutUnit) (j : Nat) : (s.setOut n u).ring j = s.ring j := (rfl)

@[simp] theorem State.setOut_out (n j : Nat) (u : OutUnit) : (s.setOut n u).out j = if j = n then u else s.out j := by
  simp only [State.setOut, State.out, tget_tset]

/-! ## `modOut` -/

@[simp] theorem State.modOut_part (n : Nat) (g : OutUnit → OutUnit) : (s.modOut n g).part = s.part := (rfl)
@[simp] theorem State.modOut_fused (n : Nat) (g : OutUnit → OutUnit) : (s.modOut n g).fused = s.fused := (rfl)
@[simp] theorem State.modOut_tb (n : Nat) (g : OutUnit → OutUnit) : (s.modOut n g).tb = s.tb := (rfl)
@[simp] theorem State.modOut_dies (n : Nat) (g : OutUnit → OutUnit) : (s.modOut n g).dies = s.dies := (rfl)
@[simp] theorem State.modOut_inputs (n : Nat) (g : OutUnit → OutUnit) : (s.modOut n g).inputs = s.inputs := (rfl)
@[simp] theorem State.modOut_chans (n : Nat) (g : OutUnit → OutUnit) : (s.modOut n g).chans = s.chans := (rfl)
@[simp] theorem State.modOut_dplls (n : Nat) (g : OutUnit → OutUnit) : (s.modOut n g).dplls = s.dplls := (rfl)
@[simp] theorem State.modOut_oscs (n : Nat) (g : OutUnit → OutUnit) : (s.modOut n g).oscs = s.oscs := (rfl)
@[simp] theorem State.modOut_models (n : Nat) (g : OutUnit → OutUnit) : (s.modOut n g).models = s.models := (rfl)
@[simp] theorem State.modOut_cairn (n : Nat) (g : OutUnit → OutUnit) : (s.modOut n g).cairn = s.cairn := (rfl)
@[simp] theorem State.modOut_oplls (n : Nat) (g : OutUnit → OutUnit) : (s.modOut n g).oplls = s.oplls := (rfl)
@[simp] theorem State.modOut_tds (n : Nat) (g : OutUnit → OutUnit) : (s.modOut n g).tds = s.tds := (rfl)
@[simp] theorem State.modOut_evs (n : Nat) (g : OutUnit → OutUnit) : (s.modOut n g).evs = s.evs := (rfl)
@[simp] theorem State.modOut_stitches (n : Nat) (g : OutUnit → OutUnit) : (s.modOut n g).stitches = s.stitches := (rfl)
@[simp] theorem State.modOut_crossings (n : Nat) (g : OutUnit → OutUnit) : (s.modOut n g).crossings = s.crossings := (rfl)
@[simp] theorem State.modOut_xs (n : Nat) (g : OutUnit → OutUnit) : (s.modOut n g).xs = s.xs := (rfl)
@[simp] theorem State.modOut_host (n : Nat) (g : OutUnit → OutUnit) : (s.modOut n g).host = s.host := (rfl)
@[simp] theorem State.modOut_belay (n : Nat) (g : OutUnit → OutUnit) : (s.modOut n g).belay = s.belay := (rfl)
@[simp] theorem State.modOut_pending (n : Nat) (g : OutUnit → OutUnit) : (s.modOut n g).pending = s.pending := (rfl)
@[simp] theorem State.modOut_fresh (n : Nat) (g : OutUnit → OutUnit) : (s.modOut n g).fresh = s.fresh := (rfl)
@[simp] theorem State.modOut_input_same (n : Nat) (g : OutUnit → OutUnit) (j : Nat) : (s.modOut n g).input j = s.input j := (rfl)
@[simp] theorem State.modOut_chan_same (n : Nat) (g : OutUnit → OutUnit) (j : Nat) : (s.modOut n g).chan j = s.chan j := (rfl)
@[simp] theorem State.modOut_dpll_same (n : Nat) (g : OutUnit → OutUnit) (j : Nat) : (s.modOut n g).dpll j = s.dpll j := (rfl)
@[simp] theorem State.modOut_osc_same (n : Nat) (g : OutUnit → OutUnit) (j : Nat) : (s.modOut n g).osc j = s.osc j := (rfl)
@[simp] theorem State.modOut_model_same (n : Nat) (g : OutUnit → OutUnit) (j : Nat) : (s.modOut n g).model j = s.model j := (rfl)
@[simp] theorem State.modOut_opll_same (n : Nat) (g : OutUnit → OutUnit) (j : Nat) : (s.modOut n g).opll j = s.opll j := (rfl)
@[simp] theorem State.modOut_td_same (n : Nat) (g : OutUnit → OutUnit) (j : Nat) : (s.modOut n g).td j = s.td j := (rfl)
@[simp] theorem State.modOut_ev_same (n : Nat) (g : OutUnit → OutUnit) (j : Nat) : (s.modOut n g).ev j = s.ev j := (rfl)
@[simp] theorem State.modOut_stitch_same (n : Nat) (g : OutUnit → OutUnit) (j : Nat) : (s.modOut n g).stitch j = s.stitch j := (rfl)
@[simp] theorem State.modOut_crossing_same (n : Nat) (g : OutUnit → OutUnit) (j : Nat) : (s.modOut n g).crossing j = s.crossing j := (rfl)
@[simp] theorem State.modOut_die_same (n : Nat) (g : OutUnit → OutUnit) (j : Nat) : (s.modOut n g).die j = s.die j := (rfl)
@[simp] theorem State.modOut_dx_same (n : Nat) (g : OutUnit → OutUnit) (j : Nat) : (s.modOut n g).dx j = s.dx j := (rfl)
@[simp] theorem State.modOut_mbx_same (n : Nat) (g : OutUnit → OutUnit) (j : Nat) : (s.modOut n g).mbx j = s.mbx j := (rfl)
@[simp] theorem State.modOut_ring_same (n : Nat) (g : OutUnit → OutUnit) (j : Nat) : (s.modOut n g).ring j = s.ring j := (rfl)

@[simp] theorem State.modOut_out (n j : Nat) (g : OutUnit → OutUnit) : (s.modOut n g).out j = if j = n then g (s.out n) else s.out j :=
  State.setOut_out s n j _

theorem State.modOut_eq (n : Nat) (g : OutUnit → OutUnit) : s.modOut n g = s.setOut n (g (s.out n)) := (rfl)

/-! ## `setTd` -/

@[simp] theorem State.setTd_part (n : Nat) (u : TdUnit) : (s.setTd n u).part = s.part := (rfl)
@[simp] theorem State.setTd_fused (n : Nat) (u : TdUnit) : (s.setTd n u).fused = s.fused := (rfl)
@[simp] theorem State.setTd_tb (n : Nat) (u : TdUnit) : (s.setTd n u).tb = s.tb := (rfl)
@[simp] theorem State.setTd_dies (n : Nat) (u : TdUnit) : (s.setTd n u).dies = s.dies := (rfl)
@[simp] theorem State.setTd_inputs (n : Nat) (u : TdUnit) : (s.setTd n u).inputs = s.inputs := (rfl)
@[simp] theorem State.setTd_chans (n : Nat) (u : TdUnit) : (s.setTd n u).chans = s.chans := (rfl)
@[simp] theorem State.setTd_dplls (n : Nat) (u : TdUnit) : (s.setTd n u).dplls = s.dplls := (rfl)
@[simp] theorem State.setTd_oscs (n : Nat) (u : TdUnit) : (s.setTd n u).oscs = s.oscs := (rfl)
@[simp] theorem State.setTd_models (n : Nat) (u : TdUnit) : (s.setTd n u).models = s.models := (rfl)
@[simp] theorem State.setTd_cairn (n : Nat) (u : TdUnit) : (s.setTd n u).cairn = s.cairn := (rfl)
@[simp] theorem State.setTd_oplls (n : Nat) (u : TdUnit) : (s.setTd n u).oplls = s.oplls := (rfl)
@[simp] theorem State.setTd_outs (n : Nat) (u : TdUnit) : (s.setTd n u).outs = s.outs := (rfl)
@[simp] theorem State.setTd_evs (n : Nat) (u : TdUnit) : (s.setTd n u).evs = s.evs := (rfl)
@[simp] theorem State.setTd_stitches (n : Nat) (u : TdUnit) : (s.setTd n u).stitches = s.stitches := (rfl)
@[simp] theorem State.setTd_crossings (n : Nat) (u : TdUnit) : (s.setTd n u).crossings = s.crossings := (rfl)
@[simp] theorem State.setTd_xs (n : Nat) (u : TdUnit) : (s.setTd n u).xs = s.xs := (rfl)
@[simp] theorem State.setTd_host (n : Nat) (u : TdUnit) : (s.setTd n u).host = s.host := (rfl)
@[simp] theorem State.setTd_belay (n : Nat) (u : TdUnit) : (s.setTd n u).belay = s.belay := (rfl)
@[simp] theorem State.setTd_pending (n : Nat) (u : TdUnit) : (s.setTd n u).pending = s.pending := (rfl)
@[simp] theorem State.setTd_fresh (n : Nat) (u : TdUnit) : (s.setTd n u).fresh = s.fresh := (rfl)
@[simp] theorem State.setTd_input_same (n : Nat) (u : TdUnit) (j : Nat) : (s.setTd n u).input j = s.input j := (rfl)
@[simp] theorem State.setTd_chan_same (n : Nat) (u : TdUnit) (j : Nat) : (s.setTd n u).chan j = s.chan j := (rfl)
@[simp] theorem State.setTd_dpll_same (n : Nat) (u : TdUnit) (j : Nat) : (s.setTd n u).dpll j = s.dpll j := (rfl)
@[simp] theorem State.setTd_osc_same (n : Nat) (u : TdUnit) (j : Nat) : (s.setTd n u).osc j = s.osc j := (rfl)
@[simp] theorem State.setTd_model_same (n : Nat) (u : TdUnit) (j : Nat) : (s.setTd n u).model j = s.model j := (rfl)
@[simp] theorem State.setTd_opll_same (n : Nat) (u : TdUnit) (j : Nat) : (s.setTd n u).opll j = s.opll j := (rfl)
@[simp] theorem State.setTd_out_same (n : Nat) (u : TdUnit) (j : Nat) : (s.setTd n u).out j = s.out j := (rfl)
@[simp] theorem State.setTd_ev_same (n : Nat) (u : TdUnit) (j : Nat) : (s.setTd n u).ev j = s.ev j := (rfl)
@[simp] theorem State.setTd_stitch_same (n : Nat) (u : TdUnit) (j : Nat) : (s.setTd n u).stitch j = s.stitch j := (rfl)
@[simp] theorem State.setTd_crossing_same (n : Nat) (u : TdUnit) (j : Nat) : (s.setTd n u).crossing j = s.crossing j := (rfl)
@[simp] theorem State.setTd_die_same (n : Nat) (u : TdUnit) (j : Nat) : (s.setTd n u).die j = s.die j := (rfl)
@[simp] theorem State.setTd_dx_same (n : Nat) (u : TdUnit) (j : Nat) : (s.setTd n u).dx j = s.dx j := (rfl)
@[simp] theorem State.setTd_mbx_same (n : Nat) (u : TdUnit) (j : Nat) : (s.setTd n u).mbx j = s.mbx j := (rfl)
@[simp] theorem State.setTd_ring_same (n : Nat) (u : TdUnit) (j : Nat) : (s.setTd n u).ring j = s.ring j := (rfl)

@[simp] theorem State.setTd_td (n j : Nat) (u : TdUnit) : (s.setTd n u).td j = if j = n then u else s.td j := by
  simp only [State.setTd, State.td, tget_tset]

/-! ## `modTd` -/

@[simp] theorem State.modTd_part (n : Nat) (g : TdUnit → TdUnit) : (s.modTd n g).part = s.part := (rfl)
@[simp] theorem State.modTd_fused (n : Nat) (g : TdUnit → TdUnit) : (s.modTd n g).fused = s.fused := (rfl)
@[simp] theorem State.modTd_tb (n : Nat) (g : TdUnit → TdUnit) : (s.modTd n g).tb = s.tb := (rfl)
@[simp] theorem State.modTd_dies (n : Nat) (g : TdUnit → TdUnit) : (s.modTd n g).dies = s.dies := (rfl)
@[simp] theorem State.modTd_inputs (n : Nat) (g : TdUnit → TdUnit) : (s.modTd n g).inputs = s.inputs := (rfl)
@[simp] theorem State.modTd_chans (n : Nat) (g : TdUnit → TdUnit) : (s.modTd n g).chans = s.chans := (rfl)
@[simp] theorem State.modTd_dplls (n : Nat) (g : TdUnit → TdUnit) : (s.modTd n g).dplls = s.dplls := (rfl)
@[simp] theorem State.modTd_oscs (n : Nat) (g : TdUnit → TdUnit) : (s.modTd n g).oscs = s.oscs := (rfl)
@[simp] theorem State.modTd_models (n : Nat) (g : TdUnit → TdUnit) : (s.modTd n g).models = s.models := (rfl)
@[simp] theorem State.modTd_cairn (n : Nat) (g : TdUnit → TdUnit) : (s.modTd n g).cairn = s.cairn := (rfl)
@[simp] theorem State.modTd_oplls (n : Nat) (g : TdUnit → TdUnit) : (s.modTd n g).oplls = s.oplls := (rfl)
@[simp] theorem State.modTd_outs (n : Nat) (g : TdUnit → TdUnit) : (s.modTd n g).outs = s.outs := (rfl)
@[simp] theorem State.modTd_evs (n : Nat) (g : TdUnit → TdUnit) : (s.modTd n g).evs = s.evs := (rfl)
@[simp] theorem State.modTd_stitches (n : Nat) (g : TdUnit → TdUnit) : (s.modTd n g).stitches = s.stitches := (rfl)
@[simp] theorem State.modTd_crossings (n : Nat) (g : TdUnit → TdUnit) : (s.modTd n g).crossings = s.crossings := (rfl)
@[simp] theorem State.modTd_xs (n : Nat) (g : TdUnit → TdUnit) : (s.modTd n g).xs = s.xs := (rfl)
@[simp] theorem State.modTd_host (n : Nat) (g : TdUnit → TdUnit) : (s.modTd n g).host = s.host := (rfl)
@[simp] theorem State.modTd_belay (n : Nat) (g : TdUnit → TdUnit) : (s.modTd n g).belay = s.belay := (rfl)
@[simp] theorem State.modTd_pending (n : Nat) (g : TdUnit → TdUnit) : (s.modTd n g).pending = s.pending := (rfl)
@[simp] theorem State.modTd_fresh (n : Nat) (g : TdUnit → TdUnit) : (s.modTd n g).fresh = s.fresh := (rfl)
@[simp] theorem State.modTd_input_same (n : Nat) (g : TdUnit → TdUnit) (j : Nat) : (s.modTd n g).input j = s.input j := (rfl)
@[simp] theorem State.modTd_chan_same (n : Nat) (g : TdUnit → TdUnit) (j : Nat) : (s.modTd n g).chan j = s.chan j := (rfl)
@[simp] theorem State.modTd_dpll_same (n : Nat) (g : TdUnit → TdUnit) (j : Nat) : (s.modTd n g).dpll j = s.dpll j := (rfl)
@[simp] theorem State.modTd_osc_same (n : Nat) (g : TdUnit → TdUnit) (j : Nat) : (s.modTd n g).osc j = s.osc j := (rfl)
@[simp] theorem State.modTd_model_same (n : Nat) (g : TdUnit → TdUnit) (j : Nat) : (s.modTd n g).model j = s.model j := (rfl)
@[simp] theorem State.modTd_opll_same (n : Nat) (g : TdUnit → TdUnit) (j : Nat) : (s.modTd n g).opll j = s.opll j := (rfl)
@[simp] theorem State.modTd_out_same (n : Nat) (g : TdUnit → TdUnit) (j : Nat) : (s.modTd n g).out j = s.out j := (rfl)
@[simp] theorem State.modTd_ev_same (n : Nat) (g : TdUnit → TdUnit) (j : Nat) : (s.modTd n g).ev j = s.ev j := (rfl)
@[simp] theorem State.modTd_stitch_same (n : Nat) (g : TdUnit → TdUnit) (j : Nat) : (s.modTd n g).stitch j = s.stitch j := (rfl)
@[simp] theorem State.modTd_crossing_same (n : Nat) (g : TdUnit → TdUnit) (j : Nat) : (s.modTd n g).crossing j = s.crossing j := (rfl)
@[simp] theorem State.modTd_die_same (n : Nat) (g : TdUnit → TdUnit) (j : Nat) : (s.modTd n g).die j = s.die j := (rfl)
@[simp] theorem State.modTd_dx_same (n : Nat) (g : TdUnit → TdUnit) (j : Nat) : (s.modTd n g).dx j = s.dx j := (rfl)
@[simp] theorem State.modTd_mbx_same (n : Nat) (g : TdUnit → TdUnit) (j : Nat) : (s.modTd n g).mbx j = s.mbx j := (rfl)
@[simp] theorem State.modTd_ring_same (n : Nat) (g : TdUnit → TdUnit) (j : Nat) : (s.modTd n g).ring j = s.ring j := (rfl)

@[simp] theorem State.modTd_td (n j : Nat) (g : TdUnit → TdUnit) : (s.modTd n g).td j = if j = n then g (s.td n) else s.td j :=
  State.setTd_td s n j _

theorem State.modTd_eq (n : Nat) (g : TdUnit → TdUnit) : s.modTd n g = s.setTd n (g (s.td n)) := (rfl)

/-! ## `setEv` -/

@[simp] theorem State.setEv_part (n : Nat) (u : EvUnit) : (s.setEv n u).part = s.part := (rfl)
@[simp] theorem State.setEv_fused (n : Nat) (u : EvUnit) : (s.setEv n u).fused = s.fused := (rfl)
@[simp] theorem State.setEv_tb (n : Nat) (u : EvUnit) : (s.setEv n u).tb = s.tb := (rfl)
@[simp] theorem State.setEv_dies (n : Nat) (u : EvUnit) : (s.setEv n u).dies = s.dies := (rfl)
@[simp] theorem State.setEv_inputs (n : Nat) (u : EvUnit) : (s.setEv n u).inputs = s.inputs := (rfl)
@[simp] theorem State.setEv_chans (n : Nat) (u : EvUnit) : (s.setEv n u).chans = s.chans := (rfl)
@[simp] theorem State.setEv_dplls (n : Nat) (u : EvUnit) : (s.setEv n u).dplls = s.dplls := (rfl)
@[simp] theorem State.setEv_oscs (n : Nat) (u : EvUnit) : (s.setEv n u).oscs = s.oscs := (rfl)
@[simp] theorem State.setEv_models (n : Nat) (u : EvUnit) : (s.setEv n u).models = s.models := (rfl)
@[simp] theorem State.setEv_cairn (n : Nat) (u : EvUnit) : (s.setEv n u).cairn = s.cairn := (rfl)
@[simp] theorem State.setEv_oplls (n : Nat) (u : EvUnit) : (s.setEv n u).oplls = s.oplls := (rfl)
@[simp] theorem State.setEv_outs (n : Nat) (u : EvUnit) : (s.setEv n u).outs = s.outs := (rfl)
@[simp] theorem State.setEv_tds (n : Nat) (u : EvUnit) : (s.setEv n u).tds = s.tds := (rfl)
@[simp] theorem State.setEv_stitches (n : Nat) (u : EvUnit) : (s.setEv n u).stitches = s.stitches := (rfl)
@[simp] theorem State.setEv_crossings (n : Nat) (u : EvUnit) : (s.setEv n u).crossings = s.crossings := (rfl)
@[simp] theorem State.setEv_xs (n : Nat) (u : EvUnit) : (s.setEv n u).xs = s.xs := (rfl)
@[simp] theorem State.setEv_host (n : Nat) (u : EvUnit) : (s.setEv n u).host = s.host := (rfl)
@[simp] theorem State.setEv_belay (n : Nat) (u : EvUnit) : (s.setEv n u).belay = s.belay := (rfl)
@[simp] theorem State.setEv_pending (n : Nat) (u : EvUnit) : (s.setEv n u).pending = s.pending := (rfl)
@[simp] theorem State.setEv_fresh (n : Nat) (u : EvUnit) : (s.setEv n u).fresh = s.fresh := (rfl)
@[simp] theorem State.setEv_input_same (n : Nat) (u : EvUnit) (j : Nat) : (s.setEv n u).input j = s.input j := (rfl)
@[simp] theorem State.setEv_chan_same (n : Nat) (u : EvUnit) (j : Nat) : (s.setEv n u).chan j = s.chan j := (rfl)
@[simp] theorem State.setEv_dpll_same (n : Nat) (u : EvUnit) (j : Nat) : (s.setEv n u).dpll j = s.dpll j := (rfl)
@[simp] theorem State.setEv_osc_same (n : Nat) (u : EvUnit) (j : Nat) : (s.setEv n u).osc j = s.osc j := (rfl)
@[simp] theorem State.setEv_model_same (n : Nat) (u : EvUnit) (j : Nat) : (s.setEv n u).model j = s.model j := (rfl)
@[simp] theorem State.setEv_opll_same (n : Nat) (u : EvUnit) (j : Nat) : (s.setEv n u).opll j = s.opll j := (rfl)
@[simp] theorem State.setEv_out_same (n : Nat) (u : EvUnit) (j : Nat) : (s.setEv n u).out j = s.out j := (rfl)
@[simp] theorem State.setEv_td_same (n : Nat) (u : EvUnit) (j : Nat) : (s.setEv n u).td j = s.td j := (rfl)
@[simp] theorem State.setEv_stitch_same (n : Nat) (u : EvUnit) (j : Nat) : (s.setEv n u).stitch j = s.stitch j := (rfl)
@[simp] theorem State.setEv_crossing_same (n : Nat) (u : EvUnit) (j : Nat) : (s.setEv n u).crossing j = s.crossing j := (rfl)
@[simp] theorem State.setEv_die_same (n : Nat) (u : EvUnit) (j : Nat) : (s.setEv n u).die j = s.die j := (rfl)
@[simp] theorem State.setEv_dx_same (n : Nat) (u : EvUnit) (j : Nat) : (s.setEv n u).dx j = s.dx j := (rfl)
@[simp] theorem State.setEv_mbx_same (n : Nat) (u : EvUnit) (j : Nat) : (s.setEv n u).mbx j = s.mbx j := (rfl)
@[simp] theorem State.setEv_ring_same (n : Nat) (u : EvUnit) (j : Nat) : (s.setEv n u).ring j = s.ring j := (rfl)

@[simp] theorem State.setEv_ev (n j : Nat) (u : EvUnit) : (s.setEv n u).ev j = if j = n then u else s.ev j := by
  simp only [State.setEv, State.ev, tget_tset]

/-! ## `modEv` -/

@[simp] theorem State.modEv_part (n : Nat) (g : EvUnit → EvUnit) : (s.modEv n g).part = s.part := (rfl)
@[simp] theorem State.modEv_fused (n : Nat) (g : EvUnit → EvUnit) : (s.modEv n g).fused = s.fused := (rfl)
@[simp] theorem State.modEv_tb (n : Nat) (g : EvUnit → EvUnit) : (s.modEv n g).tb = s.tb := (rfl)
@[simp] theorem State.modEv_dies (n : Nat) (g : EvUnit → EvUnit) : (s.modEv n g).dies = s.dies := (rfl)
@[simp] theorem State.modEv_inputs (n : Nat) (g : EvUnit → EvUnit) : (s.modEv n g).inputs = s.inputs := (rfl)
@[simp] theorem State.modEv_chans (n : Nat) (g : EvUnit → EvUnit) : (s.modEv n g).chans = s.chans := (rfl)
@[simp] theorem State.modEv_dplls (n : Nat) (g : EvUnit → EvUnit) : (s.modEv n g).dplls = s.dplls := (rfl)
@[simp] theorem State.modEv_oscs (n : Nat) (g : EvUnit → EvUnit) : (s.modEv n g).oscs = s.oscs := (rfl)
@[simp] theorem State.modEv_models (n : Nat) (g : EvUnit → EvUnit) : (s.modEv n g).models = s.models := (rfl)
@[simp] theorem State.modEv_cairn (n : Nat) (g : EvUnit → EvUnit) : (s.modEv n g).cairn = s.cairn := (rfl)
@[simp] theorem State.modEv_oplls (n : Nat) (g : EvUnit → EvUnit) : (s.modEv n g).oplls = s.oplls := (rfl)
@[simp] theorem State.modEv_outs (n : Nat) (g : EvUnit → EvUnit) : (s.modEv n g).outs = s.outs := (rfl)
@[simp] theorem State.modEv_tds (n : Nat) (g : EvUnit → EvUnit) : (s.modEv n g).tds = s.tds := (rfl)
@[simp] theorem State.modEv_stitches (n : Nat) (g : EvUnit → EvUnit) : (s.modEv n g).stitches = s.stitches := (rfl)
@[simp] theorem State.modEv_crossings (n : Nat) (g : EvUnit → EvUnit) : (s.modEv n g).crossings = s.crossings := (rfl)
@[simp] theorem State.modEv_xs (n : Nat) (g : EvUnit → EvUnit) : (s.modEv n g).xs = s.xs := (rfl)
@[simp] theorem State.modEv_host (n : Nat) (g : EvUnit → EvUnit) : (s.modEv n g).host = s.host := (rfl)
@[simp] theorem State.modEv_belay (n : Nat) (g : EvUnit → EvUnit) : (s.modEv n g).belay = s.belay := (rfl)
@[simp] theorem State.modEv_pending (n : Nat) (g : EvUnit → EvUnit) : (s.modEv n g).pending = s.pending := (rfl)
@[simp] theorem State.modEv_fresh (n : Nat) (g : EvUnit → EvUnit) : (s.modEv n g).fresh = s.fresh := (rfl)
@[simp] theorem State.modEv_input_same (n : Nat) (g : EvUnit → EvUnit) (j : Nat) : (s.modEv n g).input j = s.input j := (rfl)
@[simp] theorem State.modEv_chan_same (n : Nat) (g : EvUnit → EvUnit) (j : Nat) : (s.modEv n g).chan j = s.chan j := (rfl)
@[simp] theorem State.modEv_dpll_same (n : Nat) (g : EvUnit → EvUnit) (j : Nat) : (s.modEv n g).dpll j = s.dpll j := (rfl)
@[simp] theorem State.modEv_osc_same (n : Nat) (g : EvUnit → EvUnit) (j : Nat) : (s.modEv n g).osc j = s.osc j := (rfl)
@[simp] theorem State.modEv_model_same (n : Nat) (g : EvUnit → EvUnit) (j : Nat) : (s.modEv n g).model j = s.model j := (rfl)
@[simp] theorem State.modEv_opll_same (n : Nat) (g : EvUnit → EvUnit) (j : Nat) : (s.modEv n g).opll j = s.opll j := (rfl)
@[simp] theorem State.modEv_out_same (n : Nat) (g : EvUnit → EvUnit) (j : Nat) : (s.modEv n g).out j = s.out j := (rfl)
@[simp] theorem State.modEv_td_same (n : Nat) (g : EvUnit → EvUnit) (j : Nat) : (s.modEv n g).td j = s.td j := (rfl)
@[simp] theorem State.modEv_stitch_same (n : Nat) (g : EvUnit → EvUnit) (j : Nat) : (s.modEv n g).stitch j = s.stitch j := (rfl)
@[simp] theorem State.modEv_crossing_same (n : Nat) (g : EvUnit → EvUnit) (j : Nat) : (s.modEv n g).crossing j = s.crossing j := (rfl)
@[simp] theorem State.modEv_die_same (n : Nat) (g : EvUnit → EvUnit) (j : Nat) : (s.modEv n g).die j = s.die j := (rfl)
@[simp] theorem State.modEv_dx_same (n : Nat) (g : EvUnit → EvUnit) (j : Nat) : (s.modEv n g).dx j = s.dx j := (rfl)
@[simp] theorem State.modEv_mbx_same (n : Nat) (g : EvUnit → EvUnit) (j : Nat) : (s.modEv n g).mbx j = s.mbx j := (rfl)
@[simp] theorem State.modEv_ring_same (n : Nat) (g : EvUnit → EvUnit) (j : Nat) : (s.modEv n g).ring j = s.ring j := (rfl)

@[simp] theorem State.modEv_ev (n j : Nat) (g : EvUnit → EvUnit) : (s.modEv n g).ev j = if j = n then g (s.ev n) else s.ev j :=
  State.setEv_ev s n j _

theorem State.modEv_eq (n : Nat) (g : EvUnit → EvUnit) : s.modEv n g = s.setEv n (g (s.ev n)) := (rfl)

/-! ## `setStitch` -/

@[simp] theorem State.setStitch_part (n : Nat) (u : Stitch) : (s.setStitch n u).part = s.part := (rfl)
@[simp] theorem State.setStitch_fused (n : Nat) (u : Stitch) : (s.setStitch n u).fused = s.fused := (rfl)
@[simp] theorem State.setStitch_tb (n : Nat) (u : Stitch) : (s.setStitch n u).tb = s.tb := (rfl)
@[simp] theorem State.setStitch_dies (n : Nat) (u : Stitch) : (s.setStitch n u).dies = s.dies := (rfl)
@[simp] theorem State.setStitch_inputs (n : Nat) (u : Stitch) : (s.setStitch n u).inputs = s.inputs := (rfl)
@[simp] theorem State.setStitch_chans (n : Nat) (u : Stitch) : (s.setStitch n u).chans = s.chans := (rfl)
@[simp] theorem State.setStitch_dplls (n : Nat) (u : Stitch) : (s.setStitch n u).dplls = s.dplls := (rfl)
@[simp] theorem State.setStitch_oscs (n : Nat) (u : Stitch) : (s.setStitch n u).oscs = s.oscs := (rfl)
@[simp] theorem State.setStitch_models (n : Nat) (u : Stitch) : (s.setStitch n u).models = s.models := (rfl)
@[simp] theorem State.setStitch_cairn (n : Nat) (u : Stitch) : (s.setStitch n u).cairn = s.cairn := (rfl)
@[simp] theorem State.setStitch_oplls (n : Nat) (u : Stitch) : (s.setStitch n u).oplls = s.oplls := (rfl)
@[simp] theorem State.setStitch_outs (n : Nat) (u : Stitch) : (s.setStitch n u).outs = s.outs := (rfl)
@[simp] theorem State.setStitch_tds (n : Nat) (u : Stitch) : (s.setStitch n u).tds = s.tds := (rfl)
@[simp] theorem State.setStitch_evs (n : Nat) (u : Stitch) : (s.setStitch n u).evs = s.evs := (rfl)
@[simp] theorem State.setStitch_crossings (n : Nat) (u : Stitch) : (s.setStitch n u).crossings = s.crossings := (rfl)
@[simp] theorem State.setStitch_xs (n : Nat) (u : Stitch) : (s.setStitch n u).xs = s.xs := (rfl)
@[simp] theorem State.setStitch_host (n : Nat) (u : Stitch) : (s.setStitch n u).host = s.host := (rfl)
@[simp] theorem State.setStitch_belay (n : Nat) (u : Stitch) : (s.setStitch n u).belay = s.belay := (rfl)
@[simp] theorem State.setStitch_pending (n : Nat) (u : Stitch) : (s.setStitch n u).pending = s.pending := (rfl)
@[simp] theorem State.setStitch_fresh (n : Nat) (u : Stitch) : (s.setStitch n u).fresh = s.fresh := (rfl)
@[simp] theorem State.setStitch_input_same (n : Nat) (u : Stitch) (j : Nat) : (s.setStitch n u).input j = s.input j := (rfl)
@[simp] theorem State.setStitch_chan_same (n : Nat) (u : Stitch) (j : Nat) : (s.setStitch n u).chan j = s.chan j := (rfl)
@[simp] theorem State.setStitch_dpll_same (n : Nat) (u : Stitch) (j : Nat) : (s.setStitch n u).dpll j = s.dpll j := (rfl)
@[simp] theorem State.setStitch_osc_same (n : Nat) (u : Stitch) (j : Nat) : (s.setStitch n u).osc j = s.osc j := (rfl)
@[simp] theorem State.setStitch_model_same (n : Nat) (u : Stitch) (j : Nat) : (s.setStitch n u).model j = s.model j := (rfl)
@[simp] theorem State.setStitch_opll_same (n : Nat) (u : Stitch) (j : Nat) : (s.setStitch n u).opll j = s.opll j := (rfl)
@[simp] theorem State.setStitch_out_same (n : Nat) (u : Stitch) (j : Nat) : (s.setStitch n u).out j = s.out j := (rfl)
@[simp] theorem State.setStitch_td_same (n : Nat) (u : Stitch) (j : Nat) : (s.setStitch n u).td j = s.td j := (rfl)
@[simp] theorem State.setStitch_ev_same (n : Nat) (u : Stitch) (j : Nat) : (s.setStitch n u).ev j = s.ev j := (rfl)
@[simp] theorem State.setStitch_crossing_same (n : Nat) (u : Stitch) (j : Nat) : (s.setStitch n u).crossing j = s.crossing j := (rfl)
@[simp] theorem State.setStitch_die_same (n : Nat) (u : Stitch) (j : Nat) : (s.setStitch n u).die j = s.die j := (rfl)
@[simp] theorem State.setStitch_dx_same (n : Nat) (u : Stitch) (j : Nat) : (s.setStitch n u).dx j = s.dx j := (rfl)
@[simp] theorem State.setStitch_mbx_same (n : Nat) (u : Stitch) (j : Nat) : (s.setStitch n u).mbx j = s.mbx j := (rfl)
@[simp] theorem State.setStitch_ring_same (n : Nat) (u : Stitch) (j : Nat) : (s.setStitch n u).ring j = s.ring j := (rfl)

@[simp] theorem State.setStitch_stitch (n j : Nat) (u : Stitch) : (s.setStitch n u).stitch j = if j = n then u else s.stitch j := by
  simp only [State.setStitch, State.stitch, tget_tset]

/-! ## `modStitch` -/

@[simp] theorem State.modStitch_part (n : Nat) (g : Stitch → Stitch) : (s.modStitch n g).part = s.part := (rfl)
@[simp] theorem State.modStitch_fused (n : Nat) (g : Stitch → Stitch) : (s.modStitch n g).fused = s.fused := (rfl)
@[simp] theorem State.modStitch_tb (n : Nat) (g : Stitch → Stitch) : (s.modStitch n g).tb = s.tb := (rfl)
@[simp] theorem State.modStitch_dies (n : Nat) (g : Stitch → Stitch) : (s.modStitch n g).dies = s.dies := (rfl)
@[simp] theorem State.modStitch_inputs (n : Nat) (g : Stitch → Stitch) : (s.modStitch n g).inputs = s.inputs := (rfl)
@[simp] theorem State.modStitch_chans (n : Nat) (g : Stitch → Stitch) : (s.modStitch n g).chans = s.chans := (rfl)
@[simp] theorem State.modStitch_dplls (n : Nat) (g : Stitch → Stitch) : (s.modStitch n g).dplls = s.dplls := (rfl)
@[simp] theorem State.modStitch_oscs (n : Nat) (g : Stitch → Stitch) : (s.modStitch n g).oscs = s.oscs := (rfl)
@[simp] theorem State.modStitch_models (n : Nat) (g : Stitch → Stitch) : (s.modStitch n g).models = s.models := (rfl)
@[simp] theorem State.modStitch_cairn (n : Nat) (g : Stitch → Stitch) : (s.modStitch n g).cairn = s.cairn := (rfl)
@[simp] theorem State.modStitch_oplls (n : Nat) (g : Stitch → Stitch) : (s.modStitch n g).oplls = s.oplls := (rfl)
@[simp] theorem State.modStitch_outs (n : Nat) (g : Stitch → Stitch) : (s.modStitch n g).outs = s.outs := (rfl)
@[simp] theorem State.modStitch_tds (n : Nat) (g : Stitch → Stitch) : (s.modStitch n g).tds = s.tds := (rfl)
@[simp] theorem State.modStitch_evs (n : Nat) (g : Stitch → Stitch) : (s.modStitch n g).evs = s.evs := (rfl)
@[simp] theorem State.modStitch_crossings (n : Nat) (g : Stitch → Stitch) : (s.modStitch n g).crossings = s.crossings := (rfl)
@[simp] theorem State.modStitch_xs (n : Nat) (g : Stitch → Stitch) : (s.modStitch n g).xs = s.xs := (rfl)
@[simp] theorem State.modStitch_host (n : Nat) (g : Stitch → Stitch) : (s.modStitch n g).host = s.host := (rfl)
@[simp] theorem State.modStitch_belay (n : Nat) (g : Stitch → Stitch) : (s.modStitch n g).belay = s.belay := (rfl)
@[simp] theorem State.modStitch_pending (n : Nat) (g : Stitch → Stitch) : (s.modStitch n g).pending = s.pending := (rfl)
@[simp] theorem State.modStitch_fresh (n : Nat) (g : Stitch → Stitch) : (s.modStitch n g).fresh = s.fresh := (rfl)
@[simp] theorem State.modStitch_input_same (n : Nat) (g : Stitch → Stitch) (j : Nat) : (s.modStitch n g).input j = s.input j := (rfl)
@[simp] theorem State.modStitch_chan_same (n : Nat) (g : Stitch → Stitch) (j : Nat) : (s.modStitch n g).chan j = s.chan j := (rfl)
@[simp] theorem State.modStitch_dpll_same (n : Nat) (g : Stitch → Stitch) (j : Nat) : (s.modStitch n g).dpll j = s.dpll j := (rfl)
@[simp] theorem State.modStitch_osc_same (n : Nat) (g : Stitch → Stitch) (j : Nat) : (s.modStitch n g).osc j = s.osc j := (rfl)
@[simp] theorem State.modStitch_model_same (n : Nat) (g : Stitch → Stitch) (j : Nat) : (s.modStitch n g).model j = s.model j := (rfl)
@[simp] theorem State.modStitch_opll_same (n : Nat) (g : Stitch → Stitch) (j : Nat) : (s.modStitch n g).opll j = s.opll j := (rfl)
@[simp] theorem State.modStitch_out_same (n : Nat) (g : Stitch → Stitch) (j : Nat) : (s.modStitch n g).out j = s.out j := (rfl)
@[simp] theorem State.modStitch_td_same (n : Nat) (g : Stitch → Stitch) (j : Nat) : (s.modStitch n g).td j = s.td j := (rfl)
@[simp] theorem State.modStitch_ev_same (n : Nat) (g : Stitch → Stitch) (j : Nat) : (s.modStitch n g).ev j = s.ev j := (rfl)
@[simp] theorem State.modStitch_crossing_same (n : Nat) (g : Stitch → Stitch) (j : Nat) : (s.modStitch n g).crossing j = s.crossing j := (rfl)
@[simp] theorem State.modStitch_die_same (n : Nat) (g : Stitch → Stitch) (j : Nat) : (s.modStitch n g).die j = s.die j := (rfl)
@[simp] theorem State.modStitch_dx_same (n : Nat) (g : Stitch → Stitch) (j : Nat) : (s.modStitch n g).dx j = s.dx j := (rfl)
@[simp] theorem State.modStitch_mbx_same (n : Nat) (g : Stitch → Stitch) (j : Nat) : (s.modStitch n g).mbx j = s.mbx j := (rfl)
@[simp] theorem State.modStitch_ring_same (n : Nat) (g : Stitch → Stitch) (j : Nat) : (s.modStitch n g).ring j = s.ring j := (rfl)

@[simp] theorem State.modStitch_stitch (n j : Nat) (g : Stitch → Stitch) : (s.modStitch n g).stitch j = if j = n then g (s.stitch n) else s.stitch j :=
  State.setStitch_stitch s n j _

theorem State.modStitch_eq (n : Nat) (g : Stitch → Stitch) : s.modStitch n g = s.setStitch n (g (s.stitch n)) := (rfl)

/-! ## `setCrossing` -/

@[simp] theorem State.setCrossing_part (n : Nat) (u : Crossing) : (s.setCrossing n u).part = s.part := (rfl)
@[simp] theorem State.setCrossing_fused (n : Nat) (u : Crossing) : (s.setCrossing n u).fused = s.fused := (rfl)
@[simp] theorem State.setCrossing_tb (n : Nat) (u : Crossing) : (s.setCrossing n u).tb = s.tb := (rfl)
@[simp] theorem State.setCrossing_dies (n : Nat) (u : Crossing) : (s.setCrossing n u).dies = s.dies := (rfl)
@[simp] theorem State.setCrossing_inputs (n : Nat) (u : Crossing) : (s.setCrossing n u).inputs = s.inputs := (rfl)
@[simp] theorem State.setCrossing_chans (n : Nat) (u : Crossing) : (s.setCrossing n u).chans = s.chans := (rfl)
@[simp] theorem State.setCrossing_dplls (n : Nat) (u : Crossing) : (s.setCrossing n u).dplls = s.dplls := (rfl)
@[simp] theorem State.setCrossing_oscs (n : Nat) (u : Crossing) : (s.setCrossing n u).oscs = s.oscs := (rfl)
@[simp] theorem State.setCrossing_models (n : Nat) (u : Crossing) : (s.setCrossing n u).models = s.models := (rfl)
@[simp] theorem State.setCrossing_cairn (n : Nat) (u : Crossing) : (s.setCrossing n u).cairn = s.cairn := (rfl)
@[simp] theorem State.setCrossing_oplls (n : Nat) (u : Crossing) : (s.setCrossing n u).oplls = s.oplls := (rfl)
@[simp] theorem State.setCrossing_outs (n : Nat) (u : Crossing) : (s.setCrossing n u).outs = s.outs := (rfl)
@[simp] theorem State.setCrossing_tds (n : Nat) (u : Crossing) : (s.setCrossing n u).tds = s.tds := (rfl)
@[simp] theorem State.setCrossing_evs (n : Nat) (u : Crossing) : (s.setCrossing n u).evs = s.evs := (rfl)
@[simp] theorem State.setCrossing_stitches (n : Nat) (u : Crossing) : (s.setCrossing n u).stitches = s.stitches := (rfl)
@[simp] theorem State.setCrossing_xs (n : Nat) (u : Crossing) : (s.setCrossing n u).xs = s.xs := (rfl)
@[simp] theorem State.setCrossing_host (n : Nat) (u : Crossing) : (s.setCrossing n u).host = s.host := (rfl)
@[simp] theorem State.setCrossing_belay (n : Nat) (u : Crossing) : (s.setCrossing n u).belay = s.belay := (rfl)
@[simp] theorem State.setCrossing_pending (n : Nat) (u : Crossing) : (s.setCrossing n u).pending = s.pending := (rfl)
@[simp] theorem State.setCrossing_fresh (n : Nat) (u : Crossing) : (s.setCrossing n u).fresh = s.fresh := (rfl)
@[simp] theorem State.setCrossing_input_same (n : Nat) (u : Crossing) (j : Nat) : (s.setCrossing n u).input j = s.input j := (rfl)
@[simp] theorem State.setCrossing_chan_same (n : Nat) (u : Crossing) (j : Nat) : (s.setCrossing n u).chan j = s.chan j := (rfl)
@[simp] theorem State.setCrossing_dpll_same (n : Nat) (u : Crossing) (j : Nat) : (s.setCrossing n u).dpll j = s.dpll j := (rfl)
@[simp] theorem State.setCrossing_osc_same (n : Nat) (u : Crossing) (j : Nat) : (s.setCrossing n u).osc j = s.osc j := (rfl)
@[simp] theorem State.setCrossing_model_same (n : Nat) (u : Crossing) (j : Nat) : (s.setCrossing n u).model j = s.model j := (rfl)
@[simp] theorem State.setCrossing_opll_same (n : Nat) (u : Crossing) (j : Nat) : (s.setCrossing n u).opll j = s.opll j := (rfl)
@[simp] theorem State.setCrossing_out_same (n : Nat) (u : Crossing) (j : Nat) : (s.setCrossing n u).out j = s.out j := (rfl)
@[simp] theorem State.setCrossing_td_same (n : Nat) (u : Crossing) (j : Nat) : (s.setCrossing n u).td j = s.td j := (rfl)
@[simp] theorem State.setCrossing_ev_same (n : Nat) (u : Crossing) (j : Nat) : (s.setCrossing n u).ev j = s.ev j := (rfl)
@[simp] theorem State.setCrossing_stitch_same (n : Nat) (u : Crossing) (j : Nat) : (s.setCrossing n u).stitch j = s.stitch j := (rfl)
@[simp] theorem State.setCrossing_die_same (n : Nat) (u : Crossing) (j : Nat) : (s.setCrossing n u).die j = s.die j := (rfl)
@[simp] theorem State.setCrossing_dx_same (n : Nat) (u : Crossing) (j : Nat) : (s.setCrossing n u).dx j = s.dx j := (rfl)
@[simp] theorem State.setCrossing_mbx_same (n : Nat) (u : Crossing) (j : Nat) : (s.setCrossing n u).mbx j = s.mbx j := (rfl)
@[simp] theorem State.setCrossing_ring_same (n : Nat) (u : Crossing) (j : Nat) : (s.setCrossing n u).ring j = s.ring j := (rfl)

@[simp] theorem State.setCrossing_crossing (n j : Nat) (u : Crossing) : (s.setCrossing n u).crossing j = if j = n then u else s.crossing j := by
  simp only [State.setCrossing, State.crossing, tget_tset]

/-! ## `setDie` -/

@[simp] theorem State.setDie_part (n : Nat) (u : Die) : (s.setDie n u).part = s.part := (rfl)
@[simp] theorem State.setDie_fused (n : Nat) (u : Die) : (s.setDie n u).fused = s.fused := (rfl)
@[simp] theorem State.setDie_tb (n : Nat) (u : Die) : (s.setDie n u).tb = s.tb := (rfl)
@[simp] theorem State.setDie_inputs (n : Nat) (u : Die) : (s.setDie n u).inputs = s.inputs := (rfl)
@[simp] theorem State.setDie_chans (n : Nat) (u : Die) : (s.setDie n u).chans = s.chans := (rfl)
@[simp] theorem State.setDie_dplls (n : Nat) (u : Die) : (s.setDie n u).dplls = s.dplls := (rfl)
@[simp] theorem State.setDie_oscs (n : Nat) (u : Die) : (s.setDie n u).oscs = s.oscs := (rfl)
@[simp] theorem State.setDie_models (n : Nat) (u : Die) : (s.setDie n u).models = s.models := (rfl)
@[simp] theorem State.setDie_cairn (n : Nat) (u : Die) : (s.setDie n u).cairn = s.cairn := (rfl)
@[simp] theorem State.setDie_oplls (n : Nat) (u : Die) : (s.setDie n u).oplls = s.oplls := (rfl)
@[simp] theorem State.setDie_outs (n : Nat) (u : Die) : (s.setDie n u).outs = s.outs := (rfl)
@[simp] theorem State.setDie_tds (n : Nat) (u : Die) : (s.setDie n u).tds = s.tds := (rfl)
@[simp] theorem State.setDie_evs (n : Nat) (u : Die) : (s.setDie n u).evs = s.evs := (rfl)
@[simp] theorem State.setDie_stitches (n : Nat) (u : Die) : (s.setDie n u).stitches = s.stitches := (rfl)
@[simp] theorem State.setDie_crossings (n : Nat) (u : Die) : (s.setDie n u).crossings = s.crossings := (rfl)
@[simp] theorem State.setDie_xs (n : Nat) (u : Die) : (s.setDie n u).xs = s.xs := (rfl)
@[simp] theorem State.setDie_host (n : Nat) (u : Die) : (s.setDie n u).host = s.host := (rfl)
@[simp] theorem State.setDie_belay (n : Nat) (u : Die) : (s.setDie n u).belay = s.belay := (rfl)
@[simp] theorem State.setDie_pending (n : Nat) (u : Die) : (s.setDie n u).pending = s.pending := (rfl)
@[simp] theorem State.setDie_fresh (n : Nat) (u : Die) : (s.setDie n u).fresh = s.fresh := (rfl)
@[simp] theorem State.setDie_input_same (n : Nat) (u : Die) (j : Nat) : (s.setDie n u).input j = s.input j := (rfl)
@[simp] theorem State.setDie_chan_same (n : Nat) (u : Die) (j : Nat) : (s.setDie n u).chan j = s.chan j := (rfl)
@[simp] theorem State.setDie_dpll_same (n : Nat) (u : Die) (j : Nat) : (s.setDie n u).dpll j = s.dpll j := (rfl)
@[simp] theorem State.setDie_osc_same (n : Nat) (u : Die) (j : Nat) : (s.setDie n u).osc j = s.osc j := (rfl)
@[simp] theorem State.setDie_model_same (n : Nat) (u : Die) (j : Nat) : (s.setDie n u).model j = s.model j := (rfl)
@[simp] theorem State.setDie_opll_same (n : Nat) (u : Die) (j : Nat) : (s.setDie n u).opll j = s.opll j := (rfl)
@[simp] theorem State.setDie_out_same (n : Nat) (u : Die) (j : Nat) : (s.setDie n u).out j = s.out j := (rfl)
@[simp] theorem State.setDie_td_same (n : Nat) (u : Die) (j : Nat) : (s.setDie n u).td j = s.td j := (rfl)
@[simp] theorem State.setDie_ev_same (n : Nat) (u : Die) (j : Nat) : (s.setDie n u).ev j = s.ev j := (rfl)
@[simp] theorem State.setDie_stitch_same (n : Nat) (u : Die) (j : Nat) : (s.setDie n u).stitch j = s.stitch j := (rfl)
@[simp] theorem State.setDie_crossing_same (n : Nat) (u : Die) (j : Nat) : (s.setDie n u).crossing j = s.crossing j := (rfl)
@[simp] theorem State.setDie_dx_same (n : Nat) (u : Die) (j : Nat) : (s.setDie n u).dx j = s.dx j := (rfl)
@[simp] theorem State.setDie_mbx_same (n : Nat) (u : Die) (j : Nat) : (s.setDie n u).mbx j = s.mbx j := (rfl)
@[simp] theorem State.setDie_ring_same (n : Nat) (u : Die) (j : Nat) : (s.setDie n u).ring j = s.ring j := (rfl)

@[simp] theorem State.setDie_die (n j : Nat) (u : Die) : (s.setDie n u).die j = if j = n then u else s.die j := by
  simp only [State.setDie, State.die, tget_tput]

/-! ## `modDie` -/

@[simp] theorem State.modDie_part (n : Nat) (g : Die → Die) : (s.modDie n g).part = s.part := (rfl)
@[simp] theorem State.modDie_fused (n : Nat) (g : Die → Die) : (s.modDie n g).fused = s.fused := (rfl)
@[simp] theorem State.modDie_tb (n : Nat) (g : Die → Die) : (s.modDie n g).tb = s.tb := (rfl)
@[simp] theorem State.modDie_inputs (n : Nat) (g : Die → Die) : (s.modDie n g).inputs = s.inputs := (rfl)
@[simp] theorem State.modDie_chans (n : Nat) (g : Die → Die) : (s.modDie n g).chans = s.chans := (rfl)
@[simp] theorem State.modDie_dplls (n : Nat) (g : Die → Die) : (s.modDie n g).dplls = s.dplls := (rfl)
@[simp] theorem State.modDie_oscs (n : Nat) (g : Die → Die) : (s.modDie n g).oscs = s.oscs := (rfl)
@[simp] theorem State.modDie_models (n : Nat) (g : Die → Die) : (s.modDie n g).models = s.models := (rfl)
@[simp] theorem State.modDie_cairn (n : Nat) (g : Die → Die) : (s.modDie n g).cairn = s.cairn := (rfl)
@[simp] theorem State.modDie_oplls (n : Nat) (g : Die → Die) : (s.modDie n g).oplls = s.oplls := (rfl)
@[simp] theorem State.modDie_outs (n : Nat) (g : Die → Die) : (s.modDie n g).outs = s.outs := (rfl)
@[simp] theorem State.modDie_tds (n : Nat) (g : Die → Die) : (s.modDie n g).tds = s.tds := (rfl)
@[simp] theorem State.modDie_evs (n : Nat) (g : Die → Die) : (s.modDie n g).evs = s.evs := (rfl)
@[simp] theorem State.modDie_stitches (n : Nat) (g : Die → Die) : (s.modDie n g).stitches = s.stitches := (rfl)
@[simp] theorem State.modDie_crossings (n : Nat) (g : Die → Die) : (s.modDie n g).crossings = s.crossings := (rfl)
@[simp] theorem State.modDie_xs (n : Nat) (g : Die → Die) : (s.modDie n g).xs = s.xs := (rfl)
@[simp] theorem State.modDie_host (n : Nat) (g : Die → Die) : (s.modDie n g).host = s.host := (rfl)
@[simp] theorem State.modDie_belay (n : Nat) (g : Die → Die) : (s.modDie n g).belay = s.belay := (rfl)
@[simp] theorem State.modDie_pending (n : Nat) (g : Die → Die) : (s.modDie n g).pending = s.pending := (rfl)
@[simp] theorem State.modDie_fresh (n : Nat) (g : Die → Die) : (s.modDie n g).fresh = s.fresh := (rfl)
@[simp] theorem State.modDie_input_same (n : Nat) (g : Die → Die) (j : Nat) : (s.modDie n g).input j = s.input j := (rfl)
@[simp] theorem State.modDie_chan_same (n : Nat) (g : Die → Die) (j : Nat) : (s.modDie n g).chan j = s.chan j := (rfl)
@[simp] theorem State.modDie_dpll_same (n : Nat) (g : Die → Die) (j : Nat) : (s.modDie n g).dpll j = s.dpll j := (rfl)
@[simp] theorem State.modDie_osc_same (n : Nat) (g : Die → Die) (j : Nat) : (s.modDie n g).osc j = s.osc j := (rfl)
@[simp] theorem State.modDie_model_same (n : Nat) (g : Die → Die) (j : Nat) : (s.modDie n g).model j = s.model j := (rfl)
@[simp] theorem State.modDie_opll_same (n : Nat) (g : Die → Die) (j : Nat) : (s.modDie n g).opll j = s.opll j := (rfl)
@[simp] theorem State.modDie_out_same (n : Nat) (g : Die → Die) (j : Nat) : (s.modDie n g).out j = s.out j := (rfl)
@[simp] theorem State.modDie_td_same (n : Nat) (g : Die → Die) (j : Nat) : (s.modDie n g).td j = s.td j := (rfl)
@[simp] theorem State.modDie_ev_same (n : Nat) (g : Die → Die) (j : Nat) : (s.modDie n g).ev j = s.ev j := (rfl)
@[simp] theorem State.modDie_stitch_same (n : Nat) (g : Die → Die) (j : Nat) : (s.modDie n g).stitch j = s.stitch j := (rfl)
@[simp] theorem State.modDie_crossing_same (n : Nat) (g : Die → Die) (j : Nat) : (s.modDie n g).crossing j = s.crossing j := (rfl)
@[simp] theorem State.modDie_dx_same (n : Nat) (g : Die → Die) (j : Nat) : (s.modDie n g).dx j = s.dx j := (rfl)
@[simp] theorem State.modDie_mbx_same (n : Nat) (g : Die → Die) (j : Nat) : (s.modDie n g).mbx j = s.mbx j := (rfl)
@[simp] theorem State.modDie_ring_same (n : Nat) (g : Die → Die) (j : Nat) : (s.modDie n g).ring j = s.ring j := (rfl)

@[simp] theorem State.modDie_die (n j : Nat) (g : Die → Die) : (s.modDie n g).die j = if j = n then g (s.die n) else s.die j :=
  State.setDie_die s n j _

theorem State.modDie_eq (n : Nat) (g : Die → Die) : s.modDie n g = s.setDie n (g (s.die n)) := (rfl)

/-! ## `modDx` -/

@[simp] theorem State.modDx_part (n : Nat) (g : DieX → DieX) : (s.modDx n g).part = s.part := (rfl)
@[simp] theorem State.modDx_fused (n : Nat) (g : DieX → DieX) : (s.modDx n g).fused = s.fused := (rfl)
@[simp] theorem State.modDx_tb (n : Nat) (g : DieX → DieX) : (s.modDx n g).tb = s.tb := (rfl)
@[simp] theorem State.modDx_dies (n : Nat) (g : DieX → DieX) : (s.modDx n g).dies = s.dies := (rfl)
@[simp] theorem State.modDx_inputs (n : Nat) (g : DieX → DieX) : (s.modDx n g).inputs = s.inputs := (rfl)
@[simp] theorem State.modDx_chans (n : Nat) (g : DieX → DieX) : (s.modDx n g).chans = s.chans := (rfl)
@[simp] theorem State.modDx_dplls (n : Nat) (g : DieX → DieX) : (s.modDx n g).dplls = s.dplls := (rfl)
@[simp] theorem State.modDx_oscs (n : Nat) (g : DieX → DieX) : (s.modDx n g).oscs = s.oscs := (rfl)
@[simp] theorem State.modDx_models (n : Nat) (g : DieX → DieX) : (s.modDx n g).models = s.models := (rfl)
@[simp] theorem State.modDx_cairn (n : Nat) (g : DieX → DieX) : (s.modDx n g).cairn = s.cairn := (rfl)
@[simp] theorem State.modDx_oplls (n : Nat) (g : DieX → DieX) : (s.modDx n g).oplls = s.oplls := (rfl)
@[simp] theorem State.modDx_outs (n : Nat) (g : DieX → DieX) : (s.modDx n g).outs = s.outs := (rfl)
@[simp] theorem State.modDx_tds (n : Nat) (g : DieX → DieX) : (s.modDx n g).tds = s.tds := (rfl)
@[simp] theorem State.modDx_evs (n : Nat) (g : DieX → DieX) : (s.modDx n g).evs = s.evs := (rfl)
@[simp] theorem State.modDx_stitches (n : Nat) (g : DieX → DieX) : (s.modDx n g).stitches = s.stitches := (rfl)
@[simp] theorem State.modDx_crossings (n : Nat) (g : DieX → DieX) : (s.modDx n g).crossings = s.crossings := (rfl)
@[simp] theorem State.modDx_host (n : Nat) (g : DieX → DieX) : (s.modDx n g).host = s.host := (rfl)
@[simp] theorem State.modDx_belay (n : Nat) (g : DieX → DieX) : (s.modDx n g).belay = s.belay := (rfl)
@[simp] theorem State.modDx_pending (n : Nat) (g : DieX → DieX) : (s.modDx n g).pending = s.pending := (rfl)
@[simp] theorem State.modDx_fresh (n : Nat) (g : DieX → DieX) : (s.modDx n g).fresh = s.fresh := (rfl)
@[simp] theorem State.modDx_input_same (n : Nat) (g : DieX → DieX) (j : Nat) : (s.modDx n g).input j = s.input j := (rfl)
@[simp] theorem State.modDx_chan_same (n : Nat) (g : DieX → DieX) (j : Nat) : (s.modDx n g).chan j = s.chan j := (rfl)
@[simp] theorem State.modDx_dpll_same (n : Nat) (g : DieX → DieX) (j : Nat) : (s.modDx n g).dpll j = s.dpll j := (rfl)
@[simp] theorem State.modDx_osc_same (n : Nat) (g : DieX → DieX) (j : Nat) : (s.modDx n g).osc j = s.osc j := (rfl)
@[simp] theorem State.modDx_model_same (n : Nat) (g : DieX → DieX) (j : Nat) : (s.modDx n g).model j = s.model j := (rfl)
@[simp] theorem State.modDx_opll_same (n : Nat) (g : DieX → DieX) (j : Nat) : (s.modDx n g).opll j = s.opll j := (rfl)
@[simp] theorem State.modDx_out_same (n : Nat) (g : DieX → DieX) (j : Nat) : (s.modDx n g).out j = s.out j := (rfl)
@[simp] theorem State.modDx_td_same (n : Nat) (g : DieX → DieX) (j : Nat) : (s.modDx n g).td j = s.td j := (rfl)
@[simp] theorem State.modDx_ev_same (n : Nat) (g : DieX → DieX) (j : Nat) : (s.modDx n g).ev j = s.ev j := (rfl)
@[simp] theorem State.modDx_stitch_same (n : Nat) (g : DieX → DieX) (j : Nat) : (s.modDx n g).stitch j = s.stitch j := (rfl)
@[simp] theorem State.modDx_crossing_same (n : Nat) (g : DieX → DieX) (j : Nat) : (s.modDx n g).crossing j = s.crossing j := (rfl)
@[simp] theorem State.modDx_die_same (n : Nat) (g : DieX → DieX) (j : Nat) : (s.modDx n g).die j = s.die j := (rfl)
@[simp] theorem State.modDx_mbx_same (n : Nat) (g : DieX → DieX) (j : Nat) : (s.modDx n g).mbx j = s.mbx j := (rfl)
@[simp] theorem State.modDx_ring_same (n : Nat) (g : DieX → DieX) (j : Nat) : (s.modDx n g).ring j = s.ring j := (rfl)

@[simp] theorem State.modDx_dx (n j : Nat) (g : DieX → DieX) : (s.modDx n g).dx j = if j = n then g (s.dx n) else s.dx j := by
  simp only [State.modDx, State.dx, tget_tput]

/-! ## `setMbx` -/

@[simp] theorem State.setMbx_part (n : Nat) (m : Mbx) : (s.setMbx n m).part = s.part := (rfl)
@[simp] theorem State.setMbx_fused (n : Nat) (m : Mbx) : (s.setMbx n m).fused = s.fused := (rfl)
@[simp] theorem State.setMbx_tb (n : Nat) (m : Mbx) : (s.setMbx n m).tb = s.tb := (rfl)
@[simp] theorem State.setMbx_dies (n : Nat) (m : Mbx) : (s.setMbx n m).dies = s.dies := (rfl)
@[simp] theorem State.setMbx_inputs (n : Nat) (m : Mbx) : (s.setMbx n m).inputs = s.inputs := (rfl)
@[simp] theorem State.setMbx_chans (n : Nat) (m : Mbx) : (s.setMbx n m).chans = s.chans := (rfl)
@[simp] theorem State.setMbx_dplls (n : Nat) (m : Mbx) : (s.setMbx n m).dplls = s.dplls := (rfl)
@[simp] theorem State.setMbx_oscs (n : Nat) (m : Mbx) : (s.setMbx n m).oscs = s.oscs := (rfl)
@[simp] theorem State.setMbx_models (n : Nat) (m : Mbx) : (s.setMbx n m).models = s.models := (rfl)
@[simp] theorem State.setMbx_cairn (n : Nat) (m : Mbx) : (s.setMbx n m).cairn = s.cairn := (rfl)
@[simp] theorem State.setMbx_oplls (n : Nat) (m : Mbx) : (s.setMbx n m).oplls = s.oplls := (rfl)
@[simp] theorem State.setMbx_outs (n : Nat) (m : Mbx) : (s.setMbx n m).outs = s.outs := (rfl)
@[simp] theorem State.setMbx_tds (n : Nat) (m : Mbx) : (s.setMbx n m).tds = s.tds := (rfl)
@[simp] theorem State.setMbx_evs (n : Nat) (m : Mbx) : (s.setMbx n m).evs = s.evs := (rfl)
@[simp] theorem State.setMbx_stitches (n : Nat) (m : Mbx) : (s.setMbx n m).stitches = s.stitches := (rfl)
@[simp] theorem State.setMbx_crossings (n : Nat) (m : Mbx) : (s.setMbx n m).crossings = s.crossings := (rfl)
@[simp] theorem State.setMbx_xs (n : Nat) (m : Mbx) : (s.setMbx n m).xs = s.xs := (rfl)
@[simp] theorem State.setMbx_belay (n : Nat) (m : Mbx) : (s.setMbx n m).belay = s.belay := (rfl)
@[simp] theorem State.setMbx_pending (n : Nat) (m : Mbx) : (s.setMbx n m).pending = s.pending := (rfl)
@[simp] theorem State.setMbx_fresh (n : Nat) (m : Mbx) : (s.setMbx n m).fresh = s.fresh := (rfl)
@[simp] theorem State.setMbx_input_same (n : Nat) (m : Mbx) (j : Nat) : (s.setMbx n m).input j = s.input j := (rfl)
@[simp] theorem State.setMbx_chan_same (n : Nat) (m : Mbx) (j : Nat) : (s.setMbx n m).chan j = s.chan j := (rfl)
@[simp] theorem State.setMbx_dpll_same (n : Nat) (m : Mbx) (j : Nat) : (s.setMbx n m).dpll j = s.dpll j := (rfl)
@[simp] theorem State.setMbx_osc_same (n : Nat) (m : Mbx) (j : Nat) : (s.setMbx n m).osc j = s.osc j := (rfl)
@[simp] theorem State.setMbx_model_same (n : Nat) (m : Mbx) (j : Nat) : (s.setMbx n m).model j = s.model j := (rfl)
@[simp] theorem State.setMbx_opll_same (n : Nat) (m : Mbx) (j : Nat) : (s.setMbx n m).opll j = s.opll j := (rfl)
@[simp] theorem State.setMbx_out_same (n : Nat) (m : Mbx) (j : Nat) : (s.setMbx n m).out j = s.out j := (rfl)
@[simp] theorem State.setMbx_td_same (n : Nat) (m : Mbx) (j : Nat) : (s.setMbx n m).td j = s.td j := (rfl)
@[simp] theorem State.setMbx_ev_same (n : Nat) (m : Mbx) (j : Nat) : (s.setMbx n m).ev j = s.ev j := (rfl)
@[simp] theorem State.setMbx_stitch_same (n : Nat) (m : Mbx) (j : Nat) : (s.setMbx n m).stitch j = s.stitch j := (rfl)
@[simp] theorem State.setMbx_crossing_same (n : Nat) (m : Mbx) (j : Nat) : (s.setMbx n m).crossing j = s.crossing j := (rfl)
@[simp] theorem State.setMbx_die_same (n : Nat) (m : Mbx) (j : Nat) : (s.setMbx n m).die j = s.die j := (rfl)
@[simp] theorem State.setMbx_dx_same (n : Nat) (m : Mbx) (j : Nat) : (s.setMbx n m).dx j = s.dx j := (rfl)

@[simp] theorem State.setMbx_mbx (n j : Nat) (m : Mbx) : (s.setMbx n m).mbx j = if j = n then m else s.mbx j := by
  simp only [State.setMbx, State.mbx, tget_tset]

/-! ## `modMbx` -/

@[simp] theorem State.modMbx_part (n : Nat) (g : Mbx → Mbx) : (s.modMbx n g).part = s.part := (rfl)
@[simp] theorem State.modMbx_fused (n : Nat) (g : Mbx → Mbx) : (s.modMbx n g).fused = s.fused := (rfl)
@[simp] theorem State.modMbx_tb (n : Nat) (g : Mbx → Mbx) : (s.modMbx n g).tb = s.tb := (rfl)
@[simp] theorem State.modMbx_dies (n : Nat) (g : Mbx → Mbx) : (s.modMbx n g).dies = s.dies := (rfl)
@[simp] theorem State.modMbx_inputs (n : Nat) (g : Mbx → Mbx) : (s.modMbx n g).inputs = s.inputs := (rfl)
@[simp] theorem State.modMbx_chans (n : Nat) (g : Mbx → Mbx) : (s.modMbx n g).chans = s.chans := (rfl)
@[simp] theorem State.modMbx_dplls (n : Nat) (g : Mbx → Mbx) : (s.modMbx n g).dplls = s.dplls := (rfl)
@[simp] theorem State.modMbx_oscs (n : Nat) (g : Mbx → Mbx) : (s.modMbx n g).oscs = s.oscs := (rfl)
@[simp] theorem State.modMbx_models (n : Nat) (g : Mbx → Mbx) : (s.modMbx n g).models = s.models := (rfl)
@[simp] theorem State.modMbx_cairn (n : Nat) (g : Mbx → Mbx) : (s.modMbx n g).cairn = s.cairn := (rfl)
@[simp] theorem State.modMbx_oplls (n : Nat) (g : Mbx → Mbx) : (s.modMbx n g).oplls = s.oplls := (rfl)
@[simp] theorem State.modMbx_outs (n : Nat) (g : Mbx → Mbx) : (s.modMbx n g).outs = s.outs := (rfl)
@[simp] theorem State.modMbx_tds (n : Nat) (g : Mbx → Mbx) : (s.modMbx n g).tds = s.tds := (rfl)
@[simp] theorem State.modMbx_evs (n : Nat) (g : Mbx → Mbx) : (s.modMbx n g).evs = s.evs := (rfl)
@[simp] theorem State.modMbx_stitches (n : Nat) (g : Mbx → Mbx) : (s.modMbx n g).stitches = s.stitches := (rfl)
@[simp] theorem State.modMbx_crossings (n : Nat) (g : Mbx → Mbx) : (s.modMbx n g).crossings = s.crossings := (rfl)
@[simp] theorem State.modMbx_xs (n : Nat) (g : Mbx → Mbx) : (s.modMbx n g).xs = s.xs := (rfl)
@[simp] theorem State.modMbx_belay (n : Nat) (g : Mbx → Mbx) : (s.modMbx n g).belay = s.belay := (rfl)
@[simp] theorem State.modMbx_pending (n : Nat) (g : Mbx → Mbx) : (s.modMbx n g).pending = s.pending := (rfl)
@[simp] theorem State.modMbx_fresh (n : Nat) (g : Mbx → Mbx) : (s.modMbx n g).fresh = s.fresh := (rfl)
@[simp] theorem State.modMbx_input_same (n : Nat) (g : Mbx → Mbx) (j : Nat) : (s.modMbx n g).input j = s.input j := (rfl)
@[simp] theorem State.modMbx_chan_same (n : Nat) (g : Mbx → Mbx) (j : Nat) : (s.modMbx n g).chan j = s.chan j := (rfl)
@[simp] theorem State.modMbx_dpll_same (n : Nat) (g : Mbx → Mbx) (j : Nat) : (s.modMbx n g).dpll j = s.dpll j := (rfl)
@[simp] theorem State.modMbx_osc_same (n : Nat) (g : Mbx → Mbx) (j : Nat) : (s.modMbx n g).osc j = s.osc j := (rfl)
@[simp] theorem State.modMbx_model_same (n : Nat) (g : Mbx → Mbx) (j : Nat) : (s.modMbx n g).model j = s.model j := (rfl)
@[simp] theorem State.modMbx_opll_same (n : Nat) (g : Mbx → Mbx) (j : Nat) : (s.modMbx n g).opll j = s.opll j := (rfl)
@[simp] theorem State.modMbx_out_same (n : Nat) (g : Mbx → Mbx) (j : Nat) : (s.modMbx n g).out j = s.out j := (rfl)
@[simp] theorem State.modMbx_td_same (n : Nat) (g : Mbx → Mbx) (j : Nat) : (s.modMbx n g).td j = s.td j := (rfl)
@[simp] theorem State.modMbx_ev_same (n : Nat) (g : Mbx → Mbx) (j : Nat) : (s.modMbx n g).ev j = s.ev j := (rfl)
@[simp] theorem State.modMbx_stitch_same (n : Nat) (g : Mbx → Mbx) (j : Nat) : (s.modMbx n g).stitch j = s.stitch j := (rfl)
@[simp] theorem State.modMbx_crossing_same (n : Nat) (g : Mbx → Mbx) (j : Nat) : (s.modMbx n g).crossing j = s.crossing j := (rfl)
@[simp] theorem State.modMbx_die_same (n : Nat) (g : Mbx → Mbx) (j : Nat) : (s.modMbx n g).die j = s.die j := (rfl)
@[simp] theorem State.modMbx_dx_same (n : Nat) (g : Mbx → Mbx) (j : Nat) : (s.modMbx n g).dx j = s.dx j := (rfl)

@[simp] theorem State.modMbx_mbx (n j : Nat) (g : Mbx → Mbx) : (s.modMbx n g).mbx j = if j = n then g (s.mbx n) else s.mbx j :=
  State.setMbx_mbx s n j _

theorem State.modMbx_eq (n : Nat) (g : Mbx → Mbx) : s.modMbx n g = s.setMbx n (g (s.mbx n)) := (rfl)

/-! ## `modLink` -/

@[simp] theorem State.modLink_part (n l : Nat) (g : LinkPort → LinkPort) : (s.modLink n l g).part = s.part := (rfl)
@[simp] theorem State.modLink_fused (n l : Nat) (g : LinkPort → LinkPort) : (s.modLink n l g).fused = s.fused := (rfl)
@[simp] theorem State.modLink_tb (n l : Nat) (g : LinkPort → LinkPort) : (s.modLink n l g).tb = s.tb := (rfl)
@[simp] theorem State.modLink_inputs (n l : Nat) (g : LinkPort → LinkPort) : (s.modLink n l g).inputs = s.inputs := (rfl)
@[simp] theorem State.modLink_chans (n l : Nat) (g : LinkPort → LinkPort) : (s.modLink n l g).chans = s.chans := (rfl)
@[simp] theorem State.modLink_dplls (n l : Nat) (g : LinkPort → LinkPort) : (s.modLink n l g).dplls = s.dplls := (rfl)
@[simp] theorem State.modLink_oscs (n l : Nat) (g : LinkPort → LinkPort) : (s.modLink n l g).oscs = s.oscs := (rfl)
@[simp] theorem State.modLink_models (n l : Nat) (g : LinkPort → LinkPort) : (s.modLink n l g).models = s.models := (rfl)
@[simp] theorem State.modLink_cairn (n l : Nat) (g : LinkPort → LinkPort) : (s.modLink n l g).cairn = s.cairn := (rfl)
@[simp] theorem State.modLink_oplls (n l : Nat) (g : LinkPort → LinkPort) : (s.modLink n l g).oplls = s.oplls := (rfl)
@[simp] theorem State.modLink_outs (n l : Nat) (g : LinkPort → LinkPort) : (s.modLink n l g).outs = s.outs := (rfl)
@[simp] theorem State.modLink_tds (n l : Nat) (g : LinkPort → LinkPort) : (s.modLink n l g).tds = s.tds := (rfl)
@[simp] theorem State.modLink_evs (n l : Nat) (g : LinkPort → LinkPort) : (s.modLink n l g).evs = s.evs := (rfl)
@[simp] theorem State.modLink_stitches (n l : Nat) (g : LinkPort → LinkPort) : (s.modLink n l g).stitches = s.stitches := (rfl)
@[simp] theorem State.modLink_crossings (n l : Nat) (g : LinkPort → LinkPort) : (s.modLink n l g).crossings = s.crossings := (rfl)
@[simp] theorem State.modLink_xs (n l : Nat) (g : LinkPort → LinkPort) : (s.modLink n l g).xs = s.xs := (rfl)
@[simp] theorem State.modLink_host (n l : Nat) (g : LinkPort → LinkPort) : (s.modLink n l g).host = s.host := (rfl)
@[simp] theorem State.modLink_belay (n l : Nat) (g : LinkPort → LinkPort) : (s.modLink n l g).belay = s.belay := (rfl)
@[simp] theorem State.modLink_pending (n l : Nat) (g : LinkPort → LinkPort) : (s.modLink n l g).pending = s.pending := (rfl)
@[simp] theorem State.modLink_fresh (n l : Nat) (g : LinkPort → LinkPort) : (s.modLink n l g).fresh = s.fresh := (rfl)
@[simp] theorem State.modLink_input_same (n l : Nat) (g : LinkPort → LinkPort) (j : Nat) : (s.modLink n l g).input j = s.input j := (rfl)
@[simp] theorem State.modLink_chan_same (n l : Nat) (g : LinkPort → LinkPort) (j : Nat) : (s.modLink n l g).chan j = s.chan j := (rfl)
@[simp] theorem State.modLink_dpll_same (n l : Nat) (g : LinkPort → LinkPort) (j : Nat) : (s.modLink n l g).dpll j = s.dpll j := (rfl)
@[simp] theorem State.modLink_osc_same (n l : Nat) (g : LinkPort → LinkPort) (j : Nat) : (s.modLink n l g).osc j = s.osc j := (rfl)
@[simp] theorem State.modLink_model_same (n l : Nat) (g : LinkPort → LinkPort) (j : Nat) : (s.modLink n l g).model j = s.model j := (rfl)
@[simp] theorem State.modLink_opll_same (n l : Nat) (g : LinkPort → LinkPort) (j : Nat) : (s.modLink n l g).opll j = s.opll j := (rfl)
@[simp] theorem State.modLink_out_same (n l : Nat) (g : LinkPort → LinkPort) (j : Nat) : (s.modLink n l g).out j = s.out j := (rfl)
@[simp] theorem State.modLink_td_same (n l : Nat) (g : LinkPort → LinkPort) (j : Nat) : (s.modLink n l g).td j = s.td j := (rfl)
@[simp] theorem State.modLink_ev_same (n l : Nat) (g : LinkPort → LinkPort) (j : Nat) : (s.modLink n l g).ev j = s.ev j := (rfl)
@[simp] theorem State.modLink_stitch_same (n l : Nat) (g : LinkPort → LinkPort) (j : Nat) : (s.modLink n l g).stitch j = s.stitch j := (rfl)
@[simp] theorem State.modLink_crossing_same (n l : Nat) (g : LinkPort → LinkPort) (j : Nat) : (s.modLink n l g).crossing j = s.crossing j := (rfl)
@[simp] theorem State.modLink_dx_same (n l : Nat) (g : LinkPort → LinkPort) (j : Nat) : (s.modLink n l g).dx j = s.dx j := (rfl)
@[simp] theorem State.modLink_mbx_same (n l : Nat) (g : LinkPort → LinkPort) (j : Nat) : (s.modLink n l g).mbx j = s.mbx j := (rfl)
@[simp] theorem State.modLink_ring_same (n l : Nat) (g : LinkPort → LinkPort) (j : Nat) : (s.modLink n l g).ring j = s.ring j := (rfl)

@[simp] theorem State.setMbx_ring (n j : Nat) (m : Mbx) : (s.setMbx n m).ring j = s.ring j := (rfl)
/-! ## `modHost` -/

@[simp] theorem State.modHost_part (g : HostSide → HostSide) : (s.modHost g).part = s.part := (rfl)
@[simp] theorem State.modHost_fused (g : HostSide → HostSide) : (s.modHost g).fused = s.fused := (rfl)
@[simp] theorem State.modHost_tb (g : HostSide → HostSide) : (s.modHost g).tb = s.tb := (rfl)
@[simp] theorem State.modHost_dies (g : HostSide → HostSide) : (s.modHost g).dies = s.dies := (rfl)
@[simp] theorem State.modHost_inputs (g : HostSide → HostSide) : (s.modHost g).inputs = s.inputs := (rfl)
@[simp] theorem State.modHost_chans (g : HostSide → HostSide) : (s.modHost g).chans = s.chans := (rfl)
@[simp] theorem State.modHost_dplls (g : HostSide → HostSide) : (s.modHost g).dplls = s.dplls := (rfl)
@[simp] theorem State.modHost_oscs (g : HostSide → HostSide) : (s.modHost g).oscs = s.oscs := (rfl)
@[simp] theorem State.modHost_models (g : HostSide → HostSide) : (s.modHost g).models = s.models := (rfl)
@[simp] theorem State.modHost_cairn (g : HostSide → HostSide) : (s.modHost g).cairn = s.cairn := (rfl)
@[simp] theorem State.modHost_oplls (g : HostSide → HostSide) : (s.modHost g).oplls = s.oplls := (rfl)
@[simp] theorem State.modHost_outs (g : HostSide → HostSide) : (s.modHost g).outs = s.outs := (rfl)
@[simp] theorem State.modHost_tds (g : HostSide → HostSide) : (s.modHost g).tds = s.tds := (rfl)
@[simp] theorem State.modHost_evs (g : HostSide → HostSide) : (s.modHost g).evs = s.evs := (rfl)
@[simp] theorem State.modHost_stitches (g : HostSide → HostSide) : (s.modHost g).stitches = s.stitches := (rfl)
@[simp] theorem State.modHost_crossings (g : HostSide → HostSide) : (s.modHost g).crossings = s.crossings := (rfl)
@[simp] theorem State.modHost_xs (g : HostSide → HostSide) : (s.modHost g).xs = s.xs := (rfl)
@[simp] theorem State.modHost_belay (g : HostSide → HostSide) : (s.modHost g).belay = s.belay := (rfl)
@[simp] theorem State.modHost_pending (g : HostSide → HostSide) : (s.modHost g).pending = s.pending := (rfl)
@[simp] theorem State.modHost_fresh (g : HostSide → HostSide) : (s.modHost g).fresh = s.fresh := (rfl)
@[simp] theorem State.modHost_input_same (g : HostSide → HostSide) (j : Nat) : (s.modHost g).input j = s.input j := (rfl)
@[simp] theorem State.modHost_chan_same (g : HostSide → HostSide) (j : Nat) : (s.modHost g).chan j = s.chan j := (rfl)
@[simp] theorem State.modHost_dpll_same (g : HostSide → HostSide) (j : Nat) : (s.modHost g).dpll j = s.dpll j := (rfl)
@[simp] theorem State.modHost_osc_same (g : HostSide → HostSide) (j : Nat) : (s.modHost g).osc j = s.osc j := (rfl)
@[simp] theorem State.modHost_model_same (g : HostSide → HostSide) (j : Nat) : (s.modHost g).model j = s.model j := (rfl)
@[simp] theorem State.modHost_opll_same (g : HostSide → HostSide) (j : Nat) : (s.modHost g).opll j = s.opll j := (rfl)
@[simp] theorem State.modHost_out_same (g : HostSide → HostSide) (j : Nat) : (s.modHost g).out j = s.out j := (rfl)
@[simp] theorem State.modHost_td_same (g : HostSide → HostSide) (j : Nat) : (s.modHost g).td j = s.td j := (rfl)
@[simp] theorem State.modHost_ev_same (g : HostSide → HostSide) (j : Nat) : (s.modHost g).ev j = s.ev j := (rfl)
@[simp] theorem State.modHost_stitch_same (g : HostSide → HostSide) (j : Nat) : (s.modHost g).stitch j = s.stitch j := (rfl)
@[simp] theorem State.modHost_crossing_same (g : HostSide → HostSide) (j : Nat) : (s.modHost g).crossing j = s.crossing j := (rfl)
@[simp] theorem State.modHost_die_same (g : HostSide → HostSide) (j : Nat) : (s.modHost g).die j = s.die j := (rfl)
@[simp] theorem State.modHost_dx_same (g : HostSide → HostSide) (j : Nat) : (s.modHost g).dx j = s.dx j := (rfl)

@[simp] theorem State.modHost_host (g : HostSide → HostSide) : (s.modHost g).host = g s.host := (rfl)

/-! ## `modBelay` -/

@[simp] theorem State.modBelay_part (g : Belay → Belay) : (s.modBelay g).part = s.part := (rfl)
@[simp] theorem State.modBelay_fused (g : Belay → Belay) : (s.modBelay g).fused = s.fused := (rfl)
@[simp] theorem State.modBelay_tb (g : Belay → Belay) : (s.modBelay g).tb = s.tb := (rfl)
@[simp] theorem State.modBelay_dies (g : Belay → Belay) : (s.modBelay g).dies = s.dies := (rfl)
@[simp] theorem State.modBelay_inputs (g : Belay → Belay) : (s.modBelay g).inputs = s.inputs := (rfl)
@[simp] theorem State.modBelay_chans (g : Belay → Belay) : (s.modBelay g).chans = s.chans := (rfl)
@[simp] theorem State.modBelay_dplls (g : Belay → Belay) : (s.modBelay g).dplls = s.dplls := (rfl)
@[simp] theorem State.modBelay_oscs (g : Belay → Belay) : (s.modBelay g).oscs = s.oscs := (rfl)
@[simp] theorem State.modBelay_models (g : Belay → Belay) : (s.modBelay g).models = s.models := (rfl)
@[simp] theorem State.modBelay_cairn (g : Belay → Belay) : (s.modBelay g).cairn = s.cairn := (rfl)
@[simp] theorem State.modBelay_oplls (g : Belay → Belay) : (s.modBelay g).oplls = s.oplls := (rfl)
@[simp] theorem State.modBelay_outs (g : Belay → Belay) : (s.modBelay g).outs = s.outs := (rfl)
@[simp] theorem State.modBelay_tds (g : Belay → Belay) : (s.modBelay g).tds = s.tds := (rfl)
@[simp] theorem State.modBelay_evs (g : Belay → Belay) : (s.modBelay g).evs = s.evs := (rfl)
@[simp] theorem State.modBelay_stitches (g : Belay → Belay) : (s.modBelay g).stitches = s.stitches := (rfl)
@[simp] theorem State.modBelay_crossings (g : Belay → Belay) : (s.modBelay g).crossings = s.crossings := (rfl)
@[simp] theorem State.modBelay_xs (g : Belay → Belay) : (s.modBelay g).xs = s.xs := (rfl)
@[simp] theorem State.modBelay_host (g : Belay → Belay) : (s.modBelay g).host = s.host := (rfl)
@[simp] theorem State.modBelay_pending (g : Belay → Belay) : (s.modBelay g).pending = s.pending := (rfl)
@[simp] theorem State.modBelay_fresh (g : Belay → Belay) : (s.modBelay g).fresh = s.fresh := (rfl)
@[simp] theorem State.modBelay_input_same (g : Belay → Belay) (j : Nat) : (s.modBelay g).input j = s.input j := (rfl)
@[simp] theorem State.modBelay_chan_same (g : Belay → Belay) (j : Nat) : (s.modBelay g).chan j = s.chan j := (rfl)
@[simp] theorem State.modBelay_dpll_same (g : Belay → Belay) (j : Nat) : (s.modBelay g).dpll j = s.dpll j := (rfl)
@[simp] theorem State.modBelay_osc_same (g : Belay → Belay) (j : Nat) : (s.modBelay g).osc j = s.osc j := (rfl)
@[simp] theorem State.modBelay_model_same (g : Belay → Belay) (j : Nat) : (s.modBelay g).model j = s.model j := (rfl)
@[simp] theorem State.modBelay_opll_same (g : Belay → Belay) (j : Nat) : (s.modBelay g).opll j = s.opll j := (rfl)
@[simp] theorem State.modBelay_out_same (g : Belay → Belay) (j : Nat) : (s.modBelay g).out j = s.out j := (rfl)
@[simp] theorem State.modBelay_td_same (g : Belay → Belay) (j : Nat) : (s.modBelay g).td j = s.td j := (rfl)
@[simp] theorem State.modBelay_ev_same (g : Belay → Belay) (j : Nat) : (s.modBelay g).ev j = s.ev j := (rfl)
@[simp] theorem State.modBelay_stitch_same (g : Belay → Belay) (j : Nat) : (s.modBelay g).stitch j = s.stitch j := (rfl)
@[simp] theorem State.modBelay_crossing_same (g : Belay → Belay) (j : Nat) : (s.modBelay g).crossing j = s.crossing j := (rfl)
@[simp] theorem State.modBelay_die_same (g : Belay → Belay) (j : Nat) : (s.modBelay g).die j = s.die j := (rfl)
@[simp] theorem State.modBelay_dx_same (g : Belay → Belay) (j : Nat) : (s.modBelay g).dx j = s.dx j := (rfl)
@[simp] theorem State.modBelay_mbx_same (g : Belay → Belay) (j : Nat) : (s.modBelay g).mbx j = s.mbx j := (rfl)
@[simp] theorem State.modBelay_ring_same (g : Belay → Belay) (j : Nat) : (s.modBelay g).ring j = s.ring j := (rfl)

@[simp] theorem State.modBelay_belay (g : Belay → Belay) : (s.modBelay g).belay = g s.belay := (rfl)

/-! ## `modRing` -/

@[simp] theorem State.modRing_part (n : Nat) (g : Ring → Ring) : (s.modRing n g).part = s.part := (rfl)
@[simp] theorem State.modRing_fused (n : Nat) (g : Ring → Ring) : (s.modRing n g).fused = s.fused := (rfl)
@[simp] theorem State.modRing_tb (n : Nat) (g : Ring → Ring) : (s.modRing n g).tb = s.tb := (rfl)
@[simp] theorem State.modRing_dies (n : Nat) (g : Ring → Ring) : (s.modRing n g).dies = s.dies := (rfl)
@[simp] theorem State.modRing_inputs (n : Nat) (g : Ring → Ring) : (s.modRing n g).inputs = s.inputs := (rfl)
@[simp] theorem State.modRing_chans (n : Nat) (g : Ring → Ring) : (s.modRing n g).chans = s.chans := (rfl)
@[simp] theorem State.modRing_dplls (n : Nat) (g : Ring → Ring) : (s.modRing n g).dplls = s.dplls := (rfl)
@[simp] theorem State.modRing_oscs (n : Nat) (g : Ring → Ring) : (s.modRing n g).oscs = s.oscs := (rfl)
@[simp] theorem State.modRing_models (n : Nat) (g : Ring → Ring) : (s.modRing n g).models = s.models := (rfl)
@[simp] theorem State.modRing_cairn (n : Nat) (g : Ring → Ring) : (s.modRing n g).cairn = s.cairn := (rfl)
@[simp] theorem State.modRing_oplls (n : Nat) (g : Ring → Ring) : (s.modRing n g).oplls = s.oplls := (rfl)
@[simp] theorem State.modRing_outs (n : Nat) (g : Ring → Ring) : (s.modRing n g).outs = s.outs := (rfl)
@[simp] theorem State.modRing_tds (n : Nat) (g : Ring → Ring) : (s.modRing n g).tds = s.tds := (rfl)
@[simp] theorem State.modRing_evs (n : Nat) (g : Ring → Ring) : (s.modRing n g).evs = s.evs := (rfl)
@[simp] theorem State.modRing_stitches (n : Nat) (g : Ring → Ring) : (s.modRing n g).stitches = s.stitches := (rfl)
@[simp] theorem State.modRing_crossings (n : Nat) (g : Ring → Ring) : (s.modRing n g).crossings = s.crossings := (rfl)
@[simp] theorem State.modRing_xs (n : Nat) (g : Ring → Ring) : (s.modRing n g).xs = s.xs := (rfl)
@[simp] theorem State.modRing_belay (n : Nat) (g : Ring → Ring) : (s.modRing n g).belay = s.belay := (rfl)
@[simp] theorem State.modRing_pending (n : Nat) (g : Ring → Ring) : (s.modRing n g).pending = s.pending := (rfl)
@[simp] theorem State.modRing_fresh (n : Nat) (g : Ring → Ring) : (s.modRing n g).fresh = s.fresh := (rfl)
@[simp] theorem State.modRing_input_same (n : Nat) (g : Ring → Ring) (j : Nat) : (s.modRing n g).input j = s.input j := (rfl)
@[simp] theorem State.modRing_chan_same (n : Nat) (g : Ring → Ring) (j : Nat) : (s.modRing n g).chan j = s.chan j := (rfl)
@[simp] theorem State.modRing_dpll_same (n : Nat) (g : Ring → Ring) (j : Nat) : (s.modRing n g).dpll j = s.dpll j := (rfl)
@[simp] theorem State.modRing_osc_same (n : Nat) (g : Ring → Ring) (j : Nat) : (s.modRing n g).osc j = s.osc j := (rfl)
@[simp] theorem State.modRing_model_same (n : Nat) (g : Ring → Ring) (j : Nat) : (s.modRing n g).model j = s.model j := (rfl)
@[simp] theorem State.modRing_opll_same (n : Nat) (g : Ring → Ring) (j : Nat) : (s.modRing n g).opll j = s.opll j := (rfl)
@[simp] theorem State.modRing_out_same (n : Nat) (g : Ring → Ring) (j : Nat) : (s.modRing n g).out j = s.out j := (rfl)
@[simp] theorem State.modRing_td_same (n : Nat) (g : Ring → Ring) (j : Nat) : (s.modRing n g).td j = s.td j := (rfl)
@[simp] theorem State.modRing_ev_same (n : Nat) (g : Ring → Ring) (j : Nat) : (s.modRing n g).ev j = s.ev j := (rfl)
@[simp] theorem State.modRing_stitch_same (n : Nat) (g : Ring → Ring) (j : Nat) : (s.modRing n g).stitch j = s.stitch j := (rfl)
@[simp] theorem State.modRing_crossing_same (n : Nat) (g : Ring → Ring) (j : Nat) : (s.modRing n g).crossing j = s.crossing j := (rfl)
@[simp] theorem State.modRing_die_same (n : Nat) (g : Ring → Ring) (j : Nat) : (s.modRing n g).die j = s.die j := (rfl)
@[simp] theorem State.modRing_dx_same (n : Nat) (g : Ring → Ring) (j : Nat) : (s.modRing n g).dx j = s.dx j := (rfl)

/-! ## `modBoot` -/

@[simp] theorem State.modBoot_part (g : Boot → Boot) : (s.modBoot g).part = s.part := (rfl)
@[simp] theorem State.modBoot_fused (g : Boot → Boot) : (s.modBoot g).fused = s.fused := (rfl)
@[simp] theorem State.modBoot_tb (g : Boot → Boot) : (s.modBoot g).tb = s.tb := (rfl)
@[simp] theorem State.modBoot_dies (g : Boot → Boot) : (s.modBoot g).dies = s.dies := (rfl)
@[simp] theorem State.modBoot_inputs (g : Boot → Boot) : (s.modBoot g).inputs = s.inputs := (rfl)
@[simp] theorem State.modBoot_chans (g : Boot → Boot) : (s.modBoot g).chans = s.chans := (rfl)
@[simp] theorem State.modBoot_dplls (g : Boot → Boot) : (s.modBoot g).dplls = s.dplls := (rfl)
@[simp] theorem State.modBoot_oscs (g : Boot → Boot) : (s.modBoot g).oscs = s.oscs := (rfl)
@[simp] theorem State.modBoot_models (g : Boot → Boot) : (s.modBoot g).models = s.models := (rfl)
@[simp] theorem State.modBoot_cairn (g : Boot → Boot) : (s.modBoot g).cairn = s.cairn := (rfl)
@[simp] theorem State.modBoot_oplls (g : Boot → Boot) : (s.modBoot g).oplls = s.oplls := (rfl)
@[simp] theorem State.modBoot_outs (g : Boot → Boot) : (s.modBoot g).outs = s.outs := (rfl)
@[simp] theorem State.modBoot_tds (g : Boot → Boot) : (s.modBoot g).tds = s.tds := (rfl)
@[simp] theorem State.modBoot_evs (g : Boot → Boot) : (s.modBoot g).evs = s.evs := (rfl)
@[simp] theorem State.modBoot_stitches (g : Boot → Boot) : (s.modBoot g).stitches = s.stitches := (rfl)
@[simp] theorem State.modBoot_crossings (g : Boot → Boot) : (s.modBoot g).crossings = s.crossings := (rfl)
@[simp] theorem State.modBoot_xs (g : Boot → Boot) : (s.modBoot g).xs = s.xs := (rfl)
@[simp] theorem State.modBoot_belay (g : Boot → Boot) : (s.modBoot g).belay = s.belay := (rfl)
@[simp] theorem State.modBoot_pending (g : Boot → Boot) : (s.modBoot g).pending = s.pending := (rfl)
@[simp] theorem State.modBoot_fresh (g : Boot → Boot) : (s.modBoot g).fresh = s.fresh := (rfl)
@[simp] theorem State.modBoot_input_same (g : Boot → Boot) (j : Nat) : (s.modBoot g).input j = s.input j := (rfl)
@[simp] theorem State.modBoot_chan_same (g : Boot → Boot) (j : Nat) : (s.modBoot g).chan j = s.chan j := (rfl)
@[simp] theorem State.modBoot_dpll_same (g : Boot → Boot) (j : Nat) : (s.modBoot g).dpll j = s.dpll j := (rfl)
@[simp] theorem State.modBoot_osc_same (g : Boot → Boot) (j : Nat) : (s.modBoot g).osc j = s.osc j := (rfl)
@[simp] theorem State.modBoot_model_same (g : Boot → Boot) (j : Nat) : (s.modBoot g).model j = s.model j := (rfl)
@[simp] theorem State.modBoot_opll_same (g : Boot → Boot) (j : Nat) : (s.modBoot g).opll j = s.opll j := (rfl)
@[simp] theorem State.modBoot_out_same (g : Boot → Boot) (j : Nat) : (s.modBoot g).out j = s.out j := (rfl)
@[simp] theorem State.modBoot_td_same (g : Boot → Boot) (j : Nat) : (s.modBoot g).td j = s.td j := (rfl)
@[simp] theorem State.modBoot_ev_same (g : Boot → Boot) (j : Nat) : (s.modBoot g).ev j = s.ev j := (rfl)
@[simp] theorem State.modBoot_stitch_same (g : Boot → Boot) (j : Nat) : (s.modBoot g).stitch j = s.stitch j := (rfl)
@[simp] theorem State.modBoot_crossing_same (g : Boot → Boot) (j : Nat) : (s.modBoot g).crossing j = s.crossing j := (rfl)
@[simp] theorem State.modBoot_die_same (g : Boot → Boot) (j : Nat) : (s.modBoot g).die j = s.die j := (rfl)
@[simp] theorem State.modBoot_dx_same (g : Boot → Boot) (j : Nat) : (s.modBoot g).dx j = s.dx j := (rfl)

/-! ## `modAbort` -/

@[simp] theorem State.modAbort_part (g : Abort → Abort) : (s.modAbort g).part = s.part := (rfl)
@[simp] theorem State.modAbort_fused (g : Abort → Abort) : (s.modAbort g).fused = s.fused := (rfl)
@[simp] theorem State.modAbort_tb (g : Abort → Abort) : (s.modAbort g).tb = s.tb := (rfl)
@[simp] theorem State.modAbort_dies (g : Abort → Abort) : (s.modAbort g).dies = s.dies := (rfl)
@[simp] theorem State.modAbort_inputs (g : Abort → Abort) : (s.modAbort g).inputs = s.inputs := (rfl)
@[simp] theorem State.modAbort_chans (g : Abort → Abort) : (s.modAbort g).chans = s.chans := (rfl)
@[simp] theorem State.modAbort_dplls (g : Abort → Abort) : (s.modAbort g).dplls = s.dplls := (rfl)
@[simp] theorem State.modAbort_oscs (g : Abort → Abort) : (s.modAbort g).oscs = s.oscs := (rfl)
@[simp] theorem State.modAbort_models (g : Abort → Abort) : (s.modAbort g).models = s.models := (rfl)
@[simp] theorem State.modAbort_cairn (g : Abort → Abort) : (s.modAbort g).cairn = s.cairn := (rfl)
@[simp] theorem State.modAbort_oplls (g : Abort → Abort) : (s.modAbort g).oplls = s.oplls := (rfl)
@[simp] theorem State.modAbort_outs (g : Abort → Abort) : (s.modAbort g).outs = s.outs := (rfl)
@[simp] theorem State.modAbort_tds (g : Abort → Abort) : (s.modAbort g).tds = s.tds := (rfl)
@[simp] theorem State.modAbort_evs (g : Abort → Abort) : (s.modAbort g).evs = s.evs := (rfl)
@[simp] theorem State.modAbort_stitches (g : Abort → Abort) : (s.modAbort g).stitches = s.stitches := (rfl)
@[simp] theorem State.modAbort_crossings (g : Abort → Abort) : (s.modAbort g).crossings = s.crossings := (rfl)
@[simp] theorem State.modAbort_xs (g : Abort → Abort) : (s.modAbort g).xs = s.xs := (rfl)
@[simp] theorem State.modAbort_belay (g : Abort → Abort) : (s.modAbort g).belay = s.belay := (rfl)
@[simp] theorem State.modAbort_pending (g : Abort → Abort) : (s.modAbort g).pending = s.pending := (rfl)
@[simp] theorem State.modAbort_fresh (g : Abort → Abort) : (s.modAbort g).fresh = s.fresh := (rfl)
@[simp] theorem State.modAbort_input_same (g : Abort → Abort) (j : Nat) : (s.modAbort g).input j = s.input j := (rfl)
@[simp] theorem State.modAbort_chan_same (g : Abort → Abort) (j : Nat) : (s.modAbort g).chan j = s.chan j := (rfl)
@[simp] theorem State.modAbort_dpll_same (g : Abort → Abort) (j : Nat) : (s.modAbort g).dpll j = s.dpll j := (rfl)
@[simp] theorem State.modAbort_osc_same (g : Abort → Abort) (j : Nat) : (s.modAbort g).osc j = s.osc j := (rfl)
@[simp] theorem State.modAbort_model_same (g : Abort → Abort) (j : Nat) : (s.modAbort g).model j = s.model j := (rfl)
@[simp] theorem State.modAbort_opll_same (g : Abort → Abort) (j : Nat) : (s.modAbort g).opll j = s.opll j := (rfl)
@[simp] theorem State.modAbort_out_same (g : Abort → Abort) (j : Nat) : (s.modAbort g).out j = s.out j := (rfl)
@[simp] theorem State.modAbort_td_same (g : Abort → Abort) (j : Nat) : (s.modAbort g).td j = s.td j := (rfl)
@[simp] theorem State.modAbort_ev_same (g : Abort → Abort) (j : Nat) : (s.modAbort g).ev j = s.ev j := (rfl)
@[simp] theorem State.modAbort_stitch_same (g : Abort → Abort) (j : Nat) : (s.modAbort g).stitch j = s.stitch j := (rfl)
@[simp] theorem State.modAbort_crossing_same (g : Abort → Abort) (j : Nat) : (s.modAbort g).crossing j = s.crossing j := (rfl)
@[simp] theorem State.modAbort_die_same (g : Abort → Abort) (j : Nat) : (s.modAbort g).die j = s.die j := (rfl)
@[simp] theorem State.modAbort_dx_same (g : Abort → Abort) (j : Nat) : (s.modAbort g).dx j = s.dx j := (rfl)

/-! ## The flash under updates of the host side -/

@[simp] theorem State.setMbx_flash (n : Nat) (m : Mbx) : (s.setMbx n m).host.flash = s.host.flash := (rfl)
@[simp] theorem State.modMbx_flash (n : Nat) (g : Mbx → Mbx) : (s.modMbx n g).host.flash = s.host.flash := (rfl)
@[simp] theorem State.modRing_flash (n : Nat) (g : Ring → Ring) : (s.modRing n g).host.flash = s.host.flash := (rfl)
@[simp] theorem State.modBoot_flash (g : Boot → Boot) : (s.modBoot g).host.flash = s.host.flash := (rfl)
@[simp] theorem State.modAbort_flash (g : Abort → Abort) : (s.modAbort g).host.flash = s.host.flash := (rfl)

/-! ## `draw` -/

@[simp] theorem State.draw_part : s.draw.2.part = s.part := (rfl)
@[simp] theorem State.draw_fused : s.draw.2.fused = s.fused := (rfl)
@[simp] theorem State.draw_tb : s.draw.2.tb = s.tb := (rfl)
@[simp] theorem State.draw_dies : s.draw.2.dies = s.dies := (rfl)
@[simp] theorem State.draw_inputs : s.draw.2.inputs = s.inputs := (rfl)
@[simp] theorem State.draw_chans : s.draw.2.chans = s.chans := (rfl)
@[simp] theorem State.draw_dplls : s.draw.2.dplls = s.dplls := (rfl)
@[simp] theorem State.draw_oscs : s.draw.2.oscs = s.oscs := (rfl)
@[simp] theorem State.draw_models : s.draw.2.models = s.models := (rfl)
@[simp] theorem State.draw_cairn : s.draw.2.cairn = s.cairn := (rfl)
@[simp] theorem State.draw_oplls : s.draw.2.oplls = s.oplls := (rfl)
@[simp] theorem State.draw_outs : s.draw.2.outs = s.outs := (rfl)
@[simp] theorem State.draw_tds : s.draw.2.tds = s.tds := (rfl)
@[simp] theorem State.draw_evs : s.draw.2.evs = s.evs := (rfl)
@[simp] theorem State.draw_stitches : s.draw.2.stitches = s.stitches := (rfl)
@[simp] theorem State.draw_crossings : s.draw.2.crossings = s.crossings := (rfl)
@[simp] theorem State.draw_xs : s.draw.2.xs = s.xs := (rfl)
@[simp] theorem State.draw_host : s.draw.2.host = s.host := (rfl)
@[simp] theorem State.draw_belay : s.draw.2.belay = s.belay := (rfl)
@[simp] theorem State.draw_pending : s.draw.2.pending = s.pending := (rfl)
@[simp] theorem State.draw_input (j : Nat) : s.draw.2.input j = s.input j := (rfl)
@[simp] theorem State.draw_chan (j : Nat) : s.draw.2.chan j = s.chan j := (rfl)
@[simp] theorem State.draw_dpll (j : Nat) : s.draw.2.dpll j = s.dpll j := (rfl)
@[simp] theorem State.draw_osc (j : Nat) : s.draw.2.osc j = s.osc j := (rfl)
@[simp] theorem State.draw_model (j : Nat) : s.draw.2.model j = s.model j := (rfl)
@[simp] theorem State.draw_opll (j : Nat) : s.draw.2.opll j = s.opll j := (rfl)
@[simp] theorem State.draw_out (j : Nat) : s.draw.2.out j = s.out j := (rfl)
@[simp] theorem State.draw_td (j : Nat) : s.draw.2.td j = s.td j := (rfl)
@[simp] theorem State.draw_ev (j : Nat) : s.draw.2.ev j = s.ev j := (rfl)
@[simp] theorem State.draw_stitch (j : Nat) : s.draw.2.stitch j = s.stitch j := (rfl)
@[simp] theorem State.draw_crossing (j : Nat) : s.draw.2.crossing j = s.crossing j := (rfl)
@[simp] theorem State.draw_die (j : Nat) : s.draw.2.die j = s.die j := (rfl)
@[simp] theorem State.draw_dx (j : Nat) : s.draw.2.dx j = s.dx j := (rfl)
@[simp] theorem State.draw_mbx (j : Nat) : s.draw.2.mbx j = s.mbx j := (rfl)
@[simp] theorem State.draw_ring (j : Nat) : s.draw.2.ring j = s.ring j := (rfl)

end Sys2Proof.Machine
end

