-- ==== Sys2Proof/Laws/After.lean ====
section
/-! SUPPORT. What follows every command (`State.after`): the lemmas say once all it can change, which is the host side's
acknowledges and messages, and the sleep marks of the dies. -/

namespace Sys2Proof.Machine
open Sys2Proof

/-- A loop keeps what each of its rounds keeps. -/
theorem State.forEach_keep {β : Type} (g : State → β) (f : State → Nat → State) (h : ∀ s n, g (f s n) = g s) (ns : List Nat) (s : State) :
    g (s.forEach ns f) = g s := by
  unfold State.forEach
  induction ns generalizing s with
  | nil => rfl
  | cons n ns ih => rw [List.foldl_cons, ih, h]

/-- A loop keeps an invariant that each of its rounds keeps. -/
theorem State.forEach_inv (P : State → Prop) (f : State → Nat → State) (h : ∀ s n, P s → P (f s n)) (ns : List Nat) (s : State) (hs : P s) :
    P (s.forEach ns f) := by
  unfold State.forEach
  induction ns generalizing s with
  | nil => exact hs
  | cons n ns ih => exact ih _ (h s n hs)

/-- A loop of updates of the host side is one update of it. -/
theorem State.forEach_host (f : State → Nat → State) (h : ∀ s n, ∃ x, f s n = { s with host := x }) (ns : List Nat) (s : State) :
    ∃ x, s.forEach ns f = { s with host := x } := by
  refine State.forEach_inv (fun t => ∃ x, t = { s with host := x }) f ?_ ns s ⟨s.host, rfl⟩
  rintro t n ⟨x, rfl⟩
  obtain ⟨y, e⟩ := h { s with host := x } n
  exact ⟨y, e⟩

/-- A loop of updates of the CP and store states is one update of them. -/
theorem State.forEach_xs (f : State → Nat → State) (h : ∀ s n, ∃ x, f s n = { s with xs := x }) (ns : List Nat) (s : State) :
    ∃ x, s.forEach ns f = { s with xs := x } := by
  refine State.forEach_inv (fun t => ∃ x, t = { s with xs := x }) f ?_ ns s ⟨s.xs, rfl⟩
  rintro t n ⟨x, rfl⟩
  obtain ⟨y, e⟩ := h { s with xs := x } n
  exact ⟨y, e⟩

/-! ## Responses and acknowledges change the host side alone: the mailboxes, and the read-only mask that waits for its response -/

/-- A response that goes out changes its mailbox, and brings in the read-only mask that waits for it (R451, R454). -/
theorem State.posted_eq (s : State) (c : Nat) :
    s.posted c = ({ s with host := { s.host with roMask := ((s.mbx c).roDue).getD s.host.roMask } } : State).modMbx c Mbx.maskNow := by
  unfold State.posted
  cases h : (s.mbx c).roDue <;> rfl

theorem State.respond_eq (s : State) (c ret op seq : Nat) (b : List Byte) : ∃ h, s.respond c ret op seq b = { s with host := h } := by
  unfold State.respond
  dsimp only
  split
  · exact ⟨_, rfl⟩
  · rw [State.posted_eq]; exact ⟨_, rfl⟩

theorem State.finish_eq (s : State) (c ret : Nat) (b : List Byte) : ∃ h, s.finish c ret b = { s with host := h } := by
  unfold State.finish
  split
  · split
    · exact State.respond_eq _ _ _ _ _ _
    · exact ⟨s.host, rfl⟩
  · exact ⟨s.host, rfl⟩

theorem State.alignAck_eq (s : State) (c : Nat) : ∃ h, s.alignAck c = { s with host := h } := by
  unfold State.alignAck
  split
  · split
    · exact State.finish_eq _ _ _ _
    · exact ⟨s.host, rfl⟩
  · exact ⟨s.host, rfl⟩

/-- A wake changes the sleep marks of one die. -/
theorem State.wakeDie_asleep (s : State) (d : Nat) : s.wakeDie d = s ∨ ∃ a, s.wakeDie d = s.modDx d fun x => { x with asleep := a } := by
  unfold State.wakeDie
  split
  · exact .inl rfl
  · exact .inr ⟨_, rfl⟩

theorem State.wakeDie_eq (s : State) (d : Nat) : ∃ x, s.wakeDie d = { s with xs := x } := by
  rcases s.wakeDie_asleep d with h | ⟨a, h⟩
  · exact ⟨s.xs, h⟩
  · exact ⟨_, h⟩

theorem State.settle_eq (s : State) : ∃ h, s.settle = { s with host := h } := by
  unfold State.settle
  split
  · exact ⟨_, rfl⟩
  · exact ⟨s.host, rfl⟩

/-- What follows a command changes the host side and the CP and store states of the dies, and nothing else. -/
theorem State.after_eq (s : State) : ∃ h x, s.after = { s with host := h, xs := x } := by
  unfold State.after
  obtain ⟨h1, e1⟩ := s.forEach_host State.alignAck State.alignAck_eq (List.range 8)
  obtain ⟨x, e2⟩ := State.forEach_xs State.wakeDie State.wakeDie_eq (List.range 8) { s with host := h1 }
  obtain ⟨h3, e3⟩ := State.settle_eq { s with host := h1, xs := x }
  exact ⟨h3, x, by rw [e1, e2, e3]⟩

@[simp] theorem State.after_part (s : State) : s.after.part = s.part := by obtain ⟨h, x, e⟩ := s.after_eq; rw [e]
@[simp] theorem State.after_fused (s : State) : s.after.fused = s.fused := by obtain ⟨h, x, e⟩ := s.after_eq; rw [e]
@[simp] theorem State.after_tb (s : State) : s.after.tb = s.tb := by obtain ⟨h, x, e⟩ := s.after_eq; rw [e]
@[simp] theorem State.after_dies (s : State) : s.after.dies = s.dies := by obtain ⟨h, x, e⟩ := s.after_eq; rw [e]
@[simp] theorem State.after_inputs (s : State) : s.after.inputs = s.inputs := by obtain ⟨h, x, e⟩ := s.after_eq; rw [e]
@[simp] theorem State.after_chans (s : State) : s.after.chans = s.chans := by obtain ⟨h, x, e⟩ := s.after_eq; rw [e]
@[simp] theorem State.after_dplls (s : State) : s.after.dplls = s.dplls := by obtain ⟨h, x, e⟩ := s.after_eq; rw [e]
@[simp] theorem State.after_oscs (s : State) : s.after.oscs = s.oscs := by obtain ⟨h, x, e⟩ := s.after_eq; rw [e]
@[simp] theorem State.after_models (s : State) : s.after.models = s.models := by obtain ⟨h, x, e⟩ := s.after_eq; rw [e]
@[simp] theorem State.after_cairn (s : State) : s.after.cairn = s.cairn := by obtain ⟨h, x, e⟩ := s.after_eq; rw [e]
@[simp] theorem State.after_oplls (s : State) : s.after.oplls = s.oplls := by obtain ⟨h, x, e⟩ := s.after_eq; rw [e]
@[simp] theorem State.after_outs (s : State) : s.after.outs = s.outs := by obtain ⟨h, x, e⟩ := s.after_eq; rw [e]
@[simp] theorem State.after_tds (s : State) : s.after.tds = s.tds := by obtain ⟨h, x, e⟩ := s.after_eq; rw [e]
@[simp] theorem State.after_evs (s : State) : s.after.evs = s.evs := by obtain ⟨h, x, e⟩ := s.after_eq; rw [e]
@[simp] theorem State.after_stitches (s : State) : s.after.stitches = s.stitches := by obtain ⟨h, x, e⟩ := s.after_eq; rw [e]
@[simp] theorem State.after_crossings (s : State) : s.after.crossings = s.crossings := by obtain ⟨h, x, e⟩ := s.after_eq; rw [e]
@[simp] theorem State.after_belay (s : State) : s.after.belay = s.belay := by obtain ⟨h, x, e⟩ := s.after_eq; rw [e]
@[simp] theorem State.after_pending (s : State) : s.after.pending = s.pending := by obtain ⟨h, x, e⟩ := s.after_eq; rw [e]
@[simp] theorem State.after_fresh (s : State) : s.after.fresh = s.fresh := by obtain ⟨h, x, e⟩ := s.after_eq; rw [e]
@[simp] theorem State.after_input_same (s : State) (j : Nat) : s.after.input j = s.input j := by unfold State.input; rw [State.after_inputs]
@[simp] theorem State.after_chan_same (s : State) (j : Nat) : s.after.chan j = s.chan j := by unfold State.chan; rw [State.after_chans]
@[simp] theorem State.after_dpll_same (s : State) (j : Nat) : s.after.dpll j = s.dpll j := by unfold State.dpll; rw [State.after_dplls]
@[simp] theorem State.after_osc_same (s : State) (j : Nat) : s.after.osc j = s.osc j := by unfold State.osc; rw [State.after_oscs]
@[simp] theorem State.after_model_same (s : State) (j : Nat) : s.after.model j = s.model j := by unfold State.model; rw [State.after_models]
@[simp] theorem State.after_opll_same (s : State) (j : Nat) : s.after.opll j = s.opll j := by unfold State.opll; rw [State.after_oplls]
@[simp] theorem State.after_out_same (s : State) (j : Nat) : s.after.out j = s.out j := by unfold State.out; rw [State.after_outs]
@[simp] theorem State.after_td_same (s : State) (j : Nat) : s.after.td j = s.td j := by unfold State.td; rw [State.after_tds]
@[simp] theorem State.after_ev_same (s : State) (j : Nat) : s.after.ev j = s.ev j := by unfold State.ev; rw [State.after_evs]
@[simp] theorem State.after_stitch_same (s : State) (j : Nat) : s.after.stitch j = s.stitch j := by unfold State.stitch; rw [State.after_stitches]
@[simp] theorem State.after_crossing_same (s : State) (j : Nat) : s.after.crossing j = s.crossing j := by unfold State.crossing; rw [State.after_crossings]
@[simp] theorem State.after_die_same (s : State) (j : Nat) : s.after.die j = s.die j := by unfold State.die; rw [State.after_dies]

/-- The CP and store state of a die, but for its sleep marks. -/
def DieX.awake (x : DieX) : DieX := { x with asleep := [] }

theorem State.alignAck_xs (s : State) (c : Nat) : (s.alignAck c).xs = s.xs := by
  obtain ⟨h, e⟩ := s.alignAck_eq c; rw [e]

theorem State.settle_xs (s : State) : s.settle.xs = s.xs := by
  obtain ⟨h, e⟩ := s.settle_eq; rw [e]

theorem State.wakeDie_awake (s : State) (d j : Nat) : ((s.wakeDie d).dx j).awake = (s.dx j).awake := by
  rcases s.wakeDie_asleep d with h | ⟨a, h⟩
  · rw [h]
  · rw [h, State.modDx_dx]
    by_cases hj : j = d <;> simp [hj, DieX.awake]

/-- What follows a command changes of a die's CP and store state the sleep marks alone. -/
theorem State.after_awake (s : State) (j : Nat) : (s.after.dx j).awake = (s.dx j).awake := by
  have h1 : ∀ t : State, (t.settle.dx j).awake = (t.dx j).awake := fun t => by unfold State.dx; rw [State.settle_xs]
  have h2 : ∀ (t : State) n, ((t.alignAck n).dx j).awake = (t.dx j).awake := fun t n => by unfold State.dx; rw [State.alignAck_xs]
  unfold State.after
  rw [h1, State.forEach_keep (fun t => (t.dx j).awake) State.wakeDie (fun t n => State.wakeDie_awake t n j),
    State.forEach_keep (fun t => (t.dx j).awake) State.alignAck h2]


theorem DieX.awake_mode (x : DieX) : x.awake.mode = x.mode := rfl
@[simp] theorem State.after_dx_mode (s : State) (j : Nat) : (s.after.dx j).mode = (s.dx j).mode := by
  rw [← DieX.awake_mode, State.after_awake, DieX.awake_mode]
theorem DieX.awake_heartbeat (x : DieX) : x.awake.heartbeat = x.heartbeat := rfl
@[simp] theorem State.after_dx_heartbeat (s : State) (j : Nat) : (s.after.dx j).heartbeat = (s.dx j).heartbeat := by
  rw [← DieX.awake_heartbeat, State.after_awake, DieX.awake_heartbeat]
theorem DieX.awake_rom (x : DieX) : x.awake.rom = x.rom := rfl
@[simp] theorem State.after_dx_rom (s : State) (j : Nat) : (s.after.dx j).rom = (s.dx j).rom := by
  rw [← DieX.awake_rom, State.after_awake, DieX.awake_rom]
theorem DieX.awake_bootedOnce (x : DieX) : x.awake.bootedOnce = x.bootedOnce := rfl
@[simp] theorem State.after_dx_bootedOnce (s : State) (j : Nat) : (s.after.dx j).bootedOnce = (s.dx j).bootedOnce := by
  rw [← DieX.awake_bootedOnce, State.after_awake, DieX.awake_bootedOnce]
theorem DieX.awake_gotImage (x : DieX) : x.awake.gotImage = x.gotImage := rfl
@[simp] theorem State.after_dx_gotImage (s : State) (j : Nat) : (s.after.dx j).gotImage = (s.dx j).gotImage := by
  rw [← DieX.awake_gotImage, State.after_awake, DieX.awake_gotImage]
theorem DieX.awake_fwdQ (x : DieX) : x.awake.fwdQ = x.fwdQ := rfl
@[simp] theorem State.after_dx_fwdQ (s : State) (j : Nat) : (s.after.dx j).fwdQ = (s.dx j).fwdQ := by
  rw [← DieX.awake_fwdQ, State.after_awake, DieX.awake_fwdQ]
theorem DieX.awake_nv (x : DieX) : x.awake.nv = x.nv := rfl
@[simp] theorem State.after_dx_nv (s : State) (j : Nat) : (s.after.dx j).nv = (s.dx j).nv := by
  rw [← DieX.awake_nv, State.after_awake, DieX.awake_nv]
theorem DieX.awake_otp (x : DieX) : x.awake.otp = x.otp := rfl
@[simp] theorem State.after_dx_otp (s : State) (j : Nat) : (s.after.dx j).otp = (s.dx j).otp := by
  rw [← DieX.awake_otp, State.after_awake, DieX.awake_otp]
theorem DieX.awake_plan (x : DieX) : x.awake.plan = x.plan := rfl
@[simp] theorem State.after_dx_plan (s : State) (j : Nat) : (s.after.dx j).plan = (s.dx j).plan := by
  rw [← DieX.awake_plan, State.after_awake, DieX.awake_plan]
theorem DieX.awake_age (x : DieX) : x.awake.age = x.age := rfl
@[simp] theorem State.after_dx_age (s : State) (j : Nat) : (s.after.dx j).age = (s.dx j).age := by
  rw [← DieX.awake_age, State.after_awake, DieX.awake_age]
theorem DieX.awake_staging (x : DieX) : x.awake.staging = x.staging := rfl
@[simp] theorem State.after_dx_staging (s : State) (j : Nat) : (s.after.dx j).staging = (s.dx j).staging := by
  rw [← DieX.awake_staging, State.after_awake, DieX.awake_staging]
theorem DieX.awake_applied (x : DieX) : x.awake.applied = x.applied := rfl
@[simp] theorem State.after_dx_applied (s : State) (j : Nat) : (s.after.dx j).applied = (s.dx j).applied := by
  rw [← DieX.awake_applied, State.after_awake, DieX.awake_applied]
theorem DieX.awake_bad (x : DieX) : x.awake.bad = x.bad := rfl
@[simp] theorem State.after_dx_bad (s : State) (j : Nat) : (s.after.dx j).bad = (s.dx j).bad := by
  rw [← DieX.awake_bad, State.after_awake, DieX.awake_bad]
theorem DieX.awake_parDue (x : DieX) : x.awake.parDue = x.parDue := rfl
@[simp] theorem State.after_dx_parDue (s : State) (j : Nat) : (s.after.dx j).parDue = (s.dx j).parDue := by
  rw [← DieX.awake_parDue, State.after_awake, DieX.awake_parDue]
theorem DieX.awake_parStat (x : DieX) : x.awake.parStat = x.parStat := rfl
@[simp] theorem State.after_dx_parStat (s : State) (j : Nat) : (s.after.dx j).parStat = (s.dx j).parStat := by
  rw [← DieX.awake_parStat, State.after_awake, DieX.awake_parStat]
theorem DieX.awake_parLog (x : DieX) : x.awake.parLog = x.parLog := rfl
@[simp] theorem State.after_dx_parLog (s : State) (j : Nat) : (s.after.dx j).parLog = (s.dx j).parLog := by
  rw [← DieX.awake_parLog, State.after_awake, DieX.awake_parLog]
theorem DieX.awake_parCnt (x : DieX) : x.awake.parCnt = x.parCnt := rfl
@[simp] theorem State.after_dx_parCnt (s : State) (j : Nat) : (s.after.dx j).parCnt = (s.dx j).parCnt := by
  rw [← DieX.awake_parCnt, State.after_awake, DieX.awake_parCnt]
theorem DieX.awake_parIen (x : DieX) : x.awake.parIen = x.parIen := rfl
@[simp] theorem State.after_dx_parIen (s : State) (j : Nat) : (s.after.dx j).parIen = (s.dx j).parIen := by
  rw [← DieX.awake_parIen, State.after_awake, DieX.awake_parIen]

/-! ## What follows a command changes of the host side the mailboxes, the read-only mask and the messages alone -/

/-- The host side, but for its mailboxes, the read-only mask and the messages that leave it. -/
def HostSide.quiet (h : HostSide) : HostSide := { h with mbx := [], roMask := 0, vecOr := 0, pba := 0, msgs := 0, vecAck := 0 }

theorem State.respond_quiet (s : State) (c ret op seq : Nat) (b : List Byte) : (s.respond c ret op seq b).host.quiet = s.host.quiet := by
  unfold State.respond
  dsimp only
  split
  · rfl
  · rw [State.posted_eq]; rfl

theorem State.finish_quiet (s : State) (c ret : Nat) (b : List Byte) : (s.finish c ret b).host.quiet = s.host.quiet := by
  unfold State.finish
  split
  · split
    · exact State.respond_quiet _ _ _ _ _ _
    · rfl
  · rfl

theorem State.alignAck_quiet (s : State) (c : Nat) : (s.alignAck c).host.quiet = s.host.quiet := by
  unfold State.alignAck
  split
  · split
    · exact State.finish_quiet _ _ _ _
    · rfl
  · rfl

theorem HostSide.sendVec_quiet (h : HostSide) (v : Nat) : (h.sendVec v).quiet = h.quiet := by
  unfold HostSide.sendVec
  split
  · rfl
  · split <;> rfl

theorem HostSide.sendVecs_quiet (h : HostSide) (vs : Nat) : (h.sendVecs vs).quiet = h.quiet := by
  unfold HostSide.sendVecs
  generalize List.range 32 = l
  induction l generalizing h with
  | nil => rfl
  | cons v l ih =>
    rw [List.foldl_cons, ih]
    split
    · exact HostSide.sendVec_quiet _ _
    · rfl

theorem State.settle_quiet (s : State) : s.settle.host.quiet = s.host.quiet := by
  unfold State.settle
  split
  · exact HostSide.sendVecs_quiet s.host _
  · rfl

theorem State.wakeDie_host (s : State) (d : Nat) : (s.wakeDie d).host = s.host := by
  unfold State.wakeDie
  split <;> rfl

theorem State.after_quiet (s : State) : s.after.host.quiet = s.host.quiet := by
  unfold State.after
  rw [State.settle_quiet, State.forEach_keep (fun t => t.host.quiet) State.wakeDie (fun t n => by rw [State.wakeDie_host]),
    State.forEach_keep (fun t => t.host.quiet) State.alignAck State.alignAck_quiet]

theorem HostSide.quiet_ports (h : HostSide) : h.quiet.ports = h.ports := rfl
@[simp] theorem State.after_host_ports (s : State) : s.after.host.ports = s.host.ports := by
  rw [← HostSide.quiet_ports, State.after_quiet, HostSide.quiet_ports]
theorem HostSide.quiet_spiAuth (h : HostSide) : h.quiet.spiAuth = h.spiAuth := rfl
@[simp] theorem State.after_host_spiAuth (s : State) : s.after.host.spiAuth = s.host.spiAuth := by
  rw [← HostSide.quiet_spiAuth, State.after_quiet, HostSide.quiet_spiAuth]
theorem HostSide.quiet_i2cAuth (h : HostSide) : h.quiet.i2cAuth = h.i2cAuth := rfl
@[simp] theorem State.after_host_i2cAuth (s : State) : s.after.host.i2cAuth = s.host.i2cAuth := by
  rw [← HostSide.quiet_i2cAuth, State.after_quiet, HostSide.quiet_i2cAuth]
theorem HostSide.quiet_violH (h : HostSide) : h.quiet.violH = h.violH := rfl
@[simp] theorem State.after_host_violH (s : State) : s.after.host.violH = s.host.violH := by
  rw [← HostSide.quiet_violH, State.after_quiet, HostSide.quiet_violH]
theorem HostSide.quiet_hpStat (h : HostSide) : h.quiet.hpStat = h.hpStat := rfl
@[simp] theorem State.after_host_hpStat (s : State) : s.after.host.hpStat = s.host.hpStat := by
  rw [← HostSide.quiet_hpStat, State.after_quiet, HostSide.quiet_hpStat]
theorem HostSide.quiet_hpIen (h : HostSide) : h.quiet.hpIen = h.hpIen := rfl
@[simp] theorem State.after_host_hpIen (s : State) : s.after.host.hpIen = s.host.hpIen := by
  rw [← HostSide.quiet_hpIen, State.after_quiet, HostSide.quiet_hpIen]
theorem HostSide.quiet_slowQ (h : HostSide) : h.quiet.slowQ = h.slowQ := rfl
@[simp] theorem State.after_host_slowQ (s : State) : s.after.host.slowQ = s.host.slowQ := by
  rw [← HostSide.quiet_slowQ, State.after_quiet, HostSide.quiet_slowQ]
theorem HostSide.quiet_spiStatus (h : HostSide) : h.quiet.spiStatus = h.spiStatus := rfl
@[simp] theorem State.after_host_spiStatus (s : State) : s.after.host.spiStatus = s.host.spiStatus := by
  rw [← HostSide.quiet_spiStatus, State.after_quiet, HostSide.quiet_spiStatus]
theorem HostSide.quiet_sem (h : HostSide) : h.quiet.sem = h.sem := rfl
@[simp] theorem State.after_host_sem (s : State) : s.after.host.sem = s.host.sem := by
  rw [← HostSide.quiet_sem, State.after_quiet, HostSide.quiet_sem]
theorem HostSide.quiet_route (h : HostSide) : h.quiet.route = h.route := rfl
@[simp] theorem State.after_host_route (s : State) : s.after.host.route = s.host.route := by
  rw [← HostSide.quiet_route, State.after_quiet, HostSide.quiet_route]
theorem HostSide.quiet_vecMask (h : HostSide) : h.quiet.vecMask = h.vecMask := rfl
@[simp] theorem State.after_host_vecMask (s : State) : s.after.host.vecMask = s.host.vecMask := by
  rw [← HostSide.quiet_vecMask, State.after_quiet, HostSide.quiet_vecMask]
theorem HostSide.quiet_msixTab (h : HostSide) : h.quiet.msixTab = h.msixTab := rfl
@[simp] theorem State.after_host_msixTab (s : State) : s.after.host.msixTab = s.host.msixTab := by
  rw [← HostSide.quiet_msixTab, State.after_quiet, HostSide.quiet_msixTab]
theorem HostSide.quiet_linkUp (h : HostSide) : h.quiet.linkUp = h.linkUp := rfl
@[simp] theorem State.after_host_linkUp (s : State) : s.after.host.linkUp = s.host.linkUp := by
  rw [← HostSide.quiet_linkUp, State.after_quiet, HostSide.quiet_linkUp]
theorem HostSide.quiet_bme (h : HostSide) : h.quiet.bme = h.bme := rfl
@[simp] theorem State.after_host_bme (s : State) : s.after.host.bme = s.host.bme := by
  rw [← HostSide.quiet_bme, State.after_quiet, HostSide.quiet_bme]
theorem HostSide.quiet_msix (h : HostSide) : h.quiet.msix = h.msix := rfl
@[simp] theorem State.after_host_msix (s : State) : s.after.host.msix = s.host.msix := by
  rw [← HostSide.quiet_msix, State.after_quiet, HostSide.quiet_msix]
theorem HostSide.quiet_funcMask (h : HostSide) : h.quiet.funcMask = h.funcMask := rfl
@[simp] theorem State.after_host_funcMask (s : State) : s.after.host.funcMask = s.host.funcMask := by
  rw [← HostSide.quiet_funcMask, State.after_quiet, HostSide.quiet_funcMask]
theorem HostSide.quiet_rings (h : HostSide) : h.quiet.rings = h.rings := rfl
@[simp] theorem State.after_host_rings (s : State) : s.after.host.rings = s.host.rings := by
  rw [← HostSide.quiet_rings, State.after_quiet, HostSide.quiet_rings]
theorem HostSide.quiet_loc (h : HostSide) : h.quiet.loc = h.loc := rfl
@[simp] theorem State.after_host_loc (s : State) : s.after.host.loc = s.host.loc := by
  rw [← HostSide.quiet_loc, State.after_quiet, HostSide.quiet_loc]
theorem HostSide.quiet_sessions (h : HostSide) : h.quiet.sessions = h.sessions := rfl
@[simp] theorem State.after_host_sessions (s : State) : s.after.host.sessions = s.host.sessions := by
  rw [← HostSide.quiet_sessions, State.after_quiet, HostSide.quiet_sessions]
theorem HostSide.quiet_resetReq (h : HostSide) : h.quiet.resetReq = h.resetReq := rfl
@[simp] theorem State.after_host_resetReq (s : State) : s.after.host.resetReq = s.host.resetReq := by
  rw [← HostSide.quiet_resetReq, State.after_quiet, HostSide.quiet_resetReq]
theorem HostSide.quiet_boot (h : HostSide) : h.quiet.boot = h.boot := rfl
@[simp] theorem State.after_host_boot (s : State) : s.after.host.boot = s.host.boot := by
  rw [← HostSide.quiet_boot, State.after_quiet, HostSide.quiet_boot]
theorem HostSide.quiet_abort (h : HostSide) : h.quiet.abort = h.abort := rfl
@[simp] theorem State.after_host_abort (s : State) : s.after.host.abort = s.host.abort := by
  rw [← HostSide.quiet_abort, State.after_quiet, HostSide.quiet_abort]
theorem HostSide.quiet_flash (h : HostSide) : h.quiet.flash = h.flash := rfl
@[simp] theorem State.after_host_flash (s : State) : s.after.host.flash = s.host.flash := by
  rw [← HostSide.quiet_flash, State.after_quiet, HostSide.quiet_flash]
theorem HostSide.quiet_flashOp (h : HostSide) : h.quiet.flashOp = h.flashOp := rfl
@[simp] theorem State.after_host_flashOp (s : State) : s.after.host.flashOp = s.host.flashOp := by
  rw [← HostSide.quiet_flashOp, State.after_quiet, HostSide.quiet_flashOp]
theorem HostSide.quiet_ramLog (h : HostSide) : h.quiet.ramLog = h.ramLog := rfl
@[simp] theorem State.after_host_ramLog (s : State) : s.after.host.ramLog = s.host.ramLog := by
  rw [← HostSide.quiet_ramLog, State.after_quiet, HostSide.quiet_ramLog]
theorem HostSide.quiet_ramSeq (h : HostSide) : h.quiet.ramSeq = h.ramSeq := rfl
@[simp] theorem State.after_host_ramSeq (s : State) : s.after.host.ramSeq = s.host.ramSeq := by
  rw [← HostSide.quiet_ramSeq, State.after_quiet, HostSide.quiet_ramSeq]
theorem HostSide.quiet_nvLog (h : HostSide) : h.quiet.nvLog = h.nvLog := rfl
@[simp] theorem State.after_host_nvLog (s : State) : s.after.host.nvLog = s.host.nvLog := by
  rw [← HostSide.quiet_nvLog, State.after_quiet, HostSide.quiet_nvLog]
theorem HostSide.quiet_nvSeq (h : HostSide) : h.quiet.nvSeq = h.nvSeq := rfl
@[simp] theorem State.after_host_nvSeq (s : State) : s.after.host.nvSeq = s.host.nvSeq := by
  rw [← HostSide.quiet_nvSeq, State.after_quiet, HostSide.quiet_nvSeq]
theorem HostSide.quiet_scan (h : HostSide) : h.quiet.scan = h.scan := rfl
@[simp] theorem State.after_host_scan (s : State) : s.after.host.scan = s.host.scan := by
  rw [← HostSide.quiet_scan, State.after_quiet, HostSide.quiet_scan]
theorem HostSide.quiet_cause (h : HostSide) : h.quiet.cause = h.cause := rfl
@[simp] theorem State.after_host_cause (s : State) : s.after.host.cause = s.host.cause := by
  rw [← HostSide.quiet_cause, State.after_quiet, HostSide.quiet_cause]
@[simp] theorem State.after_ring (s : State) (r : Nat) : s.after.ring r = s.ring r := by
  unfold State.ring
  rw [State.after_host_rings]
@[simp] theorem State.after_port (s : State) (i : Nat) : s.after.port i = s.port i := by
  unfold State.port
  rw [State.after_host_ports]

end Sys2Proof.Machine
end

