-- ==== Sys2Proof/Laws/Keep.lean ====
section
/-! SUPPORT. What the parts of every meaning leave alone: the fused identity of the part, its fused values and the queue of
waiting commands always; the flash, TB_EN and OSC_FREQ wherever the rules give the function no business with them. This file
holds the loops and the shared operations; the files Keep<group> hold one lemma per operation. -/

namespace Sys2Proof.Machine
open Sys2Proof

@[simp] theorem ite_part (c : Prop) [Decidable c] (a b : State) : (if c then a else b).part = if c then a.part else b.part := by split <;> rfl
@[simp] theorem State.forEach_part (s : State) (ns : List Nat) (f : State → Nat → State) (h : ∀ t n, (f t n).part = t.part) :
    (s.forEach ns f).part = s.part := State.forEach_keep (fun t => t.part) f h ns s
@[simp] theorem foldl_part {α : Type} (s : State) (l : List α) (f : State → α → State) (h : ∀ t n, (f t n).part = t.part) :
    (l.foldl f s).part = s.part := by
  induction l generalizing s with
  | nil => rfl
  | cons n ns ih => rw [List.foldl_cons, ih, h]

@[simp] theorem ite_fused (c : Prop) [Decidable c] (a b : State) : (if c then a else b).fused = if c then a.fused else b.fused := by split <;> rfl
@[simp] theorem State.forEach_fused (s : State) (ns : List Nat) (f : State → Nat → State) (h : ∀ t n, (f t n).fused = t.fused) :
    (s.forEach ns f).fused = s.fused := State.forEach_keep (fun t => t.fused) f h ns s
@[simp] theorem foldl_fused {α : Type} (s : State) (l : List α) (f : State → α → State) (h : ∀ t n, (f t n).fused = t.fused) :
    (l.foldl f s).fused = s.fused := by
  induction l generalizing s with
  | nil => rfl
  | cons n ns ih => rw [List.foldl_cons, ih, h]

@[simp] theorem ite_pending (c : Prop) [Decidable c] (a b : State) : (if c then a else b).pending = if c then a.pending else b.pending := by split <;> rfl
@[simp] theorem State.forEach_pending (s : State) (ns : List Nat) (f : State → Nat → State) (h : ∀ t n, (f t n).pending = t.pending) :
    (s.forEach ns f).pending = s.pending := State.forEach_keep (fun t => t.pending) f h ns s
@[simp] theorem foldl_pending {α : Type} (s : State) (l : List α) (f : State → α → State) (h : ∀ t n, (f t n).pending = t.pending) :
    (l.foldl f s).pending = s.pending := by
  induction l generalizing s with
  | nil => rfl
  | cons n ns ih => rw [List.foldl_cons, ih, h]

@[simp] theorem ite_host_flash (c : Prop) [Decidable c] (a b : State) : (if c then a else b).host.flash = if c then a.host.flash else b.host.flash := by split <;> rfl
@[simp] theorem State.forEach_host_flash (s : State) (ns : List Nat) (f : State → Nat → State) (h : ∀ t n, (f t n).host.flash = t.host.flash) :
    (s.forEach ns f).host.flash = s.host.flash := State.forEach_keep (fun t => t.host.flash) f h ns s
@[simp] theorem foldl_host_flash {α : Type} (s : State) (l : List α) (f : State → α → State) (h : ∀ t n, (f t n).host.flash = t.host.flash) :
    (l.foldl f s).host.flash = s.host.flash := by
  induction l generalizing s with
  | nil => rfl
  | cons n ns ih => rw [List.foldl_cons, ih, h]

@[simp] theorem ite_tb_tbEn (c : Prop) [Decidable c] (a b : State) : (if c then a else b).tb.tbEn = if c then a.tb.tbEn else b.tb.tbEn := by split <;> rfl
@[simp] theorem State.forEach_tb_tbEn (s : State) (ns : List Nat) (f : State → Nat → State) (h : ∀ t n, (f t n).tb.tbEn = t.tb.tbEn) :
    (s.forEach ns f).tb.tbEn = s.tb.tbEn := State.forEach_keep (fun t => t.tb.tbEn) f h ns s
@[simp] theorem foldl_tb_tbEn {α : Type} (s : State) (l : List α) (f : State → α → State) (h : ∀ t n, (f t n).tb.tbEn = t.tb.tbEn) :
    (l.foldl f s).tb.tbEn = s.tb.tbEn := by
  induction l generalizing s with
  | nil => rfl
  | cons n ns ih => rw [List.foldl_cons, ih, h]

@[simp] theorem ite_tb_oscFreq (c : Prop) [Decidable c] (a b : State) : (if c then a else b).tb.oscFreq = if c then a.tb.oscFreq else b.tb.oscFreq := by split <;> rfl
@[simp] theorem State.forEach_tb_oscFreq (s : State) (ns : List Nat) (f : State → Nat → State) (h : ∀ t n, (f t n).tb.oscFreq = t.tb.oscFreq) :
    (s.forEach ns f).tb.oscFreq = s.tb.oscFreq := State.forEach_keep (fun t => t.tb.oscFreq) f h ns s
@[simp] theorem foldl_tb_oscFreq {α : Type} (s : State) (l : List α) (f : State → α → State) (h : ∀ t n, (f t n).tb.oscFreq = t.tb.oscFreq) :
    (l.foldl f s).tb.oscFreq = s.tb.oscFreq := by
  induction l generalizing s with
  | nil => rfl
  | cons n ns ih => rw [List.foldl_cons, ih, h]

theorem guarded_keep (s : State) (l : List (Bool × Nat)) (r : Reply) (h : r.s.part = s.part ∧ r.s.fused = s.fused ∧ r.s.pending = s.pending ∧ r.s.host.flash = s.host.flash ∧ r.s.tb.tbEn = s.tb.tbEn ∧ r.s.tb.oscFreq = s.tb.oscFreq) :
    (guarded s l r).s.part = s.part ∧ (guarded s l r).s.fused = s.fused ∧ (guarded s l r).s.pending = s.pending ∧ (guarded s l r).s.host.flash = s.host.flash ∧ (guarded s l r).s.tb.tbEn = s.tb.tbEn ∧ (guarded s l r).s.tb.oscFreq = s.tb.oscFreq := by
  unfold guarded; split <;> simp [h]
theorem guarded_keep3 (s : State) (l : List (Bool × Nat)) (r : Reply) (h : r.s.part = s.part ∧ r.s.fused = s.fused ∧ r.s.pending = s.pending) :
    (guarded s l r).s.part = s.part ∧ (guarded s l r).s.fused = s.fused ∧ (guarded s l r).s.pending = s.pending := by
  unfold guarded; split <;> simp [h]
@[simp] theorem okReply_s (s : State) : (okReply s).s = s := (rfl)
@[simp] theorem okWith_s (b : List Byte) (s : State) : (okWith b s).s = s := (rfl)
@[simp] theorem logRam_flash (h : HostSide) (l : LogEntry) : (h.logRam l).flash = h.flash := by simp only [HostSide.logRam]
@[simp] theorem logNv_flash (h : HostSide) (l : LogEntry) : (h.logNv l).flash = h.flash := by simp only [HostSide.logNv]
@[simp] theorem iteHost_flash (c : Prop) [Decidable c] (a b : HostSide) : (if c then a else b).flash = if c then a.flash else b.flash := by split <;> rfl
@[simp] theorem sendVec_flash (h : HostSide) (v : Nat) : (h.sendVec v).flash = h.flash := by
  unfold HostSide.sendVec
  repeat' split
  all_goals rfl
theorem hostLoop_flash {α : Type} (l : List α) (f : HostSide → α → HostSide) (hf : ∀ h n, (f h n).flash = h.flash) (h : HostSide) :
    (l.foldl f h).flash = h.flash := by
  induction l generalizing h with
  | nil => rfl
  | cons n ns ih => rw [List.foldl_cons, ih, hf]
@[simp] theorem sendVecs_flash (h : HostSide) (v : Nat) : (h.sendVecs v).flash = h.flash :=
  hostLoop_flash _ _ (fun h n => by split <;> simp) h
@[simp] theorem unmask_flash (h : HostSide) : h.unmask.flash = h.flash :=
  hostLoop_flash _ _ (fun h n => by split <;> simp) h

end Sys2Proof.Machine
end

