-- ==== Sys2Proof/Laws/KeepSignal.lean ====
section
/-! SUPPORT. What the operations of the signal path (chapters 02 to 08) leave alone. -/

namespace Sys2Proof.Machine
open Sys2Proof

@[simp] theorem State.modNv_keep (s : State) (a1 : ℕ) (a2 : NvDie → NvDie) :
    (s.modNv a1 a2).part = s.part ∧ (s.modNv a1 a2).fused = s.fused ∧ (s.modNv a1 a2).pending = s.pending ∧ (s.modNv a1 a2).host.flash = s.host.flash ∧ (s.modNv a1 a2).tb.tbEn = s.tb.tbEn ∧ (s.modNv a1 a2).tb.oscFreq = s.tb.oscFreq := by
  unfold State.modNv
  simp

@[simp] theorem inputConfigReply_keep (a0 : ℕ) (a1 : List Byte) (s : State) :
    (inputConfigReply a0 a1 s).s.part = s.part ∧ (inputConfigReply a0 a1 s).s.fused = s.fused ∧ (inputConfigReply a0 a1 s).s.pending = s.pending ∧ (inputConfigReply a0 a1 s).s.host.flash = s.host.flash ∧ (inputConfigReply a0 a1 s).s.tb.tbEn = s.tb.tbEn ∧ (inputConfigReply a0 a1 s).s.tb.oscFreq = s.tb.oscFreq := by
  unfold inputConfigReply
  refine guarded_keep _ _ _ ?_
  simp

@[simp] theorem inputSetMonitorsReply_keep (a0 : ℕ) (a1 : List Byte) (s : State) :
    (inputSetMonitorsReply a0 a1 s).s.part = s.part ∧ (inputSetMonitorsReply a0 a1 s).s.fused = s.fused ∧ (inputSetMonitorsReply a0 a1 s).s.pending = s.pending ∧ (inputSetMonitorsReply a0 a1 s).s.host.flash = s.host.flash ∧ (inputSetMonitorsReply a0 a1 s).s.tb.tbEn = s.tb.tbEn ∧ (inputSetMonitorsReply a0 a1 s).s.tb.oscFreq = s.tb.oscFreq := by
  unfold inputSetMonitorsReply
  refine guarded_keep _ _ _ ?_
  simp

@[simp] theorem inputClearReply_keep (a0 : ℕ) (a1 : List Byte) (s : State) :
    (inputClearReply a0 a1 s).s.part = s.part ∧ (inputClearReply a0 a1 s).s.fused = s.fused ∧ (inputClearReply a0 a1 s).s.pending = s.pending ∧ (inputClearReply a0 a1 s).s.host.flash = s.host.flash ∧ (inputClearReply a0 a1 s).s.tb.tbEn = s.tb.tbEn ∧ (inputClearReply a0 a1 s).s.tb.oscFreq = s.tb.oscFreq := by
  unfold inputClearReply
  refine guarded_keep _ _ _ ?_
  simp

@[simp] theorem tdcGetPicotReply_keep (a0 : ℕ) (a1 : List Byte) (s : State) :
    (tdcGetPicotReply a0 a1 s).s.part = s.part ∧ (tdcGetPicotReply a0 a1 s).s.fused = s.fused ∧ (tdcGetPicotReply a0 a1 s).s.pending = s.pending ∧ (tdcGetPicotReply a0 a1 s).s.host.flash = s.host.flash ∧ (tdcGetPicotReply a0 a1 s).s.tb.tbEn = s.tb.tbEn ∧ (tdcGetPicotReply a0 a1 s).s.tb.oscFreq = s.tb.oscFreq := by
  unfold tdcGetPicotReply
  refine guarded_keep _ _ _ ?_
  simp

@[simp] theorem tdcCoreResetReply_keep (a0 : ℕ) (a1 : List Byte) (s : State) :
    (tdcCoreResetReply a0 a1 s).s.part = s.part ∧ (tdcCoreResetReply a0 a1 s).s.fused = s.fused ∧ (tdcCoreResetReply a0 a1 s).s.pending = s.pending ∧ (tdcCoreResetReply a0 a1 s).s.host.flash = s.host.flash ∧ (tdcCoreResetReply a0 a1 s).s.tb.tbEn = s.tb.tbEn ∧ (tdcCoreResetReply a0 a1 s).s.tb.oscFreq = s.tb.oscFreq := by
  unfold tdcCoreResetReply
  refine guarded_keep _ _ _ ?_
  simp

@[simp] theorem State.portSeconds_keep (s : State) (a1 : ℕ) :
    (s.portSeconds a1).part = s.part ∧ (s.portSeconds a1).fused = s.fused ∧ (s.portSeconds a1).pending = s.pending ∧ (s.portSeconds a1).host.flash = s.host.flash ∧ (s.portSeconds a1).tb.tbEn = s.tb.tbEn ∧ (s.portSeconds a1).tb.oscFreq = s.tb.oscFreq := by
  unfold State.portSeconds
  simp

@[simp] theorem dpllSetHoldoverReply_keep (a0 : ℕ) (a1 : List Byte) (s : State) :
    (dpllSetHoldoverReply a0 a1 s).s.part = s.part ∧ (dpllSetHoldoverReply a0 a1 s).s.fused = s.fused ∧ (dpllSetHoldoverReply a0 a1 s).s.pending = s.pending ∧ (dpllSetHoldoverReply a0 a1 s).s.host.flash = s.host.flash ∧ (dpllSetHoldoverReply a0 a1 s).s.tb.tbEn = s.tb.tbEn ∧ (dpllSetHoldoverReply a0 a1 s).s.tb.oscFreq = s.tb.oscFreq := by
  unfold dpllSetHoldoverReply
  refine guarded_keep _ _ _ ?_
  simp

@[simp] theorem dpllGetHoldoverReply_keep (a0 : ℕ) (a1 : List Byte) (s : State) :
    (dpllGetHoldoverReply a0 a1 s).s.part = s.part ∧ (dpllGetHoldoverReply a0 a1 s).s.fused = s.fused ∧ (dpllGetHoldoverReply a0 a1 s).s.pending = s.pending ∧ (dpllGetHoldoverReply a0 a1 s).s.host.flash = s.host.flash ∧ (dpllGetHoldoverReply a0 a1 s).s.tb.tbEn = s.tb.tbEn ∧ (dpllGetHoldoverReply a0 a1 s).s.tb.oscFreq = s.tb.oscFreq := by
  unfold dpllGetHoldoverReply
  refine guarded_keep _ _ _ ?_
  simp

@[simp] theorem dpllConfigReply_keep (a0 : ℕ) (a1 : List Byte) (s : State) :
    (dpllConfigReply a0 a1 s).s.part = s.part ∧ (dpllConfigReply a0 a1 s).s.fused = s.fused ∧ (dpllConfigReply a0 a1 s).s.pending = s.pending ∧ (dpllConfigReply a0 a1 s).s.host.flash = s.host.flash ∧ (dpllConfigReply a0 a1 s).s.tb.tbEn = s.tb.tbEn ∧ (dpllConfigReply a0 a1 s).s.tb.oscFreq = s.tb.oscFreq := by
  unfold dpllConfigReply
  refine guarded_keep _ _ _ ?_
  simp

@[simp] theorem dpllSetLoopReply_keep (a0 : ℕ) (a1 : List Byte) (s : State) :
    (dpllSetLoopReply a0 a1 s).s.part = s.part ∧ (dpllSetLoopReply a0 a1 s).s.fused = s.fused ∧ (dpllSetLoopReply a0 a1 s).s.pending = s.pending ∧ (dpllSetLoopReply a0 a1 s).s.host.flash = s.host.flash ∧ (dpllSetLoopReply a0 a1 s).s.tb.tbEn = s.tb.tbEn ∧ (dpllSetLoopReply a0 a1 s).s.tb.oscFreq = s.tb.oscFreq := by
  unfold dpllSetLoopReply
  refine guarded_keep _ _ _ ?_
  simp

@[simp] theorem dpllGetLoopReply_keep (a0 : ℕ) (a1 : List Byte) (s : State) :
    (dpllGetLoopReply a0 a1 s).s.part = s.part ∧ (dpllGetLoopReply a0 a1 s).s.fused = s.fused ∧ (dpllGetLoopReply a0 a1 s).s.pending = s.pending ∧ (dpllGetLoopReply a0 a1 s).s.host.flash = s.host.flash ∧ (dpllGetLoopReply a0 a1 s).s.tb.tbEn = s.tb.tbEn ∧ (dpllGetLoopReply a0 a1 s).s.tb.oscFreq = s.tb.oscFreq := by
  unfold dpllGetLoopReply
  refine guarded_keep _ _ _ ?_
  simp

@[simp] theorem dpllSetSteerReply_keep (a0 : ℕ) (a1 : List Byte) (s : State) :
    (dpllSetSteerReply a0 a1 s).s.part = s.part ∧ (dpllSetSteerReply a0 a1 s).s.fused = s.fused ∧ (dpllSetSteerReply a0 a1 s).s.pending = s.pending ∧ (dpllSetSteerReply a0 a1 s).s.host.flash = s.host.flash ∧ (dpllSetSteerReply a0 a1 s).s.tb.tbEn = s.tb.tbEn ∧ (dpllSetSteerReply a0 a1 s).s.tb.oscFreq = s.tb.oscFreq := by
  unfold dpllSetSteerReply
  refine guarded_keep _ _ _ ?_
  simp

@[simp] theorem dpllPhaseAdjustReply_keep (a0 : ℕ) (a1 : List Byte) (s : State) :
    (dpllPhaseAdjustReply a0 a1 s).s.part = s.part ∧ (dpllPhaseAdjustReply a0 a1 s).s.fused = s.fused ∧ (dpllPhaseAdjustReply a0 a1 s).s.pending = s.pending ∧ (dpllPhaseAdjustReply a0 a1 s).s.host.flash = s.host.flash ∧ (dpllPhaseAdjustReply a0 a1 s).s.tb.tbEn = s.tb.tbEn ∧ (dpllPhaseAdjustReply a0 a1 s).s.tb.oscFreq = s.tb.oscFreq := by
  unfold dpllPhaseAdjustReply
  refine guarded_keep _ _ _ ?_
  simp

@[simp] theorem dpllGetStatusReply_keep (a0 : ℕ) (a1 : List Byte) (s : State) :
    (dpllGetStatusReply a0 a1 s).s.part = s.part ∧ (dpllGetStatusReply a0 a1 s).s.fused = s.fused ∧ (dpllGetStatusReply a0 a1 s).s.pending = s.pending ∧ (dpllGetStatusReply a0 a1 s).s.host.flash = s.host.flash ∧ (dpllGetStatusReply a0 a1 s).s.tb.tbEn = s.tb.tbEn ∧ (dpllGetStatusReply a0 a1 s).s.tb.oscFreq = s.tb.oscFreq := by
  unfold dpllGetStatusReply
  refine guarded_keep _ _ _ ?_
  simp

@[simp] theorem State.viewsDown_keep (s : State) (a1 : ℕ) :
    (s.viewsDown a1).part = s.part ∧ (s.viewsDown a1).fused = s.fused ∧ (s.viewsDown a1).pending = s.pending ∧ (s.viewsDown a1).host.flash = s.host.flash ∧ (s.viewsDown a1).tb.tbEn = s.tb.tbEn ∧ (s.viewsDown a1).tb.oscFreq = s.tb.oscFreq := by
  unfold State.viewsDown
  simp

@[simp] theorem State.trigger_keep (s : State) (a1 : ℕ) (a2 : ℕ) (a3 : List Word) :
    (s.trigger a1 a2 a3).part = s.part ∧ (s.trigger a1 a2 a3).fused = s.fused ∧ (s.trigger a1 a2 a3).pending = s.pending ∧ (s.trigger a1 a2 a3).host.flash = s.host.flash ∧ (s.trigger a1 a2 a3).tb.tbEn = s.tb.tbEn ∧ (s.trigger a1 a2 a3).tb.oscFreq = s.tb.oscFreq := by
  unfold State.trigger
  simp

@[simp] theorem State.selTick_keep (s : State) (a1 : ℕ) (a2 : ℕ) :
    (s.selTick a1 a2).part = s.part ∧ (s.selTick a1 a2).fused = s.fused ∧ (s.selTick a1 a2).pending = s.pending ∧ (s.selTick a1 a2).host.flash = s.host.flash ∧ (s.selTick a1 a2).tb.tbEn = s.tb.tbEn ∧ (s.selTick a1 a2).tb.oscFreq = s.tb.oscFreq := by
  unfold State.selTick
  simp

@[simp] theorem State.selDecide_keep (s : State) (a1 : ℕ) (a2 : ℕ) :
    (s.selDecide a1 a2).part = s.part ∧ (s.selDecide a1 a2).fused = s.fused ∧ (s.selDecide a1 a2).pending = s.pending ∧ (s.selDecide a1 a2).host.flash = s.host.flash ∧ (s.selDecide a1 a2).tb.tbEn = s.tb.tbEn ∧ (s.selDecide a1 a2).tb.oscFreq = s.tb.oscFreq := by
  unfold State.selDecide
  simp

@[simp] theorem State.selChange_keep (s : State) (a1 : ℕ) (a2 : ℕ) :
    (s.selChange a1 a2).part = s.part ∧ (s.selChange a1 a2).fused = s.fused ∧ (s.selChange a1 a2).pending = s.pending ∧ (s.selChange a1 a2).host.flash = s.host.flash ∧ (s.selChange a1 a2).tb.tbEn = s.tb.tbEn ∧ (s.selChange a1 a2).tb.oscFreq = s.tb.oscFreq := by
  unfold State.selChange
  simp

@[simp] theorem State.dpllTick_keep (s : State) (a1 : ℕ) (a2 : ℕ) :
    (s.dpllTick a1 a2).part = s.part ∧ (s.dpllTick a1 a2).fused = s.fused ∧ (s.dpllTick a1 a2).pending = s.pending ∧ (s.dpllTick a1 a2).host.flash = s.host.flash ∧ (s.dpllTick a1 a2).tb.tbEn = s.tb.tbEn ∧ (s.dpllTick a1 a2).tb.oscFreq = s.tb.oscFreq := by
  unfold State.dpllTick
  simp

@[simp] theorem dpllSetCandidatesReply_keep (a0 : ℕ) (a1 : List Byte) (s : State) :
    (dpllSetCandidatesReply a0 a1 s).s.part = s.part ∧ (dpllSetCandidatesReply a0 a1 s).s.fused = s.fused ∧ (dpllSetCandidatesReply a0 a1 s).s.pending = s.pending ∧ (dpllSetCandidatesReply a0 a1 s).s.host.flash = s.host.flash ∧ (dpllSetCandidatesReply a0 a1 s).s.tb.tbEn = s.tb.tbEn ∧ (dpllSetCandidatesReply a0 a1 s).s.tb.oscFreq = s.tb.oscFreq := by
  unfold dpllSetCandidatesReply
  refine guarded_keep _ _ _ ?_
  simp

@[simp] theorem dpllSetSelectionReply_keep (a0 : ℕ) (a1 : List Byte) (s : State) :
    (dpllSetSelectionReply a0 a1 s).s.part = s.part ∧ (dpllSetSelectionReply a0 a1 s).s.fused = s.fused ∧ (dpllSetSelectionReply a0 a1 s).s.pending = s.pending ∧ (dpllSetSelectionReply a0 a1 s).s.host.flash = s.host.flash ∧ (dpllSetSelectionReply a0 a1 s).s.tb.tbEn = s.tb.tbEn ∧ (dpllSetSelectionReply a0 a1 s).s.tb.oscFreq = s.tb.oscFreq := by
  unfold dpllSetSelectionReply
  refine guarded_keep _ _ _ ?_
  simp

@[simp] theorem dpllGetCandidatesReply_keep (a0 : ℕ) (a1 : List Byte) (s : State) :
    (dpllGetCandidatesReply a0 a1 s).s.part = s.part ∧ (dpllGetCandidatesReply a0 a1 s).s.fused = s.fused ∧ (dpllGetCandidatesReply a0 a1 s).s.pending = s.pending ∧ (dpllGetCandidatesReply a0 a1 s).s.host.flash = s.host.flash ∧ (dpllGetCandidatesReply a0 a1 s).s.tb.tbEn = s.tb.tbEn ∧ (dpllGetCandidatesReply a0 a1 s).s.tb.oscFreq = s.tb.oscFreq := by
  unfold dpllGetCandidatesReply
  refine guarded_keep _ _ _ ?_
  simp

@[simp] theorem dpllGetSwitchLogReply_keep (a0 : ℕ) (a1 : List Byte) (s : State) :
    (dpllGetSwitchLogReply a0 a1 s).s.part = s.part ∧ (dpllGetSwitchLogReply a0 a1 s).s.fused = s.fused ∧ (dpllGetSwitchLogReply a0 a1 s).s.pending = s.pending ∧ (dpllGetSwitchLogReply a0 a1 s).s.host.flash = s.host.flash ∧ (dpllGetSwitchLogReply a0 a1 s).s.tb.tbEn = s.tb.tbEn ∧ (dpllGetSwitchLogReply a0 a1 s).s.tb.oscFreq = s.tb.oscFreq := by
  unfold dpllGetSwitchLogReply
  refine guarded_keep _ _ _ ?_
  simp

@[simp] theorem State.putOut_keep (s : State) (a1 : ℕ) (a2 : OutUnit) :
    (s.putOut a1 a2).part = s.part ∧ (s.putOut a1 a2).fused = s.fused ∧ (s.putOut a1 a2).pending = s.pending ∧ (s.putOut a1 a2).host.flash = s.host.flash ∧ (s.putOut a1 a2).tb.tbEn = s.tb.tbEn ∧ (s.putOut a1 a2).tb.oscFreq = s.tb.oscFreq := by
  unfold State.putOut
  simp

@[simp] theorem State.tryStart_keep (s : State) (a1 : ℕ) :
    (s.tryStart a1).part = s.part ∧ (s.tryStart a1).fused = s.fused ∧ (s.tryStart a1).pending = s.pending ∧ (s.tryStart a1).host.flash = s.host.flash ∧ (s.tryStart a1).tb.tbEn = s.tb.tbEn ∧ (s.tryStart a1).tb.oscFreq = s.tb.oscFreq := by
  unfold State.tryStart
  simp

@[simp] theorem State.stopOut_keep (s : State) (a1 : ℕ) (a2 : Bool) :
    (s.stopOut a1 a2).part = s.part ∧ (s.stopOut a1 a2).fused = s.fused ∧ (s.stopOut a1 a2).pending = s.pending ∧ (s.stopOut a1 a2).host.flash = s.host.flash ∧ (s.stopOut a1 a2).tb.tbEn = s.tb.tbEn ∧ (s.stopOut a1 a2).tb.oscFreq = s.tb.oscFreq := by
  unfold State.stopOut
  dsimp only
  repeat' split
  all_goals simp

@[simp] theorem State.bypassLost_keep (s : State) (a1 : ℕ) :
    (s.bypassLost a1).part = s.part ∧ (s.bypassLost a1).fused = s.fused ∧ (s.bypassLost a1).pending = s.pending ∧ (s.bypassLost a1).host.flash = s.host.flash ∧ (s.bypassLost a1).tb.tbEn = s.tb.tbEn ∧ (s.bypassLost a1).tb.oscFreq = s.tb.oscFreq := by
  unfold State.bypassLost
  simp

@[simp] theorem State.bypassCheck_keep (s : State) (a1 : ℕ) :
    (s.bypassCheck a1).part = s.part ∧ (s.bypassCheck a1).fused = s.fused ∧ (s.bypassCheck a1).pending = s.pending ∧ (s.bypassCheck a1).host.flash = s.host.flash ∧ (s.bypassCheck a1).tb.tbEn = s.tb.tbEn ∧ (s.bypassCheck a1).tb.oscFreq = s.tb.oscFreq := by
  unfold State.bypassCheck
  simp

@[simp] theorem State.toClock_keep (s : State) (a1 : ℕ) (a2 : Bool) :
    (s.toClock a1 a2).part = s.part ∧ (s.toClock a1 a2).fused = s.fused ∧ (s.toClock a1 a2).pending = s.pending ∧ (s.toClock a1 a2).host.flash = s.host.flash ∧ (s.toClock a1 a2).tb.tbEn = s.tb.tbEn ∧ (s.toClock a1 a2).tb.oscFreq = s.tb.oscFreq := by
  unfold State.toClock
  simp

@[simp] theorem State.outFault_keep (s : State) (a1 : ℕ) :
    (s.outFault a1).1.part = s.part ∧ (s.outFault a1).1.fused = s.fused ∧ (s.outFault a1).1.pending = s.pending ∧ (s.outFault a1).1.host.flash = s.host.flash ∧ (s.outFault a1).1.tb.tbEn = s.tb.tbEn ∧ (s.outFault a1).1.tb.oscFreq = s.tb.oscFreq := by
  unfold State.outFault
  dsimp only
  repeat' split
  all_goals simp

@[simp] theorem State.quiesceEnd_keep (s : State) (a1 : ℕ) :
    (s.quiesceEnd a1).part = s.part ∧ (s.quiesceEnd a1).fused = s.fused ∧ (s.quiesceEnd a1).pending = s.pending ∧ (s.quiesceEnd a1).host.flash = s.host.flash ∧ (s.quiesceEnd a1).tb.tbEn = s.tb.tbEn ∧ (s.quiesceEnd a1).tb.oscFreq = s.tb.oscFreq := by
  unfold State.quiesceEnd
  simp

@[simp] theorem State.toQuiesce_keep (s : State) (a1 : ℕ) (a2 : Bool) :
    (s.toQuiesce a1 a2).part = s.part ∧ (s.toQuiesce a1 a2).fused = s.fused ∧ (s.toQuiesce a1 a2).pending = s.pending ∧ (s.toQuiesce a1 a2).host.flash = s.host.flash ∧ (s.toQuiesce a1 a2).tb.tbEn = s.tb.tbEn ∧ (s.toQuiesce a1 a2).tb.oscFreq = s.tb.oscFreq := by
  unfold State.toQuiesce
  simp

@[simp] theorem State.fbFaultOf_keep (s : State) (a1 : ℕ) :
    (s.fbFaultOf a1).part = s.part ∧ (s.fbFaultOf a1).fused = s.fused ∧ (s.fbFaultOf a1).pending = s.pending ∧ (s.fbFaultOf a1).host.flash = s.host.flash ∧ (s.fbFaultOf a1).tb.tbEn = s.tb.tbEn ∧ (s.fbFaultOf a1).tb.oscFreq = s.tb.oscFreq := by
  unfold State.fbFaultOf
  split <;> simp

@[simp] theorem State.opllFault_keep (s : State) (a1 : ℕ) (a2 : ℕ) (a3 : ℕ) (a4 : Bool) (a5 : Bool) :
    (s.opllFault a1 a2 a3 a4 a5).part = s.part ∧ (s.opllFault a1 a2 a3 a4 a5).fused = s.fused ∧ (s.opllFault a1 a2 a3 a4 a5).pending = s.pending ∧ (s.opllFault a1 a2 a3 a4 a5).host.flash = s.host.flash ∧ (s.opllFault a1 a2 a3 a4 a5).tb.tbEn = s.tb.tbEn ∧ (s.opllFault a1 a2 a3 a4 a5).tb.oscFreq = s.tb.oscFreq := by
  have h : ∀ (l : List Nat) (a : State × Bool), ((l.foldl (fun (a : State × Bool) m => ((a.1.outFault m).1, a.2 || (a.1.outFault m).2)) a).1).part = (a.1).part ∧ ((l.foldl (fun (a : State × Bool) m => ((a.1.outFault m).1, a.2 || (a.1.outFault m).2)) a).1).fused = (a.1).fused ∧ ((l.foldl (fun (a : State × Bool) m => ((a.1.outFault m).1, a.2 || (a.1.outFault m).2)) a).1).pending = (a.1).pending ∧ ((l.foldl (fun (a : State × Bool) m => ((a.1.outFault m).1, a.2 || (a.1.outFault m).2)) a).1).host.flash = (a.1).host.flash ∧ ((l.foldl (fun (a : State × Bool) m => ((a.1.outFault m).1, a.2 || (a.1.outFault m).2)) a).1).tb.tbEn = (a.1).tb.tbEn ∧ ((l.foldl (fun (a : State × Bool) m => ((a.1.outFault m).1, a.2 || (a.1.outFault m).2)) a).1).tb.oscFreq = (a.1).tb.oscFreq := by
    intro l
    induction l with
    | nil => intro a; simp
    | cons m l ih => intro a; rw [List.foldl_cons]; simp [ih]
  unfold State.opllFault
  dsimp only
  repeat' split
  all_goals simp [h]

@[simp] theorem State.opllOn_keep (s : State) (a1 : ℕ) :
    (s.opllOn a1).part = s.part ∧ (s.opllOn a1).fused = s.fused ∧ (s.opllOn a1).pending = s.pending ∧ (s.opllOn a1).host.flash = s.host.flash ∧ (s.opllOn a1).tb.tbEn = s.tb.tbEn ∧ (s.opllOn a1).tb.oscFreq = s.tb.oscFreq := by
  unfold State.opllOn
  simp

@[simp] theorem State.opllOff_keep (s : State) (a1 : ℕ) :
    (s.opllOff a1).part = s.part ∧ (s.opllOff a1).fused = s.fused ∧ (s.opllOff a1).pending = s.pending ∧ (s.opllOff a1).host.flash = s.host.flash ∧ (s.opllOff a1).tb.tbEn = s.tb.tbEn ∧ (s.opllOff a1).tb.oscFreq = s.tb.oscFreq := by
  unfold State.opllOff
  simp

@[simp] theorem State.writeOpllCtrl_keep (s : State) (a1 : ℕ) (a2 : Word) :
    (s.writeOpllCtrl a1 a2).part = s.part ∧ (s.writeOpllCtrl a1 a2).fused = s.fused ∧ (s.writeOpllCtrl a1 a2).pending = s.pending ∧ (s.writeOpllCtrl a1 a2).host.flash = s.host.flash ∧ (s.writeOpllCtrl a1 a2).tb.tbEn = s.tb.tbEn ∧ (s.writeOpllCtrl a1 a2).tb.oscFreq = s.tb.oscFreq := by
  unfold State.writeOpllCtrl
  simp

@[simp] theorem State.opllLocked_keep (s : State) (a1 : ℕ) :
    (s.opllLocked a1).part = s.part ∧ (s.opllLocked a1).fused = s.fused ∧ (s.opllLocked a1).pending = s.pending ∧ (s.opllLocked a1).host.flash = s.host.flash ∧ (s.opllLocked a1).tb.tbEn = s.tb.tbEn ∧ (s.opllLocked a1).tb.oscFreq = s.tb.oscFreq := by
  unfold State.opllLocked
  simp

@[simp] theorem State.setDelay_keep (s : State) (a1 : ℕ) (a2 : ℚ) :
    (s.setDelay a1 a2).part = s.part ∧ (s.setDelay a1 a2).fused = s.fused ∧ (s.setDelay a1 a2).pending = s.pending ∧ (s.setDelay a1 a2).host.flash = s.host.flash ∧ (s.setDelay a1 a2).tb.tbEn = s.tb.tbEn ∧ (s.setDelay a1 a2).tb.oscFreq = s.tb.oscFreq := by
  unfold State.setDelay
  simp

@[simp] theorem State.setCorr_keep (s : State) (a1 : List (ℕ × Option ℤ)) :
    (s.setCorr a1).part = s.part ∧ (s.setCorr a1).fused = s.fused ∧ (s.setCorr a1).pending = s.pending ∧ (s.setCorr a1).host.flash = s.host.flash ∧ (s.setCorr a1).tb.tbEn = s.tb.tbEn ∧ (s.setCorr a1).tb.oscFreq = s.tb.oscFreq := by
  unfold State.setCorr
  simp (disch := (intros; (repeat' split) <;> simp))

@[simp] theorem State.alignEnd_keep (s : State) (a1 : ℕ) :
    (s.alignEnd a1).part = s.part ∧ (s.alignEnd a1).fused = s.fused ∧ (s.alignEnd a1).pending = s.pending ∧ (s.alignEnd a1).host.flash = s.host.flash ∧ (s.alignEnd a1).tb.tbEn = s.tb.tbEn ∧ (s.alignEnd a1).tb.oscFreq = s.tb.oscFreq := by
  unfold State.alignEnd
  split <;> simp

@[simp] theorem State.startAlign_keep (s : State) (a1 : ℕ) (a2 : List ℕ) (a3 : Option ℕ) :
    (s.startAlign a1 a2 a3).part = s.part ∧ (s.startAlign a1 a2 a3).fused = s.fused ∧ (s.startAlign a1 a2 a3).pending = s.pending ∧ (s.startAlign a1 a2 a3).host.flash = s.host.flash ∧ (s.startAlign a1 a2 a3).tb.tbEn = s.tb.tbEn ∧ (s.startAlign a1 a2 a3).tb.oscFreq = s.tb.oscFreq := by
  unfold State.startAlign
  split <;> simp

@[simp] theorem State.toAligning_keep (s : State) (a1 : ℕ) :
    (s.toAligning a1).part = s.part ∧ (s.toAligning a1).fused = s.fused ∧ (s.toAligning a1).pending = s.pending ∧ (s.toAligning a1).host.flash = s.host.flash ∧ (s.toAligning a1).tb.tbEn = s.tb.tbEn ∧ (s.toAligning a1).tb.oscFreq = s.tb.oscFreq := by
  unfold State.toAligning
  dsimp only
  repeat' split
  all_goals simp

@[simp] theorem State.opllGate_keep (s : State) (a1 : ℕ) (a2 : ℕ) (a3 : Bool) :
    (s.opllGate a1 a2 a3).part = s.part ∧ (s.opllGate a1 a2 a3).fused = s.fused ∧ (s.opllGate a1 a2 a3).pending = s.pending ∧ (s.opllGate a1 a2 a3).host.flash = s.host.flash ∧ (s.opllGate a1 a2 a3).tb.tbEn = s.tb.tbEn ∧ (s.opllGate a1 a2 a3).tb.oscFreq = s.tb.oscFreq := by
  unfold State.opllGate
  dsimp only
  repeat' split
  all_goals simp

@[simp] theorem State.bandDone_keep (s : State) (a1 : ℕ) (a2 : ℕ) (a3 : ℕ) (a4 : ℕ) :
    (s.bandDone a1 a2 a3 a4).part = s.part ∧ (s.bandDone a1 a2 a3 a4).fused = s.fused ∧ (s.bandDone a1 a2 a3 a4).pending = s.pending ∧ (s.bandDone a1 a2 a3 a4).host.flash = s.host.flash ∧ (s.bandDone a1 a2 a3 a4).tb.tbEn = s.tb.tbEn ∧ (s.bandDone a1 a2 a3 a4).tb.oscFreq = s.tb.oscFreq := by
  unfold State.bandDone
  simp

@[simp] theorem State.alignSlot_keep (s : State) (a1 : ℕ) (a2 : Bool) (a3 : ℤ) :
    (s.alignSlot a1 a2 a3).part = s.part ∧ (s.alignSlot a1 a2 a3).fused = s.fused ∧ (s.alignSlot a1 a2 a3).pending = s.pending ∧ (s.alignSlot a1 a2 a3).host.flash = s.host.flash ∧ (s.alignSlot a1 a2 a3).tb.tbEn = s.tb.tbEn ∧ (s.alignSlot a1 a2 a3).tb.oscFreq = s.tb.oscFreq := by
  unfold State.alignSlot
  dsimp only
  repeat' split
  all_goals first | simp | (simp (disch := (intros; (repeat' split) <;> simp)))

@[simp] theorem State.fbReconf_keep (s : State) (a1 : ℕ) :
    (s.fbReconf a1).part = s.part ∧ (s.fbReconf a1).fused = s.fused ∧ (s.fbReconf a1).pending = s.pending ∧ (s.fbReconf a1).host.flash = s.host.flash ∧ (s.fbReconf a1).tb.tbEn = s.tb.tbEn ∧ (s.fbReconf a1).tb.oscFreq = s.tb.oscFreq := by
  unfold State.fbReconf
  simp

@[simp] theorem State.joinAlign_keep (s : State) (a1 : ℕ) :
    (s.joinAlign a1).part = s.part ∧ (s.joinAlign a1).fused = s.fused ∧ (s.joinAlign a1).pending = s.pending ∧ (s.joinAlign a1).host.flash = s.host.flash ∧ (s.joinAlign a1).tb.tbEn = s.tb.tbEn ∧ (s.joinAlign a1).tb.oscFreq = s.tb.oscFreq := by
  unfold State.joinAlign
  simp

@[simp] theorem State.outOn_keep (s : State) (a1 : ℕ) :
    (s.outOn a1).part = s.part ∧ (s.outOn a1).fused = s.fused ∧ (s.outOn a1).pending = s.pending ∧ (s.outOn a1).host.flash = s.host.flash ∧ (s.outOn a1).tb.tbEn = s.tb.tbEn ∧ (s.outOn a1).tb.oscFreq = s.tb.oscFreq := by
  unfold State.outOn
  simp

@[simp] theorem State.outOff_keep (s : State) (a1 : ℕ) :
    (s.outOff a1).part = s.part ∧ (s.outOff a1).fused = s.fused ∧ (s.outOff a1).pending = s.pending ∧ (s.outOff a1).host.flash = s.host.flash ∧ (s.outOff a1).tb.tbEn = s.tb.tbEn ∧ (s.outOff a1).tb.oscFreq = s.tb.oscFreq := by
  unfold State.outOff
  dsimp only
  repeat' split
  all_goals simp

@[simp] theorem State.outRun_keep (s : State) (a1 : ℕ) (a2 : Bool) (a3 : Bool) :
    (s.outRun a1 a2 a3).part = s.part ∧ (s.outRun a1 a2 a3).fused = s.fused ∧ (s.outRun a1 a2 a3).pending = s.pending ∧ (s.outRun a1 a2 a3).host.flash = s.host.flash ∧ (s.outRun a1 a2 a3).tb.tbEn = s.tb.tbEn ∧ (s.outRun a1 a2 a3).tb.oscFreq = s.tb.oscFreq := by
  unfold State.outRun
  simp

@[simp] theorem State.writeOutCtrl_keep (s : State) (a1 : ℕ) (a2 : Word) (a3 : Bool) :
    (s.writeOutCtrl a1 a2 a3).part = s.part ∧ (s.writeOutCtrl a1 a2 a3).fused = s.fused ∧ (s.writeOutCtrl a1 a2 a3).pending = s.pending ∧ (s.writeOutCtrl a1 a2 a3).host.flash = s.host.flash ∧ (s.writeOutCtrl a1 a2 a3).tb.tbEn = s.tb.tbEn ∧ (s.writeOutCtrl a1 a2 a3).tb.oscFreq = s.tb.oscFreq := by
  unfold State.writeOutCtrl
  simp

@[simp] theorem State.applyPhase_keep (s : State) (a1 : ℕ) :
    (s.applyPhase a1).part = s.part ∧ (s.applyPhase a1).fused = s.fused ∧ (s.applyPhase a1).pending = s.pending ∧ (s.applyPhase a1).host.flash = s.host.flash ∧ (s.applyPhase a1).tb.tbEn = s.tb.tbEn ∧ (s.applyPhase a1).tb.oscFreq = s.tb.oscFreq := by
  unfold State.applyPhase
  simp

@[simp] theorem State.phaseWritten_keep (s : State) (a1 : ℕ) :
    (s.phaseWritten a1).part = s.part ∧ (s.phaseWritten a1).fused = s.fused ∧ (s.phaseWritten a1).pending = s.pending ∧ (s.phaseWritten a1).host.flash = s.host.flash ∧ (s.phaseWritten a1).tb.tbEn = s.tb.tbEn ∧ (s.phaseWritten a1).tb.oscFreq = s.tb.oscFreq := by
  unfold State.phaseWritten
  simp

@[simp] theorem State.phaseNow_keep (s : State) (a1 : ℕ) (a2 : ℕ) :
    (s.phaseNow a1 a2).part = s.part ∧ (s.phaseNow a1 a2).fused = s.fused ∧ (s.phaseNow a1 a2).pending = s.pending ∧ (s.phaseNow a1 a2).host.flash = s.host.flash ∧ (s.phaseNow a1 a2).tb.tbEn = s.tb.tbEn ∧ (s.phaseNow a1 a2).tb.oscFreq = s.tb.oscFreq := by
  unfold State.phaseNow
  simp

@[simp] theorem State.writePhase_keep (s : State) (a1 : ℕ) (a2 : ℕ) (a3 : Word) :
    (s.writePhase a1 a2 a3).part = s.part ∧ (s.writePhase a1 a2 a3).fused = s.fused ∧ (s.writePhase a1 a2 a3).pending = s.pending ∧ (s.writePhase a1 a2 a3).host.flash = s.host.flash ∧ (s.writePhase a1 a2 a3).tb.tbEn = s.tb.tbEn ∧ (s.writePhase a1 a2 a3).tb.oscFreq = s.tb.oscFreq := by
  unfold State.writePhase
  simp

@[simp] theorem State.firstEdge_keep (s : State) (a1 : ℕ) :
    (s.firstEdge a1).part = s.part ∧ (s.firstEdge a1).fused = s.fused ∧ (s.firstEdge a1).pending = s.pending ∧ (s.firstEdge a1).host.flash = s.host.flash ∧ (s.firstEdge a1).tb.tbEn = s.tb.tbEn ∧ (s.firstEdge a1).tb.oscFreq = s.tb.oscFreq := by
  unfold State.firstEdge
  simp

@[simp] theorem State.stopLevel_keep (s : State) (a1 : ℕ) :
    (s.stopLevel a1).part = s.part ∧ (s.stopLevel a1).fused = s.fused ∧ (s.stopLevel a1).pending = s.pending ∧ (s.stopLevel a1).host.flash = s.host.flash ∧ (s.stopLevel a1).tb.tbEn = s.tb.tbEn ∧ (s.stopLevel a1).tb.oscFreq = s.tb.oscFreq := by
  unfold State.stopLevel
  simp

@[simp] theorem State.startDue_keep (s : State) (a1 : ℕ) (a2 : ℕ) :
    (s.startDue a1 a2).part = s.part ∧ (s.startDue a1 a2).fused = s.fused ∧ (s.startDue a1 a2).pending = s.pending ∧ (s.startDue a1 a2).host.flash = s.host.flash ∧ (s.startDue a1 a2).tb.tbEn = s.tb.tbEn ∧ (s.startDue a1 a2).tb.oscFreq = s.tb.oscFreq := by
  unfold State.startDue
  split <;> simp

@[simp] theorem opllConfigReply_keep (a0 : ℕ) (a1 : List Byte) (s : State) :
    (opllConfigReply a0 a1 s).s.part = s.part ∧ (opllConfigReply a0 a1 s).s.fused = s.fused ∧ (opllConfigReply a0 a1 s).s.pending = s.pending ∧ (opllConfigReply a0 a1 s).s.host.flash = s.host.flash ∧ (opllConfigReply a0 a1 s).s.tb.tbEn = s.tb.tbEn ∧ (opllConfigReply a0 a1 s).s.tb.oscFreq = s.tb.oscFreq := by
  unfold opllConfigReply
  refine guarded_keep _ _ _ ?_
  simp

@[simp] theorem opllSetFreqReply_keep (a0 : ℕ) (a1 : List Byte) (s : State) :
    (opllSetFreqReply a0 a1 s).s.part = s.part ∧ (opllSetFreqReply a0 a1 s).s.fused = s.fused ∧ (opllSetFreqReply a0 a1 s).s.pending = s.pending ∧ (opllSetFreqReply a0 a1 s).s.host.flash = s.host.flash ∧ (opllSetFreqReply a0 a1 s).s.tb.tbEn = s.tb.tbEn ∧ (opllSetFreqReply a0 a1 s).s.tb.oscFreq = s.tb.oscFreq := by
  unfold opllSetFreqReply
  refine guarded_keep _ _ _ ?_
  simp

@[simp] theorem opllAlignReply_keep (a0 : ℕ) (a1 : List Byte) (s : State) :
    (opllAlignReply a0 a1 s).s.part = s.part ∧ (opllAlignReply a0 a1 s).s.fused = s.fused ∧ (opllAlignReply a0 a1 s).s.pending = s.pending ∧ (opllAlignReply a0 a1 s).s.host.flash = s.host.flash ∧ (opllAlignReply a0 a1 s).s.tb.tbEn = s.tb.tbEn ∧ (opllAlignReply a0 a1 s).s.tb.oscFreq = s.tb.oscFreq := by
  unfold opllAlignReply
  refine guarded_keep _ _ _ ?_
  repeat' split
  all_goals simp

@[simp] theorem State.configOut_keep (s : State) (a1 : ℕ) (a2 : List Byte) :
    (s.configOut a1 a2).part = s.part ∧ (s.configOut a1 a2).fused = s.fused ∧ (s.configOut a1 a2).pending = s.pending ∧ (s.configOut a1 a2).host.flash = s.host.flash ∧ (s.configOut a1 a2).tb.tbEn = s.tb.tbEn ∧ (s.configOut a1 a2).tb.oscFreq = s.tb.oscFreq := by
  unfold State.configOut
  simp

@[simp] theorem outputConfigReply_keep (a0 : ℕ) (a1 : List Byte) (s : State) :
    (outputConfigReply a0 a1 s).s.part = s.part ∧ (outputConfigReply a0 a1 s).s.fused = s.fused ∧ (outputConfigReply a0 a1 s).s.pending = s.pending ∧ (outputConfigReply a0 a1 s).s.host.flash = s.host.flash ∧ (outputConfigReply a0 a1 s).s.tb.tbEn = s.tb.tbEn ∧ (outputConfigReply a0 a1 s).s.tb.oscFreq = s.tb.oscFreq := by
  unfold outputConfigReply
  refine guarded_keep _ _ _ ?_
  simp

@[simp] theorem State.runGroup_keep (s : State) (a1 : ℕ) (a2 : ℕ) (a3 : ℕ) (a4 : ℕ) (a5 : ℕ) :
    (s.runGroup a1 a2 a3 a4 a5).part = s.part ∧ (s.runGroup a1 a2 a3 a4 a5).fused = s.fused ∧ (s.runGroup a1 a2 a3 a4 a5).pending = s.pending ∧ (s.runGroup a1 a2 a3 a4 a5).host.flash = s.host.flash ∧ (s.runGroup a1 a2 a3 a4 a5).tb.tbEn = s.tb.tbEn ∧ (s.runGroup a1 a2 a3 a4 a5).tb.oscFreq = s.tb.oscFreq := by
  unfold State.runGroup
  simp

@[simp] theorem outputRunReply_keep (a0 : ℕ) (a1 : List Byte) (s : State) :
    (outputRunReply a0 a1 s).s.part = s.part ∧ (outputRunReply a0 a1 s).s.fused = s.fused ∧ (outputRunReply a0 a1 s).s.pending = s.pending ∧ (outputRunReply a0 a1 s).s.host.flash = s.host.flash ∧ (outputRunReply a0 a1 s).s.tb.tbEn = s.tb.tbEn ∧ (outputRunReply a0 a1 s).s.tb.oscFreq = s.tb.oscFreq := by
  unfold outputRunReply
  refine guarded_keep _ _ _ ?_
  simp

@[simp] theorem State.todMessage_keep (s : State) (a1 : ℕ) :
    (s.todMessage a1).part = s.part ∧ (s.todMessage a1).fused = s.fused ∧ (s.todMessage a1).pending = s.pending ∧ (s.todMessage a1).host.flash = s.host.flash ∧ (s.todMessage a1).tb.tbEn = s.tb.tbEn ∧ (s.todMessage a1).tb.oscFreq = s.tb.oscFreq := by
  unfold State.todMessage
  dsimp only
  repeat' split
  all_goals simp

@[simp] theorem State.pulse_keep (s : State) (a1 : ℕ) (a2 : ℕ) (a3 : ℕ) (a4 : Word) (a5 : Word) (a6 : ℕ) :
    (s.pulse a1 a2 a3 a4 a5 a6).part = s.part ∧ (s.pulse a1 a2 a3 a4 a5 a6).fused = s.fused ∧ (s.pulse a1 a2 a3 a4 a5 a6).pending = s.pending ∧ (s.pulse a1 a2 a3 a4 a5 a6).host.flash = s.host.flash ∧ (s.pulse a1 a2 a3 a4 a5 a6).tb.tbEn = s.tb.tbEn ∧ (s.pulse a1 a2 a3 a4 a5 a6).tb.oscFreq = s.tb.oscFreq := by
  unfold State.pulse
  simp

@[simp] theorem State.cross_keep (s : State) (a1 : ℕ) (a2 : ℕ) (a3 : ℚ) (a4 : ℕ) (a5 : Bool) :
    (s.cross a1 a2 a3 a4 a5).part = s.part ∧ (s.cross a1 a2 a3 a4 a5).fused = s.fused ∧ (s.cross a1 a2 a3 a4 a5).pending = s.pending ∧ (s.cross a1 a2 a3 a4 a5).host.flash = s.host.flash ∧ (s.cross a1 a2 a3 a4 a5).tb.tbEn = s.tb.tbEn ∧ (s.cross a1 a2 a3 a4 a5).tb.oscFreq = s.tb.oscFreq := by
  unfold State.cross
  simp

@[simp] theorem State.crossAll_keep (s : State) (a1 : ℕ) (a2 : ℕ) :
    (s.crossAll a1 a2).part = s.part ∧ (s.crossAll a1 a2).fused = s.fused ∧ (s.crossAll a1 a2).pending = s.pending ∧ (s.crossAll a1 a2).host.flash = s.host.flash ∧ (s.crossAll a1 a2).tb.tbEn = s.tb.tbEn ∧ (s.crossAll a1 a2).tb.oscFreq = s.tb.oscFreq := by
  unfold State.crossAll
  dsimp only
  repeat' split
  all_goals simp

@[simp] theorem State.tdCount_keep (s : State) (a1 : ℕ) (a2 : ℕ) :
    (s.tdCount a1 a2).part = s.part ∧ (s.tdCount a1 a2).fused = s.fused ∧ (s.tdCount a1 a2).pending = s.pending ∧ (s.tdCount a1 a2).host.flash = s.host.flash ∧ (s.tdCount a1 a2).tb.tbEn = s.tb.tbEn ∧ (s.tdCount a1 a2).tb.oscFreq = s.tb.oscFreq := by
  unfold State.tdCount
  simp

@[simp] theorem State.losOfDomain_keep (s : State) (a1 : ℕ) :
    (s.losOfDomain a1).part = s.part ∧ (s.losOfDomain a1).fused = s.fused ∧ (s.losOfDomain a1).pending = s.pending ∧ (s.losOfDomain a1).host.flash = s.host.flash ∧ (s.losOfDomain a1).tb.tbEn = s.tb.tbEn ∧ (s.losOfDomain a1).tb.oscFreq = s.tb.oscFreq := by
  unfold State.losOfDomain
  simp

@[simp] theorem State.tdBoundary_keep (s : State) (a1 : ℕ) (a2 : ℕ) :
    (s.tdBoundary a1 a2).part = s.part ∧ (s.tdBoundary a1 a2).fused = s.fused ∧ (s.tdBoundary a1 a2).pending = s.pending ∧ (s.tdBoundary a1 a2).host.flash = s.host.flash ∧ (s.tdBoundary a1 a2).tb.tbEn = s.tb.tbEn ∧ (s.tdBoundary a1 a2).tb.oscFreq = s.tb.oscFreq := by
  unfold State.tdBoundary
  simp

@[simp] theorem tdConfigReply_keep (a0 : ℕ) (a1 : List Byte) (s : State) :
    (tdConfigReply a0 a1 s).s.part = s.part ∧ (tdConfigReply a0 a1 s).s.fused = s.fused ∧ (tdConfigReply a0 a1 s).s.pending = s.pending ∧ (tdConfigReply a0 a1 s).s.host.flash = s.host.flash ∧ (tdConfigReply a0 a1 s).s.tb.tbEn = s.tb.tbEn ∧ (tdConfigReply a0 a1 s).s.tb.oscFreq = s.tb.oscFreq := by
  unfold tdConfigReply
  refine guarded_keep _ _ _ ?_
  simp

@[simp] theorem tdGetConfigReply_keep (a0 : ℕ) (a1 : List Byte) (s : State) :
    (tdGetConfigReply a0 a1 s).s.part = s.part ∧ (tdGetConfigReply a0 a1 s).s.fused = s.fused ∧ (tdGetConfigReply a0 a1 s).s.pending = s.pending ∧ (tdGetConfigReply a0 a1 s).s.host.flash = s.host.flash ∧ (tdGetConfigReply a0 a1 s).s.tb.tbEn = s.tb.tbEn ∧ (tdGetConfigReply a0 a1 s).s.tb.oscFreq = s.tb.oscFreq := by
  unfold tdGetConfigReply
  refine guarded_keep _ _ _ ?_
  simp

@[simp] theorem tdSetTimeReply_keep (a0 : ℕ) (a1 : List Byte) (s : State) :
    (tdSetTimeReply a0 a1 s).s.part = s.part ∧ (tdSetTimeReply a0 a1 s).s.fused = s.fused ∧ (tdSetTimeReply a0 a1 s).s.pending = s.pending ∧ (tdSetTimeReply a0 a1 s).s.host.flash = s.host.flash ∧ (tdSetTimeReply a0 a1 s).s.tb.tbEn = s.tb.tbEn ∧ (tdSetTimeReply a0 a1 s).s.tb.oscFreq = s.tb.oscFreq := by
  unfold tdSetTimeReply
  refine guarded_keep _ _ _ ?_
  simp

@[simp] theorem tdGetTimeReply_keep (a0 : ℕ) (a1 : List Byte) (s : State) :
    (tdGetTimeReply a0 a1 s).s.part = s.part ∧ (tdGetTimeReply a0 a1 s).s.fused = s.fused ∧ (tdGetTimeReply a0 a1 s).s.pending = s.pending ∧ (tdGetTimeReply a0 a1 s).s.host.flash = s.host.flash ∧ (tdGetTimeReply a0 a1 s).s.tb.tbEn = s.tb.tbEn ∧ (tdGetTimeReply a0 a1 s).s.tb.oscFreq = s.tb.oscFreq := by
  unfold tdGetTimeReply
  refine guarded_keep _ _ _ ?_
  simp

@[simp] theorem tdSetTodReply_keep (a0 : ℕ) (a1 : List Byte) (s : State) :
    (tdSetTodReply a0 a1 s).s.part = s.part ∧ (tdSetTodReply a0 a1 s).s.fused = s.fused ∧ (tdSetTodReply a0 a1 s).s.pending = s.pending ∧ (tdSetTodReply a0 a1 s).s.host.flash = s.host.flash ∧ (tdSetTodReply a0 a1 s).s.tb.tbEn = s.tb.tbEn ∧ (tdSetTodReply a0 a1 s).s.tb.oscFreq = s.tb.oscFreq := by
  unfold tdSetTodReply
  refine guarded_keep _ _ _ ?_
  simp

@[simp] theorem State.pairEdge_keep (s : State) (a1 : ℕ) (a2 : ℕ) :
    (s.pairEdge a1 a2).part = s.part ∧ (s.pairEdge a1 a2).fused = s.fused ∧ (s.pairEdge a1 a2).pending = s.pending ∧ (s.pairEdge a1 a2).host.flash = s.host.flash ∧ (s.pairEdge a1 a2).tb.tbEn = s.tb.tbEn ∧ (s.pairEdge a1 a2).tb.oscFreq = s.tb.oscFreq := by
  unfold State.pairEdge
  dsimp only
  repeat' split
  all_goals simp

@[simp] theorem State.pairRun_keep (s : State) (a1 : ℕ) :
    (s.pairRun a1).part = s.part ∧ (s.pairRun a1).fused = s.fused ∧ (s.pairRun a1).pending = s.pending ∧ (s.pairRun a1).host.flash = s.host.flash ∧ (s.pairRun a1).tb.tbEn = s.tb.tbEn ∧ (s.pairRun a1).tb.oscFreq = s.tb.oscFreq := by
  unfold State.pairRun
  simp

@[simp] theorem State.pairAll_keep (s : State) :
    (s.pairAll).part = s.part ∧ (s.pairAll).fused = s.fused ∧ (s.pairAll).pending = s.pending ∧ (s.pairAll).host.flash = s.host.flash ∧ (s.pairAll).tb.tbEn = s.tb.tbEn ∧ (s.pairAll).tb.oscFreq = s.tb.oscFreq := by
  unfold State.pairAll
  simp

@[simp] theorem State.evEdge_keep (s : State) (a1 : ℕ) (a2 : ℕ) :
    (s.evEdge a1 a2).part = s.part ∧ (s.evEdge a1 a2).fused = s.fused ∧ (s.evEdge a1 a2).pending = s.pending ∧ (s.evEdge a1 a2).host.flash = s.host.flash ∧ (s.evEdge a1 a2).tb.tbEn = s.tb.tbEn ∧ (s.evEdge a1 a2).tb.oscFreq = s.tb.oscFreq := by
  unfold State.evEdge
  dsimp only
  repeat' split
  all_goals simp

@[simp] theorem State.pushExport_keep (s : State) (a1 : ℕ) (a2 : List (BitVec 128)) :
    (s.pushExport a1 a2).part = s.part ∧ (s.pushExport a1 a2).fused = s.fused ∧ (s.pushExport a1 a2).pending = s.pending ∧ (s.pushExport a1 a2).host.flash = s.host.flash ∧ (s.pushExport a1 a2).tb.tbEn = s.tb.tbEn ∧ (s.pushExport a1 a2).tb.oscFreq = s.tb.oscFreq := by
  unfold State.pushExport
  simp

@[simp] theorem State.evBoundary_keep (s : State) (a1 : State) (a2 : ℕ) (a3 : ℕ) :
    (s.evBoundary a1 a2 a3).part = s.part ∧ (s.evBoundary a1 a2 a3).fused = s.fused ∧ (s.evBoundary a1 a2 a3).pending = s.pending ∧ (s.evBoundary a1 a2 a3).host.flash = s.host.flash ∧ (s.evBoundary a1 a2 a3).tb.tbEn = s.tb.tbEn ∧ (s.evBoundary a1 a2 a3).tb.oscFreq = s.tb.oscFreq := by
  unfold State.evBoundary
  simp

end Sys2Proof.Machine
end

