-- ==== Sys2Proof/Laws/KeepFabric.lean ====
section
/-! SUPPORT. What the operations of the fabric, the registers and the stitch engines (chapters 09 and 10) leave alone. -/

namespace Sys2Proof.Machine
open Sys2Proof

@[simp] theorem State.shtHist_keep (s : State) (a1 : ℕ) (a2 : ℕ) :
    (s.shtHist a1 a2).part = s.part ∧ (s.shtHist a1 a2).fused = s.fused ∧ (s.shtHist a1 a2).pending = s.pending ∧ (s.shtHist a1 a2).host.flash = s.host.flash ∧ (s.shtHist a1 a2).tb.tbEn = s.tb.tbEn ∧ (s.shtHist a1 a2).tb.oscFreq = s.tb.oscFreq := by
  unfold State.shtHist
  simp

@[simp] theorem State.exchAnew_keep (s : State) (a1 : ℕ) :
    (s.exchAnew a1).part = s.part ∧ (s.exchAnew a1).fused = s.fused ∧ (s.exchAnew a1).pending = s.pending ∧ (s.exchAnew a1).host.flash = s.host.flash ∧ (s.exchAnew a1).tb.tbEn = s.tb.tbEn ∧ (s.exchAnew a1).tb.oscFreq = s.tb.oscFreq := by
  unfold State.exchAnew
  split <;> simp

@[simp] theorem State.refreshUp_keep (s : State) :
    (s.refreshUp).part = s.part ∧ (s.refreshUp).fused = s.fused ∧ (s.refreshUp).pending = s.pending ∧ (s.refreshUp).host.flash = s.host.flash ∧ (s.refreshUp).tb.tbEn = s.tb.tbEn ∧ (s.refreshUp).tb.oscFreq = s.tb.oscFreq := by
  unfold State.refreshUp
  simp

@[simp] theorem State.startFills_keep (s : State) (a1 : ℕ) :
    (s.startFills a1).part = s.part ∧ (s.startFills a1).fused = s.fused ∧ (s.startFills a1).pending = s.pending ∧ (s.startFills a1).host.flash = s.host.flash ∧ (s.startFills a1).tb.tbEn = s.tb.tbEn ∧ (s.startFills a1).tb.oscFreq = s.tb.oscFreq := by
  unfold State.startFills
  simp

@[simp] theorem State.trainStart_keep (s : State) (a1 : ℕ) (a2 : ℕ) :
    (s.trainStart a1 a2).part = s.part ∧ (s.trainStart a1 a2).fused = s.fused ∧ (s.trainStart a1 a2).pending = s.pending ∧ (s.trainStart a1 a2).host.flash = s.host.flash ∧ (s.trainStart a1 a2).tb.tbEn = s.tb.tbEn ∧ (s.trainStart a1 a2).tb.oscFreq = s.tb.oscFreq := by
  unfold State.trainStart
  split <;> simp

@[simp] theorem State.trainAll_keep (s : State) :
    (s.trainAll).part = s.part ∧ (s.trainAll).fused = s.fused ∧ (s.trainAll).pending = s.pending ∧ (s.trainAll).host.flash = s.host.flash ∧ (s.trainAll).tb.tbEn = s.tb.tbEn ∧ (s.trainAll).tb.oscFreq = s.tb.oscFreq := by
  unfold State.trainAll
  simp

@[simp] theorem State.portDown_keep (s : State) (a1 : ℕ) (a2 : ℕ) :
    (s.portDown a1 a2).part = s.part ∧ (s.portDown a1 a2).fused = s.fused ∧ (s.portDown a1 a2).pending = s.pending ∧ (s.portDown a1 a2).host.flash = s.host.flash ∧ (s.portDown a1 a2).tb.tbEn = s.tb.tbEn ∧ (s.portDown a1 a2).tb.oscFreq = s.tb.oscFreq := by
  unfold State.portDown
  dsimp only
  repeat' split
  all_goals simp

@[simp] theorem State.post_keep (s : State) (a1 : ℕ) (a2 : Frame) :
    (s.post a1 a2).part = s.part ∧ (s.post a1 a2).fused = s.fused ∧ (s.post a1 a2).pending = s.pending ∧ (s.post a1 a2).host.flash = s.host.flash ∧ (s.post a1 a2).tb.tbEn = s.tb.tbEn ∧ (s.post a1 a2).tb.oscFreq = s.tb.oscFreq := by
  unfold State.post
  split <;> simp

@[simp] theorem State.sendWaiting_keep (s : State) :
    (s.sendWaiting).part = s.part ∧ (s.sendWaiting).fused = s.fused ∧ (s.sendWaiting).pending = s.pending ∧ (s.sendWaiting).host.flash = s.host.flash ∧ (s.sendWaiting).tb.tbEn = s.tb.tbEn ∧ (s.sendWaiting).tb.oscFreq = s.tb.oscFreq := by
  unfold State.sendWaiting
  simp

@[simp] theorem State.dropFrames_keep (s : State) (a1 : Frame → Bool) :
    (s.dropFrames a1).part = s.part ∧ (s.dropFrames a1).fused = s.fused ∧ (s.dropFrames a1).pending = s.pending ∧ (s.dropFrames a1).host.flash = s.host.flash ∧ (s.dropFrames a1).tb.tbEn = s.tb.tbEn ∧ (s.dropFrames a1).tb.oscFreq = s.tb.oscFreq := by
  unfold State.dropFrames
  simp

@[simp] theorem State.recordLost_keep (s : State) (a1 : BitVec 128) :
    (s.recordLost a1).part = s.part ∧ (s.recordLost a1).fused = s.fused ∧ (s.recordLost a1).pending = s.pending ∧ (s.recordLost a1).host.flash = s.host.flash ∧ (s.recordLost a1).tb.tbEn = s.tb.tbEn ∧ (s.recordLost a1).tb.oscFreq = s.tb.oscFreq := by
  unfold State.recordLost
  simp

@[simp] theorem State.lose_keep (s : State) (a1 : List Frame) :
    (s.lose a1).part = s.part ∧ (s.lose a1).fused = s.fused ∧ (s.lose a1).pending = s.pending ∧ (s.lose a1).host.flash = s.host.flash ∧ (s.lose a1).tb.tbEn = s.tb.tbEn ∧ (s.lose a1).tb.oscFreq = s.tb.oscFreq := by
  unfold State.lose
  have h : ∀ (rs : List (BitVec 128)) (t : State), (rs.foldl State.recordLost t).part = (t).part ∧ (rs.foldl State.recordLost t).fused = (t).fused ∧ (rs.foldl State.recordLost t).pending = (t).pending ∧ (rs.foldl State.recordLost t).host.flash = (t).host.flash ∧ (rs.foldl State.recordLost t).tb.tbEn = (t).tb.tbEn ∧ (rs.foldl State.recordLost t).tb.oscFreq = (t).tb.oscFreq := by
    intro rs
    induction rs with
    | nil => intro t; simp
    | cons r rs ih => intro t; rw [List.foldl_cons]; simp [ih]
  induction a1 generalizing s with
  | nil => simp
  | cons f fs ih =>
    rw [List.foldl_cons]
    simp only [ih]
    split
    · simp
    · simp
    · split <;> simp
    · simp [h]
    · simp

@[simp] theorem State.flushLink_keep (s : State) (a1 : ℕ) (a2 : ℕ) :
    (s.flushLink a1 a2).part = s.part ∧ (s.flushLink a1 a2).fused = s.fused ∧ (s.flushLink a1 a2).pending = s.pending ∧ (s.flushLink a1 a2).host.flash = s.host.flash ∧ (s.flushLink a1 a2).tb.tbEn = s.tb.tbEn ∧ (s.flushLink a1 a2).tb.oscFreq = s.tb.oscFreq := by
  unfold State.flushLink
  split <;> simp

@[simp] theorem State.wordsLost_keep (s : State) (a1 : ℕ) (a2 : ℕ) :
    (s.wordsLost a1 a2).part = s.part ∧ (s.wordsLost a1 a2).fused = s.fused ∧ (s.wordsLost a1 a2).pending = s.pending ∧ (s.wordsLost a1 a2).host.flash = s.host.flash ∧ (s.wordsLost a1 a2).tb.tbEn = s.tb.tbEn ∧ (s.wordsLost a1 a2).tb.oscFreq = s.tb.oscFreq := by
  unfold State.wordsLost
  split <;> simp

@[simp] theorem State.linkLeaves_keep (s : State) (a1 : ℕ) (a2 : ℕ) :
    (s.linkLeaves a1 a2).part = s.part ∧ (s.linkLeaves a1 a2).fused = s.fused ∧ (s.linkLeaves a1 a2).pending = s.pending ∧ (s.linkLeaves a1 a2).host.flash = s.host.flash ∧ (s.linkLeaves a1 a2).tb.tbEn = s.tb.tbEn ∧ (s.linkLeaves a1 a2).tb.oscFreq = s.tb.oscFreq := by
  unfold State.linkLeaves
  simp

@[simp] theorem State.linkBreaks_keep (s : State) (a1 : ℕ) (a2 : ℕ) :
    (s.linkBreaks a1 a2).part = s.part ∧ (s.linkBreaks a1 a2).fused = s.fused ∧ (s.linkBreaks a1 a2).pending = s.pending ∧ (s.linkBreaks a1 a2).host.flash = s.host.flash ∧ (s.linkBreaks a1 a2).tb.tbEn = s.tb.tbEn ∧ (s.linkBreaks a1 a2).tb.oscFreq = s.tb.oscFreq := by
  unfold State.linkBreaks
  dsimp only
  repeat' split
  all_goals simp

@[simp] theorem State.allLinksDown_keep (s : State) :
    (s.allLinksDown).part = s.part ∧ (s.allLinksDown).fused = s.fused ∧ (s.allLinksDown).pending = s.pending ∧ (s.allLinksDown).host.flash = s.host.flash ∧ (s.allLinksDown).tb.tbEn = s.tb.tbEn ∧ (s.allLinksDown).tb.oscFreq = s.tb.oscFreq := by
  unfold State.allLinksDown
  simp

@[simp] theorem State.takeSkew_keep (s : State) (a1 : ℕ) :
    (s.takeSkew a1).part = s.part ∧ (s.takeSkew a1).fused = s.fused ∧ (s.takeSkew a1).pending = s.pending ∧ (s.takeSkew a1).host.flash = s.host.flash ∧ (s.takeSkew a1).tb.tbEn = s.tb.tbEn ∧ (s.takeSkew a1).tb.oscFreq = s.tb.oscFreq := by
  unfold State.takeSkew
  repeat' split
  all_goals simp

@[simp] theorem State.pathBack_keep (s : State) (a1 : ℕ) (a2 : ℕ) :
    (s.pathBack a1 a2).part = s.part ∧ (s.pathBack a1 a2).fused = s.fused ∧ (s.pathBack a1 a2).pending = s.pending ∧ (s.pathBack a1 a2).host.flash = s.host.flash ∧ (s.pathBack a1 a2).tb.tbEn = s.tb.tbEn ∧ (s.pathBack a1 a2).tb.oscFreq = s.tb.oscFreq := by
  unfold State.pathBack
  simp

@[simp] theorem State.alignDone_keep (s : State) (a1 : ℕ) (a2 : ℕ) :
    (s.alignDone a1 a2).part = s.part ∧ (s.alignDone a1 a2).fused = s.fused ∧ (s.alignDone a1 a2).pending = s.pending ∧ (s.alignDone a1 a2).host.flash = s.host.flash ∧ (s.alignDone a1 a2).tb.tbEn = s.tb.tbEn ∧ (s.alignDone a1 a2).tb.oscFreq = s.tb.oscFreq := by
  unfold State.alignDone
  dsimp only
  repeat' split
  all_goals simp

@[simp] theorem State.exchange_keep (s : State) (a1 : ℕ) (a2 : ℕ) (a3 : ℕ) (a4 : ℕ) (a5 : ℕ) (a6 : ℕ) :
    (s.exchange a1 a2 a3 a4 a5 a6).part = s.part ∧ (s.exchange a1 a2 a3 a4 a5 a6).fused = s.fused ∧ (s.exchange a1 a2 a3 a4 a5 a6).pending = s.pending ∧ (s.exchange a1 a2 a3 a4 a5 a6).host.flash = s.host.flash ∧ (s.exchange a1 a2 a3 a4 a5 a6).tb.tbEn = s.tb.tbEn ∧ (s.exchange a1 a2 a3 a4 a5 a6).tb.oscFreq = s.tb.oscFreq := by
  unfold State.exchange
  split <;> simp

@[simp] theorem State.skewUpdate_keep (s : State) (a1 : ℕ) :
    (s.skewUpdate a1).part = s.part ∧ (s.skewUpdate a1).fused = s.fused ∧ (s.skewUpdate a1).pending = s.pending ∧ (s.skewUpdate a1).host.flash = s.host.flash ∧ (s.skewUpdate a1).tb.tbEn = s.tb.tbEn ∧ (s.skewUpdate a1).tb.oscFreq = s.tb.oscFreq := by
  unfold State.skewUpdate
  repeat' split
  all_goals simp

@[simp] theorem State.reparentDone_keep (s : State) (a1 : ℕ) :
    (s.reparentDone a1).part = s.part ∧ (s.reparentDone a1).fused = s.fused ∧ (s.reparentDone a1).pending = s.pending ∧ (s.reparentDone a1).host.flash = s.host.flash ∧ (s.reparentDone a1).tb.tbEn = s.tb.tbEn ∧ (s.reparentDone a1).tb.oscFreq = s.tb.oscFreq := by
  unfold State.reparentDone
  repeat' split
  all_goals simp

@[simp] theorem State.takeRecord_keep (s : State) (a1 : BitVec 128) :
    (s.takeRecord a1).part = s.part ∧ (s.takeRecord a1).fused = s.fused ∧ (s.takeRecord a1).pending = s.pending ∧ (s.takeRecord a1).host.flash = s.host.flash ∧ (s.takeRecord a1).tb.tbEn = s.tb.tbEn ∧ (s.takeRecord a1).tb.oscFreq = s.tb.oscFreq := by
  unfold State.takeRecord
  simp

@[simp] theorem State.holdRecords_keep (s : State) (a1 : ℕ) (a2 : List (BitVec 128)) :
    (s.holdRecords a1 a2).part = s.part ∧ (s.holdRecords a1 a2).fused = s.fused ∧ (s.holdRecords a1 a2).pending = s.pending ∧ (s.holdRecords a1 a2).host.flash = s.host.flash ∧ (s.holdRecords a1 a2).tb.tbEn = s.tb.tbEn ∧ (s.holdRecords a1 a2).tb.oscFreq = s.tb.oscFreq := by
  unfold State.holdRecords
  simp

@[simp] theorem State.recordsArrive_keep (s : State) (a1 : ℕ) (a2 : List (BitVec 128)) :
    (s.recordsArrive a1 a2).part = s.part ∧ (s.recordsArrive a1 a2).fused = s.fused ∧ (s.recordsArrive a1 a2).pending = s.pending ∧ (s.recordsArrive a1 a2).host.flash = s.host.flash ∧ (s.recordsArrive a1 a2).tb.tbEn = s.tb.tbEn ∧ (s.recordsArrive a1 a2).tb.oscFreq = s.tb.oscFreq := by
  unfold State.recordsArrive
  repeat' split
  all_goals simp

@[simp] theorem State.wordArrives_keep (s : State) (a1 : ℕ) (a2 : ℕ) (a3 : ℕ) (a4 : ℕ) :
    (s.wordArrives a1 a2 a3 a4).part = s.part ∧ (s.wordArrives a1 a2 a3 a4).fused = s.fused ∧ (s.wordArrives a1 a2 a3 a4).pending = s.pending ∧ (s.wordArrives a1 a2 a3 a4).host.flash = s.host.flash ∧ (s.wordArrives a1 a2 a3 a4).tb.tbEn = s.tb.tbEn ∧ (s.wordArrives a1 a2 a3 a4).tb.oscFreq = s.tb.oscFreq := by
  unfold State.wordArrives
  simp

@[simp] theorem State.launchDie_keep (s : State) (a1 : ℕ) (a2 : ℕ) :
    (s.launchDie a1 a2).part = s.part ∧ (s.launchDie a1 a2).fused = s.fused ∧ (s.launchDie a1 a2).pending = s.pending ∧ (s.launchDie a1 a2).host.flash = s.host.flash ∧ (s.launchDie a1 a2).tb.tbEn = s.tb.tbEn ∧ (s.launchDie a1 a2).tb.oscFreq = s.tb.oscFreq := by
  unfold State.launchDie
  simp

@[simp] theorem State.launchWords_keep (s : State) (a1 : ℕ) :
    (s.launchWords a1).part = s.part ∧ (s.launchWords a1).fused = s.fused ∧ (s.launchWords a1).pending = s.pending ∧ (s.launchWords a1).host.flash = s.host.flash ∧ (s.launchWords a1).tb.tbEn = s.tb.tbEn ∧ (s.launchWords a1).tb.oscFreq = s.tb.oscFreq := by
  unfold State.launchWords
  simp

@[simp] theorem State.launchRate_keep (s : State) (a1 : ℕ) :
    (s.launchRate a1).part = s.part ∧ (s.launchRate a1).fused = s.fused ∧ (s.launchRate a1).pending = s.pending ∧ (s.launchRate a1).host.flash = s.host.flash ∧ (s.launchRate a1).tb.tbEn = s.tb.tbEn ∧ (s.launchRate a1).tb.oscFreq = s.tb.oscFreq := by
  unfold State.launchRate
  simp

@[simp] theorem State.launchRates_keep (s : State) :
    (s.launchRates).part = s.part ∧ (s.launchRates).fused = s.fused ∧ (s.launchRates).pending = s.pending ∧ (s.launchRates).host.flash = s.host.flash ∧ (s.launchRates).tb.tbEn = s.tb.tbEn ∧ (s.launchRates).tb.oscFreq = s.tb.oscFreq := by
  unfold State.launchRates
  simp

@[simp] theorem State.frameSent_keep (s : State) (a1 : ℕ) (a2 : ℕ) (a3 : Frame) :
    (s.frameSent a1 a2 a3).part = s.part ∧ (s.frameSent a1 a2 a3).fused = s.fused ∧ (s.frameSent a1 a2 a3).pending = s.pending ∧ (s.frameSent a1 a2 a3).host.flash = s.host.flash ∧ (s.frameSent a1 a2 a3).tb.tbEn = s.tb.tbEn ∧ (s.frameSent a1 a2 a3).tb.oscFreq = s.tb.oscFreq := by
  unfold State.frameSent
  repeat' split
  all_goals simp

@[simp] theorem State.frameBad_keep (s : State) (a1 : ℕ) (a2 : ℕ) :
    (s.frameBad a1 a2).part = s.part ∧ (s.frameBad a1 a2).fused = s.fused ∧ (s.frameBad a1 a2).pending = s.pending ∧ (s.frameBad a1 a2).host.flash = s.host.flash ∧ (s.frameBad a1 a2).tb.tbEn = s.tb.tbEn ∧ (s.frameBad a1 a2).tb.oscFreq = s.tb.oscFreq := by
  unfold State.frameBad
  dsimp only
  repeat' split
  all_goals simp

@[simp] theorem State.frameAck_keep (s : State) (a1 : ℕ) (a2 : ℕ) (a3 : Frame) :
    (s.frameAck a1 a2 a3).part = s.part ∧ (s.frameAck a1 a2 a3).fused = s.fused ∧ (s.frameAck a1 a2 a3).pending = s.pending ∧ (s.frameAck a1 a2 a3).host.flash = s.host.flash ∧ (s.frameAck a1 a2 a3).tb.tbEn = s.tb.tbEn ∧ (s.frameAck a1 a2 a3).tb.oscFreq = s.tb.oscFreq := by
  unfold State.frameAck
  dsimp only
  repeat' split
  all_goals simp

@[simp] theorem State.retransmit_keep (s : State) (a1 : ℕ) (a2 : ℕ) :
    (s.retransmit a1 a2).part = s.part ∧ (s.retransmit a1 a2).fused = s.fused ∧ (s.retransmit a1 a2).pending = s.pending ∧ (s.retransmit a1 a2).host.flash = s.host.flash ∧ (s.retransmit a1 a2).tb.tbEn = s.tb.tbEn ∧ (s.retransmit a1 a2).tb.oscFreq = s.tb.oscFreq := by
  unfold State.retransmit
  split <;> simp

@[simp] theorem State.adoptPlan_keep (s : State) :
    (s.adoptPlan).part = s.part ∧ (s.adoptPlan).fused = s.fused ∧ (s.adoptPlan).pending = s.pending ∧ (s.adoptPlan).host.flash = s.host.flash ∧ (s.adoptPlan).tb.tbEn = s.tb.tbEn ∧ (s.adoptPlan).tb.oscFreq = s.tb.oscFreq := by
  unfold State.adoptPlan
  simp

@[simp] theorem State.cdcDeliver_keep (s : State) (a1 : ℕ) (a2 : ℕ) (a3 : ℕ) (a4 : List (BitVec 128)) :
    (s.cdcDeliver a1 a2 a3 a4).part = s.part ∧ (s.cdcDeliver a1 a2 a3 a4).fused = s.fused ∧ (s.cdcDeliver a1 a2 a3 a4).pending = s.pending ∧ (s.cdcDeliver a1 a2 a3 a4).host.flash = s.host.flash ∧ (s.cdcDeliver a1 a2 a3 a4).tb.tbEn = s.tb.tbEn ∧ (s.cdcDeliver a1 a2 a3 a4).tb.oscFreq = s.tb.oscFreq := by
  unfold State.cdcDeliver
  simp

@[simp] theorem State.linksUnseen_keep (s : State) :
    (s.linksUnseen).part = s.part ∧ (s.linksUnseen).fused = s.fused ∧ (s.linksUnseen).pending = s.pending ∧ (s.linksUnseen).host.flash = s.host.flash ∧ (s.linksUnseen).tb.tbEn = s.tb.tbEn ∧ (s.linksUnseen).tb.oscFreq = s.tb.oscFreq := by
  unfold State.linksUnseen
  simp

@[simp] theorem State.predictorsOff_keep (s : State) (a1 : ℕ) :
    (s.predictorsOff a1).part = s.part ∧ (s.predictorsOff a1).fused = s.fused ∧ (s.predictorsOff a1).pending = s.pending ∧ (s.predictorsOff a1).host.flash = s.host.flash ∧ (s.predictorsOff a1).tb.tbEn = s.tb.tbEn ∧ (s.predictorsOff a1).tb.oscFreq = s.tb.oscFreq := by
  unfold State.predictorsOff
  simp

@[simp] theorem State.tbOff_keep (s : State) :
    (s.tbOff).part = s.part ∧ (s.tbOff).fused = s.fused ∧ (s.tbOff).pending = s.pending := by
  unfold State.tbOff
  simp

@[simp] theorem State.oneModel_keep (s : State) :
    (s.oneModel).part = s.part ∧ (s.oneModel).fused = s.fused ∧ (s.oneModel).pending = s.pending ∧ (s.oneModel).host.flash = s.host.flash ∧ (s.oneModel).tb.tbEn = s.tb.tbEn ∧ (s.oneModel).tb.oscFreq = s.tb.oscFreq := by
  unfold State.oneModel
  simp

@[simp] theorem State.setMaster_keep (s : State) (a1 : Bool) (a2 : ℕ) :
    (s.setMaster a1 a2).part = s.part ∧ (s.setMaster a1 a2).fused = s.fused ∧ (s.setMaster a1 a2).pending = s.pending := by
  unfold State.setMaster
  simp

@[simp] theorem State.writeTbCtrl_keep (s : State) (a1 : Word) :
    (s.writeTbCtrl a1).part = s.part ∧ (s.writeTbCtrl a1).fused = s.fused ∧ (s.writeTbCtrl a1).pending = s.pending := by
  unfold State.writeTbCtrl
  simp

@[simp] theorem State.clockPort_keep (s : State) (a1 : ℕ) (a2 : ℕ) :
    (s.clockPort a1 a2).part = s.part ∧ (s.clockPort a1 a2).fused = s.fused ∧ (s.clockPort a1 a2).pending = s.pending ∧ (s.clockPort a1 a2).host.flash = s.host.flash ∧ (s.clockPort a1 a2).tb.tbEn = s.tb.tbEn ∧ (s.clockPort a1 a2).tb.oscFreq = s.tb.oscFreq := by
  unfold State.clockPort
  split <;> simp

@[simp] theorem State.clocksAnew_keep (s : State) (a1 : ℕ) :
    (s.clocksAnew a1).part = s.part ∧ (s.clocksAnew a1).fused = s.fused ∧ (s.clocksAnew a1).pending = s.pending ∧ (s.clocksAnew a1).host.flash = s.host.flash ∧ (s.clocksAnew a1).tb.tbEn = s.tb.tbEn ∧ (s.clocksAnew a1).tb.oscFreq = s.tb.oscFreq := by
  unfold State.clocksAnew
  simp (disch := (intros; (repeat' split) <;> simp))

@[simp] theorem State.tbLockDie_keep (s : State) (a1 : ℕ) :
    (s.tbLockDie a1).part = s.part ∧ (s.tbLockDie a1).fused = s.fused ∧ (s.tbLockDie a1).pending = s.pending ∧ (s.tbLockDie a1).host.flash = s.host.flash ∧ (s.tbLockDie a1).tb.tbEn = s.tb.tbEn ∧ (s.tbLockDie a1).tb.oscFreq = s.tb.oscFreq := by
  unfold State.tbLockDie
  simp

@[simp] theorem State.restartRise_keep (s : State) :
    (s.restartRise).part = s.part ∧ (s.restartRise).fused = s.fused ∧ (s.restartRise).pending = s.pending ∧ (s.restartRise).host.flash = s.host.flash ∧ (s.restartRise).tb.tbEn = s.tb.tbEn ∧ (s.restartRise).tb.oscFreq = s.tb.oscFreq := by
  unfold State.restartRise
  simp

@[simp] theorem State.restartEnd_keep (s : State) :
    (s.restartEnd).part = s.part ∧ (s.restartEnd).fused = s.fused ∧ (s.restartEnd).pending = s.pending ∧ (s.restartEnd).host.flash = s.host.flash ∧ (s.restartEnd).tb.tbEn = s.tb.tbEn ∧ (s.restartEnd).tb.oscFreq = s.tb.oscFreq := by
  unfold State.restartEnd
  simp

@[simp] theorem tbSetMasterReply_keep (a0 : ℕ) (a1 : List Byte) (s : State) :
    (tbSetMasterReply a0 a1 s).s.part = s.part ∧ (tbSetMasterReply a0 a1 s).s.fused = s.fused ∧ (tbSetMasterReply a0 a1 s).s.pending = s.pending := by
  unfold tbSetMasterReply
  refine guarded_keep3 _ _ _ ?_
  simp

@[simp] theorem State.portLoss_keep (s : State) (a1 : ℕ) :
    (s.portLoss a1).part = s.part ∧ (s.portLoss a1).fused = s.fused ∧ (s.portLoss a1).pending = s.pending ∧ (s.portLoss a1).host.flash = s.host.flash ∧ (s.portLoss a1).tb.tbEn = s.tb.tbEn ∧ (s.portLoss a1).tb.oscFreq = s.tb.oscFreq := by
  unfold State.portLoss
  simp

@[simp] theorem State.portStart_keep (s : State) (a1 : ℕ) :
    (s.portStart a1).part = s.part ∧ (s.portStart a1).fused = s.fused ∧ (s.portStart a1).pending = s.pending ∧ (s.portStart a1).host.flash = s.host.flash ∧ (s.portStart a1).tb.tbEn = s.tb.tbEn ∧ (s.portStart a1).tb.oscFreq = s.tb.oscFreq := by
  unfold State.portStart
  simp

@[simp] theorem State.oscReturn_keep (s : State) (a1 : ℕ) :
    (s.oscReturn a1).part = s.part ∧ (s.oscReturn a1).fused = s.fused ∧ (s.oscReturn a1).pending = s.pending ∧ (s.oscReturn a1).host.flash = s.host.flash ∧ (s.oscReturn a1).tb.tbEn = s.tb.tbEn ∧ (s.oscReturn a1).tb.oscFreq = s.tb.oscFreq := by
  unfold State.oscReturn
  simp

@[simp] theorem State.writeInput_keep (s : State) (a1 : ℕ) (a2 : ℕ) (a3 : Word) :
    (s.writeInput a1 a2 a3).part = s.part ∧ (s.writeInput a1 a2 a3).fused = s.fused ∧ (s.writeInput a1 a2 a3).pending = s.pending ∧ (s.writeInput a1 a2 a3).host.flash = s.host.flash ∧ (s.writeInput a1 a2 a3).tb.tbEn = s.tb.tbEn ∧ (s.writeInput a1 a2 a3).tb.oscFreq = s.tb.oscFreq := by
  unfold State.writeInput
  split <;> simp

@[simp] theorem State.writeChan_keep (s : State) (a1 : ℕ) (a2 : ℕ) (a3 : Word) :
    (s.writeChan a1 a2 a3).part = s.part ∧ (s.writeChan a1 a2 a3).fused = s.fused ∧ (s.writeChan a1 a2 a3).pending = s.pending ∧ (s.writeChan a1 a2 a3).host.flash = s.host.flash ∧ (s.writeChan a1 a2 a3).tb.tbEn = s.tb.tbEn ∧ (s.writeChan a1 a2 a3).tb.oscFreq = s.tb.oscFreq := by
  unfold State.writeChan
  simp

@[simp] theorem State.writeCal_keep (s : State) (a1 : ℕ) (a2 : ℕ) (a3 : Word) :
    (s.writeCal a1 a2 a3).part = s.part ∧ (s.writeCal a1 a2 a3).fused = s.fused ∧ (s.writeCal a1 a2 a3).pending = s.pending ∧ (s.writeCal a1 a2 a3).host.flash = s.host.flash ∧ (s.writeCal a1 a2 a3).tb.tbEn = s.tb.tbEn ∧ (s.writeCal a1 a2 a3).tb.oscFreq = s.tb.oscFreq := by
  unfold State.writeCal
  split <;> simp

@[simp] theorem State.writeDpll_keep (s : State) (a1 : ℕ) (a2 : ℕ) (a3 : Word) :
    (s.writeDpll a1 a2 a3).part = s.part ∧ (s.writeDpll a1 a2 a3).fused = s.fused ∧ (s.writeDpll a1 a2 a3).pending = s.pending ∧ (s.writeDpll a1 a2 a3).host.flash = s.host.flash ∧ (s.writeDpll a1 a2 a3).tb.tbEn = s.tb.tbEn ∧ (s.writeDpll a1 a2 a3).tb.oscFreq = s.tb.oscFreq := by
  unfold State.writeDpll
  split <;> simp

@[simp] theorem State.writeOsc_keep (s : State) (a1 : ℕ) (a2 : ℕ) (a3 : Word) :
    (s.writeOsc a1 a2 a3).part = s.part ∧ (s.writeOsc a1 a2 a3).fused = s.fused ∧ (s.writeOsc a1 a2 a3).pending = s.pending ∧ (s.writeOsc a1 a2 a3).host.flash = s.host.flash ∧ (s.writeOsc a1 a2 a3).tb.tbEn = s.tb.tbEn ∧ (s.writeOsc a1 a2 a3).tb.oscFreq = s.tb.oscFreq := by
  unfold State.writeOsc
  split <;> simp

@[simp] theorem State.writeCairn_keep (s : State) (a1 : ℕ) (a2 : Word) :
    (s.writeCairn a1 a2).part = s.part ∧ (s.writeCairn a1 a2).fused = s.fused ∧ (s.writeCairn a1 a2).pending = s.pending ∧ (s.writeCairn a1 a2).host.flash = s.host.flash ∧ (s.writeCairn a1 a2).tb.tbEn = s.tb.tbEn ∧ (s.writeCairn a1 a2).tb.oscFreq = s.tb.oscFreq := by
  unfold State.writeCairn
  split <;> simp

@[simp] theorem State.writeOpll_keep (s : State) (a1 : ℕ) (a2 : ℕ) (a3 : Word) :
    (s.writeOpll a1 a2 a3).part = s.part ∧ (s.writeOpll a1 a2 a3).fused = s.fused ∧ (s.writeOpll a1 a2 a3).pending = s.pending ∧ (s.writeOpll a1 a2 a3).host.flash = s.host.flash ∧ (s.writeOpll a1 a2 a3).tb.tbEn = s.tb.tbEn ∧ (s.writeOpll a1 a2 a3).tb.oscFreq = s.tb.oscFreq := by
  unfold State.writeOpll
  split <;> simp

@[simp] theorem State.writeOut_keep (s : State) (a1 : ℕ) (a2 : ℕ) (a3 : Word) (a4 : Bool) :
    (s.writeOut a1 a2 a3 a4).part = s.part ∧ (s.writeOut a1 a2 a3 a4).fused = s.fused ∧ (s.writeOut a1 a2 a3 a4).pending = s.pending ∧ (s.writeOut a1 a2 a3 a4).host.flash = s.host.flash ∧ (s.writeOut a1 a2 a3 a4).tb.tbEn = s.tb.tbEn ∧ (s.writeOut a1 a2 a3 a4).tb.oscFreq = s.tb.oscFreq := by
  unfold State.writeOut
  split <;> simp

@[simp] theorem State.writeTd_keep (s : State) (a1 : ℕ) (a2 : ℕ) (a3 : Word) :
    (s.writeTd a1 a2 a3).part = s.part ∧ (s.writeTd a1 a2 a3).fused = s.fused ∧ (s.writeTd a1 a2 a3).pending = s.pending ∧ (s.writeTd a1 a2 a3).host.flash = s.host.flash ∧ (s.writeTd a1 a2 a3).tb.tbEn = s.tb.tbEn ∧ (s.writeTd a1 a2 a3).tb.oscFreq = s.tb.oscFreq := by
  unfold State.writeTd
  split <;> simp

@[simp] theorem State.writeEv_keep (s : State) (a1 : ℕ) (a2 : ℕ) (a3 : Word) :
    (s.writeEv a1 a2 a3).part = s.part ∧ (s.writeEv a1 a2 a3).fused = s.fused ∧ (s.writeEv a1 a2 a3).pending = s.pending ∧ (s.writeEv a1 a2 a3).host.flash = s.host.flash ∧ (s.writeEv a1 a2 a3).tb.tbEn = s.tb.tbEn ∧ (s.writeEv a1 a2 a3).tb.oscFreq = s.tb.oscFreq := by
  unfold State.writeEv
  split <;> simp

@[simp] theorem State.writeStitch_keep (s : State) (a1 : ℕ) (a2 : ℕ) (a3 : Word) :
    (s.writeStitch a1 a2 a3).part = s.part ∧ (s.writeStitch a1 a2 a3).fused = s.fused ∧ (s.writeStitch a1 a2 a3).pending = s.pending ∧ (s.writeStitch a1 a2 a3).host.flash = s.host.flash ∧ (s.writeStitch a1 a2 a3).tb.tbEn = s.tb.tbEn ∧ (s.writeStitch a1 a2 a3).tb.oscFreq = s.tb.oscFreq := by
  unfold State.writeStitch
  split <;> simp

@[simp] theorem State.writeSht_keep (s : State) (a1 : ℕ) (a2 : ℕ) (a3 : Word) :
    (s.writeSht a1 a2 a3).part = s.part ∧ (s.writeSht a1 a2 a3).fused = s.fused ∧ (s.writeSht a1 a2 a3).pending = s.pending ∧ (s.writeSht a1 a2 a3).host.flash = s.host.flash ∧ (s.writeSht a1 a2 a3).tb.tbEn = s.tb.tbEn ∧ (s.writeSht a1 a2 a3).tb.oscFreq = s.tb.oscFreq := by
  unfold State.writeSht
  split <;> simp

@[simp] theorem State.writeMbx_keep (s : State) (a1 : ℕ) (a2 : ℕ) (a3 : ℕ) (a4 : Word) :
    (s.writeMbx a1 a2 a3 a4).part = s.part ∧ (s.writeMbx a1 a2 a3 a4).fused = s.fused ∧ (s.writeMbx a1 a2 a3 a4).pending = s.pending ∧ (s.writeMbx a1 a2 a3 a4).host.flash = s.host.flash ∧ (s.writeMbx a1 a2 a3 a4).tb.tbEn = s.tb.tbEn ∧ (s.writeMbx a1 a2 a3 a4).tb.oscFreq = s.tb.oscFreq := by
  unfold State.writeMbx
  repeat' split
  all_goals simp

@[simp] theorem State.writeAbort_keep (s : State) (a1 : ℕ) (a2 : Bool) (a3 : Word) :
    (s.writeAbort a1 a2 a3).part = s.part ∧ (s.writeAbort a1 a2 a3).fused = s.fused ∧ (s.writeAbort a1 a2 a3).pending = s.pending ∧ (s.writeAbort a1 a2 a3).host.flash = s.host.flash ∧ (s.writeAbort a1 a2 a3).tb.tbEn = s.tb.tbEn ∧ (s.writeAbort a1 a2 a3).tb.oscFreq = s.tb.oscFreq := by
  unfold State.writeAbort
  dsimp only
  repeat' split
  all_goals simp

@[simp] theorem State.writeRing_keep (s : State) (a1 : ℕ) (a2 : ℕ) (a3 : Word) :
    (s.writeRing a1 a2 a3).part = s.part ∧ (s.writeRing a1 a2 a3).fused = s.fused ∧ (s.writeRing a1 a2 a3).pending = s.pending ∧ (s.writeRing a1 a2 a3).host.flash = s.host.flash ∧ (s.writeRing a1 a2 a3).tb.tbEn = s.tb.tbEn ∧ (s.writeRing a1 a2 a3).tb.oscFreq = s.tb.oscFreq := by
  unfold State.writeRing
  split <;> simp

@[simp] theorem State.writeLoc_keep (s : State) (a1 : ℕ) (a2 : Word) :
    (s.writeLoc a1 a2).part = s.part ∧ (s.writeLoc a1 a2).fused = s.fused ∧ (s.writeLoc a1 a2).pending = s.pending ∧ (s.writeLoc a1 a2).host.flash = s.host.flash ∧ (s.writeLoc a1 a2).tb.tbEn = s.tb.tbEn ∧ (s.writeLoc a1 a2).tb.oscFreq = s.tb.oscFreq := by
  unfold State.writeLoc
  split <;> simp

@[simp] theorem State.writeBelay_keep (s : State) (a1 : ℕ) (a2 : Word) :
    (s.writeBelay a1 a2).part = s.part ∧ (s.writeBelay a1 a2).fused = s.fused ∧ (s.writeBelay a1 a2).pending = s.pending ∧ (s.writeBelay a1 a2).host.flash = s.host.flash ∧ (s.writeBelay a1 a2).tb.tbEn = s.tb.tbEn ∧ (s.writeBelay a1 a2).tb.oscFreq = s.tb.oscFreq := by
  unfold State.writeBelay
  simp

@[simp] theorem State.writeLow_keep (s : State) (a1 : ℕ) (a2 : ℕ) (a3 : Word) :
    (s.writeLow a1 a2 a3).part = s.part ∧ (s.writeLow a1 a2 a3).fused = s.fused ∧ (s.writeLow a1 a2 a3).pending = s.pending := by
  unfold State.writeLow
  repeat' split
  all_goals simp

@[simp] theorem State.writeHigh_keep (s : State) (a1 : ℕ) (a2 : ℕ) (a3 : ℕ) (a4 : Word) (a5 : Bool) :
    (s.writeHigh a1 a2 a3 a4 a5).part = s.part ∧ (s.writeHigh a1 a2 a3 a4 a5).fused = s.fused ∧ (s.writeHigh a1 a2 a3 a4 a5).pending = s.pending ∧ (s.writeHigh a1 a2 a3 a4 a5).host.flash = s.host.flash ∧ (s.writeHigh a1 a2 a3 a4 a5).tb.tbEn = s.tb.tbEn ∧ (s.writeHigh a1 a2 a3 a4 a5).tb.oscFreq = s.tb.oscFreq := by
  unfold State.writeHigh
  simp

@[simp] theorem State.wrReg_keep (s : State) (a1 : ℕ) (a2 : ℕ) (a3 : ℕ) (a4 : Word) (a5 : Bool) :
    (s.wrReg a1 a2 a3 a4 a5).part = s.part ∧ (s.wrReg a1 a2 a3 a4 a5).fused = s.fused ∧ (s.wrReg a1 a2 a3 a4 a5).pending = s.pending := by
  unfold State.wrReg
  simp

@[simp] theorem State.applyUnitWrite_keep (s : State) (a1 : ℕ) (a2 : UnitWrite) :
    (s.applyUnitWrite a1 a2).part = s.part ∧ (s.applyUnitWrite a1 a2).fused = s.fused ∧ (s.applyUnitWrite a1 a2).pending = s.pending := by
  unfold State.applyUnitWrite
  split <;> simp

@[simp] theorem State.stitchHalted_keep (s : State) (a1 : ℕ) :
    (s.stitchHalted a1).part = s.part ∧ (s.stitchHalted a1).fused = s.fused ∧ (s.stitchHalted a1).pending = s.pending ∧ (s.stitchHalted a1).host.flash = s.host.flash ∧ (s.stitchHalted a1).tb.tbEn = s.tb.tbEn ∧ (s.stitchHalted a1).tb.oscFreq = s.tb.oscFreq := by
  unfold State.stitchHalted
  simp

@[simp] theorem State.stitchStep_keep (s : State) (a1 : ℕ) (a2 : SInstr → Option State) (h : ∀ i t, a2 i = some t → (t).part = (s).part ∧ (t).fused = (s).fused ∧ (t).pending = (s).pending ∧ (t).host.flash = (s).host.flash ∧ (t).tb.tbEn = (s).tb.tbEn ∧ (t).tb.oscFreq = (s).tb.oscFreq) :
    (s.stitchStep a1 a2).part = s.part ∧ (s.stitchStep a1 a2).fused = s.fused ∧ (s.stitchStep a1 a2).pending = s.pending ∧ (s.stitchStep a1 a2).host.flash = s.host.flash ∧ (s.stitchStep a1 a2).tb.tbEn = s.tb.tbEn ∧ (s.stitchStep a1 a2).tb.oscFreq = s.tb.oscFreq := by
  unfold State.stitchStep
  split
  · split
    · simp
    · simp
    · rename_i i _
      cases hi : a2 i with
      | none => simp
      | some t => simpa [hi] using h i t hi
  · simp

@[simp] theorem State.opHalt_keep (s : State) (a1 : ℕ) :
    (s.opHalt a1).part = s.part ∧ (s.opHalt a1).fused = s.fused ∧ (s.opHalt a1).pending = s.pending ∧ (s.opHalt a1).host.flash = s.host.flash ∧ (s.opHalt a1).tb.tbEn = s.tb.tbEn ∧ (s.opHalt a1).tb.oscFreq = s.tb.oscFreq := by
  unfold State.opHalt
  refine State.stitchStep_keep _ _ _ ?_
  intro i t h
  dsimp only at h
  (repeat' split at h)
  all_goals cases h
  all_goals simp

@[simp] theorem State.opWaitEvent_keep (s : State) (a1 : ℕ) :
    (s.opWaitEvent a1).part = s.part ∧ (s.opWaitEvent a1).fused = s.fused ∧ (s.opWaitEvent a1).pending = s.pending ∧ (s.opWaitEvent a1).host.flash = s.host.flash ∧ (s.opWaitEvent a1).tb.tbEn = s.tb.tbEn ∧ (s.opWaitEvent a1).tb.oscFreq = s.tb.oscFreq := by
  unfold State.opWaitEvent
  refine State.stitchStep_keep _ _ _ ?_
  intro i t h
  (repeat' split at h)
  all_goals cases h
  all_goals simp

@[simp] theorem State.opWaitTime_keep (s : State) (a1 : ℕ) :
    (s.opWaitTime a1).part = s.part ∧ (s.opWaitTime a1).fused = s.fused ∧ (s.opWaitTime a1).pending = s.pending ∧ (s.opWaitTime a1).host.flash = s.host.flash ∧ (s.opWaitTime a1).tb.tbEn = s.tb.tbEn ∧ (s.opWaitTime a1).tb.oscFreq = s.tb.oscFreq := by
  unfold State.opWaitTime
  refine State.stitchStep_keep _ _ _ ?_
  intro i t h
  dsimp only at h
  (repeat' split at h)
  all_goals cases h
  all_goals simp

@[simp] theorem State.fieldWrite_keep (s : State) (a1 : ℕ) (a2 : ℕ) (a3 : ℕ) (a4 : ℕ) (a5 : Word) :
    (s.fieldWrite a1 a2 a3 a4 a5).part = s.part ∧ (s.fieldWrite a1 a2 a3 a4 a5).fused = s.fused ∧ (s.fieldWrite a1 a2 a3 a4 a5).pending = s.pending ∧ (s.fieldWrite a1 a2 a3 a4 a5).host.flash = s.host.flash ∧ (s.fieldWrite a1 a2 a3 a4 a5).tb.tbEn = s.tb.tbEn ∧ (s.fieldWrite a1 a2 a3 a4 a5).tb.oscFreq = s.tb.oscFreq := by
  unfold State.fieldWrite
  simp

@[simp] theorem State.opSetField_keep (s : State) (a1 : ℕ) :
    (s.opSetField a1).part = s.part ∧ (s.opSetField a1).fused = s.fused ∧ (s.opSetField a1).pending = s.pending ∧ (s.opSetField a1).host.flash = s.host.flash ∧ (s.opSetField a1).tb.tbEn = s.tb.tbEn ∧ (s.opSetField a1).tb.oscFreq = s.tb.oscFreq := by
  unfold State.opSetField
  refine State.stitchStep_keep _ _ _ ?_
  intro i t h
  (repeat' split at h)
  all_goals cases h
  all_goals simp

@[simp] theorem State.opClrField_keep (s : State) (a1 : ℕ) :
    (s.opClrField a1).part = s.part ∧ (s.opClrField a1).fused = s.fused ∧ (s.opClrField a1).pending = s.pending ∧ (s.opClrField a1).host.flash = s.host.flash ∧ (s.opClrField a1).tb.tbEn = s.tb.tbEn ∧ (s.opClrField a1).tb.oscFreq = s.tb.oscFreq := by
  unfold State.opClrField
  refine State.stitchStep_keep _ _ _ ?_
  intro i t h
  (repeat' split at h)
  all_goals cases h
  all_goals simp

@[simp] theorem State.unitSteps_keep (s : State) :
    (s.unitSteps).2.part = s.part ∧ (s.unitSteps).2.fused = s.fused ∧ (s.unitSteps).2.pending = s.pending ∧ (s.unitSteps).2.host.flash = s.host.flash ∧ (s.unitSteps).2.tb.tbEn = s.tb.tbEn ∧ (s.unitSteps).2.tb.oscFreq = s.tb.oscFreq := by
  unfold State.unitSteps
  simp

@[simp] theorem State.opRead_keep (s : State) (a1 : ℕ) :
    (s.opRead a1).part = s.part ∧ (s.opRead a1).fused = s.fused ∧ (s.opRead a1).pending = s.pending ∧ (s.opRead a1).host.flash = s.host.flash ∧ (s.opRead a1).tb.tbEn = s.tb.tbEn ∧ (s.opRead a1).tb.oscFreq = s.tb.oscFreq := by
  unfold State.opRead
  refine State.stitchStep_keep _ _ _ ?_
  intro i t h
  dsimp only at h
  (repeat' split at h)
  all_goals cases h
  all_goals simp

@[simp] theorem State.opCmp_keep (s : State) (a1 : ℕ) :
    (s.opCmp a1).part = s.part ∧ (s.opCmp a1).fused = s.fused ∧ (s.opCmp a1).pending = s.pending ∧ (s.opCmp a1).host.flash = s.host.flash ∧ (s.opCmp a1).tb.tbEn = s.tb.tbEn ∧ (s.opCmp a1).tb.oscFreq = s.tb.oscFreq := by
  unfold State.opCmp
  refine State.stitchStep_keep _ _ _ ?_
  intro i t h
  dsimp only at h
  (repeat' split at h)
  all_goals cases h
  all_goals simp

@[simp] theorem State.opBranch_keep (s : State) (a1 : ℕ) :
    (s.opBranch a1).part = s.part ∧ (s.opBranch a1).fused = s.fused ∧ (s.opBranch a1).pending = s.pending ∧ (s.opBranch a1).host.flash = s.host.flash ∧ (s.opBranch a1).tb.tbEn = s.tb.tbEn ∧ (s.opBranch a1).tb.oscFreq = s.tb.oscFreq := by
  unfold State.opBranch
  refine State.stitchStep_keep _ _ _ ?_
  intro i t h
  dsimp only at h
  (repeat' split at h)
  all_goals cases h
  all_goals simp

@[simp] theorem State.opAdd_keep (s : State) (a1 : ℕ) :
    (s.opAdd a1).part = s.part ∧ (s.opAdd a1).fused = s.fused ∧ (s.opAdd a1).pending = s.pending ∧ (s.opAdd a1).host.flash = s.host.flash ∧ (s.opAdd a1).tb.tbEn = s.tb.tbEn ∧ (s.opAdd a1).tb.oscFreq = s.tb.oscFreq := by
  unfold State.opAdd
  refine State.stitchStep_keep _ _ _ ?_
  intro i t h
  dsimp only at h
  (repeat' split at h)
  all_goals cases h
  all_goals simp

@[simp] theorem State.opLoop_keep (s : State) (a1 : ℕ) :
    (s.opLoop a1).part = s.part ∧ (s.opLoop a1).fused = s.fused ∧ (s.opLoop a1).pending = s.pending ∧ (s.opLoop a1).host.flash = s.host.flash ∧ (s.opLoop a1).tb.tbEn = s.tb.tbEn ∧ (s.opLoop a1).tb.oscFreq = s.tb.oscFreq := by
  unfold State.opLoop
  refine State.stitchStep_keep _ _ _ ?_
  intro i t h
  dsimp only at h
  (repeat' split at h)
  all_goals cases h
  all_goals simp

@[simp] theorem State.opEmit_keep (s : State) (a1 : ℕ) :
    (s.opEmit a1).part = s.part ∧ (s.opEmit a1).fused = s.fused ∧ (s.opEmit a1).pending = s.pending ∧ (s.opEmit a1).host.flash = s.host.flash ∧ (s.opEmit a1).tb.tbEn = s.tb.tbEn ∧ (s.opEmit a1).tb.oscFreq = s.tb.oscFreq := by
  unfold State.opEmit
  refine State.stitchStep_keep _ _ _ ?_
  intro i t h
  dsimp only at h
  (repeat' split at h)
  all_goals cases h
  all_goals simp

@[simp] theorem State.stitchInvoke_keep (s : State) (a1 : ℕ) :
    (s.stitchInvoke a1).part = s.part ∧ (s.stitchInvoke a1).fused = s.fused ∧ (s.stitchInvoke a1).pending = s.pending ∧ (s.stitchInvoke a1).host.flash = s.host.flash ∧ (s.stitchInvoke a1).tb.tbEn = s.tb.tbEn ∧ (s.stitchInvoke a1).tb.oscFreq = s.tb.oscFreq := by
  unfold State.stitchInvoke
  dsimp only
  repeat' split
  all_goals simp

@[simp] theorem State.stitchResume_keep (s : State) (a1 : ℕ) :
    (s.stitchResume a1).part = s.part ∧ (s.stitchResume a1).fused = s.fused ∧ (s.stitchResume a1).pending = s.pending ∧ (s.stitchResume a1).host.flash = s.host.flash ∧ (s.stitchResume a1).tb.tbEn = s.tb.tbEn ∧ (s.stitchResume a1).tb.oscFreq = s.tb.oscFreq := by
  unfold State.stitchResume
  dsimp only
  repeat' split
  all_goals simp

@[simp] theorem State.stallSteps_keep (s : State) (a1 : ℕ) :
    (s.stallSteps a1).2.part = s.part ∧ (s.stallSteps a1).2.fused = s.fused ∧ (s.stallSteps a1).2.pending = s.pending ∧ (s.stallSteps a1).2.host.flash = s.host.flash ∧ (s.stallSteps a1).2.tb.tbEn = s.tb.tbEn ∧ (s.stallSteps a1).2.tb.oscFreq = s.tb.oscFreq := by
  unfold State.stallSteps
  split <;> simp

@[simp] theorem State.stitchUnitWrite_keep (s : State) (a1 : ℕ) :
    (s.stitchUnitWrite a1).part = s.part ∧ (s.stitchUnitWrite a1).fused = s.fused ∧ (s.stitchUnitWrite a1).pending = s.pending := by
  unfold State.stitchUnitWrite
  dsimp only
  repeat' split
  all_goals simp

@[simp] theorem State.stitchOverrun_keep (s : State) (a1 : ℕ) :
    (s.stitchOverrun a1).part = s.part ∧ (s.stitchOverrun a1).fused = s.fused ∧ (s.stitchOverrun a1).pending = s.pending ∧ (s.stitchOverrun a1).host.flash = s.host.flash ∧ (s.stitchOverrun a1).tb.tbEn = s.tb.tbEn ∧ (s.stitchOverrun a1).tb.oscFreq = s.tb.oscFreq := by
  unfold State.stitchOverrun
  simp

@[simp] theorem State.installDefault_keep (s : State) (a1 : ℕ) :
    (s.installDefault a1).part = s.part ∧ (s.installDefault a1).fused = s.fused ∧ (s.installDefault a1).pending = s.pending ∧ (s.installDefault a1).host.flash = s.host.flash ∧ (s.installDefault a1).tb.tbEn = s.tb.tbEn ∧ (s.installDefault a1).tb.oscFreq = s.tb.oscFreq := by
  unfold State.installDefault
  simp

@[simp] theorem stitchLoadReply_keep (a0 : ℕ) (a1 : List Byte) (s : State) :
    (stitchLoadReply a0 a1 s).s.part = s.part ∧ (stitchLoadReply a0 a1 s).s.fused = s.fused ∧ (stitchLoadReply a0 a1 s).s.pending = s.pending ∧ (stitchLoadReply a0 a1 s).s.host.flash = s.host.flash ∧ (stitchLoadReply a0 a1 s).s.tb.tbEn = s.tb.tbEn ∧ (stitchLoadReply a0 a1 s).s.tb.oscFreq = s.tb.oscFreq := by
  unfold stitchLoadReply
  refine guarded_keep _ _ _ ?_
  simp

@[simp] theorem State.commitWaits_keep (s : State) (a1 : ℕ) (a2 : CommitWait) :
    (s.commitWaits a1 a2).s.part = s.part ∧ (s.commitWaits a1 a2).s.fused = s.fused ∧ (s.commitWaits a1 a2).s.pending = s.pending ∧ (s.commitWaits a1 a2).s.host.flash = s.host.flash ∧ (s.commitWaits a1 a2).s.tb.tbEn = s.tb.tbEn ∧ (s.commitWaits a1 a2).s.tb.oscFreq = s.tb.oscFreq := by
  unfold State.commitWaits
  simp

@[simp] theorem stitchCommitReply_keep (a0 : ℕ) (a1 : List Byte) (s : State) :
    (stitchCommitReply a0 a1 s).s.part = s.part ∧ (stitchCommitReply a0 a1 s).s.fused = s.fused ∧ (stitchCommitReply a0 a1 s).s.pending = s.pending ∧ (stitchCommitReply a0 a1 s).s.host.flash = s.host.flash ∧ (stitchCommitReply a0 a1 s).s.tb.tbEn = s.tb.tbEn ∧ (stitchCommitReply a0 a1 s).s.tb.oscFreq = s.tb.oscFreq := by
  unfold stitchCommitReply
  dsimp only
  repeat' split
  all_goals simp

@[simp] theorem stitchDefaultReply_keep (a0 : ℕ) (a1 : List Byte) (s : State) :
    (stitchDefaultReply a0 a1 s).s.part = s.part ∧ (stitchDefaultReply a0 a1 s).s.fused = s.fused ∧ (stitchDefaultReply a0 a1 s).s.pending = s.pending ∧ (stitchDefaultReply a0 a1 s).s.host.flash = s.host.flash ∧ (stitchDefaultReply a0 a1 s).s.tb.tbEn = s.tb.tbEn ∧ (stitchDefaultReply a0 a1 s).s.tb.oscFreq = s.tb.oscFreq := by
  unfold stitchDefaultReply
  dsimp only
  repeat' split
  all_goals simp

@[simp] theorem stitchRunReply_keep (a0 : ℕ) (a1 : List Byte) (s : State) :
    (stitchRunReply a0 a1 s).s.part = s.part ∧ (stitchRunReply a0 a1 s).s.fused = s.fused ∧ (stitchRunReply a0 a1 s).s.pending = s.pending ∧ (stitchRunReply a0 a1 s).s.host.flash = s.host.flash ∧ (stitchRunReply a0 a1 s).s.tb.tbEn = s.tb.tbEn ∧ (stitchRunReply a0 a1 s).s.tb.oscFreq = s.tb.oscFreq := by
  unfold stitchRunReply
  refine guarded_keep _ _ _ ?_
  simp

end Sys2Proof.Machine
end

