-- ==== Sys2Proof/Laws/KeepMailbox.lean ====
section
/-! SUPPORT. What the operations of the mailboxes, the store, the cairn commands and the event queues (chapters 06, 11, 12 and 14) leave alone. -/

namespace Sys2Proof.Machine
open Sys2Proof

@[simp] theorem State.posted_keep (s : State) (a1 : ℕ) :
    (s.posted a1).part = s.part ∧ (s.posted a1).fused = s.fused ∧ (s.posted a1).pending = s.pending ∧ (s.posted a1).host.flash = s.host.flash ∧ (s.posted a1).tb.tbEn = s.tb.tbEn ∧ (s.posted a1).tb.oscFreq = s.tb.oscFreq := by
  unfold State.posted
  split <;> simp

@[simp] theorem State.respond_keep (s : State) (a1 : ℕ) (a2 : ℕ) (a3 : ℕ) (a4 : ℕ) (a5 : List Byte) :
    (s.respond a1 a2 a3 a4 a5).part = s.part ∧ (s.respond a1 a2 a3 a4 a5).fused = s.fused ∧ (s.respond a1 a2 a3 a4 a5).pending = s.pending ∧ (s.respond a1 a2 a3 a4 a5).host.flash = s.host.flash ∧ (s.respond a1 a2 a3 a4 a5).tb.tbEn = s.tb.tbEn ∧ (s.respond a1 a2 a3 a4 a5).tb.oscFreq = s.tb.oscFreq := by
  unfold State.respond
  simp

@[simp] theorem State.postHeld_keep (s : State) (a1 : ℕ) :
    (s.postHeld a1).part = s.part ∧ (s.postHeld a1).fused = s.fused ∧ (s.postHeld a1).pending = s.pending ∧ (s.postHeld a1).host.flash = s.host.flash ∧ (s.postHeld a1).tb.tbEn = s.tb.tbEn ∧ (s.postHeld a1).tb.oscFreq = s.tb.oscFreq := by
  unfold State.postHeld
  dsimp only
  repeat' split
  all_goals simp

@[simp] theorem State.finish_keep (s : State) (a1 : ℕ) (a2 : ℕ) (a3 : List Byte) :
    (s.finish a1 a2 a3).part = s.part ∧ (s.finish a1 a2 a3).fused = s.fused ∧ (s.finish a1 a2 a3).pending = s.pending ∧ (s.finish a1 a2 a3).host.flash = s.host.flash ∧ (s.finish a1 a2 a3).tb.tbEn = s.tb.tbEn ∧ (s.finish a1 a2 a3).tb.oscFreq = s.tb.oscFreq := by
  unfold State.finish
  split <;> simp

@[simp] theorem State.refreshAuth_keep (s : State) :
    (s.refreshAuth).part = s.part ∧ (s.refreshAuth).fused = s.fused ∧ (s.refreshAuth).pending = s.pending ∧ (s.refreshAuth).host.flash = s.host.flash ∧ (s.refreshAuth).tb.tbEn = s.tb.tbEn ∧ (s.refreshAuth).tb.oscFreq = s.tb.oscFreq := by
  unfold State.refreshAuth
  simp

@[simp] theorem State.endSession_keep (s : State) (a1 : ℕ) :
    (s.endSession a1).part = s.part ∧ (s.endSession a1).fused = s.fused ∧ (s.endSession a1).pending = s.pending ∧ (s.endSession a1).host.flash = s.host.flash ∧ (s.endSession a1).tb.tbEn = s.tb.tbEn ∧ (s.endSession a1).tb.oscFreq = s.tb.oscFreq := by
  unfold State.endSession
  simp

@[simp] theorem State.dropRun_keep (s : State) (a1 : ℕ) :
    (s.dropRun a1).part = s.part ∧ (s.dropRun a1).fused = s.fused ∧ (s.dropRun a1).pending = s.pending ∧ (s.dropRun a1).host.flash = s.host.flash ∧ (s.dropRun a1).tb.tbEn = s.tb.tbEn ∧ (s.dropRun a1).tb.oscFreq = s.tb.oscFreq := by
  unfold State.dropRun
  simp

@[simp] theorem State.mbxTake_keep (s : State) (a1 : ℕ) :
    (s.mbxTake a1).part = s.part ∧ (s.mbxTake a1).fused = s.fused ∧ (s.mbxTake a1).pending = s.pending ∧ (s.mbxTake a1).host.flash = s.host.flash ∧ (s.mbxTake a1).tb.tbEn = s.tb.tbEn ∧ (s.mbxTake a1).tb.oscFreq = s.tb.oscFreq := by
  unfold State.mbxTake
  dsimp only
  repeat' split
  all_goals simp

@[simp] theorem State.forwarded_keep (s : State) (a1 : ℕ) :
    (s.forwarded a1).part = s.part ∧ (s.forwarded a1).fused = s.fused ∧ (s.forwarded a1).pending = s.pending ∧ (s.forwarded a1).host.flash = s.host.flash ∧ (s.forwarded a1).tb.tbEn = s.tb.tbEn ∧ (s.forwarded a1).tb.oscFreq = s.tb.oscFreq := by
  unfold State.forwarded
  split <;> simp

@[simp] theorem policed_keep (a0 : Bool) (a1 : ℕ) (s : State) (a3 : Reply) (h : (a3.s).part = (s).part ∧ (a3.s).fused = (s).fused ∧ (a3.s).pending = (s).pending ∧ (a3.s).host.flash = (s).host.flash ∧ (a3.s).tb.tbEn = (s).tb.tbEn ∧ (a3.s).tb.oscFreq = (s).tb.oscFreq) :
    (policed a0 a1 s a3).s.part = s.part ∧ (policed a0 a1 s a3).s.fused = s.fused ∧ (policed a0 a1 s a3).s.pending = s.pending ∧ (policed a0 a1 s a3).s.host.flash = s.host.flash ∧ (policed a0 a1 s a3).s.tb.tbEn = s.tb.tbEn ∧ (policed a0 a1 s a3).s.tb.oscFreq = s.tb.oscFreq := by
  unfold policed
  dsimp only
  repeat' split
  all_goals simp [h]

@[simp] theorem State.blame_keep (s : State) (a1 : ℕ) (a2 : ℕ) (a3 : List Byte) :
    (s.blame a1 a2 a3).part = s.part ∧ (s.blame a1 a2 a3).fused = s.fused ∧ (s.blame a1 a2 a3).pending = s.pending ∧ (s.blame a1 a2 a3).host.flash = s.host.flash ∧ (s.blame a1 a2 a3).tb.tbEn = s.tb.tbEn ∧ (s.blame a1 a2 a3).tb.oscFreq = s.tb.oscFreq := by
  unfold State.blame
  simp

@[simp] theorem State.fixPar_keep (s : State) (a1 : ℕ) (a2 : ℕ) :
    (s.fixPar a1 a2).part = s.part ∧ (s.fixPar a1 a2).fused = s.fused ∧ (s.fixPar a1 a2).pending = s.pending ∧ (s.fixPar a1 a2).host.flash = s.host.flash ∧ (s.fixPar a1 a2).tb.tbEn = s.tb.tbEn ∧ (s.fixPar a1 a2).tb.oscFreq = s.tb.oscFreq := by
  unfold State.fixPar
  simp

@[simp] theorem State.fixCmd_keep (s : State) (a1 : ℕ) (a2 : List Byte) :
    (s.fixCmd a1 a2).part = s.part ∧ (s.fixCmd a1 a2).fused = s.fused ∧ (s.fixCmd a1 a2).pending = s.pending ∧ (s.fixCmd a1 a2).host.flash = s.host.flash ∧ (s.fixCmd a1 a2).tb.tbEn = s.tb.tbEn ∧ (s.fixCmd a1 a2).tb.oscFreq = s.tb.oscFreq := by
  unfold State.fixCmd
  repeat' split
  all_goals simp

@[simp] theorem State.runCmd_keep (s : State) (a1 : ℕ) (a2 : ℕ) (a3 : ℕ → List Byte → State → Reply) (h : ∀ p, ((a3 a1 p s).s).part = (s).part ∧ ((a3 a1 p s).s).fused = (s).fused ∧ ((a3 a1 p s).s).pending = (s).pending ∧ ((a3 a1 p s).s).host.flash = (s).host.flash ∧ ((a3 a1 p s).s).tb.tbEn = (s).tb.tbEn ∧ ((a3 a1 p s).s).tb.oscFreq = (s).tb.oscFreq) :
    (s.runCmd a1 a2 a3).part = s.part ∧ (s.runCmd a1 a2 a3).fused = s.fused ∧ (s.runCmd a1 a2 a3).pending = s.pending ∧ (s.runCmd a1 a2 a3).host.flash = s.host.flash ∧ (s.runCmd a1 a2 a3).tb.tbEn = s.tb.tbEn ∧ (s.runCmd a1 a2 a3).tb.oscFreq = s.tb.oscFreq := by
  unfold State.runCmd
  split
  · simp
  · rename_i m _
    have hp := policed_keep m.ro a2 s (a3 a1 m.payload s) (h m.payload)
    dsimp only
    repeat' split
    all_goals simp [hp]

@[simp] theorem State.queueSave_keep (s : State) (a1 : ℕ) (a2 : ℕ) (a3 : Bool) (a4 : RecBody) (a5 : Option ℕ) (a6 : NvFin) :
    (s.queueSave a1 a2 a3 a4 a5 a6).part = s.part ∧ (s.queueSave a1 a2 a3 a4 a5 a6).fused = s.fused ∧ (s.queueSave a1 a2 a3 a4 a5 a6).pending = s.pending ∧ (s.queueSave a1 a2 a3 a4 a5 a6).host.flash = s.host.flash ∧ (s.queueSave a1 a2 a3 a4 a5 a6).tb.tbEn = s.tb.tbEn ∧ (s.queueSave a1 a2 a3 a4 a5 a6).tb.oscFreq = s.tb.oscFreq := by
  unfold State.queueSave
  simp

@[simp] theorem State.endGrants_keep (s : State) (a1 : ℕ) (a2 : ℕ) (a3 : Bool) :
    (s.endGrants a1 a2 a3).part = s.part ∧ (s.endGrants a1 a2 a3).fused = s.fused ∧ (s.endGrants a1 a2 a3).pending = s.pending ∧ (s.endGrants a1 a2 a3).host.flash = s.host.flash ∧ (s.endGrants a1 a2 a3).tb.tbEn = s.tb.tbEn ∧ (s.endGrants a1 a2 a3).tb.oscFreq = s.tb.oscFreq := by
  unfold State.endGrants
  simp

@[simp] theorem State.confirmOtp_keep (s : State) :
    (s.confirmOtp).part = s.part ∧ (s.confirmOtp).fused = s.fused ∧ (s.confirmOtp).pending = s.pending ∧ (s.confirmOtp).host.flash = s.host.flash ∧ (s.confirmOtp).tb.tbEn = s.tb.tbEn ∧ (s.confirmOtp).tb.oscFreq = s.tb.oscFreq := by
  unfold State.confirmOtp
  split <;> simp

@[simp] theorem State.jobFin_keep (s : State) (a1 : ℕ) (a2 : Option ℕ) (a3 : NvFin) :
    (s.jobFin a1 a2 a3).part = s.part ∧ (s.jobFin a1 a2 a3).fused = s.fused ∧ (s.jobFin a1 a2 a3).pending = s.pending ∧ (s.jobFin a1 a2 a3).host.flash = s.host.flash ∧ (s.jobFin a1 a2 a3).tb.tbEn = s.tb.tbEn ∧ (s.jobFin a1 a2 a3).tb.oscFreq = s.tb.oscFreq := by
  unfold State.jobFin
  split <;> simp

@[simp] theorem State.jobAnswer_keep (s : State) (a1 : ℕ) (a2 : Option ℕ) (a3 : ℕ) :
    (s.jobAnswer a1 a2 a3).part = s.part ∧ (s.jobAnswer a1 a2 a3).fused = s.fused ∧ (s.jobAnswer a1 a2 a3).pending = s.pending ∧ (s.jobAnswer a1 a2 a3).host.flash = s.host.flash ∧ (s.jobAnswer a1 a2 a3).tb.tbEn = s.tb.tbEn ∧ (s.jobAnswer a1 a2 a3).tb.oscFreq = s.tb.oscFreq := by
  unfold State.jobAnswer
  repeat' split
  all_goals simp

@[simp] theorem State.pageEnd_keep (s : State) (a1 : ℕ) (a2 : NvDie) (a3 : NvJob) (a4 : NvWork) (a5 : List NvJob) (a6 : ℕ) :
    (s.pageEnd a1 a2 a3 a4 a5 a6).part = s.part ∧ (s.pageEnd a1 a2 a3 a4 a5 a6).fused = s.fused ∧ (s.pageEnd a1 a2 a3 a4 a5 a6).pending = s.pending ∧ (s.pageEnd a1 a2 a3 a4 a5 a6).host.flash = s.host.flash ∧ (s.pageEnd a1 a2 a3 a4 a5 a6).tb.tbEn = s.tb.tbEn ∧ (s.pageEnd a1 a2 a3 a4 a5 a6).tb.oscFreq = s.tb.oscFreq := by
  unfold State.pageEnd
  repeat' split
  all_goals simp

@[simp] theorem State.nvPage_keep (s : State) (a1 : ℕ) (a2 : ℕ) (a3 : ℕ) (a4 : ℕ) :
    (s.nvPage a1 a2 a3 a4).part = s.part ∧ (s.nvPage a1 a2 a3 a4).fused = s.fused ∧ (s.nvPage a1 a2 a3 a4).pending = s.pending ∧ (s.nvPage a1 a2 a3 a4).host.flash = s.host.flash ∧ (s.nvPage a1 a2 a3 a4).tb.tbEn = s.tb.tbEn ∧ (s.nvPage a1 a2 a3 a4).tb.oscFreq = s.tb.oscFreq := by
  unfold State.nvPage
  dsimp only
  repeat' split
  all_goals simp

@[simp] theorem State.marginScan_keep (s : State) (a1 : ℕ) (a2 : ℕ) (a3 : Bool) :
    (s.marginScan a1 a2 a3).part = s.part ∧ (s.marginScan a1 a2 a3).fused = s.fused ∧ (s.marginScan a1 a2 a3).pending = s.pending ∧ (s.marginScan a1 a2 a3).host.flash = s.host.flash ∧ (s.marginScan a1 a2 a3).tb.tbEn = s.tb.tbEn ∧ (s.marginScan a1 a2 a3).tb.oscFreq = s.tb.oscFreq := by
  unfold State.marginScan
  simp

@[simp] theorem nvReadReply_keep (a0 : ℕ) (a1 : List Byte) (s : State) :
    (nvReadReply a0 a1 s).s.part = s.part ∧ (nvReadReply a0 a1 s).s.fused = s.fused ∧ (nvReadReply a0 a1 s).s.pending = s.pending ∧ (nvReadReply a0 a1 s).s.host.flash = s.host.flash ∧ (nvReadReply a0 a1 s).s.tb.tbEn = s.tb.tbEn ∧ (nvReadReply a0 a1 s).s.tb.oscFreq = s.tb.oscFreq := by
  unfold nvReadReply
  refine guarded_keep _ _ _ ?_
  simp

@[simp] theorem nvWriteReply_keep (a0 : ℕ) (a1 : List Byte) (s : State) :
    (nvWriteReply a0 a1 s).s.part = s.part ∧ (nvWriteReply a0 a1 s).s.fused = s.fused ∧ (nvWriteReply a0 a1 s).s.pending = s.pending ∧ (nvWriteReply a0 a1 s).s.host.flash = s.host.flash ∧ (nvWriteReply a0 a1 s).s.tb.tbEn = s.tb.tbEn ∧ (nvWriteReply a0 a1 s).s.tb.oscFreq = s.tb.oscFreq := by
  unfold nvWriteReply
  dsimp only
  repeat' split
  all_goals simp

@[simp] theorem State.modGrants_keep (s : State) (a1 : ℕ) (a2 : List (ℕ × ℕ × Bool) → List (ℕ × ℕ × Bool)) :
    (s.modGrants a1 a2).part = s.part ∧ (s.modGrants a1 a2).fused = s.fused ∧ (s.modGrants a1 a2).pending = s.pending ∧ (s.modGrants a1 a2).host.flash = s.host.flash ∧ (s.modGrants a1 a2).tb.tbEn = s.tb.tbEn ∧ (s.modGrants a1 a2).tb.oscFreq = s.tb.oscFreq := by
  unfold State.modGrants
  simp

@[simp] theorem nvLoginReply_keep (a0 : ℕ) (a1 : List Byte) (s : State) :
    (nvLoginReply a0 a1 s).s.part = s.part ∧ (nvLoginReply a0 a1 s).s.fused = s.fused ∧ (nvLoginReply a0 a1 s).s.pending = s.pending ∧ (nvLoginReply a0 a1 s).s.host.flash = s.host.flash ∧ (nvLoginReply a0 a1 s).s.tb.tbEn = s.tb.tbEn ∧ (nvLoginReply a0 a1 s).s.tb.oscFreq = s.tb.oscFreq := by
  unfold nvLoginReply
  dsimp only
  split
  · simp
  · split
    · simp
    · refine guarded_keep _ _ _ ?_
      simp only [okReply_s]
      split
      all_goals simp

@[simp] theorem nvSetPasswordReply_keep (a0 : ℕ) (a1 : List Byte) (s : State) :
    (nvSetPasswordReply a0 a1 s).s.part = s.part ∧ (nvSetPasswordReply a0 a1 s).s.fused = s.fused ∧ (nvSetPasswordReply a0 a1 s).s.pending = s.pending ∧ (nvSetPasswordReply a0 a1 s).s.host.flash = s.host.flash ∧ (nvSetPasswordReply a0 a1 s).s.tb.tbEn = s.tb.tbEn ∧ (nvSetPasswordReply a0 a1 s).s.tb.oscFreq = s.tb.oscFreq := by
  unfold nvSetPasswordReply
  dsimp only
  repeat' split
  all_goals simp

@[simp] theorem nvGetStatusReply_keep (a0 : ℕ) (a1 : List Byte) (s : State) :
    (nvGetStatusReply a0 a1 s).s.part = s.part ∧ (nvGetStatusReply a0 a1 s).s.fused = s.fused ∧ (nvGetStatusReply a0 a1 s).s.pending = s.pending ∧ (nvGetStatusReply a0 a1 s).s.host.flash = s.host.flash ∧ (nvGetStatusReply a0 a1 s).s.tb.tbEn = s.tb.tbEn ∧ (nvGetStatusReply a0 a1 s).s.tb.oscFreq = s.tb.oscFreq := by
  unfold nvGetStatusReply
  refine guarded_keep _ _ _ ?_
  simp

@[simp] theorem State.saveSeed_keep (s : State) (a1 : ℕ) (a2 : Option ℕ) :
    (s.saveSeed a1 a2).part = s.part ∧ (s.saveSeed a1 a2).fused = s.fused ∧ (s.saveSeed a1 a2).pending = s.pending ∧ (s.saveSeed a1 a2).host.flash = s.host.flash ∧ (s.saveSeed a1 a2).tb.tbEn = s.tb.tbEn ∧ (s.saveSeed a1 a2).tb.oscFreq = s.tb.oscFreq := by
  unfold State.saveSeed
  simp

@[simp] theorem tdcSaveSeedReply_keep (a0 : ℕ) (a1 : List Byte) (s : State) :
    (tdcSaveSeedReply a0 a1 s).s.part = s.part ∧ (tdcSaveSeedReply a0 a1 s).s.fused = s.fused ∧ (tdcSaveSeedReply a0 a1 s).s.pending = s.pending ∧ (tdcSaveSeedReply a0 a1 s).s.host.flash = s.host.flash ∧ (tdcSaveSeedReply a0 a1 s).s.tb.tbEn = s.tb.tbEn ∧ (tdcSaveSeedReply a0 a1 s).s.tb.oscFreq = s.tb.oscFreq := by
  unfold tdcSaveSeedReply
  dsimp only
  repeat' split
  all_goals simp

@[simp] theorem State.forgetModel_keep (s : State) (a1 : ℕ) (a2 : ModelSt) :
    (s.forgetModel a1 a2).part = s.part ∧ (s.forgetModel a1 a2).fused = s.fused ∧ (s.forgetModel a1 a2).pending = s.pending ∧ (s.forgetModel a1 a2).host.flash = s.host.flash ∧ (s.forgetModel a1 a2).tb.tbEn = s.tb.tbEn ∧ (s.forgetModel a1 a2).tb.oscFreq = s.tb.oscFreq := by
  unfold State.forgetModel
  simp

@[simp] theorem State.saveModel_keep (s : State) (a1 : ℕ) (a2 : Option ℕ) :
    (s.saveModel a1 a2).part = s.part ∧ (s.saveModel a1 a2).fused = s.fused ∧ (s.saveModel a1 a2).pending = s.pending ∧ (s.saveModel a1 a2).host.flash = s.host.flash ∧ (s.saveModel a1 a2).tb.tbEn = s.tb.tbEn ∧ (s.saveModel a1 a2).tb.oscFreq = s.tb.oscFreq := by
  unfold State.saveModel
  simp

@[simp] theorem State.correctAge_keep (s : State) (a1 : ℕ) :
    (s.correctAge a1).part = s.part ∧ (s.correctAge a1).fused = s.fused ∧ (s.correctAge a1).pending = s.pending ∧ (s.correctAge a1).host.flash = s.host.flash ∧ (s.correctAge a1).tb.tbEn = s.tb.tbEn ∧ (s.correctAge a1).tb.oscFreq = s.tb.oscFreq := by
  unfold State.correctAge
  split <;> simp

@[simp] theorem State.correctAges_keep (s : State) :
    (s.correctAges).part = s.part ∧ (s.correctAges).fused = s.fused ∧ (s.correctAges).pending = s.pending ∧ (s.correctAges).host.flash = s.host.flash ∧ (s.correctAges).tb.tbEn = s.tb.tbEn ∧ (s.correctAges).tb.oscFreq = s.tb.oscFreq := by
  unfold State.correctAges
  simp

@[simp] theorem State.declareModel_keep (s : State) (a1 : ℕ) :
    (s.declareModel a1).part = s.part ∧ (s.declareModel a1).fused = s.fused ∧ (s.declareModel a1).pending = s.pending ∧ (s.declareModel a1).host.flash = s.host.flash ∧ (s.declareModel a1).tb.tbEn = s.tb.tbEn ∧ (s.declareModel a1).tb.oscFreq = s.tb.oscFreq := by
  unfold State.declareModel
  dsimp only
  repeat' split
  all_goals simp

@[simp] theorem State.freeSlot_keep (s : State) (a1 : ℕ) :
    (s.freeSlot a1).part = s.part ∧ (s.freeSlot a1).fused = s.fused ∧ (s.freeSlot a1).pending = s.pending ∧ (s.freeSlot a1).host.flash = s.host.flash ∧ (s.freeSlot a1).tb.tbEn = s.tb.tbEn ∧ (s.freeSlot a1).tb.oscFreq = s.tb.oscFreq := by
  unfold State.freeSlot
  simp

@[simp] theorem State.takeSlot_keep (s : State) (a1 : ℕ) :
    (s.takeSlot a1).part = s.part ∧ (s.takeSlot a1).fused = s.fused ∧ (s.takeSlot a1).pending = s.pending ∧ (s.takeSlot a1).host.flash = s.host.flash ∧ (s.takeSlot a1).tb.tbEn = s.tb.tbEn ∧ (s.takeSlot a1).tb.oscFreq = s.tb.oscFreq := by
  unfold State.takeSlot
  split <;> simp

@[simp] theorem State.showSlot_keep (s : State) (a1 : ℕ) :
    (s.showSlot a1).part = s.part ∧ (s.showSlot a1).fused = s.fused ∧ (s.showSlot a1).pending = s.pending ∧ (s.showSlot a1).host.flash = s.host.flash ∧ (s.showSlot a1).tb.tbEn = s.tb.tbEn ∧ (s.showSlot a1).tb.oscFreq = s.tb.oscFreq := by
  unfold State.showSlot
  simp

@[simp] theorem State.setMember_keep (s : State) (a1 : ℕ) (a2 : List Byte) :
    (s.setMember a1 a2).part = s.part ∧ (s.setMember a1 a2).fused = s.fused ∧ (s.setMember a1 a2).pending = s.pending ∧ (s.setMember a1 a2).host.flash = s.host.flash ∧ (s.setMember a1 a2).tb.tbEn = s.tb.tbEn ∧ (s.setMember a1 a2).tb.oscFreq = s.tb.oscFreq := by
  unfold State.setMember
  simp

@[simp] theorem cairnSetMemberReply_keep (a0 : ℕ) (a1 : List Byte) (s : State) :
    (cairnSetMemberReply a0 a1 s).s.part = s.part ∧ (cairnSetMemberReply a0 a1 s).s.fused = s.fused ∧ (cairnSetMemberReply a0 a1 s).s.pending = s.pending ∧ (cairnSetMemberReply a0 a1 s).s.host.flash = s.host.flash ∧ (cairnSetMemberReply a0 a1 s).s.tb.tbEn = s.tb.tbEn ∧ (cairnSetMemberReply a0 a1 s).s.tb.oscFreq = s.tb.oscFreq := by
  unfold cairnSetMemberReply
  refine guarded_keep _ _ _ ?_
  simp

@[simp] theorem cairnSetConfigReply_keep (a0 : ℕ) (a1 : List Byte) (s : State) :
    (cairnSetConfigReply a0 a1 s).s.part = s.part ∧ (cairnSetConfigReply a0 a1 s).s.fused = s.fused ∧ (cairnSetConfigReply a0 a1 s).s.pending = s.pending ∧ (cairnSetConfigReply a0 a1 s).s.host.flash = s.host.flash ∧ (cairnSetConfigReply a0 a1 s).s.tb.tbEn = s.tb.tbEn ∧ (cairnSetConfigReply a0 a1 s).s.tb.oscFreq = s.tb.oscFreq := by
  unfold cairnSetConfigReply
  refine guarded_keep _ _ _ ?_
  simp

@[simp] theorem cairnGetModelReply_keep (a0 : ℕ) (a1 : List Byte) (s : State) :
    (cairnGetModelReply a0 a1 s).s.part = s.part ∧ (cairnGetModelReply a0 a1 s).s.fused = s.fused ∧ (cairnGetModelReply a0 a1 s).s.pending = s.pending ∧ (cairnGetModelReply a0 a1 s).s.host.flash = s.host.flash ∧ (cairnGetModelReply a0 a1 s).s.tb.tbEn = s.tb.tbEn ∧ (cairnGetModelReply a0 a1 s).s.tb.oscFreq = s.tb.oscFreq := by
  unfold cairnGetModelReply
  refine guarded_keep _ _ _ ?_
  simp

@[simp] theorem cairnSaveReply_keep (a0 : ℕ) (a1 : List Byte) (s : State) :
    (cairnSaveReply a0 a1 s).s.part = s.part ∧ (cairnSaveReply a0 a1 s).s.fused = s.fused ∧ (cairnSaveReply a0 a1 s).s.pending = s.pending ∧ (cairnSaveReply a0 a1 s).s.host.flash = s.host.flash ∧ (cairnSaveReply a0 a1 s).s.tb.tbEn = s.tb.tbEn ∧ (cairnSaveReply a0 a1 s).s.tb.oscFreq = s.tb.oscFreq := by
  unfold cairnSaveReply
  dsimp only
  repeat' split
  all_goals simp

@[simp] theorem cairnForgetReply_keep (a0 : ℕ) (a1 : List Byte) (s : State) :
    (cairnForgetReply a0 a1 s).s.part = s.part ∧ (cairnForgetReply a0 a1 s).s.fused = s.fused ∧ (cairnForgetReply a0 a1 s).s.pending = s.pending ∧ (cairnForgetReply a0 a1 s).s.host.flash = s.host.flash ∧ (cairnForgetReply a0 a1 s).s.tb.tbEn = s.tb.tbEn ∧ (cairnForgetReply a0 a1 s).s.tb.oscFreq = s.tb.oscFreq := by
  unfold cairnForgetReply
  refine guarded_keep _ _ _ ?_
  simp

@[simp] theorem State.restoreVerify_keep (s : State) (a1 : ℕ) :
    (s.restoreVerify a1).part = s.part ∧ (s.restoreVerify a1).fused = s.fused ∧ (s.restoreVerify a1).pending = s.pending ∧ (s.restoreVerify a1).host.flash = s.host.flash ∧ (s.restoreVerify a1).tb.tbEn = s.tb.tbEn ∧ (s.restoreVerify a1).tb.oscFreq = s.tb.oscFreq := by
  unfold State.restoreVerify
  simp

@[simp] theorem State.modelSave_keep (s : State) (a1 : ℕ) :
    (s.modelSave a1).part = s.part ∧ (s.modelSave a1).fused = s.fused ∧ (s.modelSave a1).pending = s.pending ∧ (s.modelSave a1).host.flash = s.host.flash ∧ (s.modelSave a1).tb.tbEn = s.tb.tbEn ∧ (s.modelSave a1).tb.oscFreq = s.tb.oscFreq := by
  unfold State.modelSave
  simp

@[simp] theorem State.learningMean_keep (s : State) (a1 : ℕ) :
    (s.learningMean a1).part = s.part ∧ (s.learningMean a1).fused = s.fused ∧ (s.learningMean a1).pending = s.pending ∧ (s.learningMean a1).host.flash = s.host.flash ∧ (s.learningMean a1).tb.tbEn = s.tb.tbEn ∧ (s.learningMean a1).tb.oscFreq = s.tb.oscFreq := by
  unfold State.learningMean
  simp

@[simp] theorem State.cairnSecond_keep (s : State) :
    (s.cairnSecond).part = s.part ∧ (s.cairnSecond).fused = s.fused ∧ (s.cairnSecond).pending = s.pending ∧ (s.cairnSecond).host.flash = s.host.flash ∧ (s.cairnSecond).tb.tbEn = s.tb.tbEn ∧ (s.cairnSecond).tb.oscFreq = s.tb.oscFreq := by
  unfold State.cairnSecond
  simp

@[simp] theorem State.happen_keep (s : State) (a1 : EventEntry) :
    (s.happen a1).part = s.part ∧ (s.happen a1).fused = s.fused ∧ (s.happen a1).pending = s.pending ∧ (s.happen a1).host.flash = s.host.flash ∧ (s.happen a1).tb.tbEn = s.tb.tbEn ∧ (s.happen a1).tb.oscFreq = s.tb.oscFreq := by
  unfold State.happen
  simp

@[simp] theorem State.scanEvents_keep (s : State) :
    (s.scanEvents).part = s.part ∧ (s.scanEvents).fused = s.fused ∧ (s.scanEvents).pending = s.pending ∧ (s.scanEvents).host.flash = s.host.flash ∧ (s.scanEvents).tb.tbEn = s.tb.tbEn ∧ (s.scanEvents).tb.oscFreq = s.tb.oscFreq := by
  unfold State.scanEvents
  dsimp only
  simp

@[simp] theorem eventSubscribeReply_keep (a0 : ℕ) (a1 : List Byte) (s : State) :
    (eventSubscribeReply a0 a1 s).s.part = s.part ∧ (eventSubscribeReply a0 a1 s).s.fused = s.fused ∧ (eventSubscribeReply a0 a1 s).s.pending = s.pending ∧ (eventSubscribeReply a0 a1 s).s.host.flash = s.host.flash ∧ (eventSubscribeReply a0 a1 s).s.tb.tbEn = s.tb.tbEn ∧ (eventSubscribeReply a0 a1 s).s.tb.oscFreq = s.tb.oscFreq := by
  unfold eventSubscribeReply
  refine guarded_keep _ _ _ ?_
  simp

@[simp] theorem eventReadReply_keep (a0 : ℕ) (a1 : List Byte) (s : State) :
    (eventReadReply a0 a1 s).s.part = s.part ∧ (eventReadReply a0 a1 s).s.fused = s.fused ∧ (eventReadReply a0 a1 s).s.pending = s.pending ∧ (eventReadReply a0 a1 s).s.host.flash = s.host.flash ∧ (eventReadReply a0 a1 s).s.tb.tbEn = s.tb.tbEn ∧ (eventReadReply a0 a1 s).s.tb.oscFreq = s.tb.oscFreq := by
  unfold eventReadReply
  refine guarded_keep _ _ _ ?_
  simp

@[simp] theorem logGetReply_keep (a0 : ℕ) (a1 : List Byte) (s : State) :
    (logGetReply a0 a1 s).s.part = s.part ∧ (logGetReply a0 a1 s).s.fused = s.fused ∧ (logGetReply a0 a1 s).s.pending = s.pending ∧ (logGetReply a0 a1 s).s.host.flash = s.host.flash ∧ (logGetReply a0 a1 s).s.tb.tbEn = s.tb.tbEn ∧ (logGetReply a0 a1 s).s.tb.oscFreq = s.tb.oscFreq := by
  unfold logGetReply
  refine guarded_keep _ _ _ ?_
  simp

@[simp] theorem logClearReply_keep (a0 : ℕ) (a1 : List Byte) (s : State) :
    (logClearReply a0 a1 s).s.part = s.part ∧ (logClearReply a0 a1 s).s.fused = s.fused ∧ (logClearReply a0 a1 s).s.pending = s.pending ∧ (logClearReply a0 a1 s).s.host.flash = s.host.flash ∧ (logClearReply a0 a1 s).s.tb.tbEn = s.tb.tbEn ∧ (logClearReply a0 a1 s).s.tb.oscFreq = s.tb.oscFreq := by
  unfold logClearReply
  dsimp only
  repeat' split
  all_goals simp

@[simp] theorem nopReply_keep (a0 : ℕ) (a1 : List Byte) (s : State) :
    (nopReply a0 a1 s).s.part = s.part ∧ (nopReply a0 a1 s).s.fused = s.fused ∧ (nopReply a0 a1 s).s.pending = s.pending ∧ (nopReply a0 a1 s).s.host.flash = s.host.flash ∧ (nopReply a0 a1 s).s.tb.tbEn = s.tb.tbEn ∧ (nopReply a0 a1 s).s.tb.oscFreq = s.tb.oscFreq := by
  unfold nopReply
  simp

@[simp] theorem getCapsReply_keep (a0 : ℕ) (a1 : List Byte) (s : State) :
    (getCapsReply a0 a1 s).s.part = s.part ∧ (getCapsReply a0 a1 s).s.fused = s.fused ∧ (getCapsReply a0 a1 s).s.pending = s.pending ∧ (getCapsReply a0 a1 s).s.host.flash = s.host.flash ∧ (getCapsReply a0 a1 s).s.tb.tbEn = s.tb.tbEn ∧ (getCapsReply a0 a1 s).s.tb.oscFreq = s.tb.oscFreq := by
  unfold getCapsReply
  simp

@[simp] theorem getVersionReply_keep (a0 : ℕ) (a1 : List Byte) (s : State) :
    (getVersionReply a0 a1 s).s.part = s.part ∧ (getVersionReply a0 a1 s).s.fused = s.fused ∧ (getVersionReply a0 a1 s).s.pending = s.pending ∧ (getVersionReply a0 a1 s).s.host.flash = s.host.flash ∧ (getVersionReply a0 a1 s).s.tb.tbEn = s.tb.tbEn ∧ (getVersionReply a0 a1 s).s.tb.oscFreq = s.tb.oscFreq := by
  unfold getVersionReply
  simp

@[simp] theorem resetReply_keep (a0 : ℕ) (a1 : List Byte) (s : State) :
    (resetReply a0 a1 s).s.part = s.part ∧ (resetReply a0 a1 s).s.fused = s.fused ∧ (resetReply a0 a1 s).s.pending = s.pending ∧ (resetReply a0 a1 s).s.host.flash = s.host.flash ∧ (resetReply a0 a1 s).s.tb.tbEn = s.tb.tbEn ∧ (resetReply a0 a1 s).s.tb.oscFreq = s.tb.oscFreq := by
  unfold resetReply
  refine guarded_keep _ _ _ ?_
  simp

@[simp] theorem getAbortStatusReply_keep (a0 : ℕ) (a1 : List Byte) (s : State) :
    (getAbortStatusReply a0 a1 s).s.part = s.part ∧ (getAbortStatusReply a0 a1 s).s.fused = s.fused ∧ (getAbortStatusReply a0 a1 s).s.pending = s.pending ∧ (getAbortStatusReply a0 a1 s).s.host.flash = s.host.flash ∧ (getAbortStatusReply a0 a1 s).s.tb.tbEn = s.tb.tbEn ∧ (getAbortStatusReply a0 a1 s).s.tb.oscFreq = s.tb.oscFreq := by
  unfold getAbortStatusReply
  refine guarded_keep _ _ _ ?_
  simp

@[simp] theorem State.drawNonce_keep (s : State) :
    (s.drawNonce).2.part = s.part ∧ (s.drawNonce).2.fused = s.fused ∧ (s.drawNonce).2.pending = s.pending ∧ (s.drawNonce).2.host.flash = s.host.flash ∧ (s.drawNonce).2.tb.tbEn = s.tb.tbEn ∧ (s.drawNonce).2.tb.oscFreq = s.tb.oscFreq := by
  unfold State.drawNonce
  simp

@[simp] theorem sessionOpenReply_keep (a0 : ℕ) (a1 : List Byte) (s : State) :
    (sessionOpenReply a0 a1 s).s.part = s.part ∧ (sessionOpenReply a0 a1 s).s.fused = s.fused ∧ (sessionOpenReply a0 a1 s).s.pending = s.pending ∧ (sessionOpenReply a0 a1 s).s.host.flash = s.host.flash ∧ (sessionOpenReply a0 a1 s).s.tb.tbEn = s.tb.tbEn ∧ (sessionOpenReply a0 a1 s).s.tb.oscFreq = s.tb.oscFreq := by
  unfold sessionOpenReply
  refine guarded_keep _ _ _ ?_
  split <;> simp

@[simp] theorem State.modPort_keep (s : State) (a1 : ℕ) (a2 : Port → Port) :
    (s.modPort a1 a2).part = s.part ∧ (s.modPort a1 a2).fused = s.fused ∧ (s.modPort a1 a2).pending = s.pending ∧ (s.modPort a1 a2).host.flash = s.host.flash ∧ (s.modPort a1 a2).tb.tbEn = s.tb.tbEn ∧ (s.modPort a1 a2).tb.oscFreq = s.tb.oscFreq := by
  unfold State.modPort
  simp

@[simp] theorem sessionAuthReply_keep (a0 : ℕ) (a1 : List Byte) (s : State) :
    (sessionAuthReply a0 a1 s).s.part = s.part ∧ (sessionAuthReply a0 a1 s).s.fused = s.fused ∧ (sessionAuthReply a0 a1 s).s.pending = s.pending ∧ (sessionAuthReply a0 a1 s).s.host.flash = s.host.flash ∧ (sessionAuthReply a0 a1 s).s.tb.tbEn = s.tb.tbEn ∧ (sessionAuthReply a0 a1 s).s.tb.oscFreq = s.tb.oscFreq := by
  unfold sessionAuthReply
  dsimp only
  repeat' split
  all_goals simp

@[simp] theorem sessionCloseReply_keep (a0 : ℕ) (a1 : List Byte) (s : State) :
    (sessionCloseReply a0 a1 s).s.part = s.part ∧ (sessionCloseReply a0 a1 s).s.fused = s.fused ∧ (sessionCloseReply a0 a1 s).s.pending = s.pending ∧ (sessionCloseReply a0 a1 s).s.host.flash = s.host.flash ∧ (sessionCloseReply a0 a1 s).s.tb.tbEn = s.tb.tbEn ∧ (sessionCloseReply a0 a1 s).s.tb.oscFreq = s.tb.oscFreq := by
  unfold sessionCloseReply
  refine guarded_keep _ _ _ ?_
  simp

@[simp] theorem portKeyProgramReply_keep (a0 : ℕ) (a1 : List Byte) (s : State) :
    (portKeyProgramReply a0 a1 s).s.part = s.part ∧ (portKeyProgramReply a0 a1 s).s.fused = s.fused ∧ (portKeyProgramReply a0 a1 s).s.pending = s.pending ∧ (portKeyProgramReply a0 a1 s).s.host.flash = s.host.flash ∧ (portKeyProgramReply a0 a1 s).s.tb.tbEn = s.tb.tbEn ∧ (portKeyProgramReply a0 a1 s).s.tb.oscFreq = s.tb.oscFreq := by
  unfold portKeyProgramReply
  dsimp only
  repeat' split
  all_goals simp

@[simp] theorem channelPolicyReply_keep (a0 : ℕ) (a1 : List Byte) (s : State) :
    (channelPolicyReply a0 a1 s).s.part = s.part ∧ (channelPolicyReply a0 a1 s).s.fused = s.fused ∧ (channelPolicyReply a0 a1 s).s.pending = s.pending ∧ (channelPolicyReply a0 a1 s).s.host.flash = s.host.flash ∧ (channelPolicyReply a0 a1 s).s.tb.tbEn = s.tb.tbEn ∧ (channelPolicyReply a0 a1 s).s.tb.oscFreq = s.tb.oscFreq := by
  unfold channelPolicyReply
  refine guarded_keep _ _ _ ?_
  simp

@[simp] theorem inputGetStatusReply_keep (a0 : ℕ) (a1 : List Byte) (s : State) :
    (inputGetStatusReply a0 a1 s).s.part = s.part ∧ (inputGetStatusReply a0 a1 s).s.fused = s.fused ∧ (inputGetStatusReply a0 a1 s).s.pending = s.pending ∧ (inputGetStatusReply a0 a1 s).s.host.flash = s.host.flash ∧ (inputGetStatusReply a0 a1 s).s.tb.tbEn = s.tb.tbEn ∧ (inputGetStatusReply a0 a1 s).s.tb.oscFreq = s.tb.oscFreq := by
  unfold inputGetStatusReply
  refine guarded_keep _ _ _ ?_
  simp

@[simp] theorem State.commitTake_keep (s : State) (a1 : ℕ) (a2 : CommitWait) :
    (s.commitTake a1 a2).part = s.part ∧ (s.commitTake a1 a2).fused = s.fused ∧ (s.commitTake a1 a2).pending = s.pending ∧ (s.commitTake a1 a2).host.flash = s.host.flash ∧ (s.commitTake a1 a2).tb.tbEn = s.tb.tbEn ∧ (s.commitTake a1 a2).tb.oscFreq = s.tb.oscFreq := by
  unfold State.commitTake
  split <;> simp

@[simp] theorem State.commitPoll_keep (s : State) (a1 : ℕ) :
    (s.commitPoll a1).part = s.part ∧ (s.commitPoll a1).fused = s.fused ∧ (s.commitPoll a1).pending = s.pending ∧ (s.commitPoll a1).host.flash = s.host.flash ∧ (s.commitPoll a1).tb.tbEn = s.tb.tbEn ∧ (s.commitPoll a1).tb.oscFreq = s.tb.oscFreq := by
  unfold State.commitPoll
  dsimp only
  repeat' split
  all_goals simp

@[simp] theorem State.commitAgeAt_keep (s : State) (a1 : ℕ) (a2 : CommitWait) :
    (s.commitAgeAt a1 a2).part = s.part ∧ (s.commitAgeAt a1 a2).fused = s.fused ∧ (s.commitAgeAt a1 a2).pending = s.pending ∧ (s.commitAgeAt a1 a2).host.flash = s.host.flash ∧ (s.commitAgeAt a1 a2).tb.tbEn = s.tb.tbEn ∧ (s.commitAgeAt a1 a2).tb.oscFreq = s.tb.oscFreq := by
  unfold State.commitAgeAt
  split <;> simp

@[simp] theorem State.commitAgeOf_keep (s : State) (a1 : ℕ) :
    (s.commitAgeOf a1).part = s.part ∧ (s.commitAgeOf a1).fused = s.fused ∧ (s.commitAgeOf a1).pending = s.pending ∧ (s.commitAgeOf a1).host.flash = s.host.flash ∧ (s.commitAgeOf a1).tb.tbEn = s.tb.tbEn ∧ (s.commitAgeOf a1).tb.oscFreq = s.tb.oscFreq := by
  unfold State.commitAgeOf
  repeat' split
  all_goals simp

@[simp] theorem State.commitAge_keep (s : State) (a1 : ℕ) :
    (s.commitAge a1).part = s.part ∧ (s.commitAge a1).fused = s.fused ∧ (s.commitAge a1).pending = s.pending ∧ (s.commitAge a1).host.flash = s.host.flash ∧ (s.commitAge a1).tb.tbEn = s.tb.tbEn ∧ (s.commitAge a1).tb.oscFreq = s.tb.oscFreq := by
  unfold State.commitAge
  simp

end Sys2Proof.Machine
end

