-- ==== Sys2Proof/Laws/KeepHost.lean ====
section
/-! SUPPORT. What the operations of the host ports, the DMA engine, aborts and boot (chapters 11 and 13) leave alone. -/

namespace Sys2Proof.Machine
open Sys2Proof

@[simp] theorem State.alignAck_keep (s : State) (a1 : ℕ) :
    (s.alignAck a1).part = s.part ∧ (s.alignAck a1).fused = s.fused ∧ (s.alignAck a1).pending = s.pending ∧ (s.alignAck a1).host.flash = s.host.flash ∧ (s.alignAck a1).tb.tbEn = s.tb.tbEn ∧ (s.alignAck a1).tb.oscFreq = s.tb.oscFreq := by
  unfold State.alignAck
  split <;> simp

@[simp] theorem State.wakeDie_keep (s : State) (a1 : ℕ) :
    (s.wakeDie a1).part = s.part ∧ (s.wakeDie a1).fused = s.fused ∧ (s.wakeDie a1).pending = s.pending ∧ (s.wakeDie a1).host.flash = s.host.flash ∧ (s.wakeDie a1).tb.tbEn = s.tb.tbEn ∧ (s.wakeDie a1).tb.oscFreq = s.tb.oscFreq := by
  unfold State.wakeDie
  simp

@[simp] theorem State.wakeUnit_keep (s : State) (a1 : ℕ) (a2 : ℕ) :
    (s.wakeUnit a1 a2).part = s.part ∧ (s.wakeUnit a1 a2).fused = s.fused ∧ (s.wakeUnit a1 a2).pending = s.pending ∧ (s.wakeUnit a1 a2).host.flash = s.host.flash ∧ (s.wakeUnit a1 a2).tb.tbEn = s.tb.tbEn ∧ (s.wakeUnit a1 a2).tb.oscFreq = s.tb.oscFreq := by
  unfold State.wakeUnit
  simp

@[simp] theorem State.unitSleep_keep (s : State) (a1 : ℕ) (a2 : ℕ) :
    (s.unitSleep a1 a2).part = s.part ∧ (s.unitSleep a1 a2).fused = s.fused ∧ (s.unitSleep a1 a2).pending = s.pending ∧ (s.unitSleep a1 a2).host.flash = s.host.flash ∧ (s.unitSleep a1 a2).tb.tbEn = s.tb.tbEn ∧ (s.unitSleep a1 a2).tb.oscFreq = s.tb.oscFreq := by
  unfold State.unitSleep
  simp

@[simp] theorem State.settle_keep (s : State) :
    (s.settle).part = s.part ∧ (s.settle).fused = s.fused ∧ (s.settle).pending = s.pending ∧ (s.settle).host.flash = s.host.flash ∧ (s.settle).tb.tbEn = s.tb.tbEn ∧ (s.settle).tb.oscFreq = s.tb.oscFreq := by
  unfold State.settle
  simp

@[simp] theorem State.after_keep (s : State) :
    (s.after).part = s.part ∧ (s.after).fused = s.fused ∧ (s.after).pending = s.pending ∧ (s.after).host.flash = s.host.flash ∧ (s.after).tb.tbEn = s.tb.tbEn ∧ (s.after).tb.oscFreq = s.tb.oscFreq := by
  unfold State.after
  simp

@[simp] theorem State.writeVecAck_keep (s : State) (a1 : Word) :
    (s.writeVecAck a1).part = s.part ∧ (s.writeVecAck a1).fused = s.fused ∧ (s.writeVecAck a1).pending = s.pending ∧ (s.writeVecAck a1).host.flash = s.host.flash ∧ (s.writeVecAck a1).tb.tbEn = s.tb.tbEn ∧ (s.writeVecAck a1).tb.oscFreq = s.tb.oscFreq := by
  unfold State.writeVecAck
  simp

@[simp] theorem State.pcieControl_keep (s : State) (a1 : Bool) (a2 : Bool) (a3 : Bool) :
    (s.pcieControl a1 a2 a3).part = s.part ∧ (s.pcieControl a1 a2 a3).fused = s.fused ∧ (s.pcieControl a1 a2 a3).pending = s.pending ∧ (s.pcieControl a1 a2 a3).host.flash = s.host.flash ∧ (s.pcieControl a1 a2 a3).tb.tbEn = s.tb.tbEn ∧ (s.pcieControl a1 a2 a3).tb.oscFreq = s.tb.oscFreq := by
  unfold State.pcieControl
  simp

@[simp] theorem State.writeBar4_keep (s : State) (a1 : ℕ) (a2 : Word) :
    (s.writeBar4 a1 a2).part = s.part ∧ (s.writeBar4 a1 a2).fused = s.fused ∧ (s.writeBar4 a1 a2).pending = s.pending ∧ (s.writeBar4 a1 a2).host.flash = s.host.flash ∧ (s.writeBar4 a1 a2).tb.tbEn = s.tb.tbEn ∧ (s.writeBar4 a1 a2).tb.oscFreq = s.tb.oscFreq := by
  unfold State.writeBar4
  simp

@[simp] theorem State.setSem_keep (s : State) (a1 : ℕ) (a2 : ℕ) :
    (s.setSem a1 a2).part = s.part ∧ (s.setSem a1 a2).fused = s.fused ∧ (s.setSem a1 a2).pending = s.pending ∧ (s.setSem a1 a2).host.flash = s.host.flash ∧ (s.setSem a1 a2).tb.tbEn = s.tb.tbEn ∧ (s.setSem a1 a2).tb.oscFreq = s.tb.oscFreq := by
  unfold State.setSem
  simp

@[simp] theorem State.semRead_keep (s : State) (a1 : ℕ) (a2 : ℕ) :
    (s.semRead a1 a2).1.part = s.part ∧ (s.semRead a1 a2).1.fused = s.fused ∧ (s.semRead a1 a2).1.pending = s.pending ∧ (s.semRead a1 a2).1.host.flash = s.host.flash ∧ (s.semRead a1 a2).1.tb.tbEn = s.tb.tbEn ∧ (s.semRead a1 a2).1.tb.oscFreq = s.tb.oscFreq := by
  unfold State.semRead
  split <;> simp

@[simp] theorem State.semWrite_keep (s : State) (a1 : ℕ) (a2 : ℕ) (a3 : Word) :
    (s.semWrite a1 a2 a3).part = s.part ∧ (s.semWrite a1 a2 a3).fused = s.fused ∧ (s.semWrite a1 a2 a3).pending = s.pending ∧ (s.semWrite a1 a2 a3).host.flash = s.host.flash ∧ (s.semWrite a1 a2 a3).tb.tbEn = s.tb.tbEn ∧ (s.semWrite a1 a2 a3).tb.oscFreq = s.tb.oscFreq := by
  unfold State.semWrite
  simp

@[simp] theorem State.semHeldWrite_keep (s : State) (a1 : ℕ) (a2 : Word) :
    (s.semHeldWrite a1 a2).part = s.part ∧ (s.semHeldWrite a1 a2).fused = s.fused ∧ (s.semHeldWrite a1 a2).pending = s.pending ∧ (s.semHeldWrite a1 a2).host.flash = s.host.flash ∧ (s.semHeldWrite a1 a2).tb.tbEn = s.tb.tbEn ∧ (s.semHeldWrite a1 a2).tb.oscFreq = s.tb.oscFreq := by
  unfold State.semHeldWrite
  simp

@[simp] theorem State.writeBase_keep (s : State) (a1 : Path) (a2 : ℕ) (a3 : ℕ) (a4 : Word) :
    (s.writeBase a1 a2 a3 a4).part = s.part ∧ (s.writeBase a1 a2 a3 a4).fused = s.fused ∧ (s.writeBase a1 a2 a3 a4).pending = s.pending := by
  unfold State.writeBase
  simp

@[simp] theorem State.writeView_keep (s : State) (a1 : Path) (a2 : ℕ) (a3 : ℕ) (a4 : ℕ) (a5 : Word) :
    (s.writeView a1 a2 a3 a4 a5).part = s.part ∧ (s.writeView a1 a2 a3 a4 a5).fused = s.fused ∧ (s.writeView a1 a2 a3 a4 a5).pending = s.pending := by
  unfold State.writeView
  simp

@[simp] theorem State.land_keep (s : State) (a1 : Path) (a2 : ℕ) (a3 : ℕ) (a4 : Word) :
    (s.land a1 a2 a3 a4).part = s.part ∧ (s.land a1 a2 a3 a4).fused = s.fused ∧ (s.land a1 a2 a3 a4).pending = s.pending := by
  unfold State.land
  simp

@[simp] theorem State.portRd_keep (s : State) (a1 : ℕ) (a2 : Word) :
    (s.portRd a1 a2).part = s.part ∧ (s.portRd a1 a2).fused = s.fused ∧ (s.portRd a1 a2).pending = s.pending ∧ (s.portRd a1 a2).host.flash = s.host.flash ∧ (s.portRd a1 a2).tb.tbEn = s.tb.tbEn ∧ (s.portRd a1 a2).tb.oscFreq = s.tb.oscFreq := by
  unfold State.portRd
  simp

@[simp] theorem State.lateMark_keep (s : State) :
    (s.lateMark).part = s.part ∧ (s.lateMark).fused = s.fused ∧ (s.lateMark).pending = s.pending ∧ (s.lateMark).host.flash = s.host.flash ∧ (s.lateMark).tb.tbEn = s.tb.tbEn ∧ (s.lateMark).tb.oscFreq = s.tb.oscFreq := by
  unfold State.lateMark
  simp

@[simp] theorem State.sendWrite_keep (s : State) (a1 : ℕ) (a2 : ℕ) (a3 : Word) :
    (s.sendWrite a1 a2 a3).part = s.part ∧ (s.sendWrite a1 a2 a3).fused = s.fused ∧ (s.sendWrite a1 a2 a3).pending = s.pending ∧ (s.sendWrite a1 a2 a3).host.flash = s.host.flash ∧ (s.sendWrite a1 a2 a3).tb.tbEn = s.tb.tbEn ∧ (s.sendWrite a1 a2 a3).tb.oscFreq = s.tb.oscFreq := by
  unfold State.sendWrite
  simp

@[simp] theorem State.local_keep (s : State) (a1 : ℕ) (a2 : Access) :
    (s.local a1 a2).part = s.part ∧ (s.local a1 a2).fused = s.fused ∧ (s.local a1 a2).pending = s.pending := by
  unfold State.local
  simp

@[simp] theorem State.slow_keep (s : State) (a1 : ℕ) (a2 : Access) :
    (s.slow a1 a2).part = s.part ∧ (s.slow a1 a2).fused = s.fused ∧ (s.slow a1 a2).pending = s.pending ∧ (s.slow a1 a2).host.flash = s.host.flash ∧ (s.slow a1 a2).tb.tbEn = s.tb.tbEn ∧ (s.slow a1 a2).tb.oscFreq = s.tb.oscFreq := by
  unfold State.slow
  repeat' split
  all_goals simp

@[simp] theorem State.remote_keep (s : State) (a1 : ℕ) (a2 : Access) :
    (s.remote a1 a2).part = s.part ∧ (s.remote a1 a2).fused = s.fused ∧ (s.remote a1 a2).pending = s.pending ∧ (s.remote a1 a2).host.flash = s.host.flash ∧ (s.remote a1 a2).tb.tbEn = s.tb.tbEn ∧ (s.remote a1 a2).tb.oscFreq = s.tb.oscFreq := by
  unfold State.remote
  simp

@[simp] theorem State.route_keep (s : State) (a1 : ℕ) (a2 : Access) :
    (s.route a1 a2).part = s.part ∧ (s.route a1 a2).fused = s.fused ∧ (s.route a1 a2).pending = s.pending := by
  unfold State.route
  simp

@[simp] theorem State.indData_keep (s : State) (a1 : ℕ) (a2 : Path) (a3 : Bool) (a4 : Word) :
    (s.indData a1 a2 a3 a4).part = s.part ∧ (s.indData a1 a2 a3 a4).fused = s.fused ∧ (s.indData a1 a2 a3 a4).pending = s.pending := by
  unfold State.indData
  simp

@[simp] theorem State.indAccess_keep (s : State) (a1 : ℕ) (a2 : Access) :
    (s.indAccess a1 a2).part = s.part ∧ (s.indAccess a1 a2).fused = s.fused ∧ (s.indAccess a1 a2).pending = s.pending := by
  unfold State.indAccess
  dsimp only
  repeat' split
  all_goals simp

@[simp] theorem State.startAccess_keep (s : State) (a1 : ℕ) (a2 : Access) :
    (s.startAccess a1 a2).part = s.part ∧ (s.startAccess a1 a2).fused = s.fused ∧ (s.startAccess a1 a2).pending = s.pending := by
  unfold State.startAccess
  simp

@[simp] theorem State.drainPort_keep (s : State) (a1 : ℕ) (a2 : ℕ) :
    (s.drainPort a1 a2).part = s.part ∧ (s.drainPort a1 a2).fused = s.fused ∧ (s.drainPort a1 a2).pending = s.pending := by
  induction a2 generalizing s with
  | zero => simp [State.drainPort]
  | succ n ih =>
    unfold State.drainPort
    dsimp only
    split
    · simp [ih]
    · simp

@[simp] theorem State.freePort_keep (s : State) (a1 : ℕ) :
    (s.freePort a1).part = s.part ∧ (s.freePort a1).fused = s.fused ∧ (s.freePort a1).pending = s.pending := by
  unfold State.freePort
  simp

@[simp] theorem State.enter_keep (s : State) (a1 : Access) :
    (s.enter a1).part = s.part ∧ (s.enter a1).fused = s.fused ∧ (s.enter a1).pending = s.pending := by
  unfold State.enter
  split <;> simp

@[simp] theorem State.access_keep (s : State) (a1 : Path) (a2 : ℕ) (a3 : Bool) (a4 : Word) :
    (s.access a1 a2 a3 a4).part = s.part ∧ (s.access a1 a2 a3 a4).fused = s.fused ∧ (s.access a1 a2 a3 a4).pending = s.pending := by
  unfold State.access
  repeat' split
  all_goals simp

@[simp] theorem State.deliver_keep (a0 : ℕ) (s : State) (a2 : Frame) :
    (State.deliver a0 s a2).part = s.part ∧ (State.deliver a0 s a2).fused = s.fused ∧ (State.deliver a0 s a2).pending = s.pending := by
  unfold State.deliver
  split <;> simp

@[simp] theorem State.deliverWrites_keep (s : State) (a1 : ℕ) :
    (s.deliverWrites a1).part = s.part ∧ (s.deliverWrites a1).fused = s.fused ∧ (s.deliverWrites a1).pending = s.pending := by
  unfold State.deliverWrites
  simp

@[simp] theorem State.remoteDone_keep (s : State) (a1 : ℕ) :
    (s.remoteDone a1).part = s.part ∧ (s.remoteDone a1).fused = s.fused ∧ (s.remoteDone a1).pending = s.pending := by
  unfold State.remoteDone
  split <;> simp

@[simp] theorem State.lateEnd_keep (s : State) (a1 : ℕ) :
    (s.lateEnd a1).part = s.part ∧ (s.lateEnd a1).fused = s.fused ∧ (s.lateEnd a1).pending = s.pending := by
  unfold State.lateEnd
  split <;> simp

@[simp] theorem State.slowAdmit_keep (s : State) (a1 : ℕ) :
    (s.slowAdmit a1).part = s.part ∧ (s.slowAdmit a1).fused = s.fused ∧ (s.slowAdmit a1).pending = s.pending := by
  unfold State.slowAdmit
  split <;> simp

@[simp] theorem State.slowDrain_keep (s : State) :
    (s.slowDrain).part = s.part ∧ (s.slowDrain).fused = s.fused ∧ (s.slowDrain).pending = s.pending := by
  unfold State.slowDrain
  split <;> simp

@[simp] theorem State.spiStatusOp_keep (s : State) :
    (s.spiStatusOp).part = s.part ∧ (s.spiStatusOp).fused = s.fused ∧ (s.spiStatusOp).pending = s.pending ∧ (s.spiStatusOp).host.flash = s.host.flash ∧ (s.spiStatusOp).tb.tbEn = s.tb.tbEn ∧ (s.spiStatusOp).tb.oscFreq = s.tb.oscFreq := by
  unfold State.spiStatusOp
  simp

@[simp] theorem State.frameAt_keep (s : State) (a1 : ℕ) (a2 : Frame) :
    (s.frameAt a1 a2).part = s.part ∧ (s.frameAt a1 a2).fused = s.fused ∧ (s.frameAt a1 a2).pending = s.pending := by
  unfold State.frameAt
  split <;> simp

@[simp] theorem State.frameWork_keep (s : State) (a1 : ℕ) (a2 : ℕ) (a3 : Frame) :
    (s.frameWork a1 a2 a3).part = s.part ∧ (s.frameWork a1 a2 a3).fused = s.fused ∧ (s.frameWork a1 a2 a3).pending = s.pending := by
  unfold State.frameWork
  (try dsimp only)
  repeat' split
  all_goals simp

@[simp] theorem State.semFree_keep (s : State) :
    (s.semFree).part = s.part ∧ (s.semFree).fused = s.fused ∧ (s.semFree).pending = s.pending ∧ (s.semFree).host.flash = s.host.flash ∧ (s.semFree).tb.tbEn = s.tb.tbEn ∧ (s.semFree).tb.oscFreq = s.tb.oscFreq := by
  unfold State.semFree
  simp

@[simp] theorem State.admitOne_keep (s : State) :
    (s.admitOne).part = s.part ∧ (s.admitOne).fused = s.fused ∧ (s.admitOne).pending = s.pending ∧ (s.admitOne).host.flash = s.host.flash ∧ (s.admitOne).tb.tbEn = s.tb.tbEn ∧ (s.admitOne).tb.oscFreq = s.tb.oscFreq := by
  unfold State.admitOne
  dsimp only
  repeat' split
  all_goals simp

@[simp] theorem State.admitAll_keep (s : State) :
    (s.admitAll).part = s.part ∧ (s.admitAll).fused = s.fused ∧ (s.admitAll).pending = s.pending ∧ (s.admitAll).host.flash = s.host.flash ∧ (s.admitAll).tb.tbEn = s.tb.tbEn ∧ (s.admitAll).tb.oscFreq = s.tb.oscFreq := by
  unfold State.admitAll
  simp

@[simp] theorem State.recordWrite_keep (s : State) (a1 : ℕ) :
    (s.recordWrite a1).part = s.part ∧ (s.recordWrite a1).fused = s.fused ∧ (s.recordWrite a1).pending = s.pending ∧ (s.recordWrite a1).host.flash = s.host.flash ∧ (s.recordWrite a1).tb.tbEn = s.tb.tbEn ∧ (s.recordWrite a1).tb.oscFreq = s.tb.oscFreq := by
  unfold State.recordWrite
  dsimp only
  repeat' split
  all_goals simp

@[simp] theorem State.wbTimer_keep (s : State) (a1 : ℕ) :
    (s.wbTimer a1).part = s.part ∧ (s.wbTimer a1).fused = s.fused ∧ (s.wbTimer a1).pending = s.pending ∧ (s.wbTimer a1).host.flash = s.host.flash ∧ (s.wbTimer a1).tb.tbEn = s.tb.tbEn ∧ (s.wbTimer a1).tb.oscFreq = s.tb.oscFreq := by
  unfold State.wbTimer
  simp

@[simp] theorem State.ringOff_keep (s : State) (a1 : ℕ) (a2 : Bool) (a3 : Bool) :
    (s.ringOff a1 a2 a3).part = s.part ∧ (s.ringOff a1 a2 a3).fused = s.fused ∧ (s.ringOff a1 a2 a3).pending = s.pending ∧ (s.ringOff a1 a2 a3).host.flash = s.host.flash ∧ (s.ringOff a1 a2 a3).tb.tbEn = s.tb.tbEn ∧ (s.ringOff a1 a2 a3).tb.oscFreq = s.tb.oscFreq := by
  unfold State.ringOff
  simp

@[simp] theorem State.ringsOff_keep (s : State) (a1 : Bool) :
    (s.ringsOff a1).part = s.part ∧ (s.ringsOff a1).fused = s.fused ∧ (s.ringsOff a1).pending = s.pending ∧ (s.ringsOff a1).host.flash = s.host.flash ∧ (s.ringsOff a1).tb.tbEn = s.tb.tbEn ∧ (s.ringsOff a1).tb.oscFreq = s.tb.oscFreq := by
  unfold State.ringsOff
  simp

@[simp] theorem State.routesReset_keep (s : State) :
    (s.routesReset).part = s.part ∧ (s.routesReset).fused = s.fused ∧ (s.routesReset).pending = s.pending ∧ (s.routesReset).host.flash = s.host.flash ∧ (s.routesReset).tb.tbEn = s.tb.tbEn ∧ (s.routesReset).tb.oscFreq = s.tb.oscFreq := by
  unfold State.routesReset
  simp

@[simp] theorem State.linkLoss_keep (s : State) (a1 : ℕ) :
    (s.linkLoss a1).part = s.part ∧ (s.linkLoss a1).fused = s.fused ∧ (s.linkLoss a1).pending = s.pending ∧ (s.linkLoss a1).host.flash = s.host.flash ∧ (s.linkLoss a1).tb.tbEn = s.tb.tbEn ∧ (s.linkLoss a1).tb.oscFreq = s.tb.oscFreq := by
  unfold State.linkLoss
  simp

@[simp] theorem State.linkUpNow_keep (s : State) :
    (s.linkUpNow).part = s.part ∧ (s.linkUpNow).fused = s.fused ∧ (s.linkUpNow).pending = s.pending ∧ (s.linkUpNow).host.flash = s.host.flash ∧ (s.linkUpNow).tb.tbEn = s.tb.tbEn ∧ (s.linkUpNow).tb.oscFreq = s.tb.oscFreq := by
  unfold State.linkUpNow
  simp

@[simp] theorem State.pcieConfig_keep (s : State) (a1 : Bool) (a2 : Bool) (a3 : Bool) :
    (s.pcieConfig a1 a2 a3).part = s.part ∧ (s.pcieConfig a1 a2 a3).fused = s.fused ∧ (s.pcieConfig a1 a2 a3).pending = s.pending ∧ (s.pcieConfig a1 a2 a3).host.flash = s.host.flash ∧ (s.pcieConfig a1 a2 a3).tb.tbEn = s.tb.tbEn ∧ (s.pcieConfig a1 a2 a3).tb.oscFreq = s.tb.oscFreq := by
  unfold State.pcieConfig
  simp

@[simp] theorem dmaRingConfigReply_keep (a0 : ℕ) (a1 : List Byte) (s : State) :
    (dmaRingConfigReply a0 a1 s).s.part = s.part ∧ (dmaRingConfigReply a0 a1 s).s.fused = s.fused ∧ (dmaRingConfigReply a0 a1 s).s.pending = s.pending ∧ (dmaRingConfigReply a0 a1 s).s.host.flash = s.host.flash ∧ (dmaRingConfigReply a0 a1 s).s.tb.tbEn = s.tb.tbEn ∧ (dmaRingConfigReply a0 a1 s).s.tb.oscFreq = s.tb.oscFreq := by
  unfold dmaRingConfigReply
  refine guarded_keep _ _ _ ?_
  simp

@[simp] theorem dmaGetStatusReply_keep (a0 : ℕ) (a1 : List Byte) (s : State) :
    (dmaGetStatusReply a0 a1 s).s.part = s.part ∧ (dmaGetStatusReply a0 a1 s).s.fused = s.fused ∧ (dmaGetStatusReply a0 a1 s).s.pending = s.pending ∧ (dmaGetStatusReply a0 a1 s).s.host.flash = s.host.flash ∧ (dmaGetStatusReply a0 a1 s).s.tb.tbEn = s.tb.tbEn ∧ (dmaGetStatusReply a0 a1 s).s.tb.oscFreq = s.tb.oscFreq := by
  unfold dmaGetStatusReply
  refine guarded_keep _ _ _ ?_
  simp

@[simp] theorem irqRouteReply_keep (a0 : ℕ) (a1 : List Byte) (s : State) :
    (irqRouteReply a0 a1 s).s.part = s.part ∧ (irqRouteReply a0 a1 s).s.fused = s.fused ∧ (irqRouteReply a0 a1 s).s.pending = s.pending ∧ (irqRouteReply a0 a1 s).s.host.flash = s.host.flash ∧ (irqRouteReply a0 a1 s).s.tb.tbEn = s.tb.tbEn ∧ (irqRouteReply a0 a1 s).s.tb.oscFreq = s.tb.oscFreq := by
  unfold irqRouteReply
  refine guarded_keep _ _ _ ?_
  simp

@[simp] theorem State.abortSession_keep (s : State) (a1 : ℕ) :
    (s.abortSession a1).part = s.part ∧ (s.abortSession a1).fused = s.fused ∧ (s.abortSession a1).pending = s.pending ∧ (s.abortSession a1).host.flash = s.host.flash ∧ (s.abortSession a1).tb.tbEn = s.tb.tbEn ∧ (s.abortSession a1).tb.oscFreq = s.tb.oscFreq := by
  unfold State.abortSession
  simp

@[simp] theorem State.semAbort_keep (s : State) (a1 : ℕ) :
    (s.semAbort a1).part = s.part ∧ (s.semAbort a1).fused = s.fused ∧ (s.semAbort a1).pending = s.pending ∧ (s.semAbort a1).host.flash = s.host.flash ∧ (s.semAbort a1).tb.tbEn = s.tb.tbEn ∧ (s.semAbort a1).tb.oscFreq = s.tb.oscFreq := by
  unfold State.semAbort
  simp

@[simp] theorem State.abortForce_keep (s : State) (a1 : ℕ) (a2 : ℕ) :
    (s.abortForce a1 a2).part = s.part ∧ (s.abortForce a1 a2).fused = s.fused ∧ (s.abortForce a1 a2).pending = s.pending ∧ (s.abortForce a1 a2).host.flash = s.host.flash ∧ (s.abortForce a1 a2).tb.tbEn = s.tb.tbEn ∧ (s.abortForce a1 a2).tb.oscFreq = s.tb.oscFreq := by
  unfold State.abortForce
  split <;> simp

@[simp] theorem State.abortArrive_keep (s : State) :
    (s.abortArrive).part = s.part ∧ (s.abortArrive).fused = s.fused ∧ (s.abortArrive).pending = s.pending ∧ (s.abortArrive).host.flash = s.host.flash ∧ (s.abortArrive).tb.tbEn = s.tb.tbEn ∧ (s.abortArrive).tb.oscFreq = s.tb.oscFreq := by
  unfold State.abortArrive
  simp

@[simp] theorem State.abortClean_keep (s : State) :
    (s.abortClean).part = s.part ∧ (s.abortClean).fused = s.fused ∧ (s.abortClean).pending = s.pending ∧ (s.abortClean).host.flash = s.host.flash ∧ (s.abortClean).tb.tbEn = s.tb.tbEn ∧ (s.abortClean).tb.oscFreq = s.tb.oscFreq := by
  unfold State.abortClean
  simp

@[simp] theorem State.abortForced_keep (s : State) :
    (s.abortForced).part = s.part ∧ (s.abortForced).fused = s.fused ∧ (s.abortForced).pending = s.pending ∧ (s.abortForced).host.flash = s.host.flash ∧ (s.abortForced).tb.tbEn = s.tb.tbEn ∧ (s.abortForced).tb.oscFreq = s.tb.oscFreq := by
  unfold State.abortForced
  simp

@[simp] theorem State.drawBelow_keep (s : State) (a1 : ℕ) :
    (s.drawBelow a1).2.part = s.part ∧ (s.drawBelow a1).2.fused = s.fused ∧ (s.drawBelow a1).2.pending = s.pending ∧ (s.drawBelow a1).2.host.flash = s.host.flash ∧ (s.drawBelow a1).2.tb.tbEn = s.tb.tbEn ∧ (s.drawBelow a1).2.tb.oscFreq = s.tb.oscFreq := by
  unfold State.drawBelow
  simp

@[simp] theorem State.abortComplete_keep (s : State) :
    (s.abortComplete).part = s.part ∧ (s.abortComplete).fused = s.fused ∧ (s.abortComplete).pending = s.pending ∧ (s.abortComplete).host.flash = s.host.flash ∧ (s.abortComplete).tb.tbEn = s.tb.tbEn ∧ (s.abortComplete).tb.oscFreq = s.tb.oscFreq := by
  unfold State.abortComplete
  simp

@[simp] theorem State.abortUnconfirmed_keep (s : State) :
    (s.abortUnconfirmed).part = s.part ∧ (s.abortUnconfirmed).fused = s.fused ∧ (s.abortUnconfirmed).pending = s.pending ∧ (s.abortUnconfirmed).host.flash = s.host.flash ∧ (s.abortUnconfirmed).tb.tbEn = s.tb.tbEn ∧ (s.abortUnconfirmed).tb.oscFreq = s.tb.oscFreq := by
  unfold State.abortUnconfirmed
  simp

@[simp] theorem State.saveBoot_keep (s : State) (a1 : BootRec) (a2 : Option ℕ) (a3 : NvFin) :
    (s.saveBoot a1 a2 a3).part = s.part ∧ (s.saveBoot a1 a2 a3).fused = s.fused ∧ (s.saveBoot a1 a2 a3).pending = s.pending ∧ (s.saveBoot a1 a2 a3).host.flash = s.host.flash ∧ (s.saveBoot a1 a2 a3).tb.tbEn = s.tb.tbEn ∧ (s.saveBoot a1 a2 a3).tb.oscFreq = s.tb.oscFreq := by
  unfold State.saveBoot
  simp

@[simp] theorem State.openChannels_keep (s : State) :
    (s.openChannels).part = s.part ∧ (s.openChannels).fused = s.fused ∧ (s.openChannels).pending = s.pending ∧ (s.openChannels).host.flash = s.host.flash ∧ (s.openChannels).tb.tbEn = s.tb.tbEn ∧ (s.openChannels).tb.oscFreq = s.tb.oscFreq := by
  unfold State.openChannels
  simp

@[simp] theorem State.enterSafe_keep (s : State) :
    (s.enterSafe).part = s.part ∧ (s.enterSafe).fused = s.fused ∧ (s.enterSafe).pending = s.pending ∧ (s.enterSafe).host.flash = s.host.flash ∧ (s.enterSafe).tb.tbEn = s.tb.tbEn ∧ (s.enterSafe).tb.oscFreq = s.tb.oscFreq := by
  unfold State.enterSafe
  simp

@[simp] theorem State.enterDownload_keep (s : State) :
    (s.enterDownload).part = s.part ∧ (s.enterDownload).fused = s.fused ∧ (s.enterDownload).pending = s.pending ∧ (s.enterDownload).host.flash = s.host.flash ∧ (s.enterDownload).tb.tbEn = s.tb.tbEn ∧ (s.enterDownload).tb.oscFreq = s.tb.oscFreq := by
  unfold State.enterDownload
  simp

@[simp] theorem State.noSlot_keep (s : State) :
    (s.noSlot).part = s.part ∧ (s.noSlot).fused = s.fused ∧ (s.noSlot).pending = s.pending ∧ (s.noSlot).host.flash = s.host.flash ∧ (s.noSlot).tb.tbEn = s.tb.tbEn ∧ (s.noSlot).tb.oscFreq = s.tb.oscFreq := by
  unfold State.noSlot
  simp

@[simp] theorem State.trySlots_keep (s : State) (a1 : ℕ) (a2 : List ℕ) :
    (s.trySlots a1 a2).part = s.part ∧ (s.trySlots a1 a2).fused = s.fused ∧ (s.trySlots a1 a2).pending = s.pending ∧ (s.trySlots a1 a2).host.flash = s.host.flash ∧ (s.trySlots a1 a2).tb.tbEn = s.tb.tbEn ∧ (s.trySlots a1 a2).tb.oscFreq = s.tb.oscFreq := by
  induction a2 generalizing s with
  | nil => simp [State.trySlots]
  | cons b bs ih =>
    unfold State.trySlots
    dsimp only
    repeat' split
    all_goals simp [ih]

@[simp] theorem State.bootSlots_keep (s : State) :
    (s.bootSlots).part = s.part ∧ (s.bootSlots).fused = s.fused ∧ (s.bootSlots).pending = s.pending ∧ (s.bootSlots).host.flash = s.host.flash ∧ (s.bootSlots).tb.tbEn = s.tb.tbEn ∧ (s.bootSlots).tb.oscFreq = s.tb.oscFreq := by
  unfold State.bootSlots
  simp

@[simp] theorem State.romRead_keep (s : State) (a1 : ℕ) :
    (s.romRead a1).part = s.part ∧ (s.romRead a1).fused = s.fused ∧ (s.romRead a1).pending = s.pending ∧ (s.romRead a1).host.flash = s.host.flash ∧ (s.romRead a1).tb.tbEn = s.tb.tbEn ∧ (s.romRead a1).tb.oscFreq = s.tb.oscFreq := by
  unfold State.romRead
  simp

@[simp] theorem State.planKnown_keep (s : State) (a1 : ℕ) :
    (s.planKnown a1).part = s.part ∧ (s.planKnown a1).fused = s.fused ∧ (s.planKnown a1).pending = s.pending ∧ (s.planKnown a1).host.flash = s.host.flash ∧ (s.planKnown a1).tb.tbEn = s.tb.tbEn ∧ (s.planKnown a1).tb.oscFreq = s.tb.oscFreq := by
  unfold State.planKnown
  simp

@[simp] theorem State.bootAgain_keep (s : State) :
    (s.bootAgain).part = s.part ∧ (s.bootAgain).fused = s.fused ∧ (s.bootAgain).pending = s.pending ∧ (s.bootAgain).host.flash = s.host.flash ∧ (s.bootAgain).tb.tbEn = s.tb.tbEn ∧ (s.bootAgain).tb.oscFreq = s.tb.oscFreq := by
  unfold State.bootAgain
  dsimp only
  repeat' split
  all_goals simp

@[simp] theorem State.profileTb_keep (s : State) :
    (s.profileTb).part = s.part ∧ (s.profileTb).fused = s.fused ∧ (s.profileTb).pending = s.pending := by
  unfold State.profileTb
  repeat' split
  all_goals simp

@[simp] theorem State.romStart_keep (s : State) (a1 : ℕ) :
    (s.romStart a1).part = s.part ∧ (s.romStart a1).fused = s.fused ∧ (s.romStart a1).pending = s.pending := by
  unfold State.romStart
  dsimp only
  repeat' split
  all_goals simp

@[simp] theorem State.profileEntry_keep (s : State) (a1 : Reply) (a2 : State → State) (h : ∀ z, (a2 z).part = (z).part ∧ (a2 z).fused = (z).fused ∧ (a2 z).pending = (z).pending ∧ (a2 z).host.flash = (z).host.flash ∧ (a2 z).tb.tbEn = (z).tb.tbEn ∧ (a2 z).tb.oscFreq = (z).tb.oscFreq) (h1 : (a1.s).part = (s).part ∧ (a1.s).fused = (s).fused ∧ (a1.s).pending = (s).pending ∧ (a1.s).host.flash = (s).host.flash ∧ (a1.s).tb.tbEn = (s).tb.tbEn ∧ (a1.s).tb.oscFreq = (s).tb.oscFreq) :
    (s.profileEntry a1 a2).part = s.part ∧ (s.profileEntry a1 a2).fused = s.fused ∧ (s.profileEntry a1 a2).pending = s.pending ∧ (s.profileEntry a1 a2).host.flash = s.host.flash ∧ (s.profileEntry a1 a2).tb.tbEn = s.tb.tbEn ∧ (s.profileEntry a1 a2).tb.oscFreq = s.tb.oscFreq := by
  unfold State.profileEntry
  split
  · simp [h, h1]
  · simp

@[simp] theorem State.applyProfile_keep (s : State) (a1 : ℕ) :
    (s.applyProfile a1).part = s.part ∧ (s.applyProfile a1).fused = s.fused ∧ (s.applyProfile a1).pending = s.pending ∧ (s.applyProfile a1).host.flash = s.host.flash ∧ (s.applyProfile a1).tb.tbEn = s.tb.tbEn ∧ (s.applyProfile a1).tb.oscFreq = s.tb.oscFreq := by
  unfold State.applyProfile
  dsimp only
  repeat' split
  · simp
  · simp
  · simp (disch := (intros; (try dsimp only); (repeat' split) <;> simp))

@[simp] theorem State.sysLocked_keep (s : State) (a1 : ℕ) :
    (s.sysLocked a1).part = s.part ∧ (s.sysLocked a1).fused = s.fused ∧ (s.sysLocked a1).pending = s.pending ∧ (s.sysLocked a1).host.flash = s.host.flash ∧ (s.sysLocked a1).tb.tbEn = s.tb.tbEn ∧ (s.sysLocked a1).tb.oscFreq = s.tb.oscFreq := by
  unfold State.sysLocked
  simp

@[simp] theorem State.tbLocked_keep (s : State) (a1 : ℕ) :
    (s.tbLocked a1).part = s.part ∧ (s.tbLocked a1).fused = s.fused ∧ (s.tbLocked a1).pending = s.pending ∧ (s.tbLocked a1).host.flash = s.host.flash ∧ (s.tbLocked a1).tb.tbEn = s.tb.tbEn ∧ (s.tbLocked a1).tb.oscFreq = s.tb.oscFreq := by
  unfold State.tbLocked
  simp

@[simp] theorem State.streamUnit_keep (s : State) (a1 : Bool) :
    (s.streamUnit a1).part = s.part ∧ (s.streamUnit a1).fused = s.fused ∧ (s.streamUnit a1).pending = s.pending ∧ (s.streamUnit a1).host.flash = s.host.flash ∧ (s.streamUnit a1).tb.tbEn = s.tb.tbEn ∧ (s.streamUnit a1).tb.oscFreq = s.tb.oscFreq := by
  unfold State.streamUnit
  simp

@[simp] theorem State.streamChunk_keep (s : State) (a1 : ℕ) (a2 : ℕ) (a3 : Bool) :
    (s.streamChunk a1 a2 a3).part = s.part ∧ (s.streamChunk a1 a2 a3).fused = s.fused ∧ (s.streamChunk a1 a2 a3).pending = s.pending ∧ (s.streamChunk a1 a2 a3).host.flash = s.host.flash ∧ (s.streamChunk a1 a2 a3).tb.tbEn = s.tb.tbEn ∧ (s.streamChunk a1 a2 a3).tb.oscFreq = s.tb.oscFreq := by
  unfold State.streamChunk
  simp

@[simp] theorem State.unitStreamed_keep (s : State) :
    (s.unitStreamed).part = s.part ∧ (s.unitStreamed).fused = s.fused ∧ (s.unitStreamed).pending = s.pending ∧ (s.unitStreamed).host.flash = s.host.flash ∧ (s.unitStreamed).tb.tbEn = s.tb.tbEn ∧ (s.unitStreamed).tb.oscFreq = s.tb.oscFreq := by
  unfold State.unitStreamed
  simp

@[simp] theorem State.startEngines_keep (s : State) (a1 : ℕ) :
    (s.startEngines a1).part = s.part ∧ (s.startEngines a1).fused = s.fused ∧ (s.startEngines a1).pending = s.pending ∧ (s.startEngines a1).host.flash = s.host.flash ∧ (s.startEngines a1).tb.tbEn = s.tb.tbEn ∧ (s.startEngines a1).tb.oscFreq = s.tb.oscFreq := by
  unfold State.startEngines
  simp

@[simp] theorem State.followerStart_keep (s : State) (a1 : ℕ) :
    (s.followerStart a1).part = s.part ∧ (s.followerStart a1).fused = s.fused ∧ (s.followerStart a1).pending = s.pending ∧ (s.followerStart a1).host.flash = s.host.flash ∧ (s.followerStart a1).tb.tbEn = s.tb.tbEn ∧ (s.followerStart a1).tb.oscFreq = s.tb.oscFreq := by
  unfold State.followerStart
  simp

@[simp] theorem State.leadStart_keep (s : State) :
    (s.leadStart).part = s.part ∧ (s.leadStart).fused = s.fused ∧ (s.leadStart).pending = s.pending ∧ (s.leadStart).host.flash = s.host.flash ∧ (s.leadStart).tb.tbEn = s.tb.tbEn ∧ (s.leadStart).tb.oscFreq = s.tb.oscFreq := by
  unfold State.leadStart
  simp

@[simp] theorem State.mailboxOpen_keep (s : State) :
    (s.mailboxOpen).part = s.part ∧ (s.mailboxOpen).fused = s.fused ∧ (s.mailboxOpen).pending = s.pending ∧ (s.mailboxOpen).host.flash = s.host.flash ∧ (s.mailboxOpen).tb.tbEn = s.tb.tbEn ∧ (s.mailboxOpen).tb.oscFreq = s.tb.oscFreq := by
  unfold State.mailboxOpen
  simp

@[simp] theorem State.imageFail_keep (s : State) (a1 : ℕ) :
    (s.imageFail a1).s.part = s.part ∧ (s.imageFail a1).s.fused = s.fused ∧ (s.imageFail a1).s.pending = s.pending ∧ (s.imageFail a1).s.host.flash = s.host.flash ∧ (s.imageFail a1).s.tb.tbEn = s.tb.tbEn ∧ (s.imageFail a1).s.tb.oscFreq = s.tb.oscFreq := by
  unfold State.imageFail
  simp

@[simp] theorem bootLoadReply_keep (a0 : ℕ) (a1 : List Byte) (s : State) :
    (bootLoadReply a0 a1 s).s.part = s.part ∧ (bootLoadReply a0 a1 s).s.fused = s.fused ∧ (bootLoadReply a0 a1 s).s.pending = s.pending ∧ (bootLoadReply a0 a1 s).s.host.flash = s.host.flash ∧ (bootLoadReply a0 a1 s).s.tb.tbEn = s.tb.tbEn ∧ (bootLoadReply a0 a1 s).s.tb.oscFreq = s.tb.oscFreq := by
  unfold bootLoadReply
  dsimp only
  repeat' split
  all_goals simp

@[simp] theorem bootStartReply_keep (a0 : ℕ) (a1 : List Byte) (s : State) :
    (bootStartReply a0 a1 s).s.part = s.part ∧ (bootStartReply a0 a1 s).s.fused = s.fused ∧ (bootStartReply a0 a1 s).s.pending = s.pending ∧ (bootStartReply a0 a1 s).s.host.flash = s.host.flash ∧ (bootStartReply a0 a1 s).s.tb.tbEn = s.tb.tbEn ∧ (bootStartReply a0 a1 s).s.tb.oscFreq = s.tb.oscFreq := by
  unfold bootStartReply
  dsimp only
  repeat' split
  all_goals simp

@[simp] theorem fwFlashReply_keep (a0 : ℕ) (a1 : List Byte) (s : State) :
    (fwFlashReply a0 a1 s).s.part = s.part ∧ (fwFlashReply a0 a1 s).s.fused = s.fused ∧ (fwFlashReply a0 a1 s).s.pending = s.pending ∧ (fwFlashReply a0 a1 s).s.host.flash = s.host.flash ∧ (fwFlashReply a0 a1 s).s.tb.tbEn = s.tb.tbEn ∧ (fwFlashReply a0 a1 s).s.tb.oscFreq = s.tb.oscFreq := by
  unfold fwFlashReply
  refine guarded_keep _ _ _ ?_
  split <;> simp

@[simp] theorem State.flashDone_keep (s : State) (a1 : Bool) :
    (s.flashDone a1).part = s.part ∧ (s.flashDone a1).fused = s.fused ∧ (s.flashDone a1).pending = s.pending := by
  unfold State.flashDone
  split <;> simp

@[simp] theorem bootConfirmReply_keep (a0 : ℕ) (a1 : List Byte) (s : State) :
    (bootConfirmReply a0 a1 s).s.part = s.part ∧ (bootConfirmReply a0 a1 s).s.fused = s.fused ∧ (bootConfirmReply a0 a1 s).s.pending = s.pending ∧ (bootConfirmReply a0 a1 s).s.host.flash = s.host.flash ∧ (bootConfirmReply a0 a1 s).s.tb.tbEn = s.tb.tbEn ∧ (bootConfirmReply a0 a1 s).s.tb.oscFreq = s.tb.oscFreq := by
  unfold bootConfirmReply
  dsimp only
  repeat' split
  all_goals simp

@[simp] theorem bootProfileSetReply_keep (a0 : ℕ) (a1 : List Byte) (s : State) :
    (bootProfileSetReply a0 a1 s).s.part = s.part ∧ (bootProfileSetReply a0 a1 s).s.fused = s.fused ∧ (bootProfileSetReply a0 a1 s).s.pending = s.pending ∧ (bootProfileSetReply a0 a1 s).s.host.flash = s.host.flash ∧ (bootProfileSetReply a0 a1 s).s.tb.tbEn = s.tb.tbEn ∧ (bootProfileSetReply a0 a1 s).s.tb.oscFreq = s.tb.oscFreq := by
  unfold bootProfileSetReply
  dsimp only
  repeat' split
  all_goals simp

end Sys2Proof.Machine
end

