-- ==== Sys2Proof/Laws/KeepPower.lean ====
section
/-! SUPPORT. What the operations of resets, belay, ageing, the update boundary and the events leave alone. -/

namespace Sys2Proof.Machine
open Sys2Proof

@[simp] theorem State.resetPart_keep (s : State) (a1 : ℕ) (a2 : Bool) :
    (s.resetPart a1 a2).part = s.part ∧ (s.resetPart a1 a2).fused = s.fused ∧ (s.resetPart a1 a2).pending = s.pending := by
  unfold State.resetPart
  simp

@[simp] theorem State.powerOn_keep (s : State) (a1 : List (ℕ × ℕ)) :
    (s.powerOn a1).part = s.part ∧ (s.powerOn a1).fused = s.fused ∧ (s.powerOn a1).pending = s.pending := by
  unfold State.powerOn
  simp

@[simp] theorem State.jobLost_keep (s : State) (a1 : ℕ) (a2 : NvJob) :
    (s.jobLost a1 a2).part = s.part ∧ (s.jobLost a1 a2).fused = s.fused ∧ (s.jobLost a1 a2).pending = s.pending ∧ (s.jobLost a1 a2).host.flash = s.host.flash ∧ (s.jobLost a1 a2).tb.tbEn = s.tb.tbEn ∧ (s.jobLost a1 a2).tb.oscFreq = s.tb.oscFreq := by
  unfold State.jobLost
  simp

@[simp] theorem State.linksLost_keep (s : State) (a1 : ℕ) :
    (s.linksLost a1).part = s.part ∧ (s.linksLost a1).fused = s.fused ∧ (s.linksLost a1).pending = s.pending ∧ (s.linksLost a1).host.flash = s.host.flash ∧ (s.linksLost a1).tb.tbEn = s.tb.tbEn ∧ (s.linksLost a1).tb.oscFreq = s.tb.oscFreq := by
  unfold State.linksLost
  simp (disch := (intros; (repeat' split) <;> simp))

@[simp] theorem State.servedBy_keep (s : State) (a1 : ℕ) :
    (s.servedBy a1).part = s.part ∧ (s.servedBy a1).fused = s.fused ∧ (s.servedBy a1).pending = s.pending ∧ (s.servedBy a1).host.flash = s.host.flash ∧ (s.servedBy a1).tb.tbEn = s.tb.tbEn ∧ (s.servedBy a1).tb.oscFreq = s.tb.oscFreq := by
  unfold State.servedBy
  simp (disch := (intros; (repeat' split) <;> simp))

@[simp] theorem State.resetDie_keep (s : State) (a1 : ℕ) :
    (s.resetDie a1).part = s.part ∧ (s.resetDie a1).fused = s.fused ∧ (s.resetDie a1).pending = s.pending ∧ (s.resetDie a1).host.flash = s.host.flash ∧ (s.resetDie a1).tb.tbEn = s.tb.tbEn ∧ (s.resetDie a1).tb.oscFreq = s.tb.oscFreq := by
  unfold State.resetDie
  simp

@[simp] theorem State.resetDue_keep (s : State) :
    (s.resetDue).part = s.part ∧ (s.resetDue).fused = s.fused ∧ (s.resetDue).pending = s.pending := by
  unfold State.resetDue
  split <;> simp

@[simp] theorem State.belayBegin_keep (s : State) (a1 : Bool) :
    (s.belayBegin a1).part = s.part ∧ (s.belayBegin a1).fused = s.fused ∧ (s.belayBegin a1).pending = s.pending ∧ (s.belayBegin a1).host.flash = s.host.flash ∧ (s.belayBegin a1).tb.tbEn = s.tb.tbEn ∧ (s.belayBegin a1).tb.oscFreq = s.tb.oscFreq := by
  unfold State.belayBegin
  simp

@[simp] theorem State.belayAgain_keep (s : State) :
    (s.belayAgain).part = s.part ∧ (s.belayAgain).fused = s.fused ∧ (s.belayAgain).pending = s.pending ∧ (s.belayAgain).host.flash = s.host.flash ∧ (s.belayAgain).tb.tbEn = s.tb.tbEn ∧ (s.belayAgain).tb.oscFreq = s.tb.oscFreq := by
  unfold State.belayAgain
  simp

@[simp] theorem State.belayTrigger_keep (s : State) (a1 : Bool) :
    (s.belayTrigger a1).part = s.part ∧ (s.belayTrigger a1).fused = s.fused ∧ (s.belayTrigger a1).pending = s.pending ∧ (s.belayTrigger a1).host.flash = s.host.flash ∧ (s.belayTrigger a1).tb.tbEn = s.tb.tbEn ∧ (s.belayTrigger a1).tb.oscFreq = s.tb.oscFreq := by
  unfold State.belayTrigger
  dsimp only
  repeat' split
  all_goals simp

@[simp] theorem State.mainFailRise_keep (s : State) :
    (s.mainFailRise).part = s.part ∧ (s.mainFailRise).fused = s.fused ∧ (s.mainFailRise).pending = s.pending ∧ (s.mainFailRise).host.flash = s.host.flash ∧ (s.mainFailRise).tb.tbEn = s.tb.tbEn ∧ (s.mainFailRise).tb.oscFreq = s.tb.oscFreq := by
  unfold State.mainFailRise
  simp

@[simp] theorem State.belayCapture_keep (s : State) :
    (s.belayCapture).part = s.part ∧ (s.belayCapture).fused = s.fused ∧ (s.belayCapture).pending = s.pending ∧ (s.belayCapture).host.flash = s.host.flash ∧ (s.belayCapture).tb.tbEn = s.tb.tbEn ∧ (s.belayCapture).tb.oscFreq = s.tb.oscFreq := by
  unfold State.belayCapture
  simp

@[simp] theorem State.belayDown_keep (s : State) :
    (s.belayDown).part = s.part ∧ (s.belayDown).fused = s.fused ∧ (s.belayDown).pending = s.pending := by
  unfold State.belayDown
  simp

@[simp] theorem State.carry_keep (s : State) (a1 : ℕ) (a2 : ℚ) (a3 : Bool) :
    (s.carry a1 a2 a3).part = s.part ∧ (s.carry a1 a2 a3).fused = s.fused ∧ (s.carry a1 a2 a3).pending = s.pending ∧ (s.carry a1 a2 a3).host.flash = s.host.flash ∧ (s.carry a1 a2 a3).tb.tbEn = s.tb.tbEn ∧ (s.carry a1 a2 a3).tb.oscFreq = s.tb.oscFreq := by
  unfold State.carry
  simp

@[simp] theorem State.belayWake_keep (s : State) (a1 : ℕ) (a2 : Option ℤ) :
    (s.belayWake a1 a2).part = s.part ∧ (s.belayWake a1 a2).fused = s.fused ∧ (s.belayWake a1 a2).pending = s.pending ∧ (s.belayWake a1 a2).host.flash = s.host.flash ∧ (s.belayWake a1 a2).tb.tbEn = s.tb.tbEn ∧ (s.belayWake a1 a2).tb.oscFreq = s.tb.oscFreq := by
  unfold State.belayWake
  simp

@[simp] theorem State.belayPulse_keep (s : State) (a1 : ℕ) :
    (s.belayPulse a1).part = s.part ∧ (s.belayPulse a1).fused = s.fused ∧ (s.belayPulse a1).pending = s.pending ∧ (s.belayPulse a1).host.flash = s.host.flash ∧ (s.belayPulse a1).tb.tbEn = s.tb.tbEn ∧ (s.belayPulse a1).tb.oscFreq = s.tb.oscFreq := by
  unfold State.belayPulse
  simp

@[simp] theorem State.belayOscLoss_keep (s : State) (a1 : ℕ) :
    (s.belayOscLoss a1).part = s.part ∧ (s.belayOscLoss a1).fused = s.fused ∧ (s.belayOscLoss a1).pending = s.pending ∧ (s.belayOscLoss a1).host.flash = s.host.flash ∧ (s.belayOscLoss a1).tb.tbEn = s.tb.tbEn ∧ (s.belayOscLoss a1).tb.oscFreq = s.tb.oscFreq := by
  unfold State.belayOscLoss
  simp

@[simp] theorem State.belayExit_keep (s : State) (a1 : ℕ) :
    (s.belayExit a1).part = s.part ∧ (s.belayExit a1).fused = s.fused ∧ (s.belayExit a1).pending = s.pending ∧ (s.belayExit a1).host.flash = s.host.flash ∧ (s.belayExit a1).tb.tbEn = s.tb.tbEn ∧ (s.belayExit a1).tb.oscFreq = s.tb.oscFreq := by
  unfold State.belayExit
  simp

@[simp] theorem State.resumeTds_keep (s : State) (a1 : ℕ) :
    (s.resumeTds a1).part = s.part ∧ (s.resumeTds a1).fused = s.fused ∧ (s.resumeTds a1).pending = s.pending ∧ (s.resumeTds a1).host.flash = s.host.flash ∧ (s.resumeTds a1).tb.tbEn = s.tb.tbEn ∧ (s.resumeTds a1).tb.oscFreq = s.tb.oscFreq := by
  unfold State.resumeTds
  simp

@[simp] theorem State.tbpllLock_keep (s : State) (a1 : ℕ) :
    (s.tbpllLock a1).part = s.part ∧ (s.tbpllLock a1).fused = s.fused ∧ (s.tbpllLock a1).pending = s.pending ∧ (s.tbpllLock a1).host.flash = s.host.flash ∧ (s.tbpllLock a1).tb.tbEn = s.tb.tbEn ∧ (s.tbpllLock a1).tb.oscFreq = s.tb.oscFreq := by
  unfold State.tbpllLock
  simp

@[simp] theorem State.linkAligned_keep (s : State) (a1 : ℕ) (a2 : ℕ) :
    (s.linkAligned a1 a2).part = s.part ∧ (s.linkAligned a1 a2).fused = s.fused ∧ (s.linkAligned a1 a2).pending = s.pending ∧ (s.linkAligned a1 a2).host.flash = s.host.flash ∧ (s.linkAligned a1 a2).tb.tbEn = s.tb.tbEn ∧ (s.linkAligned a1 a2).tb.oscFreq = s.tb.oscFreq := by
  unfold State.linkAligned
  simp

@[simp] theorem State.resumeDplls_keep (s : State) :
    (s.resumeDplls).part = s.part ∧ (s.resumeDplls).fused = s.fused ∧ (s.resumeDplls).pending = s.pending ∧ (s.resumeDplls).host.flash = s.host.flash ∧ (s.resumeDplls).tb.tbEn = s.tb.tbEn ∧ (s.resumeDplls).tb.oscFreq = s.tb.oscFreq := by
  unfold State.resumeDplls
  simp

@[simp] theorem State.resumeOplls_keep (s : State) (a1 : ℕ) :
    (s.resumeOplls a1).part = s.part ∧ (s.resumeOplls a1).fused = s.fused ∧ (s.resumeOplls a1).pending = s.pending ∧ (s.resumeOplls a1).host.flash = s.host.flash ∧ (s.resumeOplls a1).tb.tbEn = s.tb.tbEn ∧ (s.resumeOplls a1).tb.oscFreq = s.tb.oscFreq := by
  unfold State.resumeOplls
  simp

@[simp] theorem belayConfigReply_keep (a0 : ℕ) (a1 : List Byte) (s : State) :
    (belayConfigReply a0 a1 s).s.part = s.part ∧ (belayConfigReply a0 a1 s).s.fused = s.fused ∧ (belayConfigReply a0 a1 s).s.pending = s.pending ∧ (belayConfigReply a0 a1 s).s.host.flash = s.host.flash ∧ (belayConfigReply a0 a1 s).s.tb.tbEn = s.tb.tbEn ∧ (belayConfigReply a0 a1 s).s.tb.oscFreq = s.tb.oscFreq := by
  unfold belayConfigReply
  refine guarded_keep _ _ _ ?_
  simp

@[simp] theorem belayEnterReply_keep (a0 : ℕ) (a1 : List Byte) (s : State) :
    (belayEnterReply a0 a1 s).s.part = s.part ∧ (belayEnterReply a0 a1 s).s.fused = s.fused ∧ (belayEnterReply a0 a1 s).s.pending = s.pending ∧ (belayEnterReply a0 a1 s).s.host.flash = s.host.flash ∧ (belayEnterReply a0 a1 s).s.tb.tbEn = s.tb.tbEn ∧ (belayEnterReply a0 a1 s).s.tb.oscFreq = s.tb.oscFreq := by
  unfold belayEnterReply
  refine guarded_keep _ _ _ ?_
  simp

@[simp] theorem powerGetStatusReply_keep (a0 : ℕ) (a1 : List Byte) (s : State) :
    (powerGetStatusReply a0 a1 s).s.part = s.part ∧ (powerGetStatusReply a0 a1 s).s.fused = s.fused ∧ (powerGetStatusReply a0 a1 s).s.pending = s.pending ∧ (powerGetStatusReply a0 a1 s).s.host.flash = s.host.flash ∧ (powerGetStatusReply a0 a1 s).s.tb.tbEn = s.tb.tbEn ∧ (powerGetStatusReply a0 a1 s).s.tb.oscFreq = s.tb.oscFreq := by
  unfold powerGetStatusReply
  refine guarded_keep _ _ _ ?_
  simp

@[simp] theorem State.planEval_keep (s : State) (a1 : ℕ) (a2 : ℕ) :
    (s.planEval a1 a2).part = s.part ∧ (s.planEval a1 a2).fused = s.fused ∧ (s.planEval a1 a2).pending = s.pending ∧ (s.planEval a1 a2).host.flash = s.host.flash ∧ (s.planEval a1 a2).tb.tbEn = s.tb.tbEn ∧ (s.planEval a1 a2).tb.oscFreq = s.tb.oscFreq := by
  unfold State.planEval
  simp

@[simp] theorem marginGetPlanReply_keep (a0 : ℕ) (a1 : List Byte) (s : State) :
    (marginGetPlanReply a0 a1 s).s.part = s.part ∧ (marginGetPlanReply a0 a1 s).s.fused = s.fused ∧ (marginGetPlanReply a0 a1 s).s.pending = s.pending ∧ (marginGetPlanReply a0 a1 s).s.host.flash = s.host.flash ∧ (marginGetPlanReply a0 a1 s).s.tb.tbEn = s.tb.tbEn ∧ (marginGetPlanReply a0 a1 s).s.tb.oscFreq = s.tb.oscFreq := by
  unfold marginGetPlanReply
  refine guarded_keep _ _ _ ?_
  simp

@[simp] theorem ageingGetStatusReply_keep (a0 : ℕ) (a1 : List Byte) (s : State) :
    (ageingGetStatusReply a0 a1 s).s.part = s.part ∧ (ageingGetStatusReply a0 a1 s).s.fused = s.fused ∧ (ageingGetStatusReply a0 a1 s).s.pending = s.pending ∧ (ageingGetStatusReply a0 a1 s).s.host.flash = s.host.flash ∧ (ageingGetStatusReply a0 a1 s).s.tb.tbEn = s.tb.tbEn ∧ (ageingGetStatusReply a0 a1 s).s.tb.oscFreq = s.tb.oscFreq := by
  unfold ageingGetStatusReply
  refine guarded_keep _ _ _ ?_
  simp

@[simp] theorem State.holdEntry_keep (s : State) (a1 : ℕ) :
    (s.holdEntry a1).part = s.part ∧ (s.holdEntry a1).fused = s.fused ∧ (s.holdEntry a1).pending = s.pending ∧ (s.holdEntry a1).host.flash = s.host.flash ∧ (s.holdEntry a1).tb.tbEn = s.tb.tbEn ∧ (s.holdEntry a1).tb.oscFreq = s.tb.oscFreq := by
  unfold State.holdEntry
  simp

@[simp] theorem State.openEntry_keep (s : State) (a1 : ℕ) :
    (s.openEntry a1).part = s.part ∧ (s.openEntry a1).fused = s.fused ∧ (s.openEntry a1).pending = s.pending ∧ (s.openEntry a1).host.flash = s.host.flash ∧ (s.openEntry a1).tb.tbEn = s.tb.tbEn ∧ (s.openEntry a1).tb.oscFreq = s.tb.oscFreq := by
  unfold State.openEntry
  simp

@[simp] theorem State.dpllsBoundary_keep (s : State) (a1 : ℕ) :
    (s.dpllsBoundary a1).part = s.part ∧ (s.dpllsBoundary a1).fused = s.fused ∧ (s.dpllsBoundary a1).pending = s.pending ∧ (s.dpllsBoundary a1).host.flash = s.host.flash ∧ (s.dpllsBoundary a1).tb.tbEn = s.tb.tbEn ∧ (s.dpllsBoundary a1).tb.oscFreq = s.tb.oscFreq := by
  unfold State.dpllsBoundary
  simp

@[simp] theorem State.edgeGlitch_keep (s : State) (a1 : ℕ) (a2 : TdcChan) (a3 : ℕ) (a4 : Bool) :
    (s.edgeGlitch a1 a2 a3 a4).part = s.part ∧ (s.edgeGlitch a1 a2 a3 a4).fused = s.fused ∧ (s.edgeGlitch a1 a2 a3 a4).pending = s.pending ∧ (s.edgeGlitch a1 a2 a3 a4).host.flash = s.host.flash ∧ (s.edgeGlitch a1 a2 a3 a4).tb.tbEn = s.tb.tbEn ∧ (s.edgeGlitch a1 a2 a3 a4).tb.oscFreq = s.tb.oscFreq := by
  unfold State.edgeGlitch
  simp

@[simp] theorem State.edgeTake_keep (s : State) (a1 : ℕ) (a2 : ℕ) (a3 : ℕ) (a4 : ℕ) (a5 : ℕ) (a6 : ℕ) :
    (s.edgeTake a1 a2 a3 a4 a5 a6).part = s.part ∧ (s.edgeTake a1 a2 a3 a4 a5 a6).fused = s.fused ∧ (s.edgeTake a1 a2 a3 a4 a5 a6).pending = s.pending ∧ (s.edgeTake a1 a2 a3 a4 a5 a6).host.flash = s.host.flash ∧ (s.edgeTake a1 a2 a3 a4 a5 a6).tb.tbEn = s.tb.tbEn ∧ (s.edgeTake a1 a2 a3 a4 a5 a6).tb.oscFreq = s.tb.oscFreq := by
  unfold State.edgeTake
  simp

@[simp] theorem State.edgeMeasure_keep (s : State) (a1 : Bool) (a2 : ℕ) (a3 : ℕ) (a4 : ℕ) (a5 : ℕ) (a6 : ℕ) :
    (s.edgeMeasure a1 a2 a3 a4 a5 a6).part = s.part ∧ (s.edgeMeasure a1 a2 a3 a4 a5 a6).fused = s.fused ∧ (s.edgeMeasure a1 a2 a3 a4 a5 a6).pending = s.pending ∧ (s.edgeMeasure a1 a2 a3 a4 a5 a6).host.flash = s.host.flash ∧ (s.edgeMeasure a1 a2 a3 a4 a5 a6).tb.tbEn = s.tb.tbEn ∧ (s.edgeMeasure a1 a2 a3 a4 a5 a6).tb.oscFreq = s.tb.oscFreq := by
  unfold State.edgeMeasure
  simp

@[simp] theorem State.edgeCapture_keep (s : State) (a1 : ℕ) (a2 : ℕ) (a3 : ℕ) (a4 : ℕ) (a5 : ℕ) :
    (s.edgeCapture a1 a2 a3 a4 a5).part = s.part ∧ (s.edgeCapture a1 a2 a3 a4 a5).fused = s.fused ∧ (s.edgeCapture a1 a2 a3 a4 a5).pending = s.pending ∧ (s.edgeCapture a1 a2 a3 a4 a5).host.flash = s.host.flash ∧ (s.edgeCapture a1 a2 a3 a4 a5).tb.tbEn = s.tb.tbEn ∧ (s.edgeCapture a1 a2 a3 a4 a5).tb.oscFreq = s.tb.oscFreq := by
  unfold State.edgeCapture
  simp

@[simp] theorem State.takeAhead_keep (s : State) (a1 : ℕ) :
    (s.takeAhead a1).part = s.part ∧ (s.takeAhead a1).fused = s.fused ∧ (s.takeAhead a1).pending = s.pending ∧ (s.takeAhead a1).host.flash = s.host.flash ∧ (s.takeAhead a1).tb.tbEn = s.tb.tbEn ∧ (s.takeAhead a1).tb.oscFreq = s.tb.oscFreq := by
  unfold State.takeAhead
  simp

@[simp] theorem State.closeChan_keep (s : State) (a1 : ℕ) (a2 : ℕ) :
    (s.closeChan a1 a2).part = s.part ∧ (s.closeChan a1 a2).fused = s.fused ∧ (s.closeChan a1 a2).pending = s.pending ∧ (s.closeChan a1 a2).host.flash = s.host.flash ∧ (s.closeChan a1 a2).tb.tbEn = s.tb.tbEn ∧ (s.closeChan a1 a2).tb.oscFreq = s.tb.oscFreq := by
  unfold State.closeChan
  simp

@[simp] theorem State.noteReached_keep (s : State) (a1 : ℕ) (a2 : ℕ) :
    (s.noteReached a1 a2).part = s.part ∧ (s.noteReached a1 a2).fused = s.fused ∧ (s.noteReached a1 a2).pending = s.pending ∧ (s.noteReached a1 a2).host.flash = s.host.flash ∧ (s.noteReached a1 a2).tb.tbEn = s.tb.tbEn ∧ (s.noteReached a1 a2).tb.oscFreq = s.tb.oscFreq := by
  unfold State.noteReached
  simp

@[simp] theorem State.chansBoundary_keep (s : State) (a1 : ℕ) :
    (s.chansBoundary a1).part = s.part ∧ (s.chansBoundary a1).fused = s.fused ∧ (s.chansBoundary a1).pending = s.pending ∧ (s.chansBoundary a1).host.flash = s.host.flash ∧ (s.chansBoundary a1).tb.tbEn = s.tb.tbEn ∧ (s.chansBoundary a1).tb.oscFreq = s.tb.oscFreq := by
  unfold State.chansBoundary
  simp

@[simp] theorem State.inputBoundary_keep (s : State) (a1 : ℕ) (a2 : ℕ) :
    (s.inputBoundary a1 a2).part = s.part ∧ (s.inputBoundary a1 a2).fused = s.fused ∧ (s.inputBoundary a1 a2).pending = s.pending ∧ (s.inputBoundary a1 a2).host.flash = s.host.flash ∧ (s.inputBoundary a1 a2).tb.tbEn = s.tb.tbEn ∧ (s.inputBoundary a1 a2).tb.oscFreq = s.tb.oscFreq := by
  unfold State.inputBoundary
  simp

@[simp] theorem State.markWord_keep (s : State) (a1 : ℕ) :
    (s.markWord a1).part = s.part ∧ (s.markWord a1).fused = s.fused ∧ (s.markWord a1).pending = s.pending ∧ (s.markWord a1).host.flash = s.host.flash ∧ (s.markWord a1).tb.tbEn = s.tb.tbEn ∧ (s.markWord a1).tb.oscFreq = s.tb.oscFreq := by
  unfold State.markWord
  simp

@[simp] theorem State.inputsBoundary_keep (s : State) (a1 : ℕ) :
    (s.inputsBoundary a1).part = s.part ∧ (s.inputsBoundary a1).fused = s.fused ∧ (s.inputsBoundary a1).pending = s.pending ∧ (s.inputsBoundary a1).host.flash = s.host.flash ∧ (s.inputsBoundary a1).tb.tbEn = s.tb.tbEn ∧ (s.inputsBoundary a1).tb.oscFreq = s.tb.oscFreq := by
  unfold State.inputsBoundary
  simp

@[simp] theorem State.dpllSafe_keep (s : State) (a1 : ℕ) (a2 : ℕ) :
    (s.dpllSafe a1 a2).part = s.part ∧ (s.dpllSafe a1 a2).fused = s.fused ∧ (s.dpllSafe a1 a2).pending = s.pending ∧ (s.dpllSafe a1 a2).host.flash = s.host.flash ∧ (s.dpllSafe a1 a2).tb.tbEn = s.tb.tbEn ∧ (s.dpllSafe a1 a2).tb.oscFreq = s.tb.oscFreq := by
  unfold State.dpllSafe
  simp

@[simp] theorem State.parSafe_keep (s : State) (a1 : ℕ) (a2 : ℕ) (a3 : ℕ) :
    (s.parSafe a1 a2 a3).part = s.part ∧ (s.parSafe a1 a2 a3).fused = s.fused ∧ (s.parSafe a1 a2 a3).pending = s.pending ∧ (s.parSafe a1 a2 a3).host.flash = s.host.flash ∧ (s.parSafe a1 a2 a3).tb.tbEn = s.tb.tbEn ∧ (s.parSafe a1 a2 a3).tb.oscFreq = s.tb.oscFreq := by
  unfold State.parSafe
  simp

@[simp] theorem State.parBoundary_keep (s : State) (a1 : ℕ) :
    (s.parBoundary a1).part = s.part ∧ (s.parBoundary a1).fused = s.fused ∧ (s.parBoundary a1).pending = s.pending ∧ (s.parBoundary a1).host.flash = s.host.flash ∧ (s.parBoundary a1).tb.tbEn = s.tb.tbEn ∧ (s.parBoundary a1).tb.oscFreq = s.tb.oscFreq := by
  unfold State.parBoundary
  simp

@[simp] theorem State.upset_keep (s : State) (a1 : ℕ) (a2 : List ℕ) :
    (s.upset a1 a2).part = s.part ∧ (s.upset a1 a2).fused = s.fused ∧ (s.upset a1 a2).pending = s.pending ∧ (s.upset a1 a2).host.flash = s.host.flash ∧ (s.upset a1 a2).tb.tbEn = s.tb.tbEn ∧ (s.upset a1 a2).tb.oscFreq = s.tb.oscFreq := by
  unfold State.upset
  simp (disch := (intros; (repeat' split) <;> simp))

@[simp] theorem State.scrub_keep (s : State) (a1 : ℕ) (a2 : List ℕ) :
    (s.scrub a1 a2).part = s.part ∧ (s.scrub a1 a2).fused = s.fused ∧ (s.scrub a1 a2).pending = s.pending ∧ (s.scrub a1 a2).host.flash = s.host.flash ∧ (s.scrub a1 a2).tb.tbEn = s.tb.tbEn ∧ (s.scrub a1 a2).tb.oscFreq = s.tb.oscFreq := by
  unfold State.scrub
  simp

@[simp] theorem State.opllsBoundary_keep (s : State) :
    (s.opllsBoundary).part = s.part ∧ (s.opllsBoundary).fused = s.fused ∧ (s.opllsBoundary).pending = s.pending ∧ (s.opllsBoundary).host.flash = s.host.flash ∧ (s.opllsBoundary).tb.tbEn = s.tb.tbEn ∧ (s.opllsBoundary).tb.oscFreq = s.tb.oscFreq := by
  unfold State.opllsBoundary
  simp

@[simp] theorem State.tdsBoundary_keep (s : State) (a1 : State) (a2 : ℕ) :
    (s.tdsBoundary a1 a2).part = s.part ∧ (s.tdsBoundary a1 a2).fused = s.fused ∧ (s.tdsBoundary a1 a2).pending = s.pending ∧ (s.tdsBoundary a1 a2).host.flash = s.host.flash ∧ (s.tdsBoundary a1 a2).tb.tbEn = s.tb.tbEn ∧ (s.tdsBoundary a1 a2).tb.oscFreq = s.tb.oscFreq := by
  unfold State.tdsBoundary
  simp

@[simp] theorem State.endBoundary_keep (s : State) :
    (s.endBoundary).part = s.part ∧ (s.endBoundary).fused = s.fused ∧ (s.endBoundary).pending = s.pending ∧ (s.endBoundary).host.flash = s.host.flash ∧ (s.endBoundary).tb.tbEn = s.tb.tbEn ∧ (s.endBoundary).tb.oscFreq = s.tb.oscFreq := by
  unfold State.endBoundary
  simp

@[simp] theorem State.driftSync_keep (s : State) :
    (s.driftSync).part = s.part ∧ (s.driftSync).fused = s.fused ∧ (s.driftSync).pending = s.pending ∧ (s.driftSync).host.flash = s.host.flash ∧ (s.driftSync).tb.tbEn = s.tb.tbEn ∧ (s.driftSync).tb.oscFreq = s.tb.oscFreq := by
  unfold State.driftSync
  simp

@[simp] theorem State.boundary_keep (s : State) :
    (s.boundary).part = s.part ∧ (s.boundary).fused = s.fused ∧ (s.boundary).pending = s.pending ∧ (s.boundary).host.flash = s.host.flash ∧ (s.boundary).tb.tbEn = s.tb.tbEn ∧ (s.boundary).tb.oscFreq = s.tb.oscFreq := by
  unfold State.boundary
  simp

@[simp] theorem State.landInput_keep (s : State) (a1 : Path) (a2 : ℕ) (a3 : Word) :
    (s.landInput a1 a2 a3).part = s.part ∧ (s.landInput a1 a2 a3).fused = s.fused ∧ (s.landInput a1 a2 a3).pending = s.pending := by
  unfold State.landInput
  simp

@[simp] theorem State.landDpll_keep (s : State) (a1 : Path) (a2 : ℕ) (a3 : ℕ) (a4 : Word) :
    (s.landDpll a1 a2 a3 a4).part = s.part ∧ (s.landDpll a1 a2 a3 a4).fused = s.fused ∧ (s.landDpll a1 a2 a3 a4).pending = s.pending := by
  unfold State.landDpll
  simp

@[simp] theorem State.landOpll_keep (s : State) (a1 : Path) (a2 : ℕ) (a3 : Word) :
    (s.landOpll a1 a2 a3).part = s.part ∧ (s.landOpll a1 a2 a3).fused = s.fused ∧ (s.landOpll a1 a2 a3).pending = s.pending := by
  unfold State.landOpll
  simp

@[simp] theorem State.landOut_keep (s : State) (a1 : Path) (a2 : ℕ) (a3 : ℕ) (a4 : Word) :
    (s.landOut a1 a2 a3 a4).part = s.part ∧ (s.landOut a1 a2 a3 a4).fused = s.fused ∧ (s.landOut a1 a2 a3 a4).pending = s.pending := by
  unfold State.landOut
  simp

@[simp] theorem State.landTd_keep (s : State) (a1 : Path) (a2 : ℕ) (a3 : ℕ) (a4 : Word) :
    (s.landTd a1 a2 a3 a4).part = s.part ∧ (s.landTd a1 a2 a3 a4).fused = s.fused ∧ (s.landTd a1 a2 a3 a4).pending = s.pending := by
  unfold State.landTd
  simp

@[simp] theorem State.landStitch_keep (s : State) (a1 : Path) (a2 : ℕ) (a3 : Word) :
    (s.landStitch a1 a2 a3).part = s.part ∧ (s.landStitch a1 a2 a3).fused = s.fused ∧ (s.landStitch a1 a2 a3).pending = s.pending := by
  unfold State.landStitch
  simp

@[simp] theorem State.landMbx_keep (s : State) (a1 : Path) (a2 : ℕ) (a3 : ℕ) (a4 : Word) :
    (s.landMbx a1 a2 a3 a4).part = s.part ∧ (s.landMbx a1 a2 a3 a4).fused = s.fused ∧ (s.landMbx a1 a2 a3 a4).pending = s.pending := by
  unfold State.landMbx
  simp

@[simp] theorem State.periodic_keep (s : State) (a1 : ℕ) :
    (s.periodic a1).part = s.part ∧ (s.periodic a1).fused = s.fused ∧ (s.periodic a1).pending = s.pending ∧ (s.periodic a1).host.flash = s.host.flash ∧ (s.periodic a1).tb.tbEn = s.tb.tbEn ∧ (s.periodic a1).tb.oscFreq = s.tb.oscFreq := by
  unfold State.periodic
  simp

@[simp] theorem State.fillEnd_keep (s : State) (a1 : ℕ) (a2 : ℕ) (a3 : List ℕ) (a4 : List ℕ) :
    (s.fillEnd a1 a2 a3 a4).part = s.part ∧ (s.fillEnd a1 a2 a3 a4).fused = s.fused ∧ (s.fillEnd a1 a2 a3 a4).pending = s.pending ∧ (s.fillEnd a1 a2 a3 a4).host.flash = s.host.flash ∧ (s.fillEnd a1 a2 a3 a4).tb.tbEn = s.tb.tbEn ∧ (s.fillEnd a1 a2 a3 a4).tb.oscFreq = s.tb.oscFreq := by
  unfold State.fillEnd
  simp

@[simp] theorem State.bgDone_keep (s : State) (a1 : ℕ) (a2 : ℕ) (a3 : List ℕ) :
    (s.bgDone a1 a2 a3).part = s.part ∧ (s.bgDone a1 a2 a3).fused = s.fused ∧ (s.bgDone a1 a2 a3).pending = s.pending ∧ (s.bgDone a1 a2 a3).host.flash = s.host.flash ∧ (s.bgDone a1 a2 a3).tb.tbEn = s.tb.tbEn ∧ (s.bgDone a1 a2 a3).tb.oscFreq = s.tb.oscFreq := by
  unfold State.bgDone
  simp

@[simp] theorem State.decisionTick_keep (s : State) :
    (s.decisionTick).part = s.part ∧ (s.decisionTick).fused = s.fused ∧ (s.decisionTick).pending = s.pending ∧ (s.decisionTick).host.flash = s.host.flash ∧ (s.decisionTick).tb.tbEn = s.tb.tbEn ∧ (s.decisionTick).tb.oscFreq = s.tb.oscFreq := by
  unfold State.decisionTick
  simp

@[simp] theorem State.driftEval_keep (s : State) (a1 : ℕ) :
    (s.driftEval a1).part = s.part ∧ (s.driftEval a1).fused = s.fused ∧ (s.driftEval a1).pending = s.pending ∧ (s.driftEval a1).host.flash = s.host.flash ∧ (s.driftEval a1).tb.tbEn = s.tb.tbEn ∧ (s.driftEval a1).tb.oscFreq = s.tb.oscFreq := by
  unfold State.driftEval
  dsimp only
  repeat' split
  all_goals simp

@[simp] theorem State.alignSet_keep (s : State) (a1 : ℕ) :
    (s.alignSet a1).part = s.part ∧ (s.alignSet a1).fused = s.fused ∧ (s.alignSet a1).pending = s.pending ∧ (s.alignSet a1).host.flash = s.host.flash ∧ (s.alignSet a1).tb.tbEn = s.tb.tbEn ∧ (s.alignSet a1).tb.oscFreq = s.tb.oscFreq := by
  unfold State.alignSet
  simp

end Sys2Proof.Machine
end

