-- ==== Sys2Proof/Laws/Inv.lean ====
section
/-! SUPPORT. The invariant of the block through the operations that write TB_CTRL or the flash, and through those that reach a
register by its address. -/

namespace Sys2Proof.Machine
open Sys2Proof

/-- The invariant speaks of four things only. -/
theorem State.Inv.of_same {s t : State} (h : s.Inv) (hp : t.part = s.part) (hf : t.host.flash = s.host.flash)
    (he : t.tb.tbEn = s.tb.tbEn) (ho : t.tb.oscFreq = s.tb.oscFreq) : t.Inv := by
  unfold State.Inv
  rw [hp, hf, he, ho]
  exact h

/-- The invariant where the timebase is off. -/
theorem State.Inv.of_off {s t : State} (h : s.Inv) (hp : t.part = s.part) (hf : t.host.flash = s.host.flash) (he : t.tb.tbEn = false) : t.Inv := by
  refine ⟨by rw [hf]; exact h.1, ?_, by rw [hp]; exact h.2.2⟩
  rw [he]
  intro h'
  cases h'

theorem State.fixPar_inv (s : State) (d off : Nat) (h : s.Inv) : (s.fixPar d off).Inv := h.of_same (by simp) (by simp) (by simp) (by simp)

theorem State.modPort_inv (s : State) (i : Nat) (f : Port → Port) (h : s.Inv) : (s.modPort i f).Inv := h.of_same (by simp) (by simp) (by simp) (by simp)

theorem State.modDx_inv (s : State) (d : Nat) (f : DieX → DieX) (h : s.Inv) : (s.modDx d f).Inv := h.of_same (by simp) (by simp) (by simp) (by simp)

theorem State.enterSafe_inv (s : State) (h : s.Inv) : (s.enterSafe).Inv := h.of_same (by simp) (by simp) (by simp) (by simp)

theorem State.enterDownload_inv (s : State) (h : s.Inv) : (s.enterDownload).Inv := h.of_same (by simp) (by simp) (by simp) (by simp)

theorem State.bootSlots_inv (s : State) (h : s.Inv) : (s.bootSlots).Inv := h.of_same (by simp) (by simp) (by simp) (by simp)

/-! ## TB_CTRL (R41, R42, R44, R585) -/

theorem State.allLinksDown_tb (s : State) : s.allLinksDown.tb.tbEn = s.tb.tbEn := by simp

theorem State.tbOff_inv (s : State) (h : s.Inv) : s.tbOff.Inv := by
  refine h.of_off (by simp) ?_ ?_
  all_goals (unfold State.tbOff; dsimp only; simp)

/-- A new master changes neither the flash nor TB_EN, and OSC_FREQ is the one given. -/
@[simp] theorem State.setMaster_rest (s : State) (m : Bool) (f : Nat) :
    (s.setMaster m f).host.flash = s.host.flash ∧ (s.setMaster m f).tb.tbEn = s.tb.tbEn ∧ (s.setMaster m f).tb.oscFreq = f := by
  unfold State.setMaster State.oneModel
  dsimp only
  repeat' split
  all_goals simp

theorem State.writeTbCtrl_inv (s : State) (w : Word) (h : s.Inv) : (s.writeTbCtrl w).Inv := by
  unfold State.writeTbCtrl
  dsimp only
  split
  · split
    · exact h.of_same rfl rfl rfl rfl
    · exact State.tbOff_inv _ (h.of_same rfl rfl rfl rfl)
  · split
    · refine h.of_off (by simp) (by simp) ?_
      simp_all
    · rename_i hn hb
      refine ⟨by simpa using h.1, fun he => ?_, by simpa using h.2.2⟩
      have he' : bit w 1 = true := he
      simpa [he'] using hb

theorem tbSetMasterReply_inv (c : Nat) (p : List Byte) (s : State) (h : s.Inv) : (tbSetMasterReply c p s).s.Inv := by
  unfold tbSetMasterReply guarded
  dsimp only
  split
  · exact h
  · rename_i hg
    simp only [firstErr] at hg
    have hb : oscBad (uAt p 1 1) = false := by
      by_contra hc
      have hc' : oscBad (uAt p 1 1) = true := by simpa using hc
      rw [hc'] at hg
      simp only [Bool.or_true, Bool.true_or, if_true] at hg
      split at hg <;> cases hg
    rw [okReply_s]
    refine ⟨?_, ?_, ?_⟩
    · split <;> simpa using h.1
    · intro _
      split <;> simp [hb]
    · split <;> simp [h.2.2]

/-! ## Registers reached by their address -/

theorem State.writeLow_inv (s : State) (d off : Nat) (w : Word) (h : s.Inv) : (s.writeLow d off w).Inv := by
  unfold State.writeLow
  repeat' split
  all_goals first
    | with_reducible exact h
    | exact State.writeTbCtrl_inv _ _ h
    | exact h.of_same (by simp) (by simp) (by simp) (by simp)

theorem State.wrReg_inv (s : State) (port d off : Nat) (w : Word) (b : Bool) (h : s.Inv) : (s.wrReg port d off w b).Inv := by
  unfold State.wrReg
  repeat' split
  · exact h
  · exact State.writeLow_inv _ _ _ _ h
  · exact h.of_same (by simp) (by simp) (by simp) (by simp)

theorem State.applyUnitWrite_inv (s : State) (e : Nat) (q : UnitWrite) (h : s.Inv) : (s.applyUnitWrite e q).Inv := by
  unfold State.applyUnitWrite
  split
  · exact h
  · exact State.modDx_inv _ _ _ (State.wrReg_inv _ _ _ _ _ _ h)

theorem State.stitchUnitWrite_inv (s : State) (e : Nat) (h : s.Inv) : (s.stitchUnitWrite e).Inv := by
  unfold State.stitchUnitWrite
  dsimp only
  split
  · exact h
  · rename_i q qs _
    have h1 : (((s.stallSteps e).2.setStitch e { s.stitch e with wq := qs, steps := (s.stitch e).steps + (s.stallSteps e).1 }).applyUnitWrite e
        q).Inv :=
      State.applyUnitWrite_inv _ _ _ (h.of_same (by simp) (by simp) (by simp) (by simp))
    split
    · exact h.of_same (by simp) (by simp) (by simp) (by simp)
    · split
      · exact h1.of_same (by simp) (by simp) (by simp) (by simp)
      · exact h1

theorem State.writeBase_inv (s : State) (p : Path) (d off : Nat) (w : Word) (h : s.Inv) : (s.writeBase p d off w).Inv := by
  unfold State.writeBase
  dsimp only
  apply State.fixPar_inv
  repeat' split
  all_goals first
    | with_reducible exact h
    | exact State.wrReg_inv _ _ _ _ _ _ h
    | exact h.of_same (by simp) (by simp) (by simp) (by simp)

theorem State.writeView_inv (s : State) (p : Path) (d view off : Nat) (w : Word) (h : s.Inv) : (s.writeView p d view off w).Inv := by
  unfold State.writeView
  dsimp only
  repeat' split
  all_goals first
    | with_reducible exact h
    | exact State.writeBase_inv _ _ _ _ _ h

theorem State.land_inv (s : State) (p : Path) (d off : Nat) (w : Word) (h : s.Inv) : (s.land p d off w).Inv := by
  unfold State.land
  repeat' split
  · exact h
  · exact h.of_same rfl rfl rfl rfl
  · exact State.writeBase_inv _ _ _ _ _ h

theorem State.local_inv (s : State) (i : Nat) (a : Access) (h : s.Inv) : (s.local i a).Inv := by
  unfold State.local
  dsimp only
  repeat' split
  · exact State.writeView_inv _ _ _ _ _ _ h
  all_goals exact h.of_same (by simp) (by simp) (by simp) (by simp)

theorem State.route_inv (s : State) (i : Nat) (a : Access) (h : s.Inv) : (s.route i a).Inv := by
  unfold State.route
  dsimp only
  repeat' split
  all_goals first
    | with_reducible exact h
    | exact State.local_inv _ _ _ h
    | exact h.of_same (by simp) (by simp) (by simp) (by simp)

theorem State.indData_inv (s : State) (i : Nat) (p : Path) (b : Bool) (w : Word) (h : s.Inv) : (s.indData i p b w).Inv := by
  unfold State.indData
  dsimp only
  apply State.modPort_inv
  repeat' split
  all_goals first
    | exact State.route_inv _ _ _ h
    | exact h.of_same (by simp) (by simp) (by simp) (by simp)

theorem State.indAccess_inv (s : State) (i : Nat) (a : Access) (h : s.Inv) : (s.indAccess i a).Inv := by
  unfold State.indAccess
  dsimp only
  repeat' split
  all_goals first
    | with_reducible exact h
    | exact State.indData_inv _ _ _ _ _ h
    | exact h.of_same (by simp) (by simp) (by simp) (by simp)

theorem State.startAccess_inv (s : State) (i : Nat) (a : Access) (h : s.Inv) : (s.startAccess i a).Inv := by
  unfold State.startAccess
  split
  · exact State.indAccess_inv _ _ _ h
  · exact State.route_inv _ _ _ h

theorem State.drainPort_inv (s : State) (i n : Nat) (h : s.Inv) : (s.drainPort i n).Inv := by
  induction n generalizing s with
  | zero => exact h
  | succ n ih =>
    unfold State.drainPort
    dsimp only
    split
    · exact ih _ (State.startAccess_inv _ _ _ (h.of_same (by simp) (by simp) (by simp) (by simp)))
    · exact h

theorem State.freePort_inv (s : State) (i : Nat) (h : s.Inv) : (s.freePort i).Inv := by
  unfold State.freePort
  exact State.drainPort_inv _ _ _ (State.modPort_inv _ _ _ h)

theorem State.enter_inv (s : State) (a : Access) (h : s.Inv) : (s.enter a).Inv := by
  unfold State.enter
  repeat' split
  all_goals first
    | with_reducible exact h
    | exact State.startAccess_inv _ _ _ h
    | exact h.of_same (by simp) (by simp) (by simp) (by simp)

theorem State.access_inv (s : State) (p : Path) (a : Nat) (b : Bool) (w : Word) (h : s.Inv) : (s.access p a b w).Inv := by
  unfold State.access
  repeat' split
  all_goals first
    | with_reducible exact h
    | with_reducible exact State.writeView_inv _ _ _ _ _ _ h
    | with_reducible exact State.enter_inv _ _ h
    | exact h.of_same (by simp) (by simp) (by simp) (by simp)

theorem State.deliver_inv (d : Nat) (s : State) (f : Frame) (h : s.Inv) : (s.deliver d f).Inv := by
  unfold State.deliver
  split
  · exact State.writeView_inv _ _ _ _ _ _ h
  · exact h

theorem foldl_inv {α : Type} (P : State → Prop) (f : State → α → State) (hf : ∀ s a, P s → P (f s a)) (l : List α) (s : State) (h : P s) :
    P (l.foldl f s) := by
  induction l generalizing s with
  | nil => exact h
  | cons a l ih => exact ih _ (hf _ _ h)

theorem State.deliverWrites_inv (s : State) (d : Nat) (h : s.Inv) : (s.deliverWrites d).Inv :=
  foldl_inv State.Inv (State.deliver d) (fun s f hs => State.deliver_inv d s f hs) _ _ (h.of_same (by simp) (by simp) (by simp) (by simp))

theorem State.remoteDone_inv (s : State) (i : Nat) (h : s.Inv) : (s.remoteDone i).Inv := by
  unfold State.remoteDone
  dsimp only
  split
  · exact h
  · split
    · exact h
    · have h1 := State.deliverWrites_inv s (accDie (by assumption : Access).addr) h
      apply State.freePort_inv
      split
      · exact h1
      · exact h1.of_same (by simp) (by simp) (by simp) (by simp)

theorem State.lateEnd_inv (s : State) (i : Nat) (h : s.Inv) : (s.lateEnd i).Inv := by
  unfold State.lateEnd
  dsimp only
  split
  · exact h
  · apply State.freePort_inv
    refine h.of_same ?_ ?_ ?_ ?_ <;> (repeat' split) <;> simp

theorem State.slowAdmit_inv (s : State) (i : Nat) (h : s.Inv) : (s.slowAdmit i).Inv := by
  unfold State.slowAdmit
  repeat' split
  · exact State.freePort_inv _ _ (h.of_same (by simp) (by simp) (by simp) (by simp))
  all_goals exact h

theorem State.slowDrain_inv (s : State) (h : s.Inv) : s.slowDrain.Inv := by
  unfold State.slowDrain
  dsimp only
  split
  · exact h
  · exact State.slowAdmit_inv _ _ (State.slowAdmit_inv _ _ (State.slowAdmit_inv _ _ (State.writeView_inv _ _ _ _ _ _
      (h.of_same (by simp) (by simp) (by simp) (by simp)))))

theorem State.frameAt_inv (s : State) (d : Nat) (f : Frame) (h : s.Inv) : (s.frameAt d f).Inv := by
  unfold State.frameAt
  repeat' split
  all_goals first
    | with_reducible exact h
    | exact State.writeView_inv _ _ _ _ _ _ (h.of_same (by simp) (by simp) (by simp) (by simp))
    | exact h.of_same (by simp) (by simp) (by simp) (by simp)

theorem State.frameWork_inv (s : State) (d l : Nat) (f : Frame) (h : s.Inv) : (s.frameWork d l f).Inv := by
  unfold State.frameWork
  repeat' split
  all_goals first
    | with_reducible exact h
    | exact State.frameAt_inv _ _ _ h
    | exact h.of_same (by simp) (by simp) (by simp) (by simp)

/-! ## Resets, boot, belay and the flash (R410, R435, R527, R528, R540) -/

theorem State.resetPart_inv (s : State) (cause : Nat) (warm : Bool) (h : s.Inv) : (s.resetPart cause warm).Inv :=
  h.of_off rfl rfl rfl

theorem State.powerOn_inv (s : State) (cut : List (Nat × Nat)) (h : s.Inv) : (s.powerOn cut).Inv :=
  State.resetPart_inv _ _ _ (h.of_same (by simp) (by simp) (by simp) (by simp))

theorem State.resetDue_inv (s : State) (h : s.Inv) : s.resetDue.Inv := by
  unfold State.resetDue
  repeat' split
  · exact h
  · exact State.resetPart_inv _ _ _ h
  · exact h.of_same (by simp) (by simp) (by simp) (by simp)

theorem State.belayDown_inv (s : State) (h : s.Inv) : s.belayDown.Inv := by
  unfold State.belayDown
  dsimp only
  split
  · exact h
  · exact h.of_off rfl rfl rfl

theorem State.profileTb_inv (s : State) (h : s.Inv) : s.profileTb.Inv := by
  unfold State.profileTb
  repeat' split
  all_goals first
    | with_reducible exact h
    | exact h.of_same (by simp) (by simp) (by simp) (by simp)
    | exact State.writeTbCtrl_inv _ _ h

theorem State.romStart_inv (s : State) (strap : Nat) (h : s.Inv) : (s.romStart strap).Inv := by
  unfold State.romStart
  dsimp only
  split
  · split
    · refine State.Inv.of_same (s := { s.romRead 0 with tb := { (s.romRead 0).tb with tbEn := s.belay.tbEn && !oscBad (s.romRead 0).tb.oscFreq } })
        ?_ (by simp) (by simp) (by simp) (by simp)
      refine ⟨by simpa using h.1, ?_, by simpa using h.2.2⟩
      intro he
      simp only [Bool.and_eq_true, Bool.not_eq_true'] at he
      exact he.2
    · repeat' split
      all_goals first | with_reducible apply State.enterSafe_inv | with_reducible apply State.enterDownload_inv | apply State.bootSlots_inv
      all_goals (apply State.profileTb_inv; exact h.of_same (by simp) (by simp) (by simp) (by simp))
  · exact h

theorem flashErase_canon (t : Tbl Byte) (a : Nat) (h : tcanon (0xFF : Byte) none t = true) : tcanon (0xFF : Byte) none (flashErase t a) = true := by
  suffices hs : ∀ (t : Tbl Byte) (lo : Option Nat), tcanon (0xFF : Byte) lo t = true → tcanon (0xFF : Byte) lo (flashErase t a) = true from hs t none h
  intro t
  induction t with
  | nil => intro lo h; exact h
  | cons e t ih =>
    obtain ⟨k, v⟩ := e
    intro lo h
    simp only [tcanon, Bool.and_eq_true, decide_eq_true_eq] at h
    unfold flashErase at ih ⊢
    rw [List.filter_cons]
    split
    · simp only [tcanon, Bool.and_eq_true, decide_eq_true_eq]
      exact ⟨h.1, ih _ h.2⟩
    · cases lo with
      | none => exact tcanon_none _ k _ (ih _ h.2)
      | some l => exact tcanon_lo _ k l (le_of_lt (of_decide_eq_true h.1.1)) _ (ih _ h.2)

theorem flashPut_canon (t : Tbl Byte) (a : Nat) (data : List Byte) (mask : Nat) (h : tcanon (0xFF : Byte) none t = true) :
    tcanon (0xFF : Byte) none (flashPut t a data mask) = true := by
  unfold flashPut
  generalize data.zipIdx = l
  induction l generalizing t with
  | nil => exact h
  | cons b l ih =>
    refine ih _ ?_
    dsimp only
    split
    · exact tcanon_tset _ _ _ _ h
    · exact h

/-- A new flash in canonical form keeps the invariant. -/
theorem State.Inv.of_flash {s t : State} (h : s.Inv) (hp : t.part = s.part) (hf : tcanon 0xFF none t.host.flash = true)
    (he : t.tb.tbEn = s.tb.tbEn) (ho : t.tb.oscFreq = s.tb.oscFreq) : t.Inv := by
  refine ⟨hf, ?_, by rw [hp]; exact h.2.2⟩
  rw [he, ho]
  exact h.2.1

theorem State.flashDone_inv (s : State) (ok : Bool) (h : s.Inv) : (s.flashDone ok).Inv := by
  unfold State.flashDone
  dsimp only
  repeat' split
  · exact h
  · exact h.of_flash (by simp) (by simpa using flashErase_canon _ _ h.1) (by simp) (by simp)
  · exact h.of_same (by simp) (by simp) (by simp) (by simp)
  all_goals exact h.of_flash (by simp) (by simpa using flashPut_canon _ _ _ _ h.1) (by simp) (by simp)

/-! ## Register rows -/

theorem State.after_inv (s : State) (h : s.Inv) : s.after.Inv := h.of_same (by simp) (by simp) (by simp) (by simp)

theorem State.landInput_inv (s : State) (p : Path) (n : Nat) (w : Word) (h : s.Inv) : (s.landInput p n w).Inv := by
  unfold State.landInput
  split
  · exact State.land_inv _ _ _ _ _ h
  · exact h

theorem State.landDpll_inv (s : State) (p : Path) (n r : Nat) (w : Word) (h : s.Inv) : (s.landDpll p n r w).Inv := by
  unfold State.landDpll
  split
  · exact State.land_inv _ _ _ _ _ h
  · exact h

theorem State.landOpll_inv (s : State) (p : Path) (n : Nat) (w : Word) (h : s.Inv) : (s.landOpll p n w).Inv := by
  unfold State.landOpll
  split
  · exact State.land_inv _ _ _ _ _ h
  · exact h

theorem State.landOut_inv (s : State) (p : Path) (n r : Nat) (w : Word) (h : s.Inv) : (s.landOut p n r w).Inv := by
  unfold State.landOut
  split
  · exact State.land_inv _ _ _ _ _ h
  · exact h

theorem State.landTd_inv (s : State) (p : Path) (n r : Nat) (w : Word) (h : s.Inv) : (s.landTd p n r w).Inv := by
  unfold State.landTd
  split
  · exact State.land_inv _ _ _ _ _ h
  · exact h

theorem State.landStitch_inv (s : State) (p : Path) (n : Nat) (w : Word) (h : s.Inv) : (s.landStitch p n w).Inv := by
  unfold State.landStitch
  split
  · exact State.land_inv _ _ _ _ _ h
  · exact h

theorem State.landMbx_inv (s : State) (p : Path) (n r : Nat) (w : Word) (h : s.Inv) : (s.landMbx p n r w).Inv := by
  unfold State.landMbx
  split
  · exact State.land_inv _ _ _ _ _ h
  · exact h

end Sys2Proof.Machine
end

