-- ==== Sys2Proof/Laws/Exec.lean ====
section
/-! SUPPORT. How a meaning ends, and the frame every command obeys: the fused identity and the queue stay. -/

namespace Sys2Proof.Machine
open Sys2Proof

/-- The next state of a meaning. -/
theorem fin_next {s t : State} (h : fin s = .next t) : t = s.after := by
  unfold fin at h
  simp only [Host.Outcome.next.injEq] at h
  exact h.symm

/-- Every command answers a next state: no meaning stops. -/
theorem exec_next (i : Instr) (s : State) : ∃ t, exec i s = .next t := by
  cases i <;> exact ⟨_, rfl⟩

/-- A command whose body keeps the fused identity and the queue keeps them. -/
theorem State.runCmd_keep3 (s : State) (c op : Nat) (body : Nat → List Byte → State → Reply)
    (h : ∀ p, (body c p s).s.part = s.part ∧ (body c p s).s.fused = s.fused ∧ (body c p s).s.pending = s.pending) :
    (s.runCmd c op body).part = s.part ∧ (s.runCmd c op body).fused = s.fused ∧ (s.runCmd c op body).pending = s.pending := by
  unfold State.runCmd
  split
  · simp
  · rename_i m _
    have hm := h m.payload
    have hp : ∀ r : Reply, r.s.part = s.part ∧ r.s.fused = s.fused ∧ r.s.pending = s.pending →
        (policed m.ro op s r).s.part = s.part ∧ (policed m.ro op s r).s.fused = s.fused ∧ (policed m.ro op s r).s.pending = s.pending := by
      intro r hr
      unfold policed
      dsimp only
      repeat' split
      all_goals simp [hr]
    have hb := hp _ hm
    dsimp only
    repeat' split
    all_goals simp [hb]

/-- A command whose body keeps the invariant keeps it. -/
theorem State.runCmd_inv (s : State) (c op : Nat) (body : Nat → List Byte → State → Reply) (hs : s.Inv) (h : ∀ p, (body c p s).s.Inv) :
    (s.runCmd c op body).Inv := by
  unfold State.runCmd
  split
  · exact hs
  · rename_i m _
    have hp : (policed m.ro op s (body c m.payload s)).s.Inv := by
      unfold policed
      dsimp only
      repeat' split
      all_goals first | exact hs | exact h _
    dsimp only
    repeat' split
    all_goals first | with_reducible exact hs | exact hp.of_same (by simp) (by simp) (by simp) (by simp)

end Sys2Proof.Machine
end

