-- ==== Sys2Proof/Laws/Cmd.lean ====
section
/-! SUPPORT. How a Unest command ends when it can execute: what its body answers says the next state. -/

namespace Sys2Proof.Machine
open Sys2Proof

@[simp] theorem firstErr_nil : firstErr [] = none := rfl
@[simp] theorem firstErr_pass (r : Nat) (l : List (Bool × Nat)) : firstErr ((false, r) :: l) = firstErr l := rfl
@[simp] theorem firstErr_fail (r : Nat) (l : List (Bool × Nat)) : firstErr ((true, r) :: l) = some r := rfl

/-- The first failing check decides. -/
theorem firstErr_cons (b : Bool) (r : Nat) (l : List (Bool × Nat)) :
    firstErr ((b, r) :: l) = if b then some r else firstErr l := rfl

/-- Checks that all pass leave the command its effect. -/
theorem guarded_pass {l : List (Bool × Nat)} (s : State) (ok : Reply) (h : firstErr l = none) : guarded s l ok = ok := by
  unfold guarded; rw [h]

/-- A failing check changes nothing and gives its code. -/
theorem guarded_fail {l : List (Bool × Nat)} {r : Nat} (s : State) (ok : Reply) (h : firstErr l = some r) :
    guarded s l ok = { ret := r, s := s } := by
  unfold guarded; rw [h]

/-- A channel that is not read-only polices nothing. -/
theorem policed_open (op : Nat) (s : State) (r : Reply) : policed false op s r = r := by
  unfold policed; simp

/-- What a ready command does: its body decides. -/
theorem State.runCmd_ready {s : State} {c op : Nat} {m : Msg} {body : Nat → List Byte → State → Reply} {r : Reply}
    (h : s.Ready c op m) (hb : body c m.payload s = r) :
    s.runCmd c op body =
      (let s1 := if r.ret = retOK then r.s.noted c m
         else if op = 0x0C03 ∧ r.bytes ≠ [] then r.s.blame c op m.payload else r.s
       if r.wait then s1.modMbx c fun x => { x with msg := some { m with held := true } }
       else (s1.modMbx c fun x => { x with msg := none }).respond c r.ret m.op m.seq r.bytes) := by
  obtain ⟨h1, h2, h3, h4, h5, h6⟩ := h
  unfold State.runCmd State.noted
  rw [h1]
  dsimp only
  rw [if_pos ⟨h2, h3, h4, h6.1, h6.2.1, h6.2.2⟩, h5, policed_open, hb, h2]

/-- A ready command whose body answers RET_OK acknowledges. -/
theorem State.runCmd_acks {s t : State} {c op : Nat} {m : Msg} {b : List Byte} {body : Nat → List Byte → State → Reply}
    (h : s.Ready c op m) (hb : body c m.payload s = { ret := retOK, bytes := b, s := t }) :
    fin (s.runCmd c op body) = .next (t.acked c m b) := by
  rw [State.runCmd_ready h hb]
  dsimp only
  rw [if_pos rfl, if_neg Bool.false_ne_true]
  unfold fin State.acked State.answered
  rfl

/-- A ready command whose body waits is held. -/
theorem State.runCmd_waits {s t : State} {c op : Nat} {m : Msg} {body : Nat → List Byte → State → Reply}
    (h : s.Ready c op m) (hb : body c m.payload s = { ret := retOK, s := t, wait := true }) :
    fin (s.runCmd c op body) = .next (t.waits c m) := by
  rw [State.runCmd_ready h hb]
  dsimp only
  rw [if_pos rfl, if_pos rfl]
  unfold fin State.waits
  rfl

/-- A ready command whose body answers an error is answered with it; a wrong password, which NV_LOGIN counts, stands aside. -/
theorem State.runCmd_refused {s t : State} {c op r : Nat} {m : Msg} {b : List Byte} {body : Nat → List Byte → State → Reply}
    (h : s.Ready c op m) (hb : body c m.payload s = { ret := r, bytes := b, s := t }) (hr : r ≠ retOK) (ho : op ≠ 0x0C03 ∨ b = []) :
    fin (s.runCmd c op body) = .next (t.answered c m r b) := by
  rw [State.runCmd_ready h hb]
  have ho' : ¬(op = 0x0C03 ∧ b ≠ []) := fun x => ho.elim (fun y => y x.1) (fun y => x.2 y)
  dsimp only
  rw [if_neg hr, if_neg ho', if_neg Bool.false_ne_true]
  unfold fin State.answered
  rfl

end Sys2Proof.Machine
end

