-- ==== Sys2Proof/Laws/Fields.lean ====
section
/-! SUPPORT. Bits and fields of registers: what `bit` and `fld` read of a word that `put`, `putb`, `withBit` and `withFld` made;
and what a table reads after a range of it is dropped. -/

namespace Sys2Proof.Machine
open Sys2Proof

/-- Bit `i` of a field read. -/
theorem testBit_fld (w : Word) (lo n i : Nat) : (fld w lo n).testBit i = (decide (i < n) && bit w (lo + i)) := by
  unfold fld bit
  rw [Nat.testBit_mod_two_pow, Nat.testBit_div_two_pow, ← BitVec.testBit_toNat, Nat.add_comm]

@[simp] theorem bit_or (a b : Word) (i : Nat) : bit (a ||| b) i = (bit a i || bit b i) := by unfold bit; simp
@[simp] theorem bit_zero (i : Nat) : bit 0#32 i = false := by unfold bit; simp

theorem bit_bm (i j : Nat) : bit (bm i) j = (decide (j < 32) && decide (i = j)) := by
  unfold bit bm
  rw [BitVec.getLsbD_ofNat, Nat.testBit_two_pow]

theorem bit_putb (i j : Nat) (b : Bool) : bit (putb i b) j = (decide (j < 32) && decide (i = j) && b) := by
  unfold putb
  cases b <;> simp [bit_bm]

theorem bit_put (lo n v j : Nat) : bit (put lo n v) j = (decide (j < 32) && decide (lo ≤ j) && decide (j - lo < n) && v.testBit (j - lo)) := by
  unfold bit put
  rw [BitVec.getLsbD_ofNat, Nat.testBit_mul_two_pow, Nat.testBit_mod_two_pow]
  simp [Bool.and_assoc]

theorem bit_lt (w : Word) (j : Nat) (h : 32 ≤ j) : bit w j = false := by unfold bit; simp [h]

theorem bit_clear (w m : Word) (j : Nat) : bit (w &&& ~~~m) j = (bit w j && !bit m j) := by
  unfold bit
  by_cases h : j < 32
  · simp [h]
  · have h2 : 32 ≤ j := by omega
    simp [h2]

theorem bit_fm (hi lo j : Nat) (h : lo ≤ hi + 1) : bit (fm hi lo) j = (decide (j < 32) && decide (lo ≤ j) && decide (j ≤ hi)) := by
  unfold bit fm
  have e : 2 ^ (hi + 1) - 2 ^ lo = (2 ^ (hi + 1 - lo) - 1) * 2 ^ lo := by
    rw [Nat.sub_mul, ← Nat.pow_add, Nat.one_mul, Nat.sub_add_cancel h]
  rw [e, BitVec.getLsbD_ofNat, Nat.testBit_mul_two_pow, Nat.testBit_two_pow_sub_one]
  by_cases h1 : j < 32 <;> by_cases h2 : lo ≤ j <;> simp [h1, h2]
  omega

theorem bit_withBit (w : Word) (i j : Nat) (b : Bool) : bit (withBit w i b) j = if j = i ∧ j < 32 then b else bit w j := by
  unfold withBit
  by_cases h : j = i
  · subst h
    by_cases h2 : j < 32
    · cases b <;> simp [bit_clear, bit_bm, h2]
    · have := bit_lt w j (by omega)
      cases b <;> simp [bit_clear, bit_bm, h2, this]
  · have h' : ¬ i = j := fun e => h e.symm
    cases b <;> simp [bit_clear, bit_bm, h, h']

theorem bit_withFld (w : Word) (lo n v j : Nat) (hn : 0 < n) :
    bit (withFld w lo n v) j = if j < 32 ∧ lo ≤ j ∧ j < lo + n then v.testBit (j - lo) else bit w j := by
  unfold withFld
  have h0 : lo ≤ lo + n - 1 + 1 := by omega
  rw [bit_or, bit_clear, bit_fm _ _ _ h0, bit_put]
  by_cases h1 : j < 32
  · by_cases h2 : lo ≤ j <;> by_cases h3 : j < lo + n
    · have a : j ≤ lo + n - 1 := by omega
      have b : j - lo < n := by omega
      simp [h1, h2, h3, a, b]
    · have a : ¬ j ≤ lo + n - 1 := by omega
      have b : ¬ j - lo < n := by omega
      simp [h1, h2, h3, a, b]
    · simp [h1, h2]
    · simp [h1, h2]
  · have := bit_lt w j (by omega)
    simp [h1, this]

/-- A field is read bit by bit. -/
theorem fld_congr (a b : Word) (lo n : Nat) (h : ∀ i, i < n → bit a (lo + i) = bit b (lo + i)) : fld a lo n = fld b lo n := by
  apply Nat.eq_of_testBit_eq
  intro i
  rw [testBit_fld, testBit_fld]
  by_cases hi : i < n <;> simp [hi]
  exact h i hi

/-- A field that reads the bits of `v`. -/
theorem fld_eq_mod (a : Word) (lo n v : Nat) (h : ∀ i, i < n → bit a (lo + i) = v.testBit i) : fld a lo n = v % 2 ^ n := by
  apply Nat.eq_of_testBit_eq
  intro i
  rw [testBit_fld, Nat.testBit_mod_two_pow]
  by_cases hi : i < n <;> simp [hi]
  exact h i hi

/-! ## Tables after a reset -/

/-- A key that a rewriting of the values by key sends to the unlisted value reads as that. -/
theorem tget_tmapk_default {α : Type} [DecidableEq α] (d : α) (f : Nat → α → α) (k : Nat) (h : ∀ v, f k v = d) (t : Tbl α) : tget d (tmapk d f t) k = d := by
  induction t with
  | nil => rfl
  | cons e t ih =>
    obtain ⟨a, v⟩ := e
    unfold tmapk
    split
    · exact ih
    · rename_i hv
      unfold tget
      split
      · rename_i hk
        exact absurd (hk ▸ h v) hv
      · exact ih

/-- A key in a dropped range reads as never written. -/
theorem tget_tdrop {α : Type} [DecidableEq α] (d : α) (lo hi k : Nat) (t : Tbl α) (h : lo ≤ k ∧ k < hi) : tget d (tdrop d lo hi t) k = d :=
  tget_tmapk_default d _ k (fun _ => if_pos h) t

end Sys2Proof.Machine
end

