-- ==== Sys2Proof/WellFormed.lean ====
section
/-! DEFINITION. Which commands name something the largest part has: unit and channel numbers, register offsets and field values
within their ranges. The meanings are total: an ill-formed command finds no unit and has no effect. -/

namespace Sys2Proof

/-- The path a command comes by exists: a die's CP is one of eight; a stitch engine writes its unit through STITCH_UNIT_WRITE only. -/
def Path.wf : Path → Bool
  | .cp d => decide (d < 8)
  | .stitch => false
  | _ => true

/-- The operands of a command are in range. -/
def Instr.wf : Instr → Bool
  | .nop c => decide (c < 8)
  | .getCaps c => decide (c < 8)
  | .getVersion c => decide (c < 8)
  | .reset c => decide (c < 8)
  | .getAbortStatus c => decide (c < 8)
  | .eventSubscribe c => decide (c < 8)
  | .eventRead c => decide (c < 8)
  | .logGet c => decide (c < 8)
  | .logClear c => decide (c < 8)
  | .sessionOpen c => decide (c < 8)
  | .sessionAuth c => decide (c < 8)
  | .sessionClose c => decide (c < 8)
  | .portKeyProgram c => decide (c < 8)
  | .channelPolicy c => decide (c < 8)
  | .tbSetMaster c => decide (c < 8)
  | .inputConfig c => decide (c < 8)
  | .inputSetMonitors c => decide (c < 8)
  | .inputGetStatus c => decide (c < 8)
  | .inputClear c => decide (c < 8)
  | .tdcGetPicot c => decide (c < 8)
  | .tdcSaveSeed c => decide (c < 8)
  | .tdcCoreReset c => decide (c < 8)
  | .dpllConfig c => decide (c < 8)
  | .dpllSetLoop c => decide (c < 8)
  | .dpllGetLoop c => decide (c < 8)
  | .dpllSetSteer c => decide (c < 8)
  | .dpllPhaseAdjust c => decide (c < 8)
  | .dpllGetStatus c => decide (c < 8)
  | .dpllGetCandidates c => decide (c < 8)
  | .dpllSetCandidates c => decide (c < 8)
  | .dpllSetSelection c => decide (c < 8)
  | .dpllGetSwitchLog c => decide (c < 8)
  | .cairnSetMember c => decide (c < 8)
  | .cairnSetConfig c => decide (c < 8)
  | .cairnGetModel c => decide (c < 8)
  | .cairnSave c => decide (c < 8)
  | .cairnForget c => decide (c < 8)
  | .dpllSetHoldover c => decide (c < 8)
  | .dpllGetHoldover c => decide (c < 8)
  | .opllConfig c => decide (c < 8)
  | .opllSetFreq c => decide (c < 8)
  | .opllAlign c => decide (c < 8)
  | .outputConfig c => decide (c < 8)
  | .outputRun c => decide (c < 8)
  | .tdConfig c => decide (c < 8)
  | .tdGetConfig c => decide (c < 8)
  | .tdSetTime c => decide (c < 8)
  | .tdGetTime c => decide (c < 8)
  | .tdSetTod c => decide (c < 8)
  | .stitchLoad c => decide (c < 8)
  | .stitchCommit c => decide (c < 8)
  | .stitchDefault c => decide (c < 8)
  | .stitchRun c => decide (c < 8)
  | .bootLoad c => decide (c < 8)
  | .bootStart c => decide (c < 8)
  | .fwFlash c => decide (c < 8)
  | .bootConfirm c => decide (c < 8)
  | .bootProfileSet c => decide (c < 8)
  | .dmaRingConfig c => decide (c < 8)
  | .dmaGetStatus c => decide (c < 8)
  | .irqRoute c => decide (c < 8)
  | .nvRead c => decide (c < 8)
  | .nvWrite c => decide (c < 8)
  | .nvLogin c => decide (c < 8)
  | .nvSetPassword c => decide (c < 8)
  | .nvGetStatus c => decide (c < 8)
  | .belayConfig c => decide (c < 8)
  | .belayEnter c => decide (c < 8)
  | .powerGetStatus c => decide (c < 8)
  | .marginGetPlan c => decide (c < 8)
  | .ageingGetStatus c => decide (c < 8)
  | .halt e => decide (e < 224)
  | .waitEvent e => decide (e < 224)
  | .waitTime e => decide (e < 224)
  | .setField e => decide (e < 224)
  | .clrField e => decide (e < 224)
  | .read e => decide (e < 224)
  | .cmp e => decide (e < 224)
  | .branch e => decide (e < 224)
  | .add e => decide (e < 224)
  | .loop e => decide (e < 224)
  | .emit e => decide (e < 224)
  | .tbEnSet p _ => p.wf
  | .tbEnClear p _ => p.wf
  | .tbConfigWrite p _ => p.wf
  | .inputEnable p n => p.wf && decide (n < 320)
  | .inputDisable p n => p.wf && decide (n < 320)
  | .forceDisqWrite p n _ => p.wf && decide (n < 320)
  | .rankPriorityWrite p n rank prio => p.wf && decide (n < 320) && decide (rank < 256) && decide (prio < 32)
  | .dpllEnable p n => p.wf && decide (n < 64)
  | .dpllDisable p n => p.wf && decide (n < 64)
  | .forceFreerun p n => p.wf && decide (n < 64)
  | .forceHoldover p n => p.wf && decide (n < 64)
  | .forceAutomatic p n => p.wf && decide (n < 64)
  | .selRetblkClear p n _ => p.wf && decide (n < 64)
  | .selHookVerdictWrite p n _ => p.wf && decide (n < 64)
  | .opllEnable p n => p.wf && decide (n < 32)
  | .opllDisable p n => p.wf && decide (n < 32)
  | .outputEnable p n => p.wf && decide (n < 128)
  | .outputDisable p n => p.wf && decide (n < 128)
  | .outRunStart p n => p.wf && decide (n < 128)
  | .outRunStop p n => p.wf && decide (n < 128)
  | .outPhaseWrite p n r _ => p.wf && decide (n < 128) && (decide (r = 0x10) || decide (r = 0x14) || decide (r = 0x28))
  | .tdEnable p n => p.wf && decide (n < 128)
  | .tdDisable p n => p.wf && decide (n < 128)
  | .tdOfsCommit p n => p.wf && decide (n < 128)
  | .evConfigWrite p n r _ => p.wf && decide (n < 128) && (decide (r = 0) || decide (r = 4))
  | .stitchEnableWrite p n _ => p.wf && decide (n < 224)
  | .stitchSignal p n => p.wf && decide (n < 224)
  | .mbxH2cDoorbell p c => p.wf && decide (c < 8)
  | .mbxC2hClear p c => p.wf && decide (c < 8)
  | .h2cBufWrite p c i _ => p.wf && decide (c < 8) && decide (i < 64)
  | .abortReqWrite p _ => p.wf
  | .semReadAcquire p n => p.wf && decide (n < 64)
  | .semRelease p n => p.wf && decide (n < 64)
  | .semHeldRelease p r _ => p.wf && decide (r < 2)
  | .irqVecAckWrite p _ => p.wf
  | .indDataAccess p _ _ => p.wf
  | .ringRdPtrWrite p r _ => p.wf && (decide (r < 16) || decide (r = 0xFF))
  | .bgEnWrite p d _ => p.wf && decide (d < 8)
  | .aliasWrite p a _ => p.wf && decide (a < 2 ^ 26)
  | .satCounterClear p a _ => p.wf && decide (a < 2 ^ 26)
  | .registerWrite p a _ => p.wf && decide (a < 2 ^ 26)
  | .spiStatus => true
  | .spiCsRise => true
  | .lateAccess p => p.wf
  | .remoteAccessComplete p => p.wf
  | .slowWriteDrain => true
  | .pcieLinkLoss k => decide (k < 4)
  | .powerOnReset _ => true
  | .resetn => true
  | .resetDelayExpire => true
  | .belayTrigger _ => true
  | .belayCapture => true
  | .belayPowerDown => true
  | .belayWake _ _ => true
  | .belayOutputPulse m => decide (m < 128)
  | .belayExit _ => true
  | .syspllLock d => decide (d < 8)
  | .bootRomStart strap => decide (strap < 4)
  | .unitImageStreamed => true
  | .followerImageStart d => decide (d < 8)
  | .leadImageStart => true
  | .mailboxOpen => true
  | .tbpllLock d => decide (d < 8)
  | .timebaseRestartEnd => true
  | .portActivityLoss o => decide (o < 16)
  | .portStart o => decide (o < 16)
  | .linkTrainDone d l => decide (d < 8) && decide (l < 4)
  | .linkTrainTimeout d l => decide (d < 8) && decide (l < 4)
  | .linkRetrainRetry d l => decide (d < 8) && decide (l < 4)
  | .linkAlignDone d l => decide (d < 8) && decide (l < 4)
  | .linkResetSignal d l => decide (d < 8) && decide (l < 4)
  | .laneLockLoss d l => decide (d < 8) && decide (l < 4)
  | .resyncDone d l => decide (d < 8) && decide (l < 4)
  | .resyncTimeout d l => decide (d < 8) && decide (l < 4)
  | .reparentRelock d => decide (d < 8)
  | .twoWayExchange d l _ _ _ _ => decide (d < 8) && decide (l < 4)
  | .skewUpdate d => decide (d < 8)
  | .shuttleFrameReceive d l _ _ => decide (d < 8) && decide (l < 4)
  | .frameRetransmit d l => decide (d < 8) && decide (l < 4)
  | .slotPlanAdopt => true
  | .cdcValueDeliver d x _ _ => decide (d < 8) && decide (x < 256)
  | .tdcEdgeCapture d c _ code0 code1 => decide (d < 8) && decide (c < 48) && decide (code0 < 1152) && decide (code1 < 1152)
  | .tdcFillEnd d c h0 h1 => decide (d < 8) && decide (c < 48) && decide (h0.length = 1152) && decide (h1.length = 1152)
  | .bgHistogramDone d c h => decide (d < 8) && decide (c < 48) && decide (h.length = 1152)
  | .coreSwap d c _ => decide (d < 8) && decide (c < 48)
  | .seedSave d => decide (d < 8)
  | .updateBoundary => true
  | .decisionTick => true
  | .wtrExpire n => decide (n < 320)
  | .holdoffExpire n => decide (n < 64)
  | .switchExecute n => decide (n < 64)
  | .losTimeout n => decide (n < 320)
  | .losClear n => decide (n < 320)
  | .freqGateEnd n => decide (n < 320)
  | .driftEvaluation n => decide (n < 320)
  | .staleTimeout n => decide (n < 320)
  | .streamTimeout k n => decide (k < 64) && decide (n < 320)
  | .notValidTimeout n => decide (n < 320)
  | .lockGateEnd n => decide (n < 64)
  | .mirrorLeaderLost n => decide (n < 64)
  | .fbFaultTimeout n => decide (n < 64)
  | .freerunWordRefresh n => decide (n < 64)
  | .holdoverWordRefresh n => decide (n < 64)
  | .historySample n => decide (n < 64)
  | .portMeterSample o _ => decide (o < 16)
  | .thermistorRead o _ => decide (o < 16)
  | .cairnSecond => true
  | .learningMean o => decide (o < 16)
  | .restoreVerify o => decide (o < 16)
  | .modelSave o => decide (o < 16)
  | .opllBandCalDone n band _ _ => decide (n < 32) && decide (band < 64)
  | .opllGateEnd n _ _ => decide (n < 32)
  | .opllCycleSlip n => decide (n < 32)
  | .opllLockingTimeout n => decide (n < 32)
  | .opllFaultRetry n => decide (n < 32)
  | .opllAlignSlot n _ _ => decide (n < 32)
  | .outputFirstEdge n => decide (n < 128)
  | .outputStopLevel n => decide (n < 128)
  | .wholeSecondCrossing t => decide (t < 128)
  | .todMessageStart t => decide (t < 128)
  | .tdHoldExpire t => decide (t < 128)
  | .stitchInvoke e => decide (e < 224)
  | .stitchWaitResume e => decide (e < 224)
  | .stitchOverrun e => decide (e < 224)
  | .stitchUnitWrite e => decide (e < 224)
  | .mbxMessageTake c => decide (c < 8)
  | .responsePost c => decide (c < 8)
  | .forwardedRequest d => decide (d < 8)
  | .cpPeriodicTask d => decide (d < 8)
  | .cpHalt d => decide (d < 8)
  | .flashOperationDone _ => true
  | .abortRequestArrive => true
  | .abortCleanupDone => true
  | .abortForce => true
  | .abortCompletion => true
  | .abortUnconfirmed => true
  | .nvPageWrite d _ _ good => decide (d < 8) && decide (good < 4)
  | .marginScan d page _ => decide (d < 8) && decide (page < 4032)
  | .marginPlanEval d _ => decide (d < 8)
  | .configScrub d _ => decide (d < 8)
  | .fabricUnitSleep d u => decide (d < 8) && decide (u < 44)
  | .ringRecordWrite r => decide (r < 16)
  | .writebackTimerExpire r => decide (r < 16)
  | .oscReturn o => decide (o < 16)
  | .mainFailnRise => true
  | .i2cStop => true
  | .pcieLinkUp => true
  | .pcieConfigWrite _ _ _ => true
  | .phasePredictorValid d x => decide (d < 8) && decide (x < 256)

end Sys2Proof
end

