-- ==== Sys2Proof/Laws/PerInstr.lean ====
section
/-! SUPPORT. Shape: a Unest command (one that has an opcode) is well-formed exactly when its channel is one of the eight. One lemma
per constructor. -/

namespace Sys2Proof.Laws.Shape
open Sys2Proof Sys2Proof.Machine

/-- A command with an opcode comes by a mailbox channel and is well-formed exactly when that channel exists (R396, R401). -/
def Statement (i : Instr) : Prop := ∀ c op, opcodeOf i = some (c, op) → (i.wf = true ↔ c < 8)

/-- A command without an opcode. -/
theorem of_none {i : Instr} (h : opcodeOf i = none) : Statement i := by
  intro c op hc
  rw [h] at hc
  cases hc

/-- A command of channel `c`. -/
theorem of_channel {i : Instr} {c op : Nat} (h : opcodeOf i = some (c, op)) (hw : i.wf = decide (c < 8)) : Statement i := by
  intro c' op' hc
  rw [h] at hc
  cases hc
  rw [hw, decide_eq_true_iff]

theorem nop (c : Nat) : Statement (.nop c) := of_channel rfl rfl
theorem getCaps (c : Nat) : Statement (.getCaps c) := of_channel rfl rfl
theorem getVersion (c : Nat) : Statement (.getVersion c) := of_channel rfl rfl
theorem reset (c : Nat) : Statement (.reset c) := of_channel rfl rfl
theorem getAbortStatus (c : Nat) : Statement (.getAbortStatus c) := of_channel rfl rfl
theorem eventSubscribe (c : Nat) : Statement (.eventSubscribe c) := of_channel rfl rfl
theorem eventRead (c : Nat) : Statement (.eventRead c) := of_channel rfl rfl
theorem logGet (c : Nat) : Statement (.logGet c) := of_channel rfl rfl
theorem logClear (c : Nat) : Statement (.logClear c) := of_channel rfl rfl
theorem sessionOpen (c : Nat) : Statement (.sessionOpen c) := of_channel rfl rfl
theorem sessionAuth (c : Nat) : Statement (.sessionAuth c) := of_channel rfl rfl
theorem sessionClose (c : Nat) : Statement (.sessionClose c) := of_channel rfl rfl
theorem portKeyProgram (c : Nat) : Statement (.portKeyProgram c) := of_channel rfl rfl
theorem channelPolicy (c : Nat) : Statement (.channelPolicy c) := of_channel rfl rfl
theorem tbSetMaster (c : Nat) : Statement (.tbSetMaster c) := of_channel rfl rfl
theorem inputConfig (c : Nat) : Statement (.inputConfig c) := of_channel rfl rfl
theorem inputSetMonitors (c : Nat) : Statement (.inputSetMonitors c) := of_channel rfl rfl
theorem inputGetStatus (c : Nat) : Statement (.inputGetStatus c) := of_channel rfl rfl
theorem inputClear (c : Nat) : Statement (.inputClear c) := of_channel rfl rfl
theorem tdcGetPicot (c : Nat) : Statement (.tdcGetPicot c) := of_channel rfl rfl
theorem tdcSaveSeed (c : Nat) : Statement (.tdcSaveSeed c) := of_channel rfl rfl
theorem tdcCoreReset (c : Nat) : Statement (.tdcCoreReset c) := of_channel rfl rfl
theorem dpllConfig (c : Nat) : Statement (.dpllConfig c) := of_channel rfl rfl
theorem dpllSetLoop (c : Nat) : Statement (.dpllSetLoop c) := of_channel rfl rfl
theorem dpllGetLoop (c : Nat) : Statement (.dpllGetLoop c) := of_channel rfl rfl
theorem dpllSetSteer (c : Nat) : Statement (.dpllSetSteer c) := of_channel rfl rfl
theorem dpllPhaseAdjust (c : Nat) : Statement (.dpllPhaseAdjust c) := of_channel rfl rfl
theorem dpllGetStatus (c : Nat) : Statement (.dpllGetStatus c) := of_channel rfl rfl
theorem dpllGetCandidates (c : Nat) : Statement (.dpllGetCandidates c) := of_channel rfl rfl
theorem dpllSetCandidates (c : Nat) : Statement (.dpllSetCandidates c) := of_channel rfl rfl
theorem dpllSetSelection (c : Nat) : Statement (.dpllSetSelection c) := of_channel rfl rfl
theorem dpllGetSwitchLog (c : Nat) : Statement (.dpllGetSwitchLog c) := of_channel rfl rfl
theorem cairnSetMember (c : Nat) : Statement (.cairnSetMember c) := of_channel rfl rfl
theorem cairnSetConfig (c : Nat) : Statement (.cairnSetConfig c) := of_channel rfl rfl
theorem cairnGetModel (c : Nat) : Statement (.cairnGetModel c) := of_channel rfl rfl
theorem cairnSave (c : Nat) : Statement (.cairnSave c) := of_channel rfl rfl
theorem cairnForget (c : Nat) : Statement (.cairnForget c) := of_channel rfl rfl
theorem dpllSetHoldover (c : Nat) : Statement (.dpllSetHoldover c) := of_channel rfl rfl
theorem dpllGetHoldover (c : Nat) : Statement (.dpllGetHoldover c) := of_channel rfl rfl
theorem opllConfig (c : Nat) : Statement (.opllConfig c) := of_channel rfl rfl
theorem opllSetFreq (c : Nat) : Statement (.opllSetFreq c) := of_channel rfl rfl
theorem opllAlign (c : Nat) : Statement (.opllAlign c) := of_channel rfl rfl
theorem outputConfig (c : Nat) : Statement (.outputConfig c) := of_channel rfl rfl
theorem outputRun (c : Nat) : Statement (.outputRun c) := of_channel rfl rfl
theorem tdConfig (c : Nat) : Statement (.tdConfig c) := of_channel rfl rfl
theorem tdGetConfig (c : Nat) : Statement (.tdGetConfig c) := of_channel rfl rfl
theorem tdSetTime (c : Nat) : Statement (.tdSetTime c) := of_channel rfl rfl
theorem tdGetTime (c : Nat) : Statement (.tdGetTime c) := of_channel rfl rfl
theorem tdSetTod (c : Nat) : Statement (.tdSetTod c) := of_channel rfl rfl
theorem stitchLoad (c : Nat) : Statement (.stitchLoad c) := of_channel rfl rfl
theorem stitchCommit (c : Nat) : Statement (.stitchCommit c) := of_channel rfl rfl
theorem stitchDefault (c : Nat) : Statement (.stitchDefault c) := of_channel rfl rfl
theorem stitchRun (c : Nat) : Statement (.stitchRun c) := of_channel rfl rfl
theorem bootLoad (c : Nat) : Statement (.bootLoad c) := of_channel rfl rfl
theorem bootStart (c : Nat) : Statement (.bootStart c) := of_channel rfl rfl
theorem fwFlash (c : Nat) : Statement (.fwFlash c) := of_channel rfl rfl
theorem bootConfirm (c : Nat) : Statement (.bootConfirm c) := of_channel rfl rfl
theorem bootProfileSet (c : Nat) : Statement (.bootProfileSet c) := of_channel rfl rfl
theorem dmaRingConfig (c : Nat) : Statement (.dmaRingConfig c) := of_channel rfl rfl
theorem dmaGetStatus (c : Nat) : Statement (.dmaGetStatus c) := of_channel rfl rfl
theorem irqRoute (c : Nat) : Statement (.irqRoute c) := of_channel rfl rfl
theorem nvRead (c : Nat) : Statement (.nvRead c) := of_channel rfl rfl
theorem nvWrite (c : Nat) : Statement (.nvWrite c) := of_channel rfl rfl
theorem nvLogin (c : Nat) : Statement (.nvLogin c) := of_channel rfl rfl
theorem nvSetPassword (c : Nat) : Statement (.nvSetPassword c) := of_channel rfl rfl
theorem nvGetStatus (c : Nat) : Statement (.nvGetStatus c) := of_channel rfl rfl
theorem belayConfig (c : Nat) : Statement (.belayConfig c) := of_channel rfl rfl
theorem belayEnter (c : Nat) : Statement (.belayEnter c) := of_channel rfl rfl
theorem powerGetStatus (c : Nat) : Statement (.powerGetStatus c) := of_channel rfl rfl
theorem marginGetPlan (c : Nat) : Statement (.marginGetPlan c) := of_channel rfl rfl
theorem ageingGetStatus (c : Nat) : Statement (.ageingGetStatus c) := of_channel rfl rfl
theorem halt (e : Nat) : Statement (.halt e) := of_none rfl
theorem waitEvent (e : Nat) : Statement (.waitEvent e) := of_none rfl
theorem waitTime (e : Nat) : Statement (.waitTime e) := of_none rfl
theorem setField (e : Nat) : Statement (.setField e) := of_none rfl
theorem clrField (e : Nat) : Statement (.clrField e) := of_none rfl
theorem read (e : Nat) : Statement (.read e) := of_none rfl
theorem cmp (e : Nat) : Statement (.cmp e) := of_none rfl
theorem branch (e : Nat) : Statement (.branch e) := of_none rfl
theorem add (e : Nat) : Statement (.add e) := of_none rfl
theorem loop (e : Nat) : Statement (.loop e) := of_none rfl
theorem emit (e : Nat) : Statement (.emit e) := of_none rfl
theorem tbEnSet (p : Path) (w : Word) : Statement (.tbEnSet p w) := of_none rfl
theorem tbEnClear (p : Path) (w : Word) : Statement (.tbEnClear p w) := of_none rfl
theorem tbConfigWrite (p : Path) (w : Word) : Statement (.tbConfigWrite p w) := of_none rfl
theorem inputEnable (p : Path) (n : Nat) : Statement (.inputEnable p n) := of_none rfl
theorem inputDisable (p : Path) (n : Nat) : Statement (.inputDisable p n) := of_none rfl
theorem forceDisqWrite (p : Path) (n : Nat) (b : Bool) : Statement (.forceDisqWrite p n b) := of_none rfl
theorem rankPriorityWrite (p : Path) (n : Nat) (rank : Nat) (prio : Nat) : Statement (.rankPriorityWrite p n rank prio) := of_none rfl
theorem dpllEnable (p : Path) (n : Nat) : Statement (.dpllEnable p n) := of_none rfl
theorem dpllDisable (p : Path) (n : Nat) : Statement (.dpllDisable p n) := of_none rfl
theorem forceFreerun (p : Path) (n : Nat) : Statement (.forceFreerun p n) := of_none rfl
theorem forceHoldover (p : Path) (n : Nat) : Statement (.forceHoldover p n) := of_none rfl
theorem forceAutomatic (p : Path) (n : Nat) : Statement (.forceAutomatic p n) := of_none rfl
theorem selRetblkClear (p : Path) (n : Nat) (w : Word) : Statement (.selRetblkClear p n w) := of_none rfl
theorem selHookVerdictWrite (p : Path) (n : Nat) (w : Word) : Statement (.selHookVerdictWrite p n w) := of_none rfl
theorem opllEnable (p : Path) (n : Nat) : Statement (.opllEnable p n) := of_none rfl
theorem opllDisable (p : Path) (n : Nat) : Statement (.opllDisable p n) := of_none rfl
theorem outputEnable (p : Path) (n : Nat) : Statement (.outputEnable p n) := of_none rfl
theorem outputDisable (p : Path) (n : Nat) : Statement (.outputDisable p n) := of_none rfl
theorem outRunStart (p : Path) (n : Nat) : Statement (.outRunStart p n) := of_none rfl
theorem outRunStop (p : Path) (n : Nat) : Statement (.outRunStop p n) := of_none rfl
theorem outPhaseWrite (p : Path) (n : Nat) (r : Nat) (w : Word) : Statement (.outPhaseWrite p n r w) := of_none rfl
theorem tdEnable (p : Path) (n : Nat) : Statement (.tdEnable p n) := of_none rfl
theorem tdDisable (p : Path) (n : Nat) : Statement (.tdDisable p n) := of_none rfl
theorem tdOfsCommit (p : Path) (n : Nat) : Statement (.tdOfsCommit p n) := of_none rfl
theorem evConfigWrite (p : Path) (n : Nat) (r : Nat) (w : Word) : Statement (.evConfigWrite p n r w) := of_none rfl
theorem stitchEnableWrite (p : Path) (n : Nat) (b : Bool) : Statement (.stitchEnableWrite p n b) := of_none rfl
theorem stitchSignal (p : Path) (n : Nat) : Statement (.stitchSignal p n) := of_none rfl
theorem mbxH2cDoorbell (p : Path) (c : Nat) : Statement (.mbxH2cDoorbell p c) := of_none rfl
theorem mbxC2hClear (p : Path) (c : Nat) : Statement (.mbxC2hClear p c) := of_none rfl
theorem h2cBufWrite (p : Path) (c : Nat) (i : Nat) (w : Word) : Statement (.h2cBufWrite p c i w) := of_none rfl
theorem abortReqWrite (p : Path) (w : Word) : Statement (.abortReqWrite p w) := of_none rfl
theorem semReadAcquire (p : Path) (n : Nat) : Statement (.semReadAcquire p n) := of_none rfl
theorem semRelease (p : Path) (n : Nat) : Statement (.semRelease p n) := of_none rfl
theorem semHeldRelease (p : Path) (r : Nat) (w : Word) : Statement (.semHeldRelease p r w) := of_none rfl
theorem irqVecAckWrite (p : Path) (w : Word) : Statement (.irqVecAckWrite p w) := of_none rfl
theorem indDataAccess (p : Path) (write : Bool) (w : Word) : Statement (.indDataAccess p write w) := of_none rfl
theorem ringRdPtrWrite (p : Path) (r : Nat) (w : Word) : Statement (.ringRdPtrWrite p r w) := of_none rfl
theorem bgEnWrite (p : Path) (d : Nat) (b : Bool) : Statement (.bgEnWrite p d b) := of_none rfl
theorem aliasWrite (p : Path) (a : Nat) (w : Word) : Statement (.aliasWrite p a w) := of_none rfl
theorem satCounterClear (p : Path) (a : Nat) (w : Word) : Statement (.satCounterClear p a w) := of_none rfl
theorem registerWrite (p : Path) (a : Nat) (w : Word) : Statement (.registerWrite p a w) := of_none rfl
theorem spiStatus : Statement .spiStatus := of_none rfl
theorem spiCsRise : Statement .spiCsRise := of_none rfl
theorem lateAccess (p : Path) : Statement (.lateAccess p) := of_none rfl
theorem remoteAccessComplete (p : Path) : Statement (.remoteAccessComplete p) := of_none rfl
theorem slowWriteDrain : Statement .slowWriteDrain := of_none rfl
theorem pcieLinkLoss (k : Nat) : Statement (.pcieLinkLoss k) := of_none rfl
theorem powerOnReset (cut : List (Nat × Nat)) : Statement (.powerOnReset cut) := of_none rfl
theorem resetn : Statement .resetn := of_none rfl
theorem resetDelayExpire : Statement .resetDelayExpire := of_none rfl
theorem belayTrigger (mainFail : Bool) : Statement (.belayTrigger mainFail) := of_none rfl
theorem belayCapture : Statement .belayCapture := of_none rfl
theorem belayPowerDown : Statement .belayPowerDown := of_none rfl
theorem belayWake (cnt : Nat) (temp : Option Int) : Statement (.belayWake cnt temp) := of_none rfl
theorem belayOutputPulse (m : Nat) : Statement (.belayOutputPulse m) := of_none rfl
theorem belayExit (cnt : Nat) : Statement (.belayExit cnt) := of_none rfl
theorem syspllLock (d : Nat) : Statement (.syspllLock d) := of_none rfl
theorem bootRomStart (strap : Nat) : Statement (.bootRomStart strap) := of_none rfl
theorem unitImageStreamed : Statement .unitImageStreamed := of_none rfl
theorem followerImageStart (d : Nat) : Statement (.followerImageStart d) := of_none rfl
theorem leadImageStart : Statement .leadImageStart := of_none rfl
theorem mailboxOpen : Statement .mailboxOpen := of_none rfl
theorem tbpllLock (d : Nat) : Statement (.tbpllLock d) := of_none rfl
theorem timebaseRestartEnd : Statement .timebaseRestartEnd := of_none rfl
theorem portActivityLoss (o : Nat) : Statement (.portActivityLoss o) := of_none rfl
theorem portStart (o : Nat) : Statement (.portStart o) := of_none rfl
theorem linkTrainDone (d : Nat) (l : Nat) : Statement (.linkTrainDone d l) := of_none rfl
theorem linkTrainTimeout (d : Nat) (l : Nat) : Statement (.linkTrainTimeout d l) := of_none rfl
theorem linkRetrainRetry (d : Nat) (l : Nat) : Statement (.linkRetrainRetry d l) := of_none rfl
theorem linkAlignDone (d : Nat) (l : Nat) : Statement (.linkAlignDone d l) := of_none rfl
theorem linkResetSignal (d : Nat) (l : Nat) : Statement (.linkResetSignal d l) := of_none rfl
theorem laneLockLoss (d : Nat) (l : Nat) : Statement (.laneLockLoss d l) := of_none rfl
theorem resyncDone (d : Nat) (l : Nat) : Statement (.resyncDone d l) := of_none rfl
theorem resyncTimeout (d : Nat) (l : Nat) : Statement (.resyncTimeout d l) := of_none rfl
theorem reparentRelock (d : Nat) : Statement (.reparentRelock d) := of_none rfl
theorem twoWayExchange (d : Nat) (l : Nat) (t1 : Nat) (t2 : Nat) (t3 : Nat) (t4 : Nat) : Statement (.twoWayExchange d l t1 t2 t3 t4) := of_none rfl
theorem skewUpdate (d : Nat) : Statement (.skewUpdate d) := of_none rfl
theorem shuttleFrameReceive (d : Nat) (l : Nat) (ok : Bool) (f : Frame) : Statement (.shuttleFrameReceive d l ok f) := of_none rfl
theorem frameRetransmit (d : Nat) (l : Nat) : Statement (.frameRetransmit d l) := of_none rfl
theorem slotPlanAdopt : Statement .slotPlanAdopt := of_none rfl
theorem cdcValueDeliver (d : Nat) (x : Nat) (pulses : Nat) (vals : List (BitVec 128)) : Statement (.cdcValueDeliver d x pulses vals) := of_none rfl
theorem tdcEdgeCapture (d : Nat) (c : Nat) (edge : Nat × Bool) (code0 : Nat) (code1 : Nat) : Statement (.tdcEdgeCapture d c edge code0 code1) := of_none rfl
theorem tdcFillEnd (d : Nat) (c : Nat) (h0 : List Nat) (h1 : List Nat) : Statement (.tdcFillEnd d c h0 h1) := of_none rfl
theorem bgHistogramDone (d : Nat) (c : Nat) (h : List Nat) : Statement (.bgHistogramDone d c h) := of_none rfl
theorem coreSwap (d : Nat) (c : Nat) (pulses : Int) : Statement (.coreSwap d c pulses) := of_none rfl
theorem seedSave (d : Nat) : Statement (.seedSave d) := of_none rfl
theorem updateBoundary : Statement .updateBoundary := of_none rfl
theorem decisionTick : Statement .decisionTick := of_none rfl
theorem wtrExpire (n : Nat) : Statement (.wtrExpire n) := of_none rfl
theorem holdoffExpire (n : Nat) : Statement (.holdoffExpire n) := of_none rfl
theorem switchExecute (n : Nat) : Statement (.switchExecute n) := of_none rfl
theorem losTimeout (n : Nat) : Statement (.losTimeout n) := of_none rfl
theorem losClear (n : Nat) : Statement (.losClear n) := of_none rfl
theorem freqGateEnd (n : Nat) : Statement (.freqGateEnd n) := of_none rfl
theorem driftEvaluation (n : Nat) : Statement (.driftEvaluation n) := of_none rfl
theorem staleTimeout (n : Nat) : Statement (.staleTimeout n) := of_none rfl
theorem streamTimeout (k : Nat) (n : Nat) : Statement (.streamTimeout k n) := of_none rfl
theorem notValidTimeout (n : Nat) : Statement (.notValidTimeout n) := of_none rfl
theorem lockGateEnd (n : Nat) : Statement (.lockGateEnd n) := of_none rfl
theorem mirrorLeaderLost (n : Nat) : Statement (.mirrorLeaderLost n) := of_none rfl
theorem fbFaultTimeout (n : Nat) : Statement (.fbFaultTimeout n) := of_none rfl
theorem freerunWordRefresh (n : Nat) : Statement (.freerunWordRefresh n) := of_none rfl
theorem holdoverWordRefresh (n : Nat) : Statement (.holdoverWordRefresh n) := of_none rfl
theorem historySample (n : Nat) : Statement (.historySample n) := of_none rfl
theorem portMeterSample (o : Nat) (m : Int) : Statement (.portMeterSample o m) := of_none rfl
theorem thermistorRead (o : Nat) (ohms : Nat) : Statement (.thermistorRead o ohms) := of_none rfl
theorem cairnSecond : Statement .cairnSecond := of_none rfl
theorem learningMean (o : Nat) : Statement (.learningMean o) := of_none rfl
theorem restoreVerify (o : Nat) : Statement (.restoreVerify o) := of_none rfl
theorem modelSave (o : Nat) : Statement (.modelSave o) := of_none rfl
theorem opllBandCalDone (n : Nat) (band : Nat) (cover : Nat) (drift : Int) : Statement (.opllBandCalDone n band cover drift) := of_none rfl
theorem opllGateEnd (n : Nat) (count : Nat) (inGuard : Bool) : Statement (.opllGateEnd n count inGuard) := of_none rfl
theorem opllCycleSlip (n : Nat) : Statement (.opllCycleSlip n) := of_none rfl
theorem opllLockingTimeout (n : Nat) : Statement (.opllLockingTimeout n) := of_none rfl
theorem opllFaultRetry (n : Nat) : Statement (.opllFaultRetry n) := of_none rfl
theorem opllAlignSlot (n : Nat) (ok : Bool) (corr : Int) : Statement (.opllAlignSlot n ok corr) := of_none rfl
theorem outputFirstEdge (n : Nat) : Statement (.outputFirstEdge n) := of_none rfl
theorem outputStopLevel (n : Nat) : Statement (.outputStopLevel n) := of_none rfl
theorem wholeSecondCrossing (t : Nat) : Statement (.wholeSecondCrossing t) := of_none rfl
theorem todMessageStart (t : Nat) : Statement (.todMessageStart t) := of_none rfl
theorem tdHoldExpire (t : Nat) : Statement (.tdHoldExpire t) := of_none rfl
theorem stitchInvoke (e : Nat) : Statement (.stitchInvoke e) := of_none rfl
theorem stitchWaitResume (e : Nat) : Statement (.stitchWaitResume e) := of_none rfl
theorem stitchOverrun (e : Nat) : Statement (.stitchOverrun e) := of_none rfl
theorem stitchUnitWrite (e : Nat) : Statement (.stitchUnitWrite e) := of_none rfl
theorem mbxMessageTake (c : Nat) : Statement (.mbxMessageTake c) := of_none rfl
theorem responsePost (c : Nat) : Statement (.responsePost c) := of_none rfl
theorem forwardedRequest (d : Nat) : Statement (.forwardedRequest d) := of_none rfl
theorem cpPeriodicTask (d : Nat) : Statement (.cpPeriodicTask d) := of_none rfl
theorem cpHalt (d : Nat) : Statement (.cpHalt d) := of_none rfl
theorem flashOperationDone (ok : Bool) : Statement (.flashOperationDone ok) := of_none rfl
theorem abortRequestArrive : Statement .abortRequestArrive := of_none rfl
theorem abortCleanupDone : Statement .abortCleanupDone := of_none rfl
theorem abortForce : Statement .abortForce := of_none rfl
theorem abortCompletion : Statement .abortCompletion := of_none rfl
theorem abortUnconfirmed : Statement .abortUnconfirmed := of_none rfl
theorem nvPageWrite (d : Nat) (aonMv : Nat) (choldMv : Nat) (good : Nat) : Statement (.nvPageWrite d aonMv choldMv good) := of_none rfl
theorem marginScan (d : Nat) (page : Nat) (weak : Bool) : Statement (.marginScan d page weak) := of_none rfl
theorem marginPlanEval (d : Nat) (wear : Nat) : Statement (.marginPlanEval d wear) := of_none rfl
theorem configScrub (d : Nat) (bad : List Nat) : Statement (.configScrub d bad) := of_none rfl
theorem fabricUnitSleep (d : Nat) (u : Nat) : Statement (.fabricUnitSleep d u) := of_none rfl
theorem ringRecordWrite (d : Nat) : Statement (.ringRecordWrite d) := of_none rfl
theorem writebackTimerExpire (r : Nat) : Statement (.writebackTimerExpire r) := of_none rfl
theorem oscReturn (o : Nat) : Statement (.oscReturn o) := of_none rfl
theorem mainFailnRise : Statement .mainFailnRise := of_none rfl
theorem i2cStop : Statement .i2cStop := of_none rfl
theorem pcieLinkUp : Statement .pcieLinkUp := of_none rfl
theorem pcieConfigWrite (bme : Bool) (msix : Bool) (mask : Bool) : Statement (.pcieConfigWrite bme msix mask) := of_none rfl
theorem phasePredictorValid (d : Nat) (x : Nat) : Statement (.phasePredictorValid d x) := of_none rfl

end Sys2Proof.Laws.Shape
end

