-- ==== Sys2Proof/Machine/Package.lean ====
section
/-! DEFINITION. What the package and its ports show outside: identities (R466, R470, R584), the states of the balls (R561) and their map
(R578 to R581), and the figures of the output formats that settings choose (R567, R568). -/

namespace Sys2Proof.Machine
open Sys2Proof

/-! ## Identities (R466, R470, R584) -/

/-- The ordering code (R584). -/
def Part.orderCode (p : Part) : String :=
  let fam := match p.diesLog2 with | 0 => "TS8810" | 1 => "TS8820" | 2 => "TS8840" | _ => "TS8880"
  let opts := (if p.featE then "E" else "") ++ (if p.featK then "K" else "") ++ (if p.featX then "X" else "")
  if opts = "" then fam else fam ++ "-" ++ opts

/-- The device ID of the PCIe function (R466). -/
def Part.deviceId (p : Part) : Nat := 0x8800 + 0x10 * p.diesLog2

/-- The class code, and the bytes of BAR0, BAR2 and BAR4 (R466). -/
def pciClass : Nat := 0x118000
def barSize : Nat → Nat
  | 0 => 2 ^ 25 | 2 => 2 ^ 16 | 4 => 2 ^ 13 | _ => 0

/-- The I2C address under the pins ADDR1 and ADDR0 (R470). -/
def i2cAddr (a1 a0 : Bool) : Nat := 0x58 + 2 * b2n a1 + b2n a0

/-! ## The states of the balls (R561) -/

/-- Balls by the rows of R561: both balls of an input; OUTm_P and OUTm_N; the rest by function. -/
inductive Ball
  | input (n : Nat) | outP (m : Nat) | outN (m : Nat) | osc | ev | gpio (d n : Nat) | strap | spiSclk | spiCsn | spiMiso | irq (p : Nat) | i2c
  | resetn | mainFailn
deriving DecidableEq, Repr

/-- What a ball does: nothing; receive, biased or not, with a pull or without; follow an open drain; drive. -/
inductive BallState
  | hiZ | selfBiased | receives | pullDown | pullUp | released | drivesLow | openDrain | drives (l : Leg) | line (bits : List Bool)
deriving DecidableEq, Repr

def Leg.ball : Leg → BallState
  | .hiZ => .hiZ
  | l => .drives l

/-- The state of a ball of a powered part out of reset, and in belay (R311, R482, R561); `csLow` says that SPI_CSn is low. -/
def State.ball (s : State) (csLow : Bool) (b : Ball) : BallState :=
  let bel := decide (s.belay.phase = 2)
  match b with
  | .input n => if bel || decide ((s.input n).decl.mode = 0) then .hiZ else .receives
  | .outP m => (s.legs m).1.ball
  | .outN m => (s.legs m).2.ball
  | .osc => .selfBiased
  | .ev | .strap | .spiSclk => if bel then .hiZ else .pullDown
  | .gpio d n => if bel then .hiZ else match s.gpioLine d n with | some l => .line l | none => .pullDown
  | .spiCsn => if bel then .hiZ else .pullUp
  | .spiMiso => if csLow && !bel then .drives .clock else .hiZ
  | .irq p => if bel || !s.pinLow p then .released else .drivesLow
  | .i2c => if bel then .released else .openDrain
  | .resetn | .mainFailn => .pullUp

/-! ## Packages and regions (R578 to R581) -/

/-- Rows and columns of the ball array, alike (R578). -/
def Part.array (p : Part) : Nat := match p.diesLog2 with | 0 => 19 | 1 => 27 | 2 => 35 | _ => 44

/-- The body in mm, and the greatest height in 0.01 mm (R578). -/
def Part.body (p : Part) : Nat × Nat := match p.diesLog2 with | 0 => (19, 260) | 1 => (27, 300) | 2 => (35, 340) | _ => (45, 380)

/-- The letters of the rows (R579). -/
def rowLetters : List Char := "ABCDEFGHJKLMNPTUVWY".toList

/-- The name of row `i`, from 1 (R579). -/
def rowName (i : Nat) : List Char :=
  let c := rowLetters.getD ((i - 1) % 19) 'A'
  if i ≤ 19 then [c] else [rowLetters.getD ((i - 1) / 19 - 1) 'A', c]

/-- The die whose region holds the ball of row `r` and column `c`, both from 1; the others are VSS (R580). -/
def Part.region (p : Part) (r c : Nat) : Option Nat :=
  match p.diesLog2 with
  | 0 => some 0
  | 1 => if c ≤ 13 then some 0 else if 15 ≤ c then some 1 else none
  | 2 =>
    let right := b2n (decide (19 ≤ c))
    if c = 18 then none else if r ≤ 16 then some right else if 18 ≤ r ∧ r ≤ 34 then some (2 + right) else none
  | _ => if r ≤ 21 then [0, 1, 4, 6][(c - 1) / 11]? else [2, 3, 5, 7][(c - 1) / 11]?

/-- Balls by kind: signals, VDD, VDDA, VDDO, VDDIO, VDD_AON, VSS (R581). -/
def Part.balls (p : Part) : List Nat :=
  match p.diesLog2 with
  | 0 => [147, 48, 24, 16, 4, 2, 120]
  | 1 => [264, 96, 48, 32, 6, 4, 279]
  | 2 => [498, 160, 80, 64, 10, 8, 405]
  | _ => [966, 256, 128, 128, 18, 16, 424]

/-! ## Output formats (R567, R568) -/

/-- The nominal differential swing of CML in mV, peak to peak (R282, R567). -/
def OutUnit.cmlSwing (u : OutUnit) : Nat := 400 + 80 * u.swing

/-- The current of an LVCMOS leg in mA (R567); a belay output drives at DRIVE 0 (R537). -/
def State.driveMa (s : State) (m : Nat) : Nat := if s.belay.gen.contains m then 4 else 4 * ((s.out m).drive + 1)

/-- A bank at `mv` millivolts of VDDO suits an output's format; the part does not detect one that does not (R282, R568). -/
def OutUnit.suits (u : OutUnit) (mv : Nat) : Bool := decide (u.format ≠ 3) || decide (1800 < mv) || decide (u.swing ≤ 7)

end Sys2Proof.Machine
end

