-- ==== Sys2Proof/Tests/Slice0.lean ====
section
/-! SUPPORT. Tests of the model: ill-formed commands, instruction words, single steps, the spec's worked examples, and for every
statement with hypotheses a concrete state that meets them. -/

namespace Sys2Proof.Tests
open Sys2Proof Sys2Proof.Machine

set_option Elab.async false

/-- A running eight-die part: every die is up. -/
def base : State := { State.reset with dies := (List.range 8).map fun d => (d, { up := true }) }
/-- The same with every shuttle link UP. -/
def linked : State := { base with dies := (List.range 8).map fun d => (d, { up := true, links := List.replicate 4 { state := .up } }) }
/-- `base` with the timebase on and the TBPLL of die 0 locked. -/
def live : State := { base with tb := { base.tb with tbEn := true, oscFreq := 14 } }.modDie 0 fun u => { u with tbLock := true }
/-- An accepted command with opcode `op` and payload `p`. -/
def msg (op : Nat) (p : List Byte) : Msg := { op := op, seq := 1, payload := p, port := 1 }
/-- `s` with that command taken from mailbox channel `c`. -/
def ask (s : State) (c op : Nat) (p : List Byte) : State := s.setMbx c { s.mbx c with msg := some (msg op p) }
/-- Engine 223 runs the one-word program `i`. -/
def engine (i : SInstr) : State := base.modStitch 223 fun u => { u with busy := true, prog := [i.encode] }
/-- Physical input `n` runs with a valid phase word on its channel and the gate `g`. -/
def gated (ch n : Nat) (g : Option (Nat × Nat)) : State :=
  (base.modChan ch fun u => { u with word := { u.word with valid := true }, wordIdx := 7 }).modInput n fun u => { u with running := true, gateOpen := g }
/-- Die 7 has a record for ring 0 (2^12 bytes), whose pointers are `wr` and `rd`. -/
def ringing (wr rd : Nat) : State :=
  (base.modDie 7 fun u => { u with intake := [1] }).modRing 0 fun q => { q with enable := true, size := 12, source := 1, hi := 127, wr := wr, rd := rd, weight := 15 }
theorem restart_links : ∀ d l, ({ live with tb := { live.tb with restart := true } } : State).fitted d = true → l < 4 →
    (({ live with tb := { live.tb with restart := true } } : State).link d l).state = .up →
    32 ≤ (({ live with tb := { live.tb with restart := true } } : State).link d l).exchCnt := by
  have h : ∀ d < 8, ∀ l < 4, (({ live with tb := { live.tb with restart := true } } : State).link d l).state ≠ .up := by decide +kernel
  intro d l hd hl hu
  exact absurd hu (h d (of_decide_eq_true hd) l hl)
theorem ask_ready (s : State) (c op : Nat) (p : List Byte) (h : (ask s c op p).Serves c) : (ask s c op p).Ready c op (msg op p) := by
  refine ⟨?_, rfl, rfl, rfl, rfl, h⟩
  show (tget {} (tset {} s.host.mbx c { s.mbx c with msg := some (msg op p) }) c).msg = _
  rw [tget_tset, if_pos rfl]

/-- A manifest with no body, whose BODY_HASH is the SHA-384 of the empty string but for its first byte, `x`. -/
def image (x : Byte) : List Byte := zeros 24 ++ [x, 0xb0, 0x60, 0xa7, 0x51, 0xac, 0x96, 0x38, 0x4c, 0xd9, 0x32, 0x7e, 0xb1, 0xb1, 0xe3, 0x6a,
  0x21, 0xfd, 0xb7, 0x11, 0x14, 0xbe, 0x07, 0x43, 0x4c, 0x0c, 0xc7, 0xbf, 0x63, 0xf6, 0xe1, 0xda, 0x27, 0x4e, 0xde, 0xbf, 0xe7, 0x6f, 0x65, 0xfb,
  0xd5, 0x1a, 0xd2, 0xf1, 0x48, 0x98, 0xb9, 0x5b] ++ zeros 952

/-- The clause of BOOT_START: with any two 1 024-byte manifests whose pair check passes and whose bodies are empty and match their
hashes, the state after their download meets the hypotheses. The hash of a key slot is a fused value of the part (Config.keyHash), so the two
manifests are variables here. -/
theorem met_bootStart (l u : List Byte) (a b : Manifest) (hl : l.length = 1024) (hu : u.length = 1024)
    (hl0 : uAt l 16 4 = 0) (hu0 : uAt u 16 4 = 0) (hlb : bodyOk l [] = true) (hub : bodyOk u [] = true)
    (hp : (ask (base.modBoot fun x => { x with download := true, leadBuf := l, unitBuf := u }) 0 0x0A02 (zeros 4)).pairCheck l u = .good a b) :
    let s := ask (base.modBoot fun x => { x with download := true, leadBuf := l, unitBuf := u }) 0 0x0A02 (zeros 4)
    let m := msg 0x0A02 (zeros 4)
    s.Ready 0 0x0A02 m ∧ bootDenied 0 = false ∧ s.host.boot.download = true ∧ uAt m.payload 0 4 = 0 ∧
      1024 ≤ s.host.boot.leadBuf.length ∧ s.host.boot.leadBuf.length = 1024 + uAt s.host.boot.leadBuf 16 4 ∧
      1024 ≤ s.host.boot.unitBuf.length ∧ (s.nDies = 1 ∨ s.host.boot.unitBuf.length = 1024 + uAt s.host.boot.unitBuf 16 4) ∧
      s.pairCheck (s.host.boot.leadBuf.take 1024) (s.host.boot.unitBuf.take 1024) = .good a b ∧
      bodyOk (s.host.boot.leadBuf.take 1024) (s.host.boot.leadBuf.drop 1024) = true ∧
      (s.nDies = 1 ∨ bodyOk (s.host.boot.unitBuf.take 1024) (s.host.boot.unitBuf.drop 1024) = true) := by
  intro s m
  have e1 : s.host.boot.leadBuf = l := rfl
  have e2 : s.host.boot.unitBuf = u := rfl
  have t1 : l.take 1024 = l := List.take_of_length_le (by omega)
  have t2 : u.take 1024 = u := List.take_of_length_le (by omega)
  have d1 : l.drop 1024 = [] := List.drop_of_length_le (by omega)
  have d2 : u.drop 1024 = [] := List.drop_of_length_le (by omega)
  rw [e1, e2, t1, t2, d1, d2]
  exact ⟨ask_ready _ _ _ _ ⟨rfl, rfl, rfl⟩, rfl, rfl, by decide, by omega, by omega, by omega, Or.inr (by omega), hp, hlb, Or.inr hub⟩
/-! ### Ill-formed terms: one for each check of `Instr.wf` -/

theorem test_wf_channel : (Instr.nop 8).wf = false ∧ (Instr.tdcCoreReset 8).wf = false ∧ (Instr.mbxMessageTake 8).wf = false ∧
    (Instr.nop 7).wf = true ∧ (Instr.tdcCoreReset 7).wf = true := by decide
theorem test_wf_path : (Instr.tbEnSet (.cp 8) 0).wf = false ∧ (Instr.tbEnSet .stitch 0).wf = false ∧ (Instr.tbEnSet (.cp 7) 0).wf = true := by decide
theorem test_wf_engine : (Instr.halt 224).wf = false ∧ (Instr.stitchEnableWrite .spi 224 true).wf = false ∧ (Instr.halt 223).wf = true := by decide
theorem test_wf_input : (Instr.inputEnable .spi 320).wf = false ∧ (Instr.rankPriorityWrite .spi 0 256 0).wf = false ∧
    (Instr.rankPriorityWrite .spi 0 0 32).wf = false ∧ (Instr.rankPriorityWrite .spi 319 255 31).wf = true := by decide
theorem test_wf_dpll : (Instr.dpllEnable .spi 64).wf = false ∧ (Instr.streamTimeout 64 0).wf = false ∧ (Instr.streamTimeout 0 320).wf = false := by decide
theorem test_wf_synth : (Instr.opllEnable .spi 32).wf = false ∧ (Instr.opllBandCalDone 0 64 0 0).wf = false ∧
    (Instr.outputEnable .spi 128).wf = false ∧ (Instr.outPhaseWrite .spi 0 0x18 0).wf = false ∧ (Instr.belayOutputPulse 128).wf = false := by decide
theorem test_wf_domain : (Instr.tdEnable .spi 128).wf = false ∧ (Instr.wholeSecondCrossing 128).wf = false ∧ (Instr.evConfigWrite .spi 0 8 0).wf = false := by decide
theorem test_wf_host : (Instr.h2cBufWrite .spi 0 64 0).wf = false ∧ (Instr.semRelease .spi 64).wf = false ∧ (Instr.semHeldRelease .spi 2 0).wf = false ∧
    (Instr.ringRdPtrWrite .spi 16 0).wf = false ∧ (Instr.ringRecordWrite 16).wf = false ∧ (Instr.ringRdPtrWrite .spi 0xFF 0).wf = true ∧ (Instr.writebackTimerExpire 16).wf = false ∧
    (Instr.registerWrite .spi (2 ^ 26) 0).wf = false ∧ (Instr.pcieLinkLoss 4).wf = false ∧ (Instr.bootRomStart 4).wf = false := by decide
theorem test_wf_die : (Instr.syspllLock 8).wf = false ∧ (Instr.linkTrainDone 0 4).wf = false ∧ (Instr.cdcValueDeliver 0 256 0 []).wf = false ∧
    (Instr.portStart 16).wf = false ∧ (Instr.nvPageWrite 0 0 0 4).wf = false ∧ (Instr.marginScan 0 4032 true).wf = false ∧
    (Instr.fabricUnitSleep 0 44).wf = false := by decide
theorem test_wf_tdc : (Instr.tdcEdgeCapture 0 48 (0, true) 0 0).wf = false ∧ (Instr.tdcEdgeCapture 0 0 (0, true) 1152 0).wf = false ∧
    (Instr.tdcEdgeCapture 0 0 (0, false) 0 1152).wf = false ∧ (Instr.tdcFillEnd 0 0 [] []).wf = false ∧
    (Instr.tdcFillEnd 0 0 (List.replicate 1152 0) []).wf = false ∧ (Instr.bgHistogramDone 0 0 []).wf = false := by decide +kernel

/-! ### Instruction words of the stitch engines, written out from the encoding of R360 -/

theorem test_decode_halt : decodeStitch 0b00000_000_00000000_0000000000000000 = some .halt := by decide
theorem test_decode_waits : decodeStitch 0b00001_010_00000000_1000000000000010 = some (.waitEvent 2 0x8002) ∧
    decodeStitch 0b00010_01_0_000000000000000000001010 = some (.waitTime 1 10) := by decide
theorem test_decode_fields : decodeStitch 0b00011_101_01100000_00100_00111_000000 = some (.setField 5 0x60 4 7) ∧
    decodeStitch 0b00100_000_01111001_00001_00001_000000 = some (.clrField 0x79 1 1) ∧
    decodeStitch 0b00101_101_01000000_00000_11111_000000 = some (.read 5 0x40 0 31) := by decide
theorem test_decode_flow : decodeStitch 0b00111_110_0000000000000000_00001100 = some (.branch 6 12) ∧
    decodeStitch 0b01001_111_0000000000000000_00000101 = some (.loop 7 5) := by decide
theorem test_decode_emit : decodeStitch 0b01010_000_00000000_00000000000_01111 = some (.emitDb 15) ∧
    decodeStitch 0b01010_001_10101010_00000000000_00000 = some (.emitRec 0xAA) := by decide

/-! ### Single steps -/

/-- The next state of `i` at `s`. -/
def after1 (i : Instr) (s : State) : State := match exec i s with | .next t => t | _ => s

/-- R9: after reset DIE_UP shows die 0 alone. -/
theorem test_reset_dies : State.reset.dieUp 0 = true ∧ State.reset.dieUp 1 = false := by decide +kernel
/-- An empty queue idles. -/
theorem test_idle : step State.reset = .next State.reset := rfl
/-- R41: a write of MASTER while TB_EN = 1 changes nothing but CFG_REJ. -/
theorem test_cfg_rej : let t := after1 (.tbConfigWrite .spi 0xE3) live
    t.tb.master = false ∧ t.tb.cfgRej = true ∧ t.tb.tbEn = true := by decide +kernel
/-- R42: OSC_FREQ 0 and 15 name no oscillator. -/
theorem test_osc_codes : oscBad 0 = true ∧ oscBad 15 = true ∧ oscBad 1 = false ∧ oscBad 14 = false := by decide
/-- R478: a read of a free semaphore takes it for the reader's master and reads 0. -/
theorem test_semaphore : let t := after1 (.semReadAcquire .i2c 63) base
    t.semOwner 63 = 3 ∧ (t.port 2).rd = 0 := by decide +kernel
/-- R442: NOP answers with its own payload. -/
theorem test_nop_echo : let t := after1 (.nop 7) (ask base 7 0x0001 [0xA5, 1, 2, 3, 4, 5, 6, 7])
    (t.mbx 7).c2h.take 16 = [0, 0, 1, 0, 1, 0, 8, 0, 0xA5, 1, 2, 3, 4, 5, 6, 7] ∧ (t.mbx 7).c2hFull = true ∧ (t.mbx 7).msg = none := by decide +kernel
/-- R486: a record for a full ring is dropped and counted, and the write pointer stays. -/
theorem test_full_ring : let t := after1 (.ringRecordWrite 0) (ringing 256 0)
    (t.ring 0).drop = 1 ∧ (t.ring 0).wr = 256 := by decide +kernel
/-- R362: ADD of 1 to 0xFFFFFFFF gives 0 with Z and C. -/
theorem test_add_wraps : let t := after1 (.add 223) ((engine (.add 2 false 1 (.imm 0 1))).modStitch 223 fun u => { u with g := [0, 0xFFFFFFFF, 7, 0, 0, 0, 0, 0] })
    (t.stitch 223).g.getD 2 9 = 0 ∧ (t.stitch 223).fz = true ∧ (t.stitch 223).fc = true ∧ (t.stitch 223).pc = 1 := by decide +kernel

/-! ### The spec's worked examples -/

/-- Chapter 00: input 77 lies on die 3; output 77 would lie on die 4. -/
theorem test_locate : dieOfInput 77 = 3 ∧ dieOfOut 77 = 4 := by decide
/-- Chapter 02: the SyncE declaration of input 29 is accepted. -/
theorem test_declare : declBad 29 (leBytes 2 29 ++ [1, 1, 1, 1, 0, 0] ++ leBytes 8 644531250 ++ leBytes 4 1 ++ zeros 4 ++ leBytes 8 81920) = false := by decide +kernel
/-- Chapter 03: code 631 of the capture in cycle 12 499 999. -/
theorem test_capture : let t := List.replicate 630 1024 ++ [66, 1030] ++ List.replicate 520 0
    codeP t 631 = 645701 ∧ rawExt t 12499999 631 = 13107199354299 ∧ extToMts 13107199354299 = 40959997982 ∧
      extToEdge 13107199354299 = 655359967715 := by decide +kernel
/-- Chapter 03: the width of code 400 from a histogram of 2^26 hits. -/
theorem test_width : let t := tableOf ([26180000] ++ List.replicate 399 0 ++ [65600, 40863264] ++ List.replicate 750 0)
    cumw t 400 = 409063 ∧ t.getD 400 0 = 1025 := by decide +kernel
/-- Chapter 03: the interval value of a stop before its start. -/
theorem test_interval : intervalOf (-3932160524) = 0x1000EA60020C := by decide
/-- Chapter 05: BO of a switch with BO flag 1, and RES of one with BO flag 0. -/
theorem test_switch_phase : switchPhase true 19661 (-969933) 0 = (989594, 0) ∧ switchPhase false (4 * 65536) (354 * 65536) 0 = (0, 350 * 65536) := by decide +kernel
/-- Chapter 07: the OPLL at INT 49, FRAC 0x26_E978_D4FE steered to +1.5 ppb adds 81 064 to FRAC in one update. -/
theorem test_opll_steer : let u : OpllUnit := { state := .locked, int := 49, frac := 0x26E978D4FE, nNom := (49 * 2 ^ 40 + 0x26E978D4FE : Nat), nCur := 49 * 2 ^ 40 + 0x26E978D4FE }
    (u.boundary (some 1536000)).nCur = u.nCur + 81064 := by decide +kernel
/-- Chapter 07: the count of R261 at 9 830.4 MHz passes from 98 301 to 98 307. -/
theorem test_gate_window : let u : OpllUnit := { configured := true, refHz := 98304000, int := 100, nCur := 100 * 2 ^ 40 }
    u.passes 98300 = false ∧ u.passes 98301 = true ∧ u.passes 98307 = true ∧ u.passes 98308 = false := by decide +kernel
/-- Chapter 08: the PI step of a free domain, i = -4.25 ppb and y = -404.25 ppb. -/
theorem test_servo : let u : TdUnit := ({ integ := 2000 * 1024 } : TdUnit).servo (800 * 65536) (1 / 8)
    u.integ = -4250 * 1024 ∧ u.y = -413952000 := by decide +kernel
/-- Chapter 08: the ZDA sentence of second 2 000 000 037. -/
theorem test_zda : zdaBytes (71 + 256 * 80) (({ utcOfs := 37 } : TodSet).utc 2000000037).1 =
    textBytes "$GPZDA,033320.00,18,05,2033,00,00*69" ++ [13, 10] := by decide +kernel
/-- Chapter 09: delta of die 3's exchange, 2 990 units. -/
theorem test_exchange : (((({ base with fused := { asym := [(14, 205)] } } : State).modLink 3 2 fun p => { p with state := .align }).exchange 3 2 0 253665 0 247480).link 3 2).exch = [2990] := by decide +kernel
/-- Chapter 09: a burst of 40 events within one handshake delivers a count of 15. -/
theorem test_burst : (({} : Crossing).pulses 40).1.next = 15 := by decide
/-- Chapter 10: five words of the default START program. -/
theorem test_default_words : [SInstr.add 2 true 0 (.imm 1 1), .read 1 0x40 0 0, .cmp 1 (.imm 0 0), .branch 1 5, .setField 2 0 1 0].map SInstr.encode =
    [0x42B00001, 0x29400000, 0x31800000, 0x39000005, 0x1A000800] := by decide
/-- A session on channel 2 expects 0x0123 and holds the message of chapter 12. -/
def posted : State := ((linked.modDpll 12 fun u => { u with cfg := { role := 1 } }).modDx 1 fun x => { x with mode := 2 }).modMbx 2 fun m =>
  { m with sess := some { port := 0, nextSeq := 0x123 }, h2cMask := 0, h2cDb := 1, h2cFull := true,
           h2c := [1, 0, 4, 4, 0x23, 1, 16, 0, 12, 0, 0, 0, 0, 0, 0, 0, 0, 0x90, 0xE8, 0xFF, 0xFF, 0xFF, 0xFF, 0xFF] ++ zeros 232 }
/-- FIPS 180-4: SHA-384 of the empty string, SHA-256 of "abc". -/
theorem test_sha : sha384 [] = 0x38b060a751ac96384cd9327eb1b1e36a21fdb71114be07434c0cc7bf63f6e1da274edebfe76f65fbd51ad2f14898b95b ∧
    sha256 [0x61, 0x62, 0x63] = 0xba7816bf8f01cfea414140de5dae2223b00361a396177a9cb410ff61f20015ad := by decide +kernel
/-- Chapter 12: the message is taken, forwarded to die 1, executed, answered and acknowledged. -/
theorem test_set_steer : let t := after1 (.dpllSetSteer 2) (after1 (.forwardedRequest 1) (after1 (.mbxMessageTake 2) posted))
    (t.mbx 2).c2h.take 8 = [0, 0, 4, 4, 0x23, 1, 0, 0] ∧ (t.mbx 2).ack = 0x01230000 ∧ (t.mbx 2).sess.map (·.nextSeq) = some 0x124 ∧
      (t.dpll 12).hostSteer = -1536000 := by decide +kernel
/-- Chapter 16: the balls of each package, by kind, fill its array; rows 20 and 39 are AA and BA; the EK part of R584. -/
theorem test_package : ([0, 1, 2, 3].all fun n => let p : Part := { diesLog2 := n }; decide (p.balls.sum = p.array ^ 2)) = true ∧
    rowName 19 = ['Y'] ∧ rowName 20 = ['A', 'A'] ∧ rowName 44 = ['B', 'F'] ∧
    ({ diesLog2 := 2, featX := false } : Part).orderCode = "TS8840-EK" ∧ ({ diesLog2 := 1 } : Part).region 3 14 = none := by decide +kernel

/-! ### The hypotheses of the statements are met -/

/-- States and operands that meet the hypotheses of HousekeepingCommandsComplete, clause by clause. -/
theorem met_HousekeepingCommandsComplete :
   (let s : State := ask (base) 7 0x0001 ([165] ++ zeros 7)
    let c : Nat := 7
    let m : Msg := msg 0x0001 ([165] ++ zeros 7)
    s.Ready c 0x0001 m) ∧
   (let s : State := ask (base) 0 0x0002 (zeros 4)
    let c : Nat := 0
    let m : Msg := msg 0x0002 (zeros 4)
    s.Ready c 0x0002 m) ∧
   (let s : State := ask (base) 0 0x0003 (zeros 4)
    let c : Nat := 0
    let m : Msg := msg 0x0003 (zeros 4)
    s.Ready c 0x0003 m) ∧
   (let s : State := ask (base) 3 0x0004 ([0, 0, 232, 3])
    let c : Nat := 3
    let m : Msg := msg 0x0004 ([0, 0, 232, 3])
    let p := m.payload
    s.Ready c 0x0004 m ∧
    c < 4 ∧
    uAt p 0 1 = 0 ∧
    uAt p 1 1 = 0 ∧
    1 ≤ uAt p 2 2 ∧
    uAt p 2 2 ≤ 1000) ∧
   (let s : State := ask (base) 0 0x0004 ([1, 7, 1, 0])
    let c : Nat := 0
    let m : Msg := msg 0x0004 ([1, 7, 1, 0])
    let p := m.payload
    s.Ready c 0x0004 m ∧
    c < 4 ∧
    uAt p 0 1 = 1 ∧
    1 ≤ uAt p 1 1 ∧
    uAt p 1 1 < 8 ∧
    s.fitted (uAt p 1 1) = true ∧
    (s.dieUp (uAt p 1 1) = true ∨ (s.dx (uAt p 1 1)).bootedOnce = true) ∧
    1 ≤ uAt p 2 2 ∧
    uAt p 2 2 ≤ 1000) ∧
   (let s : State := ask (base) 0 0x0005 (zeros 4)
    let c : Nat := 0
    let m : Msg := msg 0x0005 (zeros 4)
    let p := m.payload
    s.Ready c 0x0005 m ∧
    uAt p 0 4 = 0 ∧
    s.host.boot.rom = false) ∧
   (let s : State := ask (base) 0 0x0006 ([254, 127, 1, 0])
    let c : Nat := 0
    let m : Msg := msg 0x0006 ([254, 127, 1, 0])
    let p := m.payload
    s.Ready c 0x0006 m ∧
    (uAt p 0 2).testBit 0 = false ∧
    (uAt p 0 2).testBit 15 = false ∧
    uAt p 2 1 ≤ 1 ∧
    uAt p 3 1 = 0) ∧
   (let s : State := ask (base) 0 0x0007 ([15, 0, 0, 0])
    let c : Nat := 0
    let m : Msg := msg 0x0007 ([15, 0, 0, 0])
    let p := m.payload
    s.Ready c 0x0007 m ∧
    1 ≤ uAt p 0 1 ∧
    uAt p 0 1 ≤ 15 ∧
    uAt p 1 3 = 0) ∧
   (let s : State := ask (base) 0 0x0008 ([1, 4, 7, 0])
    let c : Nat := 0
    let m : Msg := msg 0x0008 ([1, 4, 7, 0])
    let p := m.payload
    s.Ready c 0x0008 m ∧
    uAt p 0 1 ≤ 1 ∧
    uAt p 1 1 ≤ 4 ∧
    1 ≤ uAt p 2 1 ∧
    uAt p 2 1 ≤ 7 ∧
    uAt p 3 1 = 0) ∧
   (let s : State := ask (base) 3 0x0009 ([1, 0, 0, 0])
    let c : Nat := 3
    let m : Msg := msg 0x0009 ([1, 0, 0, 0])
    let p := m.payload
    s.Ready c 0x0009 m ∧
    c < 4 ∧
    uAt p 0 1 = 1 ∧
    uAt p 1 3 = 0) ∧
   (let s : State := ask (base) 0 0x0009 ([3, 0, 0, 0])
    let c : Nat := 0
    let m : Msg := msg 0x0009 ([3, 0, 0, 0])
    let p := m.payload
    s.Ready c 0x0009 m ∧
    c < 4 ∧
    (uAt p 0 1 = 2 ∨ uAt p 0 1 = 3) ∧
    uAt p 1 3 = 0) ∧
   (let s : State := ask (base) 3 0x000E ([15, 0, 0, 0])
    let c : Nat := 3
    let m : Msg := msg 0x000E ([15, 0, 0, 0])
    let p := m.payload
    s.Ready c 0x000E m ∧
    c < 4 ∧
    uAt p 0 1 < 16 ∧
    uAt p 1 3 = 0) := by
  refine ⟨?_, ?_, ?_, ?_, ?_, ?_, ?_, ?_, ?_, ?_, ?_, ?_⟩
  · decide +kernel
  · decide +kernel
  · decide +kernel
  · decide +kernel
  · decide +kernel
  · decide +kernel
  · decide +kernel
  · decide +kernel
  · decide +kernel
  · decide +kernel
  · decide +kernel
  · decide +kernel

/-- States and operands that meet the hypotheses of SessionCommandsComplete, clause by clause. -/
theorem met_SessionCommandsComplete :
   (let s : State := ask (base) 7 0x000A ([0, 0, 254, 255, 52, 18, 0, 0])
    let c : Nat := 7
    let m : Msg := msg 0x000A ([0, 0, 254, 255, 52, 18, 0, 0])
    let p := m.payload
    s.Ready c 0x000A m ∧
    (s.mbx c).sess = none ∧
    uAt p 0 1 = 0 ∧
    uAt p 1 1 = 0 ∧
    uAt p 2 2 ≠ 0xFFFF) ∧
   (let s : State := ask (base.modMbx 4 fun x => { x with sess := some { id := 9, nonce := some (zeros 16) } }) 4 0x000B ([9] ++ zeros 35)
    let c : Nat := 4
    let m : Msg := msg 0x000B ([9] ++ zeros 35)
    let p := m.payload
    let q : Session := { id := 9, nonce := some (zeros 16) }
    s.Ready c 0x000B m ∧
    (s.mbx c).sess = some q ∧
    (s.port m.port).authLocked = false ∧
    uAt p 0 4 = q.id ∧
    q.nonce.isSome = true ∧
    (s.dx 0).otp.macOk (q.nonce.getD []) c q.port q.id ((p.drop 4).take 32) = true) ∧
   (let s : State := ask (base) 0 0x000C (zeros 4)
    let c : Nat := 0
    let m : Msg := msg 0x000C (zeros 4)
    let p := m.payload
    s.Ready c 0x000C m ∧
    uAt p 0 4 = 0) ∧
   (let s : State := ask (base) 3 0x000D ([1, 0, 89, 75, 1] ++ zeros 31)
    let c : Nat := 3
    let m : Msg := msg 0x000D ([1, 0, 89, 75, 1] ++ zeros 31)
    let p := m.payload
    s.Ready c 0x000D m ∧
    c < 4 ∧
    (s.dx 0).otp.portKey = false ∧
    uAt p 0 4 = 0x4B590001 ∧
    (p.drop 4).take 32 ≠ zeros 32 ∧
    ((s.dx 0).nv.queue.any fun j => decide (j.fin = .confirm)) = false) := by
  refine ⟨?_, ?_, ?_, ?_⟩
  · decide +kernel
  · decide +kernel
  · decide +kernel
  · decide +kernel

/-- States and operands that meet the hypotheses of InputAndTdcCommandsComplete, clause by clause. -/
theorem met_InputAndTdcCommandsComplete :
   (let s : State := ask ({ base with tb := { base.tb with tbEn := true, oscFreq := 1 } }) 0 0x0101 ([1, 14, 0, 0])
    let c : Nat := 0
    let m : Msg := msg 0x0101 ([1, 14, 0, 0])
    let p := m.payload
    s.Ready c 0x0101 m ∧
    c < 4 ∧
    s.tb.tbEn = true ∧
    s.tb.restart = false ∧
    uAt p 0 1 ≤ 1 ∧
    oscBad (uAt p 1 1) = false ∧
    uAt p 2 2 = 0) ∧
   (let s : State := ask (base) 0 0x0201 ([63, 1, 0, 6] ++ zeros 28)
    let c : Nat := 0
    let m : Msg := msg 0x0201 ([63, 1, 0, 6] ++ zeros 28)
    let p := m.payload
    let n := uAt p 0 2
    s.Ready c 0x0201 m ∧
    n < 320 ∧
    s.hasInput n = true ∧
    s.dieUp (dieOfInput n) = true ∧
    declBad n p = false) ∧
   (let s : State := ask (base.modInput 319 fun u => { u with configured := true }) 0 0x0202 ([63, 1, 0, 0, 2, 0, 1, 0, 0, 0, 4] ++ zeros 5 ++ [20, 0, 1, 0, 1] ++ zeros 7 ++ [128, 81, 1, 0])
    let c : Nat := 0
    let m : Msg := msg 0x0202 ([63, 1, 0, 0, 2, 0, 1, 0, 0, 0, 4] ++ zeros 5 ++ [20, 0, 1, 0, 1] ++ zeros 7 ++ [128, 81, 1, 0])
    let p := m.payload
    let n := uAt p 0 2
    s.Ready c 0x0202 m ∧
    n < 320 ∧
    s.hasInput n = true ∧
    s.dieUp (dieOfInput n) = true ∧
    (s.input n).configured = true ∧
    monBad n (s.input n).decl p = false) ∧
   (let s : State := ask (base) 0 0x0203 ([63, 1, 0, 0])
    let c : Nat := 0
    let m : Msg := msg 0x0203 ([63, 1, 0, 0])
    let p := m.payload
    let n := uAt p 0 2
    s.Ready c 0x0203 m ∧
    n < 320 ∧
    s.hasInput n = true ∧
    s.dieUp (dieOfInput n) = true ∧
    uAt p 2 2 = 0) ∧
   (let s : State := ask (base) 0 0x0204 ([63, 1, 3, 0])
    let c : Nat := 0
    let m : Msg := msg 0x0204 ([63, 1, 3, 0])
    let p := m.payload
    let n := uAt p 0 2
    s.Ready c 0x0204 m ∧
    n < 320 ∧
    s.hasInput n = true ∧
    s.dieUp (dieOfInput n) = true ∧
    1 ≤ uAt p 2 1 ∧
    uAt p 2 1 ≤ 3 ∧
    uAt p 3 1 = 0) ∧
   (let s : State := ask (base.modChan 383 fun u => { u with cal := .calibrated }) 0 0x0301 ([127, 1, 1, 0, 96, 4, 32, 0])
    let c : Nat := 0
    let m : Msg := msg 0x0301 ([127, 1, 1, 0, 96, 4, 32, 0])
    let p := m.payload
    let n := uAt p 0 2
    s.Ready c 0x0301 m ∧
    n < 384 ∧
    s.hasChan n = true ∧
    s.dieUp (dieOfChan n) = true ∧
    (s.chan n).cal.measures = true ∧
    uAt p 2 1 ≤ 1 ∧
    uAt p 3 1 = 0 ∧
    1 ≤ uAt p 6 1 ∧
    uAt p 6 1 ≤ 32 ∧
    uAt p 4 2 + uAt p 6 1 ≤ 1152 ∧
    uAt p 7 1 = 0) ∧
   (let s : State := ask (base) 0 0x0302 ([129, 0, 0, 0])
    let c : Nat := 0
    let m : Msg := msg 0x0302 ([129, 0, 0, 0])
    let p := m.payload
    s.Ready c 0x0302 m ∧
    let ds := (List.range 8).filter fun d => (uAt p 0 1).testBit d
    ds ≠ [] ∧
    (∀ d ∈ ds, s.dieUp d = true) ∧
    s.nvSaving = false ∧
    uAt p 1 3 = 0) ∧
   (let s : State := ask (base.modChan 383 fun u => { u with cal := .calibrated }) 0 0x0303 ([127, 1, 1, 0])
    let c : Nat := 0
    let m : Msg := msg 0x0303 ([127, 1, 1, 0])
    let p := m.payload
    let n := uAt p 0 2
    s.Ready c 0x0303 m ∧
    n < 384 ∧
    s.hasChan n = true ∧
    s.dieUp (dieOfChan n) = true ∧
    (s.chan n).cal.measures = true ∧
    uAt p 2 1 ≤ 1 ∧
    uAt p 2 1 ≠ (s.chan n).active ∧
    uAt p 3 1 = 0) := by
  refine ⟨?_, ?_, ?_, ?_, ?_, ?_, ?_, ?_⟩
  · decide +kernel
  · decide +kernel
  · decide +kernel
  · decide +kernel
  · decide +kernel
  · decide +kernel
  · decide +kernel
  · decide +kernel

/-- States and operands that meet the hypotheses of DpllCommandsComplete, clause by clause. -/
theorem met_DpllCommandsComplete :
   (let s : State := ask (base) 0 0x0401 ([63, 0, 1] ++ zeros 13 ++ [232, 3] ++ zeros 6 ++ [1] ++ zeros 7)
    let c : Nat := 0
    let m : Msg := msg 0x0401 ([63, 0, 1] ++ zeros 13 ++ [232, 3] ++ zeros 6 ++ [1] ++ zeros 7)
    let p := m.payload
    let n := uAt p 0 2
    let up := n < 64 ∧ s.dieUp (dieOfDpll n) = true
    s.Ready c 0x0401 m ∧
    up ∧
    (s.dpll n).enable = false ∧
    s.dpllCfgBad n p = false ∧
    ((dpllCfgOf p).opllMask ≠ 0 → (dpllCfgOf p).fbOutput < 128 → s.hasOut (dpllCfgOf p).fbOutput = true) ∧
    ((dpllCfgOf p).role = 2 → s.dieUp (dieOfDpll (dpllCfgOf p).leader) = true) ∧
    (∀ o < 4, (dpllCfgOf p).opllMask.testBit o = true → ∀ k, s.holderOf (4 * dieOfDpll n + o) = some k → k = n)) ∧
   (let s : State := ask (base.modDpll 63 fun u => { u with cfg := { role := 1 } }) 0 0x0402 ([63, 0, 7, 3, 64, 66, 15, 0, 16, 0, 232, 3, 0, 90, 98, 2, 32, 78, 0, 0, 1] ++ zeros 4 ++ [225, 245, 5] ++ zeros 4 ++ [144, 2] ++ zeros 6)
    let c : Nat := 0
    let m : Msg := msg 0x0402 ([63, 0, 7, 3, 64, 66, 15, 0, 16, 0, 232, 3, 0, 90, 98, 2, 32, 78, 0, 0, 1] ++ zeros 4 ++ [225, 245, 5] ++ zeros 4 ++ [144, 2] ++ zeros 6)
    let p := m.payload
    let n := uAt p 0 2
    let up := n < 64 ∧ s.dieUp (dieOfDpll n) = true
    let on := up ∧ (s.dpll n).cfg.role ≠ 0
    s.Ready c 0x0402 m ∧
    on ∧
    rowBad p = false) ∧
   (let s : State := ask (base) 0 0x0403 ([63, 0, 7, 0])
    let c : Nat := 0
    let m : Msg := msg 0x0403 ([63, 0, 7, 0])
    let p := m.payload
    let n := uAt p 0 2
    let up := n < 64 ∧ s.dieUp (dieOfDpll n) = true
    s.Ready c 0x0403 m ∧
    up ∧
    1 ≤ uAt p 2 1 ∧
    uAt p 2 1 ≤ 7 ∧
    uAt p 3 1 = 0) ∧
   (let s : State := ask (base.modDpll 63 fun u => { u with cfg := { role := 1 } }) 0 0x0404 ([63] ++ zeros 9 ++ [8, 175, 47, 0, 0, 0])
    let c : Nat := 0
    let m : Msg := msg 0x0404 ([63] ++ zeros 9 ++ [8, 175, 47, 0, 0, 0])
    let p := m.payload
    let n := uAt p 0 2
    let up := n < 64 ∧ s.dieUp (dieOfDpll n) = true
    let on := up ∧ (s.dpll n).cfg.role ≠ 0
    s.Ready c 0x0404 m ∧
    on ∧
    uAt p 2 6 = 0 ∧
    (sAt p 8 8).natAbs ≤ 204800000000) ∧
   (let s : State := ask (base.modDpll 63 fun u => { u with cfg := { role := 1 } }) 0 0x0405 ([63] ++ zeros 9 ++ [64, 66, 15, 0, 0, 0])
    let c : Nat := 0
    let m : Msg := msg 0x0405 ([63] ++ zeros 9 ++ [64, 66, 15, 0, 0, 0])
    let p := m.payload
    let n := uAt p 0 2
    let up := n < 64 ∧ s.dieUp (dieOfDpll n) = true
    let on := up ∧ (s.dpll n).cfg.role ≠ 0
    s.Ready c 0x0405 m ∧
    on ∧
    uAt p 2 6 = 0 ∧
    (sAt p 8 8).natAbs ≤ 65536000000 ∧
    ratAbs ((s.dpll n).res - (sAt p 8 8 : Rat)) ≤ 65536000000) ∧
   (let s : State := ask (base) 0 0x0406 ([63, 0, 0, 0])
    let c : Nat := 0
    let m : Msg := msg 0x0406 ([63, 0, 0, 0])
    let p := m.payload
    let n := uAt p 0 2
    let up := n < 64 ∧ s.dieUp (dieOfDpll n) = true
    s.Ready c 0x0406 m ∧
    up ∧
    uAt p 2 2 = 0) ∧
   (let s : State := ask (base.modDpll 63 fun u => { u with cfg := { role := 1 } }) 0 0x0407 ([63, 0, 0, 8])
    let c : Nat := 0
    let m : Msg := msg 0x0407 ([63, 0, 0, 8])
    let p := m.payload
    let n := uAt p 0 2
    let up := n < 64 ∧ s.dieUp (dieOfDpll n) = true
    let on := up ∧ (s.dpll n).cfg.role ≠ 0
    s.Ready c 0x0407 m ∧
    on ∧
    1 ≤ uAt p 3 1 ∧
    uAt p 3 1 ≤ 8 ∧
    uAt p 2 1 ≤ (s.dpll n).sel.cands.length) ∧
   (let s : State := ask (base.modDpll 63 fun u => { u with cfg := { role := 1 } }) 0 0x0501 ([63, 0, 2, 0, 63, 1] ++ zeros 30)
    let c : Nat := 0
    let m : Msg := msg 0x0501 ([63, 0, 2, 0, 63, 1] ++ zeros 30)
    let p := m.payload
    let n := uAt p 0 2
    let up := n < 64 ∧ s.dieUp (dieOfDpll n) = true
    let on := up ∧ (s.dpll n).cfg.role ≠ 0
    s.Ready c 0x0501 m ∧
    on ∧
    (s.dpll n).cfg.role ≠ 2 ∧
    uAt p 2 1 ≤ 16 ∧
    uAt p 3 1 = 0 ∧
    (∀ i ∈ candList p, s.hasInput i = true) ∧
    (candList p).Nodup ∧
    uAt p (4 + 2 * uAt p 2 1) (36 - (4 + 2 * uAt p 2 1)) = 0) ∧
   (let s : State := ask (base.modDpll 63 fun u => { u with cfg := { role := 1 }, sel := { u.sel with listPend := some [319] } }) 0 0x0502 ([63, 0, 3, 7, 63, 1] ++ zeros 10)
    let c : Nat := 0
    let m : Msg := msg 0x0502 ([63, 0, 3, 7, 63, 1] ++ zeros 10)
    let p := m.payload
    let n := uAt p 0 2
    let up := n < 64 ∧ s.dieUp (dieOfDpll n) = true
    let on := up ∧ (s.dpll n).cfg.role ≠ 0
    s.Ready c 0x0502 m ∧
    on ∧
    (s.dpll n).cfg.role ≠ 2 ∧
    uAt p 2 1 ≤ 3 ∧
    uAt p 3 1 < 8 ∧
    (uAt p 2 1 < 2 → uAt p 4 2 = 0x1FF) ∧
    (2 ≤ uAt p 2 1 → s.hasInput (uAt p 4 2) = true ∧ uAt p 4 2 ∈ (s.dpll n).sel.latest) ∧
    uAt p 10 6 = 0) ∧
   (let s : State := ask (base.modDpll 63 fun u => { u with cfg := { role := 1 } }) 0 0x0503 ([63, 0, 15, 7])
    let c : Nat := 0
    let m : Msg := msg 0x0503 ([63, 0, 15, 7])
    let p := m.payload
    let n := uAt p 0 2
    let up := n < 64 ∧ s.dieUp (dieOfDpll n) = true
    let on := up ∧ (s.dpll n).cfg.role ≠ 0
    s.Ready c 0x0503 m ∧
    on ∧
    (s.dpll n).cfg.role ≠ 2 ∧
    1 ≤ uAt p 3 1 ∧
    uAt p 3 1 ≤ 7 ∧
    ((s.dpll n).sel.log = [] ∨ uAt p 2 1 < (s.dpll n).sel.log.length) ∧
    uAt p 2 1 ≤ 15) ∧
   (let s : State := ask (base.modDpll 63 fun u => { u with cfg := { role := 1 } }) 0 0x0606 ([63, 0, 2, 0, 0, 32] ++ zeros 10)
    let c : Nat := 0
    let m : Msg := msg 0x0606 ([63, 0, 2, 0, 0, 32] ++ zeros 10)
    let p := m.payload
    let n := uAt p 0 2
    let up := n < 64 ∧ s.dieUp (dieOfDpll n) = true
    let on := up ∧ (s.dpll n).cfg.role ≠ 0
    s.Ready c 0x0606 m ∧
    on ∧
    (s.dpll n).state ≠ .holdover ∧
    uAt p 2 1 ≤ 2 ∧
    uAt p 3 1 ≤ 2 ∧
    uAt p 3 1 = (s.dpll n).ho.tick ∧
    uAt p 4 4 ≠ 0 ∧
    uAt p 4 4 % tickSec (uAt p 3 1) = 0 ∧
    uAt p 8 4 % tickSec (uAt p 3 1) = 0 ∧
    uAt p 4 4 + uAt p 8 4 ≤ 8192 * tickSec (uAt p 3 1) ∧
    uAt p 12 4 = 0) ∧
   (let s : State := ask (base.modDpll 63 fun u => { u with cfg := { role := 1 } }) 0 0x0607 ([63, 0, 0, 0])
    let c : Nat := 0
    let m : Msg := msg 0x0607 ([63, 0, 0, 0])
    let p := m.payload
    let n := uAt p 0 2
    let up := n < 64 ∧ s.dieUp (dieOfDpll n) = true
    let on := up ∧ (s.dpll n).cfg.role ≠ 0
    s.Ready c 0x0607 m ∧
    on ∧
    uAt p 2 2 = 0) := by
  refine ⟨?_, ?_, ?_, ?_, ?_, ?_, ?_, ?_, ?_, ?_, ?_, ?_⟩
  · exact (by exact ⟨by decide +kernel, by decide +kernel, by decide +kernel, by decide +kernel, by decide +kernel, by decide +kernel,
      fun o _ h => absurd (show (0 : Nat).testBit o = true from h) (by simp)⟩)
  · decide +kernel
  · decide +kernel
  · decide +kernel
  · decide +kernel
  · decide +kernel
  · decide +kernel
  · decide +kernel
  · decide +kernel
  · decide +kernel
  · decide +kernel
  · decide +kernel

/-- States and operands that meet the hypotheses of CairnCommandsComplete, clause by clause. -/
theorem met_CairnCommandsComplete :
   (let s : State := ask (base) 0 0x0601 ([15, 0, 1, 3] ++ zeros 10 ++ [1, 0, 64, 66, 15, 0, 16, 39, 128, 2, 64, 66, 15] ++ zeros 5)
    let c : Nat := 0
    let m : Msg := msg 0x0601 ([15, 0, 1, 3] ++ zeros 10 ++ [1, 0, 64, 66, 15, 0, 16, 39, 128, 2, 64, 66, 15] ++ zeros 5)
    let p := m.payload
    let o := uAt p 0 2
    let up := o < 16 ∧ s.noK o = false ∧ s.dieUp (dieOfOsc o) = true
    s.Ready c 0x0601 m ∧
    up ∧
    (s.part.featK = true ∨ uAt p 2 1 = 0 ∨ s.otherMember o = false) ∧
    memberBad p = false ∧
    (uAt p 2 1 = 1 → s.isMember o = false → (s.cairn.slots.all fun x => x.used) = false)) ∧
   (let s : State := ask (base) 0 0x0602 ([63, 0, 255, 255, 254, 16, 60, 0, 160, 5, 0, 0, 66, 14, 127, 1, 0, 0, 60] ++ zeros 5)
    let c : Nat := 0
    let m : Msg := msg 0x0602 ([63, 0, 255, 255, 254, 16, 60, 0, 160, 5, 0, 0, 66, 14, 127, 1, 0, 0, 60] ++ zeros 5)
    let p := m.payload
    s.Ready c 0x0602 m ∧
    let named := ((List.range 4).map fun i => uAt p i 1).filter (· ≠ 0xFF)
    (∀ k ∈ named, k < 64 ∧ s.dieUp (dieOfDpll k) = true ∧ (s.dpll k).cfg.role ≠ 2) ∧
    noRepeat named = true ∧
    uAt p 4 1 ≤ 254 ∧
    16 ≤ uAt p 5 1 ∧
    60 ≤ uAt p 6 2 ∧
    1 ≤ uAt p 8 2 ∧
    uAt p 8 2 ≤ 1440 ∧
    uAt p 10 2 ≤ 1440 ∧
    1 ≤ uAt p 12 2 ∧
    uAt p 12 2 ≤ 3650 ∧
    uAt p 14 1 < 128 ∧
    s.hasTd (uAt p 14 1) = true ∧
    1 ≤ uAt p 15 1 ∧
    60 ≤ uAt p 18 2 ∧
    uAt p 20 4 = 0) ∧
   (let s : State := ask (base) 0 0x0603 ([15, 0, 0, 0])
    let c : Nat := 0
    let m : Msg := msg 0x0603 ([15, 0, 0, 0])
    let p := m.payload
    let o := uAt p 0 2
    let up := o < 16 ∧ s.noK o = false ∧ s.dieUp (dieOfOsc o) = true
    s.Ready c 0x0603 m ∧
    up ∧
    uAt p 2 2 = 0) ∧
   (let s : State := ask (base) 0 0x0604 ([1, 128, 0, 0])
    let c : Nat := 0
    let m : Msg := msg 0x0604 ([1, 128, 0, 0])
    let p := m.payload
    let o := uAt p 0 2
    s.Ready c 0x0604 m ∧
    let os := (List.range 16).filter fun o => (uAt p 0 2).testBit o
    (∀ o ∈ os, s.hasOsc o = true ∧ s.noK o = false ∧ s.dieUp (dieOfOsc o) = true) ∧
    s.nvSaving = false ∧
    uAt p 2 2 = 0) ∧
   (let s : State := ask (base) 0 0x0605 ([15, 0, 0, 0])
    let c : Nat := 0
    let m : Msg := msg 0x0605 ([15, 0, 0, 0])
    let p := m.payload
    let o := uAt p 0 2
    let up := o < 16 ∧ s.noK o = false ∧ s.dieUp (dieOfOsc o) = true
    s.Ready c 0x0605 m ∧
    up ∧
    uAt p 2 2 = 0) := by
  refine ⟨?_, ?_, ?_, ?_, ?_⟩
  · decide +kernel
  · decide +kernel
  · decide +kernel
  · decide +kernel
  · decide +kernel

/-- States and operands that meet the hypotheses of OutputAndTimeCommandsComplete, clause by clause. -/
theorem met_OutputAndTimeCommandsComplete :
   (let s : State := ask (base) 0 0x0701 ([31, 0, 0, 2, 0, 225, 245, 5, 1, 0, 100] ++ zeros 21)
    let c : Nat := 0
    let m : Msg := msg 0x0701 ([31, 0, 0, 2, 0, 225, 245, 5, 1, 0, 100] ++ zeros 21)
    let p := m.payload
    let n := uAt p 0 2
    let pll := n < 32 ∧ s.dieUp (dieOfOpll n) = true
    s.Ready c 0x0701 m ∧
    pll ∧
    (s.opll n).enable = false ∧
    s.opllBad n p = false) ∧
   (let s : State := ask (base.modOpll 31 fun u => { u with state := .locked, configured := true, refHz := 100000000, rdiv := 1 }) 0 0x0702 ([31, 0, 208, 7, 100] ++ zeros 11)
    let c : Nat := 0
    let m : Msg := msg 0x0702 ([31, 0, 208, 7, 100] ++ zeros 11)
    let p := m.payload
    let n := uAt p 0 2
    let pll := n < 32 ∧ s.dieUp (dieOfOpll n) = true
    s.Ready c 0x0702 m ∧
    pll ∧
    (s.opll n).state = .locked ∧
    s.steererOf n = none ∧
    s.opllFreqBad n p = false) ∧
   (let s : State := ask (base.modOpll 31 fun u => { u with state := .locked, configured := true, refHz := 100000000, rdiv := 1 }) 0 0x0703 ([31, 0, 0, 0])
    let c : Nat := 0
    let m : Msg := msg 0x0703 ([31, 0, 0, 0])
    let p := m.payload
    let n := uAt p 0 2
    let pll := n < 32 ∧ s.dieUp (dieOfOpll n) = true
    s.Ready c 0x0703 m ∧
    pll ∧
    (s.opll n).state = .locked ∧
    uAt p 2 2 = 0) ∧
   (let s : State := ask (base) 0 0x0704 ([127, 0, 3, 1] ++ zeros 4 ++ [10] ++ zeros 23)
    let c : Nat := 0
    let m : Msg := msg 0x0704 ([127, 0, 3, 1] ++ zeros 4 ++ [10] ++ zeros 23)
    let p := m.payload
    let n := uAt p 0 2
    s.Ready c 0x0704 m ∧
    n < 128 ∧
    s.dieUp (dieOfOut n) = true ∧
    s.outBad n p = false ∧
    ((s.out n).state = .off ∨ (s.out n).state = .stopped)) ∧
   (let s : State := ask (base.modOut 127 fun u => { u with configured := true }) 0 0x0705 ([7, 1, 0, 128] ++ zeros 4)
    let c : Nat := 0
    let m : Msg := msg 0x0705 ([7, 1, 0, 128] ++ zeros 4)
    let p := m.payload
    s.Ready c 0x0705 m ∧
    uAt p 0 1 < 8 ∧
    s.dieUp (uAt p 0 1) = true ∧
    uAt p 1 1 < 2 ∧
    uAt p 2 2 ≠ 0 ∧
    uAt p 4 4 = 0 ∧
    (∀ x ∈ runOuts (uAt p 0 1) (uAt p 2 2), (s.out x).configured = true)) ∧
   (let s : State := ask (base.modOut 127 fun u => { u with configured := true }) 0 0x0705 ([7, 2, 0, 128] ++ zeros 4)
    let c : Nat := 0
    let m : Msg := msg 0x0705 ([7, 2, 0, 128] ++ zeros 4)
    let p := m.payload
    s.Ready c 0x0705 m ∧
    uAt p 0 1 < 8 ∧
    s.dieUp (uAt p 0 1) = true ∧
    uAt p 1 1 = 2 ∧
    uAt p 2 2 ≠ 0 ∧
    uAt p 4 4 = 0 ∧
    (∀ x ∈ runOuts (uAt p 0 1) (uAt p 2 2), (s.out x).configured = true)) ∧
   (let s : State := ask (base) 0 0x0801 ([127, 0, 3, 63] ++ zeros 8 ++ [80, 195, 0, 0, 100, 0, 128, 62] ++ zeros 12)
    let c : Nat := 0
    let m : Msg := msg 0x0801 ([127, 0, 3, 63] ++ zeros 8 ++ [80, 195, 0, 0, 100, 0, 128, 62] ++ zeros 12)
    let p := m.payload
    let n := uAt p 0 2
    let td := n < 128 ∧ s.dieUp (dieOfTd n) = true
    s.Ready c 0x0801 m ∧
    td ∧
    tdSetBad p = false ∧
    ((tdSetOf p).syn = true → s.hasDpll (tdSetOf p).synDpll = true)) ∧
   (let s : State := ask (base) 0 0x0802 ([127, 0, 0, 0])
    let c : Nat := 0
    let m : Msg := msg 0x0802 ([127, 0, 0, 0])
    let p := m.payload
    let n := uAt p 0 2
    let td := n < 128 ∧ s.dieUp (dieOfTd n) = true
    s.Ready c 0x0802 m ∧
    td ∧
    uAt p 2 2 = 0) ∧
   (let s : State := ask (base.modTd 127 fun u => { u with state := .freerun }) 0 0x0803 ([127, 0, 1] ++ zeros 29 ++ [1] ++ zeros 7)
    let c : Nat := 0
    let m : Msg := msg 0x0803 ([127, 0, 1] ++ zeros 29 ++ [1] ++ zeros 7)
    let p := m.payload
    let n := uAt p 0 2
    let td := n < 128 ∧ s.dieUp (dieOfTd n) = true
    s.Ready c 0x0803 m ∧
    td ∧
    (s.td n).state ≠ .off ∧
    (s.td n).held = false ∧
    s.timeBad p = false) ∧
   (let s : State := ask (base) 0 0x0804 ([127, 0, 0, 0])
    let c : Nat := 0
    let m : Msg := msg 0x0804 ([127, 0, 0, 0])
    let p := m.payload
    let n := uAt p 0 2
    let td := n < 128 ∧ s.dieUp (dieOfTd n) = true
    s.Ready c 0x0804 m ∧
    td ∧
    uAt p 2 2 = 0) ∧
   (let s : State := ask (base) 0 0x0805 ([127, 0, 2, 8] ++ zeros 12)
    let c : Nat := 0
    let m : Msg := msg 0x0805 ([127, 0, 2, 8] ++ zeros 12)
    let p := m.payload
    let n := uAt p 0 2
    let td := n < 128 ∧ s.dieUp (dieOfTd n) = true
    s.Ready c 0x0805 m ∧
    td ∧
    todBad p = false) := by
  refine ⟨?_, ?_, ?_, ?_, ?_, ?_, ?_, ?_, ?_, ?_, ?_⟩
  · decide +kernel
  · decide +kernel
  · decide +kernel
  · decide +kernel
  · decide +kernel
  · decide +kernel
  · decide +kernel
  · decide +kernel
  · decide +kernel
  · decide +kernel
  · decide +kernel

/-- States and operands that meet the hypotheses of StitchCommandsComplete, clause by clause. -/
theorem met_StitchCommandsComplete :
   (let s : State := ask (base) 3 0x0901 ([223, 0, 7] ++ zeros 133)
    let c : Nat := 3
    let m : Msg := msg 0x0901 ([223, 0, 7] ++ zeros 133)
    let p := m.payload
    let e := uAt p 0 2
    let up := e < 224 ∧ s.dieUp (dieOfStitch e) = true
    s.Ready c 0x0901 m ∧
    c < 4 ∧
    up ∧
    uAt p 2 1 < 8 ∧
    uAt p 3 5 = 0) ∧
   (let s : State := ask (base) 3 0x0902 (leBytes 2 223 ++ leBytes 2 256 ++ leBytes 4 0xFFFFFFFF ++ leBytes 4 (crc32c (zeros 1024)).toNat)
    let c : Nat := 3
    let m : Msg := msg 0x0902 (leBytes 2 223 ++ leBytes 2 256 ++ leBytes 4 0xFFFFFFFF ++ leBytes 4 (crc32c (zeros 1024)).toNat)
    let p := m.payload
    let e := uAt p 0 2
    let up := e < 224 ∧ s.dieUp (dieOfStitch e) = true
    s.Ready c 0x0902 m ∧
    c < 4 ∧
    up ∧
    let entries := (List.range 4).map fun i => uAt p (4 + i) 1
    let prog := stagedWords (s.stitch e).staging
    1 ≤ uAt p 2 2 ∧
    uAt p 2 2 ≤ 256 ∧
    commitFail prog (classOf e) (uAt p 2 2) entries (BitVec.ofNat 32 (uAt p 8 4)) = none) ∧
   (let s : State := ask (base) 0 0x0903 ([223, 0, 0, 0])
    let c : Nat := 0
    let m : Msg := msg 0x0903 ([223, 0, 0, 0])
    let p := m.payload
    let e := uAt p 0 2
    let up := e < 224 ∧ s.dieUp (dieOfStitch e) = true
    s.Ready c 0x0903 m ∧
    c < 4 ∧
    up ∧
    uAt p 2 2 = 0) ∧
   (let s : State := ask (base.modStitch 223 fun u => { u with enable := true, loaded := true, entries := [0, 0, 0, 0] }) 0 0x0904 ([223, 0, 0, 0])
    let c : Nat := 0
    let m : Msg := msg 0x0904 ([223, 0, 0, 0])
    let p := m.payload
    let e := uAt p 0 2
    let up := e < 224 ∧ s.dieUp (dieOfStitch e) = true
    s.Ready c 0x0904 m ∧
    up ∧
    classOf e ≠ 0 ∧
    (s.stitch e).ready (hostPoint e) = true ∧
    uAt p 2 2 = 0 ∧
    ((s.stitch e).trig.any fun t => decide (t.1 = hostPoint e)) = false) := by
  refine ⟨?_, ?_, ?_, ?_⟩
  · decide +kernel
  · exact (by
    intro s c m p e up
    have hk : ∀ k : Word, BitVec.ofNat 32 (uAt (leBytes 2 223 ++ leBytes 2 256 ++ leBytes 4 0xFFFFFFFF ++ leBytes 4 k.toNat) 8 4) = k := by
      intro k
      apply BitVec.eq_of_toNat_eq
      have := k.isLt
      simp [uAt, leBytes, leVal]
      omega
    refine ⟨ask_ready _ _ _ _ (by decide +kernel), by decide, by decide +kernel, ?_⟩
    intro entries prog
    refine ⟨by decide +kernel, by decide +kernel, ?_⟩
    unfold commitFail
    have hz : prog.flatMap (fun w => leBytes 4 w.toNat) = zeros 1024 := by decide +kernel
    have h8 : BitVec.ofNat 32 (uAt p 8 4) = crc32c (zeros 1024) := hk _
    rw [h8, if_neg (not_not.mpr (congrArg crc32c hz))]
    decide +kernel)
  · decide +kernel
  · decide +kernel

/-- States and operands that meet the hypotheses of BootCommandsComplete, clause by clause. -/
theorem met_BootCommandsComplete :
   (let s : State := ask (base) 0 0x0A01 ([2] ++ zeros 199)
    let c : Nat := 0
    let m : Msg := msg 0x0A01 ([2] ++ zeros 199)
    let p := m.payload
    s.Ready c 0x0A01 m ∧
    bootDenied c = false ∧
    (uAt p 0 1 = 2 ∨ uAt p 0 1 = 1 ∧ s.host.boot.download = true) ∧
    uAt p 1 1 = 0 ∧
    let old := if uAt p 4 4 = 0 then [] else if uAt p 0 1 = 1 then s.host.boot.leadBuf else s.host.boot.unitBuf
    old.length = uAt p 4 4 ∧
    1 ≤ (p.drop 8).length ∧
    (p.drop 8).length ≤ 192 ∧
    old.length + (p.drop 8).length < 1024) ∧
   (let s : State := ask (base) 0 0x0A03 ([2, 1, 192] ++ zeros 5)
    let c : Nat := 0
    let m : Msg := msg 0x0A03 ([2, 1, 192] ++ zeros 5)
    let p := m.payload
    s.Ready c 0x0A03 m ∧
    bootDenied c = false ∧
    s.host.flashOp = none ∧
    uAt p 0 1 = 2 ∧
    uAt p 1 1 ≤ 1 ∧
    (s.host.boot.srcHost = true ∨ uAt p 1 1 ≠ s.host.boot.slot) ∧
    1 ≤ uAt p 2 2 ∧
    uAt p 2 2 ≤ 192 ∧
    uAt p 4 4 + uAt p 2 2 ≤ slotSize) ∧
   (let s : State := ask (base) 0 0x0A03 ([0, 1] ++ zeros 6)
    let c : Nat := 0
    let m : Msg := msg 0x0A03 ([0, 1] ++ zeros 6)
    let p := m.payload
    s.Ready c 0x0A03 m ∧
    bootDenied c = false ∧
    s.host.flashOp = none ∧
    uAt p 0 1 ≤ 1 ∧
    uAt p 1 1 ≤ 1 ∧
    (s.host.boot.srcHost = true ∨ uAt p 1 1 ≠ s.host.boot.slot) ∧
    (if uAt p 0 1 = 0 then uAt p 2 2 = 0 ∧ uAt p 4 4 % 65536 = 0 else 1 ≤ uAt p 2 2 ∧ uAt p 2 2 ≤ 192) ∧
    uAt p 4 4 + uAt p 2 2 ≤ slotSize ∧
    uAt p 4 4 < slotSize ∧
    s.savingNow 0 = false) ∧
   (let s : State := ask (base) 0 0x0A04 ([1, 0, 0, 0])
    let c : Nat := 0
    let m : Msg := msg 0x0A04 ([1, 0, 0, 0])
    let p := m.payload
    s.Ready c 0x0A04 m ∧
    bootDenied c = false ∧
    s.host.boot.srcHost = false ∧
    uAt p 0 1 ≤ 1 ∧
    uAt p 1 3 = 0 ∧
    s.savingNow 0 = false) ∧
   (let s : State := ask (base) 0 0x0A05 ([7, 2, 15, 3] ++ zeros 4 ++ [127, 0, 3, 1] ++ zeros 4 ++ [10] ++ zeros 23)
    let c : Nat := 0
    let m : Msg := msg 0x0A05 ([7, 2, 15, 3] ++ zeros 4 ++ [127, 0, 3, 1] ++ zeros 4 ++ [10] ++ zeros 23)
    let p := m.payload
    s.Ready c 0x0A05 m ∧
    bootDenied c = false ∧
    uAt p 0 1 < 8 ∧
    s.dieUp (uAt p 0 1) = true ∧
    uAt p 3 1 < 4 ∧
    let d := uAt p 0 1
    let kind := uAt p 1 1
    let idx := uAt p 2 1
    let present := (uAt p 3 1).testBit 0
    let blk := (p.drop 8).take 32
    kind ≤ 4 ∧
    (kind = 0 → d = 0) ∧
    (kind = 1 → idx < 4) ∧
    (kind = 2 → idx < 16) ∧
    (kind ≠ 1 → kind ≠ 2 → idx = 0) ∧
    (kind ≠ 2 → (uAt p 3 1).testBit 1 = false) ∧
    uAt p 4 4 = 0 ∧
    (present = true ∨ 3 ≤ kind → s.blockBad d kind idx blk = false) ∧
    (present = true → s.blockAbsent kind blk = false) ∧
    (3 ≤ kind → s.savingNow d = false)) := by
  refine ⟨?_, ?_, ?_, ?_, ?_⟩
  · decide +kernel
  · decide +kernel
  · decide +kernel
  · decide +kernel
  · decide +kernel

/-- States and operands that meet the hypotheses of DmaCommandsComplete, clause by clause. -/
theorem met_DmaCommandsComplete :
   (let s : State := ask ({ base with host := { base.host with linkUp := true, bme := true } }) 0 0x0B01 ([15, 1, 24, 2, 15, 223, 223, 0, 0, 240, 255, 255, 255, 255, 255, 255, 16] ++ zeros 7 ++ [255, 255, 1] ++ zeros 5)
    let c : Nat := 0
    let m : Msg := msg 0x0B01 ([15, 1, 24, 2, 15, 223, 223, 0, 0, 240, 255, 255, 255, 255, 255, 255, 16] ++ zeros 7 ++ [255, 255, 1] ++ zeros 5)
    let p := m.payload
    let r := uAt p 0 1
    s.Ready c 0x0B01 m ∧
    c < 4 ∧
    s.part.featX = true ∧
    s.host.linkUp = true ∧
    s.host.bme = true ∧
    (s.ring r).enable = false ∧
    r < 16 ∧
    uAt p 1 1 = 1 ∧
    12 ≤ uAt p 2 1 ∧
    uAt p 2 1 ≤ 24 ∧
    (uAt p 3 1 = 1 ∧ uAt p 6 1 ≤ 127 ∨ uAt p 3 1 = 2 ∧ uAt p 6 1 ≤ 223) ∧
    1 ≤ uAt p 4 1 ∧
    uAt p 4 1 ≤ 15 ∧
    uAt p 5 1 ≤ uAt p 6 1 ∧
    uAt p 7 1 = 0 ∧
    uAt p 8 8 % 4096 = 0 ∧
    uAt p 16 8 % 16 = 0 ∧
    1 ≤ uAt p 24 2 ∧
    uAt p 24 2 ≤ min (2 ^ uAt p 2 1 / 16 / 2) 65535 ∧
    1 ≤ uAt p 26 2 ∧
    uAt p 28 4 = 0) ∧
   (let s : State := ask ({ base with host := { base.host with linkUp := true, bme := true } }) 0 0x0B01 ([15] ++ zeros 31)
    let c : Nat := 0
    let m : Msg := msg 0x0B01 ([15] ++ zeros 31)
    let p := m.payload
    let r := uAt p 0 1
    s.Ready c 0x0B01 m ∧
    c < 4 ∧
    s.part.featX = true ∧
    r < 16 ∧
    uAt p 1 1 = 0 ∧
    uAt p 2 1 = 0 ∧
    uAt p 3 1 = 0 ∧
    uAt p 7 1 = 0 ∧
    uAt p 28 4 = 0) ∧
   (let s : State := ask (base) 0 0x0B02 ([255, 0, 0, 0])
    let c : Nat := 0
    let m : Msg := msg 0x0B02 ([255, 0, 0, 0])
    let p := m.payload
    let r := uAt p 0 1
    s.Ready c 0x0B02 m ∧
    (r < 16 ∧ s.part.featX = true ∨ r = 0xFF) ∧
    uAt p 1 3 = 0) ∧
   (let s : State := ask (base) 0 0x0B03 ([127, 0, 31, 3])
    let c : Nat := 0
    let m : Msg := msg 0x0B03 ([127, 0, 31, 3])
    let p := m.payload
    s.Ready c 0x0B03 m ∧
    c < 4 ∧
    uAt p 0 2 < 128 ∧
    (uAt p 0 2 < 11 ∨ 16 ≤ uAt p 0 2) ∧
    s.srcAbsent (uAt p 0 2) = false ∧
    (uAt p 2 1 = 0xFF ∨ uAt p 2 1 ≤ 31 ∧ s.part.featX = true) ∧
    uAt p 3 1 < 4) := by
  refine ⟨?_, ?_, ?_, ?_⟩
  · decide +kernel
  · decide +kernel
  · decide +kernel
  · decide +kernel

/-- States and operands that meet the hypotheses of NvCommandsComplete, clause by clause. -/
theorem met_NvCommandsComplete :
   (let s : State := ask (base) 0 0x0C01 ([7, 7, 192, 0, 64, 95, 0, 0])
    let c : Nat := 0
    let m : Msg := msg 0x0C01 ([7, 7, 192, 0, 64, 95, 0, 0])
    let p := m.payload
    let d := uAt p 0 1
    let part := uAt p 1 1
    let off := uAt p 4 4
    let up := d < 8 ∧ s.dieUp d = true
    s.Ready c 0x0C01 m ∧
    up ∧
    1 ≤ part ∧
    part < 8 ∧
    s.partOk c d part false = true ∧
    1 ≤ uAt p 2 1 ∧
    uAt p 2 1 ≤ 192 ∧
    uAt p 3 1 = 0 ∧
    off + uAt p 2 1 ≤ 24576) ∧
   (let s : State := ask (base) 0 0x0C02 ([7, 7, 64, 0, 192, 95] ++ zeros 66)
    let c : Nat := 0
    let m : Msg := msg 0x0C02 ([7, 7, 64, 0, 192, 95] ++ zeros 66)
    let p := m.payload
    let d := uAt p 0 1
    let part := uAt p 1 1
    let off := uAt p 4 4
    let up := d < 8 ∧ s.dieUp d = true
    s.Ready c 0x0C02 m ∧
    up ∧
    1 ≤ part ∧
    part < 8 ∧
    s.partOk c d part true = true ∧
    1 ≤ uAt p 2 1 ∧
    uAt p 2 1 ≤ 64 ∧
    uAt p 3 1 = 0 ∧
    off + uAt p 2 1 ≤ 24576 ∧
    off % 64 + uAt p 2 1 ≤ 64) ∧
   (let s : State := ask (base) 0 0x0C03 ([7, 7, 1] ++ zeros 9)
    let c : Nat := 0
    let m : Msg := msg 0x0C03 ([7, 7, 1] ++ zeros 9)
    let p := m.payload
    let d := uAt p 0 1
    let part := uAt p 1 1
    let up := d < 8 ∧ s.dieUp d = true
    s.Ready c 0x0C03 m ∧
    up ∧
    1 ≤ part ∧
    part < 8 ∧
    (s.dx d).nv.isLocked part = false ∧
    uAt p 2 1 ≤ 1 ∧
    uAt p 3 1 = 0 ∧
    (s.dx d).nv.passwords.getD (passIdx part (decide (uAt p 2 1 = 1))) [] = p.drop 4) ∧
   (let s : State := ask (base) 0 0x0C03 ([7, 7, 2] ++ zeros 9)
    let c : Nat := 0
    let m : Msg := msg 0x0C03 ([7, 7, 2] ++ zeros 9)
    let p := m.payload
    let d := uAt p 0 1
    let part := uAt p 1 1
    let up := d < 8 ∧ s.dieUp d = true
    s.Ready c 0x0C03 m ∧
    up ∧
    1 ≤ part ∧
    part < 8 ∧
    (s.dx d).nv.isLocked part = false ∧
    uAt p 2 1 = 2 ∧
    uAt p 3 1 = 0 ∧
    uAt p 4 8 = 0) ∧
   (let s : State := ask (base) 0 0x0C04 ([7, 7, 1] ++ zeros 13)
    let c : Nat := 0
    let m : Msg := msg 0x0C04 ([7, 7, 1] ++ zeros 13)
    let p := m.payload
    let d := uAt p 0 1
    let part := uAt p 1 1
    let up := d < 8 ∧ s.dieUp d = true
    s.Ready c 0x0C04 m ∧
    up ∧
    1 ≤ part ∧
    part < 8 ∧
    s.partOk c d part true = true ∧
    uAt p 2 1 ≤ 1 ∧
    uAt p 3 5 = 0) ∧
   (let s : State := ask (base) 3 0x0C04 ([7, 7, 2] ++ zeros 13)
    let c : Nat := 3
    let m : Msg := msg 0x0C04 ([7, 7, 2] ++ zeros 13)
    let p := m.payload
    let d := uAt p 0 1
    let part := uAt p 1 1
    let up := d < 8 ∧ s.dieUp d = true
    s.Ready c 0x0C04 m ∧
    c < 4 ∧
    up ∧
    1 ≤ part ∧
    part < 8 ∧
    uAt p 2 1 = 2 ∧
    uAt p 3 5 = 0 ∧
    uAt p 8 8 = 0) ∧
   (let s : State := ask (base) 0 0x0C05 ([7, 0, 0, 0])
    let c : Nat := 0
    let m : Msg := msg 0x0C05 ([7, 0, 0, 0])
    let p := m.payload
    let d := uAt p 0 1
    let up := d < 8 ∧ s.dieUp d = true
    s.Ready c 0x0C05 m ∧
    up ∧
    uAt p 1 3 = 0) := by
  refine ⟨?_, ?_, ?_, ?_, ?_, ?_, ?_⟩
  · decide +kernel
  · decide +kernel
  · decide +kernel
  · decide +kernel
  · decide +kernel
  · decide +kernel
  · decide +kernel

/-- States and operands that meet the hypotheses of PowerCommandsComplete, clause by clause. -/
theorem met_PowerCommandsComplete :
   (let s : State := ask (base) 3 0x0D01 ([88, 2, 232, 3, 3, 0, 0, 0])
    let c : Nat := 3
    let m : Msg := msg 0x0D01 ([88, 2, 232, 3, 3, 0, 0, 0])
    let p := m.payload
    s.Ready c 0x0D01 m ∧
    c < 4 ∧
    10 ≤ uAt p 0 2 ∧
    uAt p 0 2 ≤ 600 ∧
    1 ≤ uAt p 2 2 ∧
    uAt p 2 2 ≤ 1000 ∧
    uAt p 4 1 < 4 ∧
    uAt p 5 3 = 0) ∧
   (let s : State := ask ({ base with tb := { base.tb with tbEn := true, oscFreq := 14 } }) 0 0x0D02 ([89, 65, 76, 66])
    let c : Nat := 0
    let m : Msg := msg 0x0D02 ([89, 65, 76, 66])
    let p := m.payload
    s.Ready c 0x0D02 m ∧
    c < 4 ∧
    uAt p 0 4 = 0x424C4159 ∧
    s.tb.tbEn = true) ∧
   (let s : State := ask (base) 0 0x0D03 (zeros 4)
    let c : Nat := 0
    let m : Msg := msg 0x0D03 (zeros 4)
    let p := m.payload
    s.Ready c 0x0D03 m ∧
    uAt p 0 4 = 0) ∧
   (let s : State := ask (base) 0 0x0D04 ([7, 0, 0, 0])
    let c : Nat := 0
    let m : Msg := msg 0x0D04 ([7, 0, 0, 0])
    let p := m.payload
    let d := uAt p 0 1
    s.Ready c 0x0D04 m ∧
    d < 8 ∧
    s.dieUp d = true ∧
    uAt p 1 3 = 0) ∧
   (let s : State := ask (base) 0 0x0D05 ([7, 0, 0, 0])
    let c : Nat := 0
    let m : Msg := msg 0x0D05 ([7, 0, 0, 0])
    let p := m.payload
    let d := uAt p 0 1
    s.Ready c 0x0D05 m ∧
    d < 8 ∧
    s.dieUp d = true ∧
    uAt p 1 3 = 0) := by
  refine ⟨?_, ?_, ?_, ?_, ?_⟩
  · decide +kernel
  · decide +kernel
  · decide +kernel
  · decide +kernel
  · decide +kernel

/-- States and operands that meet the hypotheses of TimebaseAndInputWritesComplete, clause by clause. -/
theorem met_TimebaseAndInputWritesComplete :
   (let s : State := base
    let p : Path := .spi
    s.pathLive p = true) ∧
   (let s : State := base
    let p : Path := .spi
    s.pathLive p = true ∧
    let w : Word := 0x000000E2#32
    bit w 0 = s.tb.master) ∧
   (let s : State := base
    let p : Path := .spi
    s.pathLive p = true ∧
    let w : Word := 0x000000E3#32
    bit w 0 ≠ s.tb.master) ∧
   (let s : State := base
    let p : Path := .cp 7
    s.pathLive p = true ∧
    let w : Word := 0x000000E3#32
    s.tb.tbEn = false ∧
    oscBad (fld w 4 4) = false) ∧
   (let s : State := base
    let p : Path := .i2c
    s.pathLive p = true ∧
    let w : Word := 0x000000F0#32
    s.tb.tbEn = false ∧
    oscBad (fld w 4 4) = true) ∧
   (let s : State := base
    let p : Path := .i2c
    s.pathLive p = true ∧
    s.tb.tbEn = false) ∧
   (let s : State := live
    let p : Path := .i2c
    s.pathLive p = true ∧
    s.tb.tbEn = true) ∧
   (let s : State := base
    let p : Path := .cp 7
    s.pathLive p = true ∧
    let n := 319
    s.hasInput n = true) ∧
   (let s : State := base
    let p : Path := .spi
    s.pathLive p = true ∧
    let n := 0
    s.hasInput n = true) ∧
   (let s : State := base
    let p : Path := .spi
    s.pathLive p = true ∧
    let n := 191
    s.hasInput n = true) := by
  refine ⟨?_, ?_, ?_, ?_, ?_, ?_, ?_, ?_, ?_, ?_⟩
  · decide +kernel
  · decide +kernel
  · decide +kernel
  · decide +kernel
  · decide +kernel
  · decide +kernel
  · decide +kernel
  · decide +kernel
  · decide +kernel
  · decide +kernel

/-- States and operands that meet the hypotheses of DpllWritesComplete, clause by clause. -/
theorem met_DpllWritesComplete :
   (let s : State := base
    let p : Path := .cp 7
    let n : Nat := 63
    s.pathLive p = true ∧
    s.hasDpll n = true) ∧
   (let s : State := base
    let p : Path := .spi
    let n : Nat := 63
    s.pathLive p = true ∧
    s.hasDpll n = true) := by
  refine ⟨?_, ?_⟩
  · decide +kernel
  · decide +kernel

/-- States and operands that meet the hypotheses of SynthesisAndTimeWritesComplete, clause by clause. -/
theorem met_SynthesisAndTimeWritesComplete :
   (let s : State := base
    let p : Path := .spi
    let n : Nat := 31
    s.pathLive p = true ∧
    s.hasOpll n = true) ∧
   (let s : State := base
    let p : Path := .spi
    let n : Nat := 127
    s.pathLive p = true ∧
    s.hasOut n = true) ∧
   (let s : State := base
    let p : Path := .spi
    let n : Nat := 127
    s.pathLive p = true ∧
    s.hasOut n = true ∧
    (s.out n).run = false) ∧
   (let s : State := base.modOut 127 fun u => { u with run := true }
    let p : Path := .spi
    let n : Nat := 127
    s.pathLive p = true ∧
    s.hasOut n = true ∧
    (s.out n).run = true) ∧
   (let s : State := base
    let p : Path := .spi
    let n : Nat := 127
    s.pathLive p = true ∧
    s.hasOut n = true ∧
    let r := 0x28
    (r = 0x10 ∨ r = 0x14 ∨ r = 0x28)) ∧
   (let s : State := base
    let p : Path := .spi
    let n : Nat := 127
    s.pathLive p = true ∧
    s.hasTd n = true) ∧
   (let s : State := base
    let p : Path := .spi
    let n : Nat := 127
    s.pathLive p = true ∧
    s.hasEv n = true) := by
  refine ⟨?_, ?_, ?_, ?_, ?_, ?_, ?_⟩
  · decide +kernel
  · decide +kernel
  · decide +kernel
  · decide +kernel
  · decide +kernel
  · decide +kernel
  · decide +kernel

/-- States and operands that meet the hypotheses of EngineAndMailboxWritesComplete, clause by clause. -/
theorem met_EngineAndMailboxWritesComplete :
   (let s : State := base
    let p : Path := .spi
    s.pathLive p = true ∧
    let e := 223
    s.hasStitch e = true) ∧
   (let s : State := base
    let p : Path := .spi
    s.pathLive p = true ∧
    let e := 223
    s.hasStitch e = true) ∧
   (let s : State := base
    let p : Path := .spi
    s.pathLive p = true ∧
    let c := 7
    c < 8 ∧
    let off := 0x80000 + 0x800 * c
    s.violates p 0 (off + 0x204) true = false ∧
    bit (s.mbx c).h2cDb 0 = false) ∧
   (let s : State := base.modMbx 7 fun m => { m with h2cDb := 1 }
    let p : Path := .spi
    s.pathLive p = true ∧
    let c := 7
    c < 8 ∧
    let off := 0x80000 + 0x800 * c
    s.violates p 0 (off + 0x204) true = false ∧
    bit (s.mbx c).h2cDb 0 = true) ∧
   (let s : State := base
    let p : Path := .i2c
    s.pathLive p = true ∧
    let c := 7
    c < 8 ∧
    let off := 0x80000 + 0x800 * c
    s.violates p 0 (off + 0x20C) true = false) ∧
   (let s : State := base
    let p : Path := .i2c
    s.pathLive p = true ∧
    let c := 7
    c < 8 ∧
    let off := 0x80000 + 0x800 * c
    let i := 63
    i < 64 ∧
    s.violates p 0 (off + 4 * i) true = false) ∧
   (let s : State := base.modAbort fun a => { a with result := 1 }
    let p : Path := .spi
    s.pathLive p = true ∧
    s.host.abort.result = 1) ∧
   (let s : State := base
    let p : Path := .spi
    s.pathLive p = true ∧
    let w := 0x00005007#32
    let d := 0
    s.host.abort.result ≠ 1 ∧
    abortDie (fld w 12 4) (fld w 0 12) = some d ∧
    s.fitted d = true ∧
    (d = 0 ∨ s.dieUp d = true) ∧
    (fld w 12 4 = 3 → s.part.featX = true) ∧
    (s.secureBy p = true ∨ fld w 12 4 = 5 ∧ 4 ≤ fld w 0 12)) := by
  refine ⟨?_, ?_, ?_, ?_, ?_, ?_, ?_, ?_⟩
  · decide +kernel
  · decide +kernel
  · decide +kernel
  · decide +kernel
  · decide +kernel
  · decide +kernel
  · decide +kernel
  · decide +kernel

/-- States and operands that meet the hypotheses of SemaphoreAndInterruptWritesComplete, clause by clause. -/
theorem met_SemaphoreAndInterruptWritesComplete :
   (let s : State := base
    let p : Path := .i2c
    s.pathLive p = true ∧
    let n := 63
    let i := 2
    n < 64 ∧
    portIdx p = some i ∧
    s.semOwner n = 0) ∧
   (let s : State := base.setSem 63 1
    let p : Path := .i2c
    s.pathLive p = true ∧
    let n := 63
    let i := 2
    n < 64 ∧
    portIdx p = some i ∧
    s.semOwner n ≠ 0) ∧
   (let s : State := base.setSem 63 3
    let p : Path := .i2c
    s.pathLive p = true ∧
    let n := 63
    n < 64 ∧
    s.semOwner n = masterOf p) ∧
   (let s : State := base.setSem 63 1
    let p : Path := .i2c
    s.pathLive p = true ∧
    let n := 63
    n < 64 ∧
    s.semOwner n ≠ masterOf p) ∧
   (let s : State := base
    let p : Path := .cp 7
    s.pathLive p = true ∧
    let r := 1
    r < 2 ∧
    s.secureBy p = true) ∧
   (let s : State := base
    let p : Path := .spi
    s.pathLive p = true) ∧
   (let s : State := base
    let p : Path := .spi
    s.pathLive p = true ∧
    let r := 15
    r < 16 ∧
    s.part.featX = true) ∧
   (let s : State := base
    let p : Path := .spi
    s.pathLive p = true ∧
    let d := 7
    s.fitted d = true) := by
  refine ⟨?_, ?_, ?_, ?_, ?_, ?_, ?_, ?_⟩
  · decide +kernel
  · decide +kernel
  · decide +kernel
  · decide +kernel
  · decide +kernel
  · decide +kernel
  · decide +kernel
  · decide +kernel

/-- States and operands that meet the hypotheses of AccessesComplete, clause by clause. -/
theorem met_AccessesComplete :
   (let s : State := base
    let p : Path := .spi
    let i : Nat := 1
    let a : Nat := 0x100
    s.pathLive p = true ∧
    p ≠ .bar2 ∧
    portIdx p = some i ∧
    (s.port i).busy = none ∧
    a < 2 ^ 25 ∧
    a % 4 = 0 ∧
    isInd a = false ∧
    let off := accOff a
    let v := accView a
    let here : Prop := s.letterAbsent off = false
    here ∧
    accDie a = 0 ∧
    s.violates p 0 off true = false ∧
    isSlow off = false ∧
    v = 0) ∧
   (let s : State := base
    let p : Path := .i2c
    let i : Nat := 2
    let a : Nat := 0x300100
    s.pathLive p = true ∧
    p ≠ .bar2 ∧
    portIdx p = some i ∧
    (s.port i).busy = none ∧
    a < 2 ^ 25 ∧
    a % 4 = 0 ∧
    isInd a = false ∧
    let off := accOff a
    let v := accView a
    let here : Prop := s.letterAbsent off = false
    here ∧
    accDie a = 0 ∧
    s.violates p 0 off true = false ∧
    isSlow off = false ∧
    v ≠ 0) ∧
   (let s : State := base
    let p : Path := .spi
    let i : Nat := 1
    let a : Nat := 0x9011C
    s.pathLive p = true ∧
    p ≠ .bar2 ∧
    portIdx p = some i ∧
    (s.port i).busy = none ∧
    a < 2 ^ 25 ∧
    a % 4 = 0 ∧
    isInd a = false ∧
    let off := accOff a
    accDie a = 0 ∧
    s.violates p 0 off true = false ∧
    isSlow off = true ∧
    s.host.slowQ.length < 8) ∧
   (let s : State := base
    let p : Path := .spi
    let i : Nat := 1
    let a : Nat := 0x1FFFFFC
    s.pathLive p = true ∧
    p ≠ .bar2 ∧
    portIdx p = some i ∧
    (s.port i).busy = none ∧
    a < 2 ^ 25 ∧
    a % 4 = 0 ∧
    isInd a = false ∧
    let off := accOff a
    let here : Prop := s.letterAbsent off = false
    here ∧
    accDie a ≠ 0 ∧
    s.dieUp (accDie a) = true) ∧
   (let s : State := base
    let p : Path := .spi
    let i : Nat := 1
    let a : Nat := 0x81FFC
    s.pathLive p = true ∧
    p ≠ .bar2 ∧
    portIdx p = some i ∧
    (s.port i).busy = none ∧
    a < 2 ^ 25 ∧
    a % 4 = 0 ∧
    isInd a = false ∧
    let off := accOff a
    accDie a = 0 ∧
    s.violates p 0 off true = true) ∧
   (let s : State := { base with part := { base.part with diesLog2 := 2 } }
    let p : Path := .spi
    let i : Nat := 1
    let a : Nat := 0x1FFFFFC
    s.pathLive p = true ∧
    p ≠ .bar2 ∧
    portIdx p = some i ∧
    (s.port i).busy = none ∧
    a < 2 ^ 25 ∧
    a % 4 = 0 ∧
    isInd a = false ∧
    let off := accOff a
    let here : Prop := s.letterAbsent off = false
    (s.fitted (accDie a) = false ∨ ¬here)) ∧
   (let s : State := base.modPort 1 fun t => { t with indAddr := 0x100 }
    let p : Path := .spi
    let i : Nat := 1
    let a : Nat := 0x100
    s.pathLive p = true ∧
    p ≠ .bar2 ∧
    portIdx p = some i ∧
    (s.port i).busy = none ∧
    a < 2 ^ 25 ∧
    a % 4 = 0 ∧
    isInd a = false ∧
    let off := accOff a
    let v := accView a
    let here : Prop := s.letterAbsent off = false
    here ∧
    (s.port i).indAddr = a ∧
    accDie a = 0 ∧
    s.violates p 0 off true = false ∧
    isSlow off = false ∧
    v = 0 ∧
    indForbidden a = false) ∧
   (let s : State := base.modPort 1 fun t => { t with indAddr := 0x100 }
    let p : Path := .spi
    let i : Nat := 1
    let a : Nat := 0x100
    s.pathLive p = true ∧
    p ≠ .bar2 ∧
    portIdx p = some i ∧
    (s.port i).busy = none ∧
    a < 2 ^ 25 ∧
    a % 4 = 0 ∧
    isInd a = false ∧
    let off := accOff a
    let v := accView a
    let here : Prop := s.letterAbsent off = false
    here ∧
    (s.port i).indAddr = a ∧
    accDie a = 0 ∧
    s.violates p 0 off true = false ∧
    isSlow off = false ∧
    v = 0 ∧
    indForbidden a = false ∧
    (off < 0x800 ∨ 0x900 ≤ off) ∧
    s.violates p 0 off false = false) := by
  refine ⟨?_, ?_, ?_, ?_, ?_, ?_, ?_, ?_⟩
  · decide +kernel
  · decide +kernel
  · decide +kernel
  · decide +kernel
  · decide +kernel
  · decide +kernel
  · decide +kernel
  · decide +kernel

/-- States and operands that meet the hypotheses of StitchInstructionsComplete, clause by clause. -/
theorem met_StitchInstructionsComplete :
   (let s : State := (engine .halt).modStitch 223 fun u => { u with wq := [{ word := 0, mask := 1, val := 1 }] }
    let e : Nat := 223
    s.hasStitch e = true ∧
    let u := s.stitch e
    u.fetch = .instr .halt ∧
    u.wq ≠ []) ∧
   (let s : State := engine .halt
    let e : Nat := 223
    s.hasStitch e = true ∧
    let u := s.stitch e
    u.fetch = .instr .halt ∧
    u.wq = []) ∧
   (let s : State := (engine (.waitEvent 7 0x7FFF)).modStitch 223 fun u => { u with events := 0x8000 }
    let e : Nat := 223
    s.hasStitch e = true ∧
    let u := s.stitch e
    let gd := 7#3
    let m := 0x7FFF#16
    u.fetch = .instr (.waitEvent gd m) ∧
    u.events &&& m.toNat = 0) ∧
   (let s : State := (engine (.waitEvent 7 0xFFFF)).modStitch 223 fun u => { u with events := 0x8000 }
    let e : Nat := 223
    s.hasStitch e = true ∧
    let u := s.stitch e
    let gd := 7#3
    let m := 0xFFFF#16
    u.fetch = .instr (.waitEvent gd m) ∧
    u.events &&& m.toNat ≠ 0) ∧
   (let s : State := engine (.waitTime 2 0)
    let e : Nat := 223
    s.hasStitch e = true ∧
    let u := s.stitch e
    let x := 2#2
    let n := 0#24
    u.fetch = .instr (.waitTime x n)) ∧
   (let s : State := engine (.setField 7 63 31 0)
    let e : Nat := 223
    s.hasStitch e = true ∧
    let u := s.stitch e
    let g := 7#3
    let w := 63#8
    let lo := 31#5
    let wd := 0#5
    u.fetch = .instr (.setField g w lo wd) ∧
    w.toNat < 0x40 ∧
    u.wq.length < 8) ∧
   (let s : State := (engine (.setField 7 0 31 0)).modStitch 223 fun u => { u with wq := List.replicate 8 { word := 0, mask := 1, val := 1 } }
    let e : Nat := 223
    s.hasStitch e = true ∧
    let u := s.stitch e
    let g := 7#3
    let w := 0#8
    let lo := 31#5
    let wd := 0#5
    u.fetch = .instr (.setField g w lo wd) ∧
    w.toNat < 0x40 ∧
    8 ≤ u.wq.length) ∧
   (let s : State := engine (.setField 7 96 31 0)
    let e : Nat := 223
    s.hasStitch e = true ∧
    let u := s.stitch e
    let g := 7#3
    let w := 96#8
    let lo := 31#5
    let wd := 0#5
    u.fetch = .instr (.setField g w lo wd) ∧
    0x60 ≤ w.toNat ∧
    w.toNat < 0x80) ∧
   (let s : State := engine (.clrField 63 31 0)
    let e : Nat := 223
    s.hasStitch e = true ∧
    let u := s.stitch e
    let w := 63#8
    let lo := 31#5
    let wd := 0#5
    u.fetch = .instr (.clrField w lo wd) ∧
    w.toNat < 0x40 ∧
    u.wq.length < 8) ∧
   (let s : State := engine (.clrField 127 31 0)
    let e : Nat := 223
    s.hasStitch e = true ∧
    let u := s.stitch e
    let w := 127#8
    let lo := 31#5
    let wd := 0#5
    u.fetch = .instr (.clrField w lo wd) ∧
    0x60 ≤ w.toNat ∧
    w.toNat < 0x80) ∧
   (let s : State := engine (.setField 7 95 31 0)
    let e : Nat := 223
    s.hasStitch e = true ∧
    let u := s.stitch e
    let g := 7#3
    let w := 95#8
    let lo := 31#5
    let wd := 0#5
    u.fetch = .instr (.setField g w lo wd) ∧
    0x40 ≤ w.toNat ∧
    (w.toNat < 0x60 ∨ 0x80 ≤ w.toNat)) ∧
   (let s : State := engine (.clrField 128 31 0)
    let e : Nat := 223
    s.hasStitch e = true ∧
    let u := s.stitch e
    let w := 128#8
    let lo := 31#5
    let wd := 0#5
    u.fetch = .instr (.clrField w lo wd) ∧
    0x40 ≤ w.toNat ∧
    (w.toNat < 0x60 ∨ 0x80 ≤ w.toNat)) ∧
   (let s : State := (engine (.clrField 63 31 0)).modStitch 223 fun u => { u with wq := List.replicate 8 { word := 0, mask := 1, val := 1 } }
    let e : Nat := 223
    s.hasStitch e = true ∧
    let u := s.stitch e
    let w := 63#8
    let lo := 31#5
    let wd := 0#5
    u.fetch = .instr (.clrField w lo wd) ∧
    w.toNat < 0x40 ∧
    8 ≤ u.wq.length) ∧
   (let s : State := engine (.read 7 0xFF 31 0)
    let e : Nat := 223
    s.hasStitch e = true ∧
    let u := s.stitch e
    let g := 7#3
    let w := 0xFF#8
    let lo := 31#5
    let wd := 0#5
    u.fetch = .instr (.read g w lo wd)) ∧
   (let s : State := engine (.cmp 7 (.imm 1 0xFFFF))
    let e : Nat := 223
    s.hasStitch e = true ∧
    let u := s.stitch e
    let g := 7#3
    let o := SOperand.imm 1 0xFFFF
    u.fetch = .instr (.cmp g o)) ∧
   (let s : State := engine (.branch 6 255)
    let e : Nat := 223
    s.hasStitch e = true ∧
    let u := s.stitch e
    let c := 6#3
    let x := 255#8
    u.fetch = .instr (.branch c x)) ∧
   (let s : State := engine (.add 7 true 0 (.reg 1 7))
    let e : Nat := 223
    s.hasStitch e = true ∧
    let u := s.stitch e
    let gd := 7#3
    let l := true
    let ga := 0#3
    let o := SOperand.reg 1 7
    u.fetch = .instr (.add gd l ga o)) ∧
   (let s : State := engine (.loop 7 255)
    let e : Nat := 223
    s.hasStitch e = true ∧
    let u := s.stitch e
    let g := 7#3
    let x := 255#8
    u.fetch = .instr (.loop g x)) ∧
   (let s : State := (engine (.emitDb 15)).modStitch 223 fun u => { u with emit0 := 15 }
    let e : Nat := 223
    s.hasStitch e = true ∧
    let u := s.stitch e
    let b := 15#5
    u.fetch = .instr (.emitDb b) ∧
    u.emit0 < 16) ∧
   (let s : State := (engine (.emitRec 255)).modStitch 223 fun u => { u with emit1 := 15 }
    let e : Nat := 223
    s.hasStitch e = true ∧
    let u := s.stitch e
    let x := 255#8
    u.fetch = .instr (.emitRec x) ∧
    u.emit1 < 16) ∧
   (let s : State := (engine (.emitDb 15)).modStitch 223 fun u => { u with emit0 := 16 }
    let e : Nat := 223
    s.hasStitch e = true ∧
    let u := s.stitch e
    let b := 15#5
    u.fetch = .instr (.emitDb b) ∧
    16 ≤ u.emit0) ∧
   (let s : State := (engine (.emitRec 255)).modStitch 223 fun u => { u with emit1 := 16 }
    let e : Nat := 223
    s.hasStitch e = true ∧
    let u := s.stitch e
    let x := 255#8
    u.fetch = .instr (.emitRec x) ∧
    16 ≤ u.emit1) := by
  refine ⟨?_, ?_, ?_, ?_, ?_, ?_, ?_, ?_, ?_, ?_, ?_, ?_, ?_, ?_, ?_, ?_, ?_, ?_, ?_, ?_, ?_, ?_⟩
  · decide +kernel
  · decide +kernel
  · decide +kernel
  · decide +kernel
  · decide +kernel
  · decide +kernel
  · decide +kernel
  · decide +kernel
  · decide +kernel
  · decide +kernel
  · decide +kernel
  · decide +kernel
  · decide +kernel
  · decide +kernel
  · decide +kernel
  · decide +kernel
  · decide +kernel
  · decide +kernel
  · decide +kernel
  · decide +kernel
  · decide +kernel
  · decide +kernel

/-- States and operands that meet the hypotheses of StitchEventsComplete, clause by clause. -/
theorem met_StitchEventsComplete :
   (let s : State := base.modStitch 223 fun u => { u with enable := true, loaded := true, entries := [0, 0, 0, 0], trig := [(2, []), (3, [])] }
    let e : Nat := 223
    s.hasStitch e = true ∧
    let u := s.stitch e
    let pt := 2
    let ws := []
    let ts := [(3, ([] : List Word))]
    u.trig = (pt, ws) :: ts ∧
    (∀ t ∈ ts, pt < t.1) ∧
    u.busy = false ∧
    u.commitBy.all (·.first) = true ∧
    u.enable = true ∧
    u.loaded = true ∧
    u.entries.getD pt 0xFF ≠ 0xFF) ∧
   (let s : State := base.modStitch 223 fun u => { u with busy := true, wait := .event 7 0x8000, events := 0x8000 }
    let e : Nat := 223
    s.hasStitch e = true ∧
    let u := s.stitch e
    let gd := 7
    let m := 0x8000
    u.busy = true ∧
    u.wait = .event gd m ∧
    u.events &&& m ≠ 0) ∧
   (let s : State := base.modStitch 223 fun u => { u with busy := true, wait := .time 1 0 }
    let e : Nat := 223
    s.hasStitch e = true ∧
    let u := s.stitch e
    let x := 1
    let n := 0
    u.busy = true ∧
    u.wait = .time x n ∧
    (x = 1 → n ≤ s.tb.k)) ∧
   (let s : State := base.modStitch 223 fun u => { u with busy := true, steps := 4096 }
    let e : Nat := 223
    s.hasStitch e = true ∧
    let u := s.stitch e
    u.busy = true ∧
    4096 ≤ u.steps) ∧
   (let s : State := base.modStitch 223 fun u => { u with wq := [{ word := 63, mask := 1, val := 1 }], draining := true, steps := 4095 }
    let e : Nat := 223
    s.hasStitch e = true ∧
    let u := s.stitch e
    let q := ({ word := 63, mask := 1, val := 1 } : UnitWrite)
    let qs := []
    u.wq = q :: qs ∧
    u.awaits = true ∧
    4096 ≤ u.steps + 1 + s.draw.1.toNat % 16) ∧
   (let s : State := base.modStitch 223 fun u => { u with wq := [{ word := 63, mask := 1, val := 1 }] }
    let e : Nat := 223
    s.hasStitch e = true ∧
    let u := s.stitch e
    let q := ({ word := 63, mask := 1, val := 1 } : UnitWrite)
    let qs := []
    u.wq = q :: qs ∧
    let n := if u.awaits then 1 + s.draw.1.toNat % 16 else 0
    u.steps + n < 4096 ∧
    (u.draining = false ∨ qs ≠ [])) ∧
   (let s : State := base.modStitch 223 fun u => { u with wq := [{ word := 63, mask := 1, val := 1 }], draining := true }
    let e : Nat := 223
    s.hasStitch e = true ∧
    let u := s.stitch e
    let q := ({ word := 63, mask := 1, val := 1 } : UnitWrite)
    let qs := []
    u.wq = q :: qs ∧
    let n := if u.awaits then 1 + s.draw.1.toNat % 16 else 0
    u.steps + n < 4096 ∧
    let a := (if u.awaits then s.draw.2 else s).setStitch e { u with wq := qs, steps := u.steps + n }
    let b := a.applyUnitWrite e q
    let x := b.stitch e
    u.draining = true ∧
    qs = [] ∧
    (classOf e ≠ 0 ∨ x.point ≠ 0)) ∧
   (let s : State := base.modStitch 196 fun u => { u with wq := [{ word := 63, mask := 1, val := 1 }], draining := true }
    let e : Nat := 196
    s.hasStitch e = true ∧
    let u := s.stitch e
    let q := ({ word := 63, mask := 1, val := 1 } : UnitWrite)
    let qs := []
    u.wq = q :: qs ∧
    let n := if u.awaits then 1 + s.draw.1.toNat % 16 else 0
    u.steps + n < 4096 ∧
    let a := (if u.awaits then s.draw.2 else s).setStitch e { u with wq := qs, steps := u.steps + n }
    let b := a.applyUnitWrite e q
    let x := b.stitch e
    u.draining = true ∧
    qs = [] ∧
    classOf e = 0 ∧
    x.point = 0) ∧
   (let s : State := base
    let e : Nat := 223
    s.hasStitch e = true ∧
    let q : UnitWrite := ({ word := 64, mask := 1, val := 1 } : UnitWrite)
    viewReg e q.word = none) ∧
   (let s : State := base
    let e : Nat := 196
    s.hasStitch e = true ∧
    let q : UnitWrite := ({ word := 0, mask := 1, val := 1 } : UnitWrite)
    let d := 7
    let off := offDpll 56
    viewReg e q.word = some (d, off)) := by
  refine ⟨?_, ?_, ?_, ?_, ?_, ?_, ?_, ?_, ?_, ?_⟩
  · decide +kernel
  · decide +kernel
  · decide +kernel
  · decide +kernel
  · exact (by
    intro s e
    refine ⟨by decide +kernel, ?_⟩
    intro u q qs
    have h : u.steps = 4095 := by decide +kernel
    exact ⟨by decide +kernel, by decide +kernel, by omega⟩)
  · decide +kernel
  · exact (by
    intro s e
    refine ⟨by decide +kernel, ?_⟩
    intro u q qs
    have h : u.steps = 0 := by decide +kernel
    refine ⟨by decide +kernel, ?_⟩
    intro n
    exact ⟨by rw [h]; dsimp only [n]; split <;> omega, by decide +kernel, by decide +kernel, by decide +kernel⟩)
  · exact (by
    intro s e
    refine ⟨by decide +kernel, ?_⟩
    intro u q qs
    have h : u.steps = 0 := by decide +kernel
    refine ⟨by decide +kernel, ?_⟩
    intro n
    refine ⟨by rw [h]; dsimp only [n]; split <;> omega, ?_⟩
    exact ⟨by decide +kernel, by decide +kernel, by decide +kernel, by decide +kernel⟩)
  · decide +kernel
  · decide +kernel

/-- States and operands that meet the hypotheses of TdcEventsComplete, clause by clause. -/
theorem met_TdcEventsComplete :
   (let s : State := ((live.modDie 7 fun u => { u with tbLock := true, mclkOk := true, skewValid := true }).modChan 383 fun u => { u with cal := .single }).modEv 127 fun u => { u with effEnable := true }
    let d : Nat := 7
    let c : Nat := 47
    c < 48 ∧
    s.hasChan (48 * d + c) = true ∧
    let n := 48 * d + c
    let u := s.chan n
    let coarse := 2
    let a := 1151
    let b := 0
    let rising := true
    s.running = true ∧
    (s.die d).tbLock = true ∧
    (s.die d).mclkOk = true ∧
    s.tb.restart = false ∧
    u.cal.measures = true ∧
    a < 1152 ∧
    b < 1152 ∧
    s.activeEdge d c rising = true ∧
    (u.core (1 - u.active)).role ≠ .overlapEnd ∧
    (c < 32 ∨ s.chanValid n = true) ∧
    let x := s.extOfCapture n u.active coarse (if u.active = 0 then a else b)
    let m := extToMts x
    0 ≤ wrapDiff (2 ^ 64) m s.mts ∧
    wrapDiff (2 ^ 64) m (mtsOf (s.tb.k + 1)) < 0) ∧
   (let s : State := ((live.modDie 7 fun u => { u with tbLock := true, mclkOk := true, skewValid := true }).modChan 383 fun u => { u with cal := .single }).modEv 127 fun u => { u with effEnable := true }
    let d : Nat := 7
    let c : Nat := 47
    c < 48 ∧
    s.hasChan (48 * d + c) = true ∧
    let n := 48 * d + c
    let u := s.chan n
    let coarse := 50000
    let a := 1151
    let b := 0
    let rising := true
    s.running = true ∧
    (s.die d).tbLock = true ∧
    (s.die d).mclkOk = true ∧
    s.tb.restart = false ∧
    u.cal.measures = true ∧
    a < 1152 ∧
    b < 1152 ∧
    s.activeEdge d c rising = true ∧
    (u.core (1 - u.active)).role ≠ .overlapEnd ∧
    (c < 32 ∨ s.chanValid n = true) ∧
    let x := s.extOfCapture n u.active coarse (if u.active = 0 then a else b)
    let m := extToMts x
    0 ≤ wrapDiff (2 ^ 64) m s.mts ∧
    0 ≤ wrapDiff (2 ^ 64) m (mtsOf (s.tb.k + 1))) ∧
   (let s : State := base
    let d : Nat := 7
    let c : Nat := 23
    c < 48 ∧
    s.hasChan (48 * d + c) = true ∧
    c < 24) ∧
   (let s : State := live
    let d : Nat := 7
    let c : Nat := 47
    c < 48 ∧
    s.hasChan (48 * d + c) = true ∧
    let h0 : List Nat := List.replicate 1152 1
    let h1 : List Nat := List.replicate 1152 1
    s.tb.tbEn = true ∧
    s.tb.restart = false ∧
    h0.length = 1152 ∧
    h1.length = 1152) ∧
   (let s : State := live.modChan 383 fun u => { u with cal := .calibrated, c1 := { u.c1 with role := .calibrating } }
    let d : Nat := 7
    let c : Nat := 47
    c < 48 ∧
    s.hasChan (48 * d + c) = true ∧
    let n := 48 * d + c
    let u := s.chan n
    let h : List Nat := List.replicate 1152 (2 ^ 16)
    s.tb.tbEn = true ∧
    s.tb.restart = false ∧
    (s.die d).bgFrozen = false ∧
    u.cal.measures = true ∧
    (u.core (1 - u.active)).role = .calibrating ∧
    h.length = 1152 ∧
    2 ^ u.cyc.getD (s.bgHits d) ≤ sumN h) ∧
   (let s : State := live.modChan 383 fun u => { u with active := 1, c0 := { u.c0 with role := .overlapEnd } }
    let d : Nat := 7
    let c : Nat := 47
    c < 48 ∧
    s.hasChan (48 * d + c) = true ∧
    let n := 48 * d + c
    let u := s.chan n
    s.tb.restart = false ∧
    (s.die d).bgFrozen = false ∧
    u.active ≤ 1 ∧
    (u.core (1 - u.active)).role = .overlapEnd ∧
    u.ahead = []) ∧
   (let s : State := { ((base.modDie 7 fun u => { u with reachedK := some 0 }).modDx 7 fun x => { x with mode := 2 }) with tb := { base.tb with k := winPerSec } }
    let d : Nat := 7
    let c : Nat := 0
    c < 48 ∧
    s.hasChan (48 * d + c) = true ∧
    s.dieUp d = true ∧
    (s.dx d).mode = 2 ∧
    s.seedDue d = true) := by
  refine ⟨?_, ?_, ?_, ?_, ?_, ?_, ?_⟩
  · decide +kernel
  · decide +kernel
  · decide +kernel
  · decide +kernel
  · decide +kernel
  · decide +kernel
  · decide +kernel

/-- States and operands that meet the hypotheses of BoundaryAndTickComplete, clause by clause. -/
theorem met_BoundaryAndTickComplete :
   (let s : State := live
    s.running = true) := (by decide +kernel)

/-- States and operands that meet the hypotheses of InputEventsComplete, clause by clause. -/
theorem met_InputEventsComplete :
   (let s : State := (live.modDie 7 fun u => { u with skewValid := true }).modInput 319 fun u => { u with state := .qualifying, configured := true, running := true, enable := true, cause := 0 }
    let n : Nat := 319
    s.hasInput n = true ∧
    let u := s.input n
    u.state = .qualifying ∧
    u.causes = [] ∧
    (u.endWtr = true ∨ u.wtrLeft = 0) ∧
    u.inGap (s.measValid n) = false) ∧
   (let s : State := base.modInput 191 fun u => { u with running := true, notValid := true }
    let n : Nat := 191
    s.hasInput n = true ∧
    let u := s.input n
    n < 192 ∧
    u.running = true ∧
    u.inGap (s.measValid n) = false ∧
    s.losDue n = true) ∧
   (let s : State := base.modInput 191 fun u => { u with running := true, notValid := true, los := true, edgeRun := 2, decl := { type := 6, num := 1, den := 1 } }
    let n : Nat := 191
    s.hasInput n = true ∧
    let u := s.input n
    n < 192 ∧
    u.running = true ∧
    u.los = true ∧
    u.inGap (s.measValid n) = false ∧
    (if u.decl.freq < 1000 then 2 else 16) ≤ u.edgeRun ∧
    (u.decl.mode ≠ 0 ∨ u.decl.type = 6)) ∧
   (let s : State := { gated (chanOfInput 191) 191 (some (0, 1)) with tb := { base.tb with k := 320000 } }
    let n : Nat := 191
    s.hasInput n = true ∧
    let u := s.input n
    let a := (0, 1)
    u.running = true ∧
    u.los = false ∧
    s.gateWord n = true ∧
    u.gateOpen = some a ∧
    a ≠ s.gatePoint n s.tb.k ∧
    u.gateK + winPerMs * gateMs u.mon.freqGate ≤ s.tb.k) ∧
   (let s : State := gated (chanOfInput 191) 191 none
    let n : Nat := 191
    s.hasInput n = true ∧
    let u := s.input n
    u.gateOpen = none ∧
    u.running = true ∧
    u.los = false ∧
    s.gateWord n = true) ∧
   (let s : State := gated (chanOfInput 191) 191 none
    let n : Nat := 191
    s.hasInput n = true ∧
    let u := s.input n
    u.running = true ∧
    u.los = false ∧
    s.gateWord n = true ∧
    u.dm.opened = none) ∧
   (let s : State := { ((gated (chanOfInput 191) 191 none).modInput 191 fun u => { u with dm := { u.dm with opened := some (0, 7) } }) with tb := { base.tb with k := winPerSec } }
    let n : Nat := 191
    s.hasInput n = true ∧
    let u := s.input n
    u.running = true ∧
    u.los = false ∧
    s.gateWord n = true ∧
    u.dm.opened = some (s.gatePoint n s.tb.k)) ∧
   (let s : State := { ((gated (chanOfInput 191) 191 none).modInput 191 fun u => { u with dm := { u.dm with opened := some (0, 1) } }) with tb := { base.tb with k := winPerSec } }
    let n : Nat := 191
    s.hasInput n = true ∧
    let u := s.input n
    let a := (0, 1)
    u.running = true ∧
    u.los = false ∧
    s.gateWord n = true ∧
    u.dm.opened = some a ∧
    a ≠ s.gatePoint n s.tb.k ∧
    u.dm.openedK + winPerSec ≤ s.tb.k) ∧
   (let s : State := (base.modInput 319 fun u => { u with running := true, notValid := true, mon := { u.mon with staleS := 1 } }).modTd 127 (fun u => { u with enable := true }) |> fun s => { s with tb := { s.tb with k := winPerSec } }
    let n : Nat := 319
    s.hasInput n = true ∧
    let u := s.input n
    192 ≤ n ∧
    u.running = true ∧
    u.inGap (s.measValid n) = false ∧
    u.mon.staleS ≠ 0 ∧
    ((s.td (n - 192)).lastAccK.getD (s.td (n - 192)).enableK) + u.mon.staleS * winPerSec ≤ s.tb.k) ∧
   (let s : State := base
    let n : Nat := 319
    s.hasInput n = true ∧
    let k := 0
    s.hasDpll k = true ∧
    dieOfInput n ≠ dieOfDpll k ∧
    s.dieUp (dieOfInput n) = true) ∧
   (let s : State := base.modInput 319 fun u => { u with enable := true, running := true, invalidRun := 321 }
    let n : Nat := 319
    s.hasInput n = true ∧
    let u := s.input n
    u.enable = true ∧
    s.measValid n = false ∧
    (320 < u.invalidRun ∨ u.running = false)) := by
  refine ⟨?_, ?_, ?_, ?_, ?_, ?_, ?_, ?_, ?_, ?_, ?_⟩
  · decide +kernel
  · decide +kernel
  · decide +kernel
  · decide +kernel
  · decide +kernel
  · decide +kernel
  · decide +kernel
  · decide +kernel
  · decide +kernel
  · decide +kernel
  · decide +kernel

/-- States and operands that meet the hypotheses of DpllEventsComplete, clause by clause. -/
theorem met_DpllEventsComplete :
   (let s : State := { (base.modDpll 63 fun u => { u with sel := { u.sel with holdoff := 1 } }) with tb := { base.tb with k := 1 } }
    let n : Nat := 63
    s.hasDpll n = true ∧
    let u := s.dpll n
    u.sel.holdoff ≠ 0 ∧
    u.sel.holdoff ≤ s.tb.k) ∧
   (let s : State := ((live.modDpll 63 fun u => { u with enable := true, sel := { u.sel with cands := [{ input := 168, usable := true, hadEdge := true }], pend := some { want := 168, reason := 0, hook := false } } }).modInput 168 fun u => { u with state := .qualified, rankEff := 1 }).modChan (chanOfInput 168) fun u => { u with word := { u.word with valid := true, edges := 1, state := 2 } }
    let n : Nat := 63
    s.hasDpll n = true ∧
    let u := s.dpll n
    let p := ({ want := 168, reason := 0, hook := false } : PendSwitch)
    s.running = true ∧
    u.sel.pend = some p ∧
    p.atK ≤ s.tb.k ∧
    p.hook = false ∧
    u.enable = true ∧
    u.frozen = false ∧
    u.parityHold = false ∧
    u.fbFault = false ∧
    u.force ≠ 1 ∧
    u.force ≠ 2 ∧
    let b := s.modDpll n fun x => { x with sel := { x.sel with cands := s.selBoundary n (s.tb.k + 1) } }
    p.want ≠ 0x1FF ∧
    p.want ≠ u.selInput ∧
    b.stillEligible n p.want = true) ∧
   (let s : State := live.modDpll 63 fun u => { u with enable := true, sel := { u.sel with pend := some { want := 168, reason := 0, hook := false } } }
    let n : Nat := 63
    s.hasDpll n = true ∧
    let u := s.dpll n
    let p := ({ want := 168, reason := 0, hook := false } : PendSwitch)
    s.running = true ∧
    u.sel.pend = some p ∧
    p.atK ≤ s.tb.k ∧
    p.hook = false ∧
    u.enable = true ∧
    u.frozen = false ∧
    u.parityHold = false ∧
    u.fbFault = false ∧
    u.force ≠ 1 ∧
    u.force ≠ 2 ∧
    let b := s.modDpll n fun x => { x with sel := { x.sel with cands := s.selBoundary n (s.tb.k + 1) } }
    p.want ≠ 0x1FF ∧
    p.want ≠ u.selInput ∧
    b.stillEligible n p.want = false) ∧
   (let s : State := live.modDpll 63 fun u => { u with enable := true, cfg := { role := 1 }, state := .locked, sel := { u.sel with pend := some { want := 0x1FF, reason := 0, hook := false } } }
    let n : Nat := 63
    s.hasDpll n = true ∧
    let u := s.dpll n
    let p := ({ want := 0x1FF, reason := 0, hook := false } : PendSwitch)
    s.running = true ∧
    u.sel.pend = some p ∧
    p.atK ≤ s.tb.k ∧
    p.hook = false ∧
    u.enable = true ∧
    u.frozen = false ∧
    u.parityHold = false ∧
    u.fbFault = false ∧
    u.force ≠ 1 ∧
    u.force ≠ 2 ∧
    p.want = 0x1FF ∧
    u.cfg.role = 1 ∧
    (u.state = .locked ∨ u.state = .acquiring)) ∧
   (let s : State := { (live.modDpll 63 fun u => { u with enable := true, state := .locked, gate := { u.gate with running := true, start := some { k := 0, refT := 0, refN := 0, fbT := 0, fbOfs := 0, fbN := 0 } }, ref := { u.ref with last := some (0, 0) }, fb := some (0, 0, 0) }) with tb := { live.tb with k := 3200 * 1000 } }
    let n : Nat := 63
    s.hasDpll n = true ∧
    let u := s.dpll n
    let δ : Rat := 0
    u.enable = true ∧
    u.gate.running = true ∧
    s.tb.restart = false ∧
    let f := s.streamFreq u.refStream
    u.gate.startK + 3200 * u.gateLenEval f ≤ s.tb.k ∧
    u.deltaAt s.tb.k (periodOf f) (periodOf (s.fbFreq n)) = some δ ∧
    u.state = .locked) ∧
   (let s : State := { (live.modDpll 63 fun u => { u with enable := true, state := .acquiring, acqFast := true, gate := { u.gate with running := true, start := some { k := 0, refT := 0, refN := 0, fbT := 0, fbOfs := 0, fbN := 0 } }, ref := { u.ref with last := some (0, 0) }, fb := some (0, 0, 0) }) with tb := { live.tb with k := 3200 * 1000 } }
    let n : Nat := 63
    s.hasDpll n = true ∧
    let u := s.dpll n
    let δ : Rat := 0
    u.enable = true ∧
    u.gate.running = true ∧
    s.tb.restart = false ∧
    let f := s.streamFreq u.refStream
    u.gate.startK + 3200 * u.gateLenEval f ≤ s.tb.k ∧
    u.deltaAt s.tb.k (periodOf f) (periodOf (s.fbFreq n)) = some δ ∧
    u.state = .acquiring ∧
    u.acqFast = true) ∧
   (let s : State := { (live.modDpll 63 fun u => { u with enable := true, state := .acquiring, gate := { u.gate with running := true, start := some { k := 0, refT := 0, refN := 0, fbT := 0, fbOfs := 0, fbN := 0 } }, ref := { u.ref with last := some (0, 0) }, fb := some (0, 0, 0) }) with tb := { live.tb with k := 3200 * 1000 } }
    let n : Nat := 63
    s.hasDpll n = true ∧
    let u := s.dpll n
    let δ : Rat := 0
    u.enable = true ∧
    u.gate.running = true ∧
    s.tb.restart = false ∧
    let f := s.streamFreq u.refStream
    u.gate.startK + 3200 * u.gateLenEval f ≤ s.tb.k ∧
    u.deltaAt s.tb.k (periodOf f) (periodOf (s.fbFreq n)) = some δ ∧
    let r := ({ u with rows := u.rowsEval } : DpllUnit).rowNow
    u.state = .acquiring ∧
    u.acqFast = false ∧
    ratAbs δ ≤ (r.lockThr : Rat) ∧
    u.res = 0 ∧
    ratAbs u.phLast ≤ (r.phWin : Rat) ∧
    u.gate.bad = false) ∧
   (let s : State := base.modDpll 63 fun u => { u with enable := true, cfg := { role := 2 }, mirrorSilent := 32 }
    let n : Nat := 63
    s.hasDpll n = true ∧
    let u := s.dpll n
    u.cfg.role = 2 ∧
    u.enable = true ∧
    s.tb.restart = false ∧
    32 ≤ u.mirrorSilent) ∧
   (let s : State := base.modDpll 63 fun u => { u with enable := true, fbBadRun := 321 }
    let n : Nat := 63
    s.hasDpll n = true ∧
    let u := s.dpll n
    u.enable = true ∧
    u.fbFault = false ∧
    s.tb.restart = false ∧
    s.tapBusy n = false ∧
    320 < u.fbBadRun) ∧
   (let s : State := base.modDpll 63 fun u => { u with enable := true }
    let n : Nat := 63
    s.hasDpll n = true ∧
    let u := s.dpll n
    u.enable = true) ∧
   (let s : State := base.modDpll 63 fun u => { u with enable := true, cfg := { role := 1 }, state := .holdover }
    let n : Nat := 63
    s.hasDpll n = true ∧
    let u := s.dpll n
    u.enable = true ∧
    u.cfg.role = 1 ∧
    u.state = .holdover) ∧
   (let s : State := base.modDpll 63 fun u => { u with enable := true, cfg := { role := 1 }, ho := { u.ho with accN := 1 } }
    let n : Nat := 63
    s.hasDpll n = true ∧
    let u := s.dpll n
    u.enable = true ∧
    u.cfg.role = 1 ∧
    s.tb.k % tickWin u.ho.tick = 0 ∧
    u.ho.accN ≠ 0) := by
  refine ⟨?_, ?_, ?_, ?_, ?_, ?_, ?_, ?_, ?_, ?_, ?_, ?_⟩
  · decide +kernel
  · decide +kernel
  · decide +kernel
  · decide +kernel
  · decide +kernel
  · decide +kernel
  · decide +kernel
  · decide +kernel
  · decide +kernel
  · decide +kernel
  · decide +kernel
  · decide +kernel

/-- States and operands that meet the hypotheses of OscillatorEventsComplete, clause by clause. -/
theorem met_OscillatorEventsComplete :
   (let s : State := live.setOsc 15 { active := true }
    let o : Nat := 15
    s.hasOsc o = true ∧
    let u := s.osc o
    u.active = true ∧
    s.running = true ∧
    s.tb.restart = false ∧
    s.tb.oscLoss = false ∧
    s.dieUp (dieOfOsc o) = true) ∧
   (let s : State := base
    let o : Nat := 15
    s.hasOsc o = true ∧
    let u := s.osc o
    u.active = false) ∧
   (let s : State := base.modModel 15 fun u => { u with tsense := true, r25 := 10000 }
    let o : Nat := 15
    s.hasOsc o = true ∧
    let ohms := 640000
    (s.model o).tsense = true ∧
    tempFault (s.model o).r25 ohms = false) ∧
   (let s : State := base.modModel 15 fun u => { u with tsense := true, r25 := 10000 }
    let o : Nat := 15
    s.hasOsc o = true ∧
    let ohms := 640001
    (s.model o).tsense = true ∧
    tempFault (s.model o).r25 ohms = true) ∧
   (let s : State := base.setOsc 15 { active := true }
    let o : Nat := 15
    s.hasOsc o = true ∧
    let u := s.osc o
    u.active = true) ∧
   (let s : State := live
    let o : Nat := 0
    s.hasOsc o = true ∧
    s.belay.phase ≠ 2) ∧
   (let s : State := base.modModel 15 fun u => { u with obsSec := 64 }
    let o : Nat := 15
    s.hasOsc o = true ∧
    64 ≤ (s.model o).obsSec) ∧
   (let s : State := base.modModel 15 fun u => { u with obsSec := 64, obs := List.replicate 47 (0, 0) }
    let o : Nat := 15
    s.hasOsc o = true ∧
    64 ≤ (s.model o).obsSec ∧
    (s.model o).obs.length < 48) ∧
   (let s : State := base.modModel 15 fun u => { u with obsSec := 64, state := .learning, obs := List.replicate 48 (0, 0) }
    let o : Nat := 15
    s.hasOsc o = true ∧
    64 ≤ (s.model o).obsSec ∧
    48 ≤ (s.model o).obs.length ∧
    ((s.model o).state = .learning ∨ (s.model o).state = .qualified)) ∧
   (let s : State := base.modModel 15 fun u => { u with state := .restored, verN := 600 }
    let o : Nat := 15
    s.hasOsc o = true ∧
    (s.model o).state = .restored ∧
    s.cairn.restoreVerifyS ≤ (s.model o).verN ∧
    (s.model o).verified s.cairn.kRej = true) ∧
   (let s : State := base.modModel 15 fun u => { u with state := .restored, verN := 600, verX := 600000 }
    let o : Nat := 15
    s.hasOsc o = true ∧
    (s.model o).state = .restored ∧
    s.cairn.restoreVerifyS ≤ (s.model o).verN ∧
    (s.model o).verified s.cairn.kRej = false) ∧
   (let s : State := { ((live.modModel 15 fun u => { u with state := .qualified }).setOsc 15 { active := true }).modDpll 63 fun u => { u with enable := true, state := .locked, selInput := 0 } with cairn := { base.cairn with slots := [{ port := 15, used := true }], learnDpll := [63], learnRankMax := 255 } }
    let o : Nat := 15
    s.hasOsc o = true ∧
    (s.model o).state = .qualified ∧
    s.learns o = true ∧
    s.cairn.saveMin ≠ 0) := by
  refine ⟨?_, ?_, ?_, ?_, ?_, ?_, ?_, ?_, ?_, ?_, ?_, ?_⟩
  · decide +kernel
  · decide +kernel
  · decide +kernel
  · decide +kernel
  · decide +kernel
  · decide +kernel
  · decide +kernel
  · decide +kernel
  · decide +kernel
  · decide +kernel
  · decide +kernel
  · decide +kernel

/-- States and operands that meet the hypotheses of SynthesisEventsComplete, clause by clause. -/
theorem met_SynthesisEventsComplete :
   (let s : State := base.modOpll 31 fun u => { u with state := .bandCal }
    let n : Nat := 31
    s.hasOpll n = true ∧
    let u := s.opll n
    u.state = .bandCal) ∧
   (let s : State := base.modOpll 31 fun u => { u with state := .locking, gates := 1, configured := true, refHz := 98304000, int := 100, nCur := 100 * 2 ^ 40 }
    let n : Nat := 31
    s.hasOpll n = true ∧
    let u := s.opll n
    let count := 98307
    u.state = .locking ∧
    u.passes count = true ∧
    u.gates < 2) ∧
   (let s : State := base.modOpll 31 fun u => { u with state := .locking, configured := true, refHz := 98304000, int := 100, nCur := 100 * 2 ^ 40 }
    let n : Nat := 31
    s.hasOpll n = true ∧
    let u := s.opll n
    let count := 98308
    u.state = .locking ∧
    u.passes count = false) ∧
   (let s : State := base.modOpll 31 fun u => { u with state := .locked, configured := true, refHz := 98304000, int := 100, nCur := 100 * 2 ^ 40 }
    let n : Nat := 31
    s.hasOpll n = true ∧
    let u := s.opll n
    let count := 98301
    u.state = .locked ∧
    u.passes count = true) ∧
   (let s : State := base.modOpll 31 fun u => { u with state := .locked, configured := true, refHz := 98304000, int := 100, nCur := 100 * 2 ^ 40 }
    let n : Nat := 31
    s.hasOpll n = true ∧
    let u := s.opll n
    let count := 98300
    u.state = .locked ∧
    u.passes count = false) ∧
   (let s : State := base.modOpll 31 fun u => { u with state := .aligning }
    let n : Nat := 31
    s.hasOpll n = true ∧
    let u := s.opll n
    (u.state = .locked ∨ u.state = .aligning)) ∧
   (let s : State := base.modOpll 31 fun u => { u with state := .locking }
    let n : Nat := 31
    s.hasOpll n = true ∧
    let u := s.opll n
    u.state = .locking) ∧
   (let s : State := (base.modOpll 31 fun u => { u with state := .fault }).setOsc 14 { active := true }
    let n : Nat := 31
    s.hasOpll n = true ∧
    let u := s.opll n
    u.state = .fault ∧
    (s.osc (s.portOfOpll n)).active = true) ∧
   (let s : State := base.modOpll 31 fun u => { u with align := some { todo := [124, 125] } }
    let n : Nat := 31
    s.hasOpll n = true ∧
    let u := s.opll n
    let r := ({ todo := [124, 125] } : AlignRun)
    let m := 124
    let ms := [125]
    u.align = some r ∧
    r.todo = m :: ms ∧
    ms ≠ [] ∧
    s.tb.restart = false) ∧
   (let s : State := base.modOpll 31 fun u => { u with state := .locked, align := some { todo := [127] } }
    let n : Nat := 31
    s.hasOpll n = true ∧
    let u := s.opll n
    let r := ({ todo := [127] } : AlignRun)
    let m := 127
    u.align = some r ∧
    r.todo = [m] ∧
    u.state = .locked ∧
    s.tb.restart = false) ∧
   (let s : State := base.modOut 127 fun u => { u with state := .starting }
    let n : Nat := 127
    s.hasOut n = true ∧
    let u := s.out n
    u.state = .starting ∧
    u.startAt = none) ∧
   (let s : State := base.modOut 127 fun u => { u with state := .stopping, offPend := true }
    let n : Nat := 127
    s.hasOut n = true ∧
    let u := s.out n
    u.state = .stopping ∧
    u.offPend = true) := by
  refine ⟨?_, ?_, ?_, ?_, ?_, ?_, ?_, ?_, ?_, ?_, ?_, ?_⟩
  · decide +kernel
  · decide +kernel
  · decide +kernel
  · decide +kernel
  · decide +kernel
  · decide +kernel
  · decide +kernel
  · decide +kernel
  · decide +kernel
  · decide +kernel
  · decide +kernel
  · decide +kernel

/-- States and operands that meet the hypotheses of TimeDomainEventsComplete, clause by clause. -/
theorem met_TimeDomainEventsComplete :
   (let s : State := live.modTd 127 fun u => { u with enable := true, sub := secUnit - 31249 * 2 ^ 48 }
    let n : Nat := 127
    s.hasTd n = true ∧
    let u := s.td n
    s.running = true ∧
    u.enable = true ∧
    u.atSec = none ∧
    u.crossOffset < windowNs) ∧
   (let s : State := base.modTd 127 fun u => { u with todDue := true, state := .freerun, tod := { format := 2 } }
    let n : Nat := 127
    s.hasTd n = true ∧
    let u := s.td n
    let live : Prop := (u.state = .tracking ∨ u.state = .freerun) ∧ s.belay.phase ≠ 1
    u.todDue = true ∧
    live ∧
    (u.tod.format = 1 ∨ u.tod.format = 2)) ∧
   (let s : State := base.modTd 127 fun u => { u with todDue := true, tod := { format := 2 } }
    let n : Nat := 127
    s.hasTd n = true ∧
    let u := s.td n
    let live : Prop := (u.state = .tracking ∨ u.state = .freerun) ∧ s.belay.phase ≠ 1
    u.todDue = true ∧
    (¬live)) ∧
   (let s : State := (base.modTd 127 fun u => { u with todDue := true, state := .tracking, crossMts := 7, tod := { format := 3, baud := 8, delayMs := 1 } }).modStitch (engineOfTd 127) fun e => { e with crossDone := cw2 7, loc := List.replicate 32 96 }
    let n : Nat := 127
    s.hasTd n = true ∧
    let u := s.td n
    let live : Prop := (u.state = .tracking ∨ u.state = .freerun) ∧ s.belay.phase ≠ 1
    let e := s.stitch (engineOfTd n)
    let len := fld (e.loc.getD 24 0) 0 7
    u.todDue = true ∧
    live ∧
    3 ≤ u.tod.format ∧
    e.crossDone = cw2 u.crossMts ∧
    1 ≤ len ∧
    len ≤ 96 ∧
    u.tod.delayMs ≠ 0 ∧
    todFits u.tod.delayMs len u.tod.baud = true) ∧
   (let s : State := { (base.modTd 127 fun u => { u with lastAccK := some 0, state := .tracking }) with tb := { base.tb with k := 3000 * winPerMs } }
    let n : Nat := 127
    s.hasTd n = true ∧
    let u := s.td n
    let j := 0
    u.lastAccK = some j ∧
    u.state = .tracking ∧
    j + u.set.holdMs * winPerMs ≤ s.tb.k) := by
  refine ⟨?_, ?_, ?_, ?_, ?_⟩
  · decide +kernel
  · exact ⟨by decide +kernel, by decide +kernel, by exact ⟨by decide +kernel, by decide +kernel⟩, by decide +kernel⟩
  · exact ⟨by decide +kernel, by decide +kernel, by show ¬(_ ∧ _); decide +kernel⟩
  · exact ⟨by decide +kernel, by decide +kernel, by exact ⟨by decide +kernel, by decide +kernel⟩, by decide +kernel, by decide +kernel, by decide +kernel, by decide +kernel, by decide +kernel, by decide +kernel⟩
  · decide +kernel

/-- States and operands that meet the hypotheses of TimebaseEventsComplete, clause by clause. -/
theorem met_TimebaseEventsComplete :
   (let s : State := live.modDie 6 fun u => { u with tbLock := true }
    let d := 7
    s.fitted d = true ∧
    s.tb.tbEn = true ∧
    (d = 0 ∨ (∃ l x, s.parentPort d = some l ∧ s.neighbour d l = some x ∧ (s.die x).tbLock = true) ∨
          (s.parentPort d = none ∧ (s.die (gridParent d)).tbLock = true))) ∧
   (let s : State := { live with tb := { live.tb with restart := true } }
    s.tb.restart = true ∧
    (s.die 0).tbLock = true ∧
    (∀ d l, s.fitted d = true → l < 4 → (s.link d l).state = .up → 32 ≤ (s.link d l).exchCnt)) ∧
   (let s : State := base
    let o := 15
    s.hasOsc o = true ∧
    (s.osc o).started = false ∧
    o ≠ s.masterPort) ∧
   (let s : State := base
    let o := 0
    s.hasOsc o = true ∧
    (s.osc o).started = false ∧
    o = s.masterPort) ∧
   (let s : State := base
    let o := 15
    s.hasOsc o = true ∧
    (s.osc o).active = false ∧
    o ≠ s.masterPort) ∧
   (let s : State := { base with tb := { base.tb with oscLoss := true } }
    let o := 0
    s.hasOsc o = true ∧
    (s.osc o).active = false ∧
    o = s.masterPort) := by
  refine ⟨?_, ?_, ?_, ?_, ?_, ?_⟩
  · exact ⟨by decide +kernel, by decide +kernel, Or.inr (Or.inr (by decide +kernel))⟩
  · exact ⟨by decide +kernel, by decide +kernel, restart_links⟩
  · decide +kernel
  · decide +kernel
  · decide +kernel
  · decide +kernel

/-- States and operands that meet the hypotheses of LinkEventsComplete, clause by clause. -/
theorem met_LinkEventsComplete :
   (let s : State := (base).modLink 7 1 fun p => { p with state := .training }
    let d : Nat := 7
    let l : Nat := 1
    let x : Nat := 5
    s.neighbour d l = some x ∧
    s.fitted d = true ∧
    l < (s.die d).links.length ∧
    let p := s.link d l
    p.state = .training) ∧
   (let s : State := ((live.modDie 7 fun u => { u with tbLock := true }).modDie 5 fun u => { u with tbLock := true }).modLink 7 1 fun p => { p with retryWait := true }
    let d : Nat := 7
    let l : Nat := 1
    let x : Nat := 5
    s.neighbour d l = some x ∧
    s.fitted d = true ∧
    l < (s.die d).links.length ∧
    let p := s.link d l
    p.state = .down ∧
    p.retryWait = true ∧
    s.tb.tbEn = true ∧
    (s.die d).tbLock = true ∧
    (s.die x).tbLock = true) ∧
   (let s : State := (base).modLink 7 1 fun p => { p with state := .align, exchCnt := 32 }
    let d : Nat := 7
    let l : Nat := 1
    let x : Nat := 5
    s.neighbour d l = some x ∧
    s.fitted d = true ∧
    l < (s.die d).links.length ∧
    let p := s.link d l
    p.state = .align ∧
    32 ≤ p.exchCnt ∧
    (p.parent = true → d ≠ 0 → 32 ≤ p.exch.length)) ∧
   (let s : State := (base).modLink 7 1 fun p => { p with state := .up }
    let d : Nat := 7
    let l : Nat := 1
    let x : Nat := 5
    s.neighbour d l = some x ∧
    s.fitted d = true ∧
    l < (s.die d).links.length ∧
    let p := s.link d l
    p.state = .up) ∧
   (let s : State := (base.modLink 5 0 fun p => { p with state := .resync }).modLink 7 1 fun p => { p with state := .resync }
    let d : Nat := 7
    let l : Nat := 1
    let x : Nat := 5
    s.neighbour d l = some x ∧
    s.fitted d = true ∧
    l < (s.die d).links.length ∧
    let p := s.link d l
    p.state = .resync ∧
    s.peerAnswers d l = true) ∧
   (let s : State := (base).modLink 7 1 fun p => { p with state := .resync }
    let d : Nat := 7
    let l : Nat := 1
    let x : Nat := 5
    s.neighbour d l = some x ∧
    s.fitted d = true ∧
    l < (s.die d).links.length ∧
    let p := s.link d l
    p.state = .resync ∧
    s.peerAnswers d l = false) ∧
   (let s : State := (base).modLink 7 1 fun p => { p with state := .resync }
    let d : Nat := 7
    let l : Nat := 1
    let x : Nat := 5
    s.neighbour d l = some x ∧
    s.fitted d = true ∧
    l < (s.die d).links.length ∧
    let p := s.link d l
    p.state = .resync) ∧
   (let s : State := (base).modLink 7 1 fun p => { p with state := .align }
    let d : Nat := 7
    let l : Nat := 1
    let x : Nat := 5
    s.neighbour d l = some x ∧
    s.fitted d = true ∧
    l < (s.die d).links.length ∧
    let p := s.link d l
    (p.state = .align ∨ p.state = .up)) := by
  refine ⟨?_, ?_, ?_, ?_, ?_, ?_, ?_, ?_⟩
  · decide +kernel
  · decide +kernel
  · decide +kernel
  · decide +kernel
  · decide +kernel
  · decide +kernel
  · decide +kernel
  · decide +kernel

/-- States and operands that meet the hypotheses of FrameEventsComplete, clause by clause. -/
theorem met_FrameEventsComplete :
   (let s : State := ((base.modLink 5 0 fun p => { p with lane := [.word 0 0] })).modLink 7 1 fun p => { p with state := .up }
    let d : Nat := 7
    let l : Nat := 1
    let x : Nat := 5
    s.neighbour d l = some x ∧
    s.fitted d = true ∧
    l < (s.die d).links.length ∧
    let p := s.link d l
    let f := Frame.word 0 0
    p.state = .up ∧
    s.frameNext d l f = true) ∧
   (let s : State := ((base.modLink 5 0 fun p => { p with lane := [.word 0 0] })).modLink 7 1 fun p => { p with state := .up, crcRun := 14 }
    let d : Nat := 7
    let l : Nat := 1
    let x : Nat := 5
    s.neighbour d l = some x ∧
    s.fitted d = true ∧
    l < (s.die d).links.length ∧
    let p := s.link d l
    let f := Frame.word 0 0
    p.state = .up ∧
    s.frameNext d l f = true ∧
    p.crcRun < 15) ∧
   (let s : State := ((base.modLink 5 0 fun p => { p with lane := [.word 0 0] })).modLink 7 1 fun p => { p with state := .up, crcRun := 15 }
    let d : Nat := 7
    let l : Nat := 1
    let x : Nat := 5
    s.neighbour d l = some x ∧
    s.fitted d = true ∧
    l < (s.die d).links.length ∧
    let p := s.link d l
    let f := Frame.word 0 0
    p.state = .up ∧
    s.frameNext d l f = true ∧
    15 ≤ p.crcRun) ∧
   (let s : State := (base).modLink 7 1 fun p => { p with state := .up, replay := [.word 0 0] }
    let d : Nat := 7
    let l : Nat := 1
    let x : Nat := 5
    s.neighbour d l = some x ∧
    s.fitted d = true ∧
    l < (s.die d).links.length ∧
    let p := s.link d l
    let f := Frame.word 0 0
    (p.replay.find? fun g => !p.lane.contains g) = some f ∧
    p.state = .up) ∧
   (let s : State := (base.modDie 7 fun u => { u with skewValid := true }).modLink 7 1 fun p => { p with state := .up, parent := true, exch := [0] }
    let d : Nat := 7
    let l : Nat := 1
    let x : Nat := 5
    s.neighbour d l = some x ∧
    s.fitted d = true ∧
    l < (s.die d).links.length ∧
    let p := s.link d l
    s.parentPort d = some l ∧
    p.state = .up ∧
    p.exch ≠ [] ∧
    (s.die d).skewValid = true ∧
    (s.die d).cutOff = false ∧
    s.tb.restart = false ∧
    d ≠ 0) ∧
   (let s : State := (live.modDie 1 fun u => { u with reparent := true }).modLink 1 1 fun p => { p with state := .up, exch := [0] }
    let d : Nat := 1
    let l : Nat := 1
    let x : Nat := 0
    s.neighbour d l = some x ∧
    s.fitted d = true ∧
    l < (s.die d).links.length ∧
    let p := s.link d l
    (s.die d).reparent = true ∧
    s.newParent d = some l ∧
    p.exch ≠ [] ∧
    (s.die d).cutOff = false) ∧
   (let s : State := (base).modLink 7 1 fun p => { p with state := .up }
    let d : Nat := 7
    let l : Nat := 1
    let x : Nat := 5
    s.neighbour d l = some x ∧
    s.fitted d = true ∧
    l < (s.die d).links.length) := by
  refine ⟨?_, ?_, ?_, ?_, ?_, ?_, ?_⟩
  · decide +kernel
  · decide +kernel
  · decide +kernel
  · decide +kernel
  · decide +kernel
  · decide +kernel
  · decide +kernel

/-- States and operands that meet the hypotheses of CrossingEventsComplete, clause by clause. -/
theorem met_CrossingEventsComplete :
   (let s : State := base.setCrossing 2047 { inFlight := true }
    let d : Nat := 7
    let x : Nat := 255
    s.fitted d = true ∧
    x < 256 ∧
    let c := s.crossing (256 * d + x)
    let n := 15
    c.inFlight = true ∧
    c.pending = none ∧
    c.next + n ≤ 15) ∧
   (let s : State := base
    let d : Nat := 7
    let x : Nat := 255
    s.fitted d = true ∧
    x < 256 ∧
    let c := s.crossing (256 * d + x)
    let n := 15
    c.inFlight = false ∧
    c.pending = none ∧
    c.next + n ≤ 15) ∧
   (let s : State := base.setCrossing 2047 { inFlight := true }
    let d : Nat := 7
    let x : Nat := 255
    s.fitted d = true ∧
    x < 256 ∧
    let c := s.crossing (256 * d + x)
    c.inFlight = true) ∧
   (let s : State := base
    let d : Nat := 7
    let x : Nat := 255
    s.fitted d = true ∧
    x < 256 ∧
    let c := s.crossing (256 * d + x)
    let n := 16
    15 < c.next + n) ∧
   (let s : State := base
    let d : Nat := 7
    let x : Nat := 255
    s.fitted d = true ∧
    x < 256) := by
  refine ⟨?_, ?_, ?_, ?_, ?_⟩
  · decide +kernel
  · decide +kernel
  · decide +kernel
  · decide +kernel
  · decide +kernel

/-- States and operands that meet the hypotheses of PortEventsComplete, clause by clause. -/
theorem met_PortEventsComplete :
   (let s : State := base
    s.pathLive .spi = true) ∧
   (let s : State := base.modPort 1 fun t => { t with busy := some ({ path := .spi, addr := 0x1C00100, write := true, val := 1 } : Access) }
    let p := .spi
    let i := 1
    let a := ({ path := .spi, addr := 0x1C00100, write := true, val := 1 } : Access)
    portIdx p = some i ∧
    (s.port i).busy = some a ∧
    (s.port i).queue = []) ∧
   (let s : State := linked.modPort 1 fun t => { t with busy := some ({ path := .spi, addr := 0x1C00100, write := false, val := 1 } : Access) }
    let p := .spi
    let i := 1
    let a := ({ path := .spi, addr := 0x1C00100, write := false, val := 1 } : Access)
    portIdx p = some i ∧
    (s.port i).busy = some a ∧
    (s.port i).queue = [] ∧
    let d := 7
    accDie a.addr = d ∧
    d ≠ 0 ∧
    a.lost = false ∧
    s.routeUp 0 d = true ∧
    a.write = false ∧
    (s.die d).inbound = []) ∧
   (let s : State := linked.modPort 1 fun t => { t with busy := some ({ path := .spi, addr := 0x1C00100, write := true, val := 1 } : Access) }
    let p := .spi
    let i := 1
    let a := ({ path := .spi, addr := 0x1C00100, write := true, val := 1 } : Access)
    portIdx p = some i ∧
    (s.port i).busy = some a ∧
    (s.port i).queue = [] ∧
    accDie a.addr ≠ 0 ∧
    a.lost = false ∧
    s.routeUp 0 (accDie a.addr) = true ∧
    a.write = true ∧
    (s.die (accDie a.addr)).inbound = []) ∧
   (let s : State := base.modPort 1 fun t => { t with busy := some ({ path := .spi, addr := 0x1C00100, write := true, val := 1 } : Access) }
    let p := .spi
    let i := 1
    let a := ({ path := .spi, addr := 0x1C00100, write := true, val := 1 } : Access)
    portIdx p = some i ∧
    (s.port i).busy = some a ∧
    (s.port i).queue = [] ∧
    (a.lost = true ∨ s.routeUp 0 (accDie a.addr) = false)) ∧
   (let s : State := base.modHost fun h => { h with slowQ := [(0x318, 1)] }
    let x := (0x318, 1#32)
    let q := []
    s.host.slowQ = x :: q) := by
  refine ⟨?_, ?_, ?_, ?_, ?_, ?_⟩
  · decide +kernel
  · decide +kernel
  · decide +kernel
  · decide +kernel
  · decide +kernel
  · decide +kernel

/-- States and operands that meet the hypotheses of PcieAndDmaEventsComplete, clause by clause. -/
theorem met_PcieAndDmaEventsComplete :
   (let s : State := base
    let k := 3
    s.part.featX = true ∧
    k ≤ 3) ∧
   (let s : State := base
    s.part.featX = true) ∧
   (let s : State := base.modHost fun h => { h with linkUp := true }
    s.part.featX = true ∧
    s.host.linkUp = true) ∧
   (let s : State := ringing 0 0
    let u := s.admitAll
    let r := 0
    let x := 1#128
    let xs := []
    u.ringTurn = some r ∧
    (u.ring r).q = x :: xs) ∧
   (let s : State := ringing 0 0
    let r := 1
    s.admitAll.ringTurn ≠ some r) ∧
   (let s : State := base.modRing 15 fun q => { q with enable := true, unreported := 1 }
    let r := 15
    (s.ring r).enable = true ∧
    0 < (s.ring r).unreported) := by
  refine ⟨?_, ?_, ?_, ?_, ?_, ?_⟩
  · decide +kernel
  · decide +kernel
  · decide +kernel
  · decide +kernel
  · decide +kernel
  · decide +kernel

/-- States and operands that meet the hypotheses of ResetEventsComplete, clause by clause. -/
theorem met_ResetEventsComplete :
   (let s : State := base.modHost fun h => { h with resetReq := [(0, 1, 3, 0)] }
    let x := ((0, 1, 3, 0) : Nat × Nat × Nat × Nat)
    (s.host.resetReq.find? fun x => (s.mbx x.2.2.1).held.isEmpty) = some x ∧
    x.1 = 0) ∧
   (let s : State := base.modHost fun h => { h with resetReq := [(7, 1, 3, 0)] }
    let x := ((7, 1, 3, 0) : Nat × Nat × Nat × Nat)
    (s.host.resetReq.find? fun x => (s.mbx x.2.2.1).held.isEmpty) = some x ∧
    x.1 ≠ 0) ∧
   (let s : State := (base.modHost fun h => { h with resetReq := [(0, 1, 3, 0)] }).modMbx 3 fun m => { m with held := [(0, 1, [])] }
    (s.host.resetReq.find? fun x => (s.mbx x.2.2.1).held.isEmpty) = none) ∧
   (let d := 7
    let n := 191
    24 * d ≤ n ∧
    n < 24 * d + 24) ∧
   (let d := 7
    let n := 63
    8 * d ≤ n ∧
    n < 8 * d + 8) ∧
   (let d := 7
    let n := 15
    2 * d ≤ n ∧
    n < 2 * d + 2) ∧
   (let d := 7
    let n := 31
    4 * d ≤ n ∧
    n < 4 * d + 4) ∧
   (let d := 7
    let n := 127
    16 * d ≤ n ∧
    n < 16 * d + 16) ∧
   (let d := 7
    let n := 223
    28 * d ≤ n ∧
    n < 28 * d + 28) ∧
   (let d := 7
    let n := 383
    48 * d ≤ n ∧
    n < 48 * d + 48) ∧
   (let d := 7
    d < 8) ∧
   (let s : State := base
    let d := 0
    s.fitted d = true ∧
    (s.die d).sysLock = false ∧
    s.belay.phase ≠ 2 ∧
    (d = 0 ∨ (s.dx d).rom = true)) ∧
   (let s : State := base
    let d := 7
    s.fitted d = true ∧
    (s.die d).sysLock = false ∧
    s.belay.phase ≠ 2 ∧
    d ≠ 0 ∧
    (s.dx d).rom = false) := by
  refine ⟨?_, ?_, ?_, ?_, ?_, ?_, ?_, ?_, ?_, ?_, ?_, ?_, ?_⟩
  · decide +kernel
  · decide +kernel
  · decide +kernel
  · decide +kernel
  · decide +kernel
  · decide +kernel
  · decide +kernel
  · decide +kernel
  · decide +kernel
  · decide +kernel
  · decide +kernel
  · decide +kernel
  · decide +kernel

/-- States and operands that meet the hypotheses of BootEventsComplete, clause by clause. -/
theorem met_BootEventsComplete :
   (let s : State := base.modDie 0 fun u => { u with sysLock := true }
    (s.die 0).sysLock = true ∧
    (s.dx 0).rom = false ∧
    s.belay.phase ≠ 3) ∧
   (let s : State := (base.modDie 0 fun u => { u with sysLock := true }).modBelay fun b => { b with phase := 3 }
    (s.die 0).sysLock = true ∧
    (s.dx 0).rom = false ∧
    s.belay.phase = 3) ∧
   (let s : State := base.modBoot fun b => { b with step := 1 }
    let b := s.host.boot
    (s.dx 0).mode ≠ 3 ∧
    (b.step = 1 ∨ (3 ≤ b.step ∧ b.srcHost = false))) ∧
   (let s : State := base.modBoot fun b => { b with step := 3, srcHost := true }
    let b := s.host.boot
    (s.dx 0).mode ≠ 3 ∧
    3 ≤ b.step ∧
    b.srcHost = true) ∧
   (let s : State := base.modDx 7 fun x => { x with gotImage := true }
    let d := 7
    d ≠ 0 ∧
    s.fitted d = true ∧
    (s.dx d).gotImage = true ∧
    (s.dx d).mode = 0) ∧
   (let s : State := base.modBoot fun b => { b with step := 2, srcHost := true, leadBuf := image 0x38 }
    let b := s.host.boot
    b.step = 2 ∧
    (s.dx 0).mode ≠ 3 ∧
    s.bootSaves = false ∧
    bodyOk s.leadImage.1 s.leadImage.2 = true) ∧
   (let s : State := base.modBoot fun b => { b with step := 2, srcHost := true, leadBuf := image 0x39 }
    let b := s.host.boot
    b.step = 2 ∧
    (s.dx 0).mode ≠ 3 ∧
    s.bootSaves = false ∧
    bodyOk s.leadImage.1 s.leadImage.2 = false) ∧
   (let s : State := base.modDx 0 fun x => { x with mode := 3 }
    ((s.dx 0).mode = 3 ∨ s.bootSaves = true)) ∧
   (let s : State := (base.modBoot fun b => { b with step := 3 }).modDx 0 fun x => { x with mode := 2 }
    let b := s.host.boot
    b.step = 3 ∧
    (s.dx 0).mode = 2) ∧
   (let s : State := base.modHost fun h => { h with flashOp := some (0, 1, 0, [], 0) }
    let slot := 1
    let off := 0
    let data := ([] : List Byte)
    let c := 0
    s.host.flashOp = some (0, slot, off, data, c)) ∧
   (let s : State := base.modHost fun h => { h with flashOp := some (1, 1, 0, [7], 0) }
    let slot := 1
    let off := 0
    let data := ([7] : List Byte)
    let c := 0
    s.host.flashOp = some (1, slot, off, data, c)) ∧
   (let s : State := base.modHost fun h => { h with flashOp := some (1, 1, 0, [7], 0) }
    let slot := 1
    let off := 0
    let data := ([7] : List Byte)
    let c := 0
    s.host.flashOp = some (1, slot, off, data, c)) := by
  refine ⟨?_, ?_, ?_, ?_, ?_, ?_, ?_, ?_, ?_, ?_, ?_, ?_⟩
  · decide +kernel
  · decide +kernel
  · decide +kernel
  · decide +kernel
  · decide +kernel
  · decide +kernel
  · decide +kernel
  · decide +kernel
  · decide +kernel
  · decide +kernel
  · decide +kernel
  · decide +kernel

/-- States and operands that meet the hypotheses of BelayEventsComplete, clause by clause. -/
theorem met_BelayEventsComplete :
   (let s : State := base.modBelay fun b => { b with mainfailEn := true }
    let b := s.belay
    b.phase = 0 ∧
    b.mainfailEn = true) ∧
   (let s : State := base.modBelay fun b => { b with armed := some 3 }
    let b := s.belay
    let c := 3
    b.phase = 0 ∧
    b.armed = some c ∧
    (s.mbx c).held = []) ∧
   (let s : State := (base.modBelay fun b => { b with armed := some 3 }).modMbx 3 fun m => { m with held := [(0, 1, [])] }
    let b := s.belay
    let c := 3
    b.armed = some c ∧
    (s.mbx c).held ≠ []) ∧
   (let s : State := base.modBelay fun b => { b with mainfailEn := false }
    let b := s.belay
    b.mainfailEn = false) ∧
   (let s : State := { (live.modBelay fun b => { b with phase := 1 }) with tb := { live.tb with k := 4 } }
    let b := s.belay
    b.phase = 1 ∧
    b.entryK = none ∧
    s.tb.restart = false ∧
    (s.running = true → b.trigK + 4 ≤ s.tb.k)) ∧
   (let s : State := base.modBelay fun b => { b with phase := 1, entryK := some 0 }
    let b := s.belay
    b.phase = 1 ∧
    b.entryK.isSome = true ∧
    s.outsRest = true ∧
    s.savesEnd = true) ∧
   (let s : State := live.modBelay fun b => { b with phase := 2, wakeS := 10 }
    let b := s.belay
    let cnt := 1562500000
    b.phase = 2 ∧
    (b.wakeS : Rat) ≤ s.cycSec cnt) ∧
   (let s : State := (base.modBelay fun b => { b with phase := 2, gen := [127] }).modOut 127 fun u => { u with state := .running }
    let b := s.belay
    let m := 127
    b.gen.contains m = true ∧
    (s.out m).state = .running ∧
    b.masterLost = false) ∧
   (let s : State := base.modBelay fun b => { b with phase := 2, rose := true }
    let b := s.belay
    let cnt := 0
    b.phase = 2 ∧
    s.exitMet cnt = true) := by
  refine ⟨?_, ?_, ?_, ?_, ?_, ?_, ?_, ?_, ?_⟩
  · decide +kernel
  · decide +kernel
  · decide +kernel
  · decide +kernel
  · decide +kernel
  · decide +kernel
  · decide +kernel
  · decide +kernel
  · decide +kernel

/-- States and operands that meet the hypotheses of MailboxEventsComplete, clause by clause. -/
theorem met_MailboxEventsComplete :
   (let s : State := base.modMbx 7 fun m => { m with h2cFull := true, h2cDb := 1, h2cMask := 0, collision := true, h2c := (zeros 12) ++ zeros 244 }
    let c := 7
    s.takeReady c = true ∧
    let m := s.mbx c
    m.collision = true) ∧
   (let s : State := base.modMbx 7 fun m => { m with h2cFull := true, h2cDb := 1, h2cMask := 0,  h2c := (zeros 12) ++ zeros 244 }
    let c := 7
    s.takeReady c = true ∧
    let m := s.mbx c
    let op := uAt m.h2c 2 2
    let seq := uAt m.h2c 4 2
    let p := (m.h2c.drop 8).take (uAt m.h2c 6 2)
    let err := framing s.host.boot m (uAt m.h2c 0 1) (uAt m.h2c 1 1) (uAt m.h2c 6 2) op seq p
    let e := retFrame
    m.collision = false ∧
    err = some e) ∧
   (let s : State := base.modMbx 7 fun m => { m with h2cFull := true, h2cDb := 1, h2cMask := 0,  h2c := ([1, 0, 1, 0, 0, 0, 8, 0] ++ zeros 4) ++ zeros 244 }
    let c := 7
    s.takeReady c = true ∧
    let m := s.mbx c
    let op := uAt m.h2c 2 2
    let seq := uAt m.h2c 4 2
    let p := (m.h2c.drop 8).take (uAt m.h2c 6 2)
    let err := framing s.host.boot m (uAt m.h2c 0 1) (uAt m.h2c 1 1) (uAt m.h2c 6 2) op seq p
    m.collision = false ∧
    err = none ∧
    s.fwdOf op p = none) ∧
   (let s : State := base.modMbx 7 fun m => { m with sess := some { port := 0, nextSeq := 0x123 }, h2cFull := true, h2cDb := 1, h2cMask := 0, h2c := [1, 0, 4, 4, 0x23, 1, 16, 0, 63] ++ zeros 247 }
    let c := 7
    s.takeReady c = true ∧
    let m := s.mbx c
    let op := uAt m.h2c 2 2
    let seq := uAt m.h2c 4 2
    let p := (m.h2c.drop 8).take (uAt m.h2c 6 2)
    let err := framing s.host.boot m (uAt m.h2c 0 1) (uAt m.h2c 1 1) (uAt m.h2c 6 2) op seq p
    let d := 7
    m.collision = false ∧
    err = none ∧
    s.fwdOf op p = some d) ∧
   (let s : State := base.modMbx 7 fun m => { m with held := [(0, 1, [])] }
    let c := 7
    let h := (0, 1, ([] : List Byte))
    let hs := []
    (s.mbx c).held = h :: hs ∧
    (s.mbx c).c2hFull = false ∧
    s.leadLive = true) ∧
   (let s : State := linked.modDx 7 fun x => { x with fwdQ := [0], mode := 2 }
    let d := 7
    let c := 0
    let cs := []
    (s.dx d).fwdQ = c :: cs ∧
    (s.dx d).mode = 2 ∧
    s.dieUp d = true ∧
    s.cpFree d = true ∧
    s.routeUp 0 d = true) ∧
   (let s : State := (State.reset.modDie 7 fun u => { u with booted := true }).modDx 7 fun x => { x with fwdQ := [0] }
    let d := 7
    let c := 0
    let cs := []
    (s.dx d).fwdQ = c :: cs ∧
    s.dieUp d = false ∧
    (s.die d).booted = true) ∧
   (let s : State := base.modDx 7 fun x => { x with mode := 2 }
    let d := 7
    s.fitted d = true ∧
    (s.dx d).mode = 2 ∧
    s.cpFree d = true ∧
    s.belay.phase ≠ 2) ∧
   (let s : State := base
    let d := 7
    s.fitted d = true) := by
  refine ⟨?_, ?_, ?_, ?_, ?_, ?_, ?_, ?_, ?_⟩
  · decide +kernel
  · decide +kernel
  · decide +kernel
  · decide +kernel
  · decide +kernel
  · decide +kernel
  · decide +kernel
  · decide +kernel
  · decide +kernel

/-- States and operands that meet the hypotheses of AbortEventsComplete, clause by clause. -/
theorem met_AbortEventsComplete :
   (let s : State := base.modAbort fun a => { a with stage := 1 }
    let a := s.host.abort
    a.stage = 1) ∧
   (let s : State := (base.modAbort fun a => { a with stage := 2 }).modDx 0 fun x => { x with mode := 2 }
    let a := s.host.abort
    let i := a.func % 4096
    let d := (abortDie (a.func / 4096) i).getD 0
    a.stage = 2 ∧
    (s.dx d).mode = 2) ∧
   (let n := 63
    n < 64) ∧
   (let s : State := base.modAbort fun a => { a with stage := 3 }
    let a := s.host.abort
    (a.stage = 2 ∨ a.stage = 3)) ∧
   (let s : State := (base.modAbort fun a => { a with func := 0x300F }).modRing 15 fun q => { q with enable := true }
    let a := s.host.abort
    let i := a.func % 4096
    (s.ring i).enable = true) ∧
   (let s : State := base.modAbort fun a => { a with stage := 4, result := 1 }
    let a := s.host.abort
    let i := a.func % 4096
    let d := (abortDie (a.func / 4096) i).getD 0
    a.stage = 4 ∧
    a.result = 1 ∧
    (d = 0 ∨ s.dieUp d = true)) ∧
   (let s : State := base.modAbort fun a => { a with stage := 1, result := 1 }
    let a := s.host.abort
    a.stage ≠ 0 ∧
    a.result = 1) := by
  refine ⟨?_, ?_, ?_, ?_, ?_, ?_, ?_⟩
  · decide +kernel
  · decide +kernel
  · decide +kernel
  · decide +kernel
  · decide +kernel
  · decide +kernel
  · decide +kernel

/-- States and operands that meet the hypotheses of StoreEventsComplete, clause by clause. -/
theorem met_StoreEventsComplete :
   (let s : State := base.modNv 7 fun n => { n with queue := [({ work := .refresh 4031 } : NvJob)] }
    let d : Nat := 7
    let n := (s.dx d).nv
    let j := ({ work := .refresh 4031 } : NvJob)
    let js := []
    let aon := 1684
    let chold := 1665
    n.queue = j :: js ∧
    s.nvPowered d = true ∧
    (aonOk aon && choldOk chold) = false) ∧
   (let s : State := base.modNv 7 fun n => { n with queue := [({ work := .refresh 4031 } : NvJob)] }
    let d : Nat := 7
    let n := (s.dx d).nv
    let j := ({ work := .refresh 4031 } : NvJob)
    let js := []
    let aon := 1700
    let chold := 1665
    n.queue = j :: js ∧
    j.fin = .none ∧
    s.nvPowered d = true ∧
    aonOk aon = true ∧
    choldOk chold = true) ∧
   (let s : State := base.modNv 7 fun n => { n with queue := [({ work := .refresh 4031 } : NvJob)] }
    let d : Nat := 7
    let n := (s.dx d).nv
    let j := ({ work := .refresh 4031 } : NvJob)
    let js := []
    let aon := 1700
    let chold := 1665
    n.queue = j :: js ∧
    j.ofRom = false ∧
    s.nvPowered d = true ∧
    aonOk aon = true ∧
    choldOk chold = true) ∧
   (let s : State := base
    let d : Nat := 7
    let n := (s.dx d).nv
    let page := 4031
    s.nvPowered d = true ∧
    page < 4032 ∧
    n.queue = []) ∧
   (let s : State := base.modDx 7 fun x => { x with mode := 2 }
    let d : Nat := 7
    let x := s.dx d
    s.fitted d = true ∧
    x.mode = 2 ∧
    s.leadLive = true ∧
    x.age.evalDue = true) ∧
   (let s : State := base
    let d : Nat := 7
    let x := s.dx d
    let off := 0x83A10
    s.fitted d = true ∧
    parWord d off = true ∧
    x.bad.contains off = false) ∧
   (let s : State := base.modStitch 223 fun u => { u with loaded := true }
    let d : Nat := 7
    let x := s.dx d
    let off := 0x7EFFC
    let e := 27
    let a := 255
    s.fitted d = true ∧
    off % 4 = 0 ∧
    progAt off = some (e, a) ∧
    x.bad = [] ∧
    (s.stitch (28 * d + e)).loaded = true ∧
    (s.stitch (28 * d + e)).badParity.contains a = false) ∧
   (let s : State := base
    let d : Nat := 7
    let x := s.dx d
    let u := 43
    s.fitted d = true ∧
    u < 44 ∧
    s.unitIdle d u = true ∧
    x.asleep.contains u = false) := by
  refine ⟨?_, ?_, ?_, ?_, ?_, ?_, ?_, ?_⟩
  · decide +kernel
  · decide +kernel
  · decide +kernel
  · decide +kernel
  · decide +kernel
  · decide +kernel
  · decide +kernel
  · decide +kernel

/-- States and operands that meet the hypotheses of StepRunsFrontCommand, clause by clause. -/
theorem met_StepRunsFrontCommand :
   (let s : State := { base with pending := [.updateBoundary, .decisionTick] }
    let c : Instr := Instr.updateBoundary
    let cs : List Instr := [Instr.decisionTick]
    s.pending = c :: cs) ∧
   (let s : State := base
    s.pending = []) := by
  refine ⟨?_, ?_⟩
  · decide +kernel
  · decide +kernel

/-- States and operands that meet the hypotheses of StepKeepsInvariant, clause by clause. -/
theorem met_StepKeepsInvariant :
   (let s : State := { live with pending := [.updateBoundary] }
    s.Inv ∧ ∃ t, step s = .next t) := (by exact ⟨by decide +kernel, exec_next .updateBoundary { live with pending := [] }⟩)

/-- States and operands that meet the hypotheses of CommandsKeepIdentityAndQueue, clause by clause. -/
theorem met_CommandsKeepIdentityAndQueue :
   (∃ t, exec .updateBoundary live = .next t) := (by exact exec_next _ _)

/-- States and operands that meet the hypotheses of FlashChangesOnlyAtOperationEnd, clause by clause. -/
theorem met_FlashChangesOnlyAtOperationEnd :
   ((∀ ok, Instr.bootStart 0 ≠ .flashOperationDone ok) ∧ ∃ t, exec (.bootStart 0) base = .next t) := (by exact ⟨nofun, exec_next _ _⟩)

/-- States and operands that meet the hypotheses of StitchWordsRoundTrip, clause by clause. -/
theorem met_StitchWordsRoundTrip :
   (let i : SInstr := SInstr.setField 7 0xFF 31 0
    i.used = true) ∧
   (let w : Word := 0x3E0000FF#32
    let i : SInstr := SInstr.branch 6 255
    decodeStitch w = some i) := by
  refine ⟨?_, ?_⟩
  · decide +kernel
  · decide +kernel

/-- States and operands that meet the hypotheses of StitchFetchFaults, clause by clause. -/
theorem met_StitchFetchFaults :
   (let s : State := base.modStitch 223 fun u => { u with busy := true, prog := [0x58000000] }
    let e : Nat := 223
    let i : Instr := Instr.emit 223
    s.hasStitch e = true ∧
    (s.stitch e).runs = true ∧
    ((s.stitch e).badParity.contains (s.stitch e).pc = true ∨ decodeStitch ((s.stitch e).prog.getD (s.stitch e).pc 0) = none) ∧
    i ∈ [Instr.halt e, .waitEvent e, .waitTime e, .setField e, .clrField e, .read e, .cmp e, .branch e, .add e, .loop e, .emit e]) := (by decide +kernel)

/-- States and operands that meet the hypotheses of StitchInstructionsFrame, clause by clause. -/
theorem met_StitchInstructionsFrame :
   (let s : State := engine (.loop 7 255)
    (s.stitch 223).commitBy = [] ∧ ∃ t, exec (.loop 223) s = .next t) ∧
   (let s : State := engine .halt
    (s.stitch 223).commitBy = [] ∧ ∃ t, exec (.halt 223) s = .next t) ∧
   (let s : State := engine (.emitDb 15)
    (s.stitch 223).commitBy = [] ∧ ∃ t, exec (.emit 223) s = .next t) := by
  refine ⟨?_, ?_, ?_⟩
  · exact ⟨by decide +kernel, exec_next _ _⟩
  · exact ⟨by decide +kernel, exec_next _ _⟩
  · exact ⟨by decide +kernel, exec_next _ _⟩

/-- States and operands that meet the hypotheses of EmitLimitPerInvocation, clause by clause. -/
theorem met_EmitLimitPerInvocation :
   (let s : State := (engine (.emitDb 15)).modStitch 223 fun u => { u with emit0 := 15 }
    let e : Nat := 223
    s.hasStitch e = true ∧
    let u := s.stitch e
    let b := 15#5
    u.fetch = .instr (.emitDb b) ∧
    u.emit0 < 16) ∧
   (let s : State := (engine (.emitDb 15)).modStitch 223 fun u => { u with emit0 := 16 }
    let e : Nat := 223
    s.hasStitch e = true ∧
    let u := s.stitch e
    let b := 15#5
    u.fetch = .instr (.emitDb b) ∧
    16 ≤ u.emit0) ∧
   (let s : State := (engine (.emitRec 255)).modStitch 223 fun u => { u with emit1 := 15 }
    let e : Nat := 223
    s.hasStitch e = true ∧
    let u := s.stitch e
    let x := 255#8
    u.fetch = .instr (.emitRec x) ∧
    u.emit1 < 16) ∧
   (let s : State := (engine (.emitRec 255)).modStitch 223 fun u => { u with emit1 := 16 }
    let e : Nat := 223
    s.hasStitch e = true ∧
    let u := s.stitch e
    let x := 255#8
    u.fetch = .instr (.emitRec x) ∧
    16 ≤ u.emit1) := by
  refine ⟨?_, ?_, ?_, ?_⟩
  · decide +kernel
  · decide +kernel
  · decide +kernel
  · decide +kernel

/-- States and operands that meet the hypotheses of UnaskedCommandsDoNothing, clause by clause. -/
theorem met_UnaskedCommandsDoNothing :
   (opcodeOf (.nop 7) = some (7, 0x0001) ∧ ¬ base.Takes 7 0x0001) := (by
    refine ⟨rfl, ?_⟩
    have hn : (base.mbx 7).msg = none := by decide +kernel
    rintro ⟨m, h, -⟩
    rw [hn] at h
    cases h)

/-- States and operands that meet the hypotheses of RefusedCommandsChangeNothing, clause by clause. -/
theorem met_RefusedCommandsChangeNothing :
   (let p : List Byte := leBytes 2 319 ++ zeros 30
    let s : State := ask base 7 0x0201 p
    let m : Msg := msg 0x0201 p
    (opcodeOf (.inputConfig 7) = some (7, 0x0201) ∧ (¬ 0x0201 ∈ [0x000B, 0x000D, 0x0A01, 0x0A02, 0x0C03]) ∧ s.host.flashOp = none ∧
      (s.mbx 7).msg = some m ∧ m.op = 0x0201 ∧ m.held = false ∧ m.fwd = none ∧ s.Serves 7) ∧
    ∃ t, exec (.inputConfig 7) s = .next t) := (by exact ⟨by decide +kernel, exec_next _ _⟩)

/-- States and operands that meet the hypotheses of ReadOnlyChannelsRefuseChanges, clause by clause. -/
theorem met_ReadOnlyChannelsRefuseChanges :
   (let s : State := base.modMbx 7 fun x => { x with msg := some { msg 0x0201 (zeros 32) with ro := true } }
    let i : Instr := Instr.inputConfig 7
    let c : Nat := 7
    let op : Nat := 0x0201
    let m : Msg := { msg 0x0201 (zeros 32) with ro := true }
    opcodeOf i = some (c, op) ∧
    changes op = true ∧
    s.host.flashOp = none ∧
    (s.mbx c).msg = some m ∧
    m.op = op ∧
    m.held = false ∧
    m.fwd = none ∧
    m.ro = true ∧
    s.Serves c) := (by decide +kernel)

/-- States and operands that meet the hypotheses of AnswersReachTheHost, clause by clause. -/
theorem met_AnswersReachTheHost :
   (let s : State := base
    let c : Nat := 7
    (s.mbx c).c2hFull = false) ∧
   (let s : State := base.modMbx 7 fun x => { x with c2hFull := true }
    let c : Nat := 7
    (s.mbx c).c2hFull = true) := by
  refine ⟨?_, ?_⟩
  · decide +kernel
  · decide +kernel

/-- States and operands that meet the hypotheses of TimebaseWriteWhileOn, clause by clause. -/
theorem met_TimebaseWriteWhileOn :
   (let s : State := live
    let p : Path := .i2c
    let w : Word := 0#32
    let i : Instr := Instr.tbEnClear .i2c 0
    s.pathLive p = true ∧
    s.tb.tbEn = true ∧
    i ∈ [Instr.tbEnSet p w, .tbEnClear p w, .tbConfigWrite p w]) := (by decide +kernel)

/-- States and operands that meet the hypotheses of EventsLeaveTheirMark, clause by clause. -/
theorem met_EventsLeaveTheirMark :
   (let s : State := { (base.modDpll 63 fun u => { u with enable := true, sel := { u.sel with holdoff := 1 } }) with tb := { base.tb with k := 1 } }
    let n : Nat := 63
    s.hasDpll n = true ∧
    (s.dpll n).enable = true ∧
    s.tb.restart = false ∧
    let u := s.dpll n
    u.sel.holdoff ≠ 0 ∧
    u.sel.holdoff ≤ s.tb.k) ∧
   (let s : State := live.modDpll 63 fun u => { u with enable := true, sel := { u.sel with pend := some { want := 168, reason := 0, hook := false } } }
    let n : Nat := 63
    s.hasDpll n = true ∧
    (s.dpll n).enable = true ∧
    s.tb.restart = false ∧
    let u := s.dpll n
    let p := ({ want := 168, reason := 0, hook := false } : PendSwitch)
    s.running = true ∧
    u.sel.pend = some p ∧
    p.atK ≤ s.tb.k) ∧
   (let s : State := { (live.modDpll 63 fun u => { u with enable := true, state := .locked, gate := { u.gate with running := true, start := some { k := 0, refT := 0, refN := 0, fbT := 0, fbOfs := 0, fbN := 0 } }, ref := { u.ref with last := some (0, 0) }, fb := some (0, 0, 0) }) with tb := { live.tb with k := 3200 * 1000 } }
    let n : Nat := 63
    s.hasDpll n = true ∧
    (s.dpll n).enable = true ∧
    s.tb.restart = false ∧
    let u := s.dpll n
    u.gate.running = true ∧
    u.gate.startK + 3200 * u.gateLenEval (s.streamFreq u.refStream) ≤ s.tb.k ∧
    (u.state = .acquiring ∨ u.state = .locked)) ∧
   (let s : State := base.modDpll 63 fun u => { u with enable := true, cfg := { role := 2 }, mirrorSilent := 32 }
    let n : Nat := 63
    s.hasDpll n = true ∧
    (s.dpll n).enable = true ∧
    s.tb.restart = false ∧
    let u := s.dpll n
    u.cfg.role = 2 ∧
    32 ≤ u.mirrorSilent) ∧
   (let s : State := base.modDpll 63 fun u => { u with enable := true, fbBadRun := 321 }
    let n : Nat := 63
    s.hasDpll n = true ∧
    (s.dpll n).enable = true ∧
    s.tb.restart = false ∧
    let u := s.dpll n
    u.fbFault = false ∧
    s.tapBusy n = false ∧
    320 < u.fbBadRun) ∧
   (let s : State := base.modDpll 63 fun u => { u with enable := true }
    let n : Nat := 63
    s.hasDpll n = true ∧
    (s.dpll n).enable = true ∧
    s.tb.restart = false) ∧
   (let s : State := base.modDpll 63 fun u => { u with enable := true, cfg := { role := 1 }, state := .holdover }
    let n : Nat := 63
    s.hasDpll n = true ∧
    (s.dpll n).enable = true ∧
    s.tb.restart = false ∧
    let u := s.dpll n
    u.cfg.role = 1 ∧
    u.state = .holdover) ∧
   (let s : State := base.modDpll 63 fun u => { u with enable := true, cfg := { role := 1 }, ho := { u.ho with accN := 1 } }
    let n : Nat := 63
    s.hasDpll n = true ∧
    (s.dpll n).enable = true ∧
    s.tb.restart = false ∧
    let u := s.dpll n
    u.cfg.role = 1 ∧
    s.tb.k % tickWin u.ho.tick = 0 ∧
    u.ho.accN ≠ 0) ∧
   (let s : State := live.setOsc 15 { active := true }
    let n : Nat := 15
    s.hasOsc n = true ∧
    let u := s.osc n
    u.active = true ∧
    s.running = true ∧
    s.tb.restart = false ∧
    s.tb.oscLoss = false ∧
    s.dieUp (dieOfOsc n) = true) ∧
   (let s : State := base.modModel 15 fun u => { u with tsense := true, r25 := 10000 }
    let n : Nat := 15
    s.hasOsc n = true ∧
    let ohms := 640001
    (s.model n).tsense = true ∧
    tempFault (s.model n).r25 ohms = true) ∧
   (let s : State := base.setOsc 15 { active := true }
    let n : Nat := 15
    s.hasOsc n = true ∧
    let u := s.osc n
    u.active = true) ∧
   (let s : State := base
    let n : Nat := 15
    s.hasOsc n = true ∧
    s.belay.phase ≠ 2) ∧
   (let s : State := base.modModel 15 fun u => { u with obsSec := 64 }
    let n : Nat := 15
    s.hasOsc n = true ∧
    64 ≤ (s.model n).obsSec) ∧
   (let s : State := base.modModel 15 fun u => { u with state := .restored, verN := 600 }
    let n : Nat := 15
    s.hasOsc n = true ∧
    (s.model n).state = .restored ∧
    s.cairn.restoreVerifyS ≤ (s.model n).verN) ∧
   (let s : State := { ((live.modModel 15 fun u => { u with state := .qualified }).setOsc 15 { active := true }).modDpll 63 fun u => { u with enable := true, state := .locked, selInput := 0 } with cairn := { base.cairn with slots := [{ port := 15, used := true }], learnDpll := [63], learnRankMax := 255 } }
    let n : Nat := 15
    s.hasOsc n = true ∧
    (s.model n).state = .qualified ∧
    s.learns n = true ∧
    s.cairn.saveMin ≠ 0) ∧
   (let s : State := base.modAbort fun a => { a with stage := 1 }
    let a := s.host.abort
    a.stage = 1) ∧
   (let s : State := (base.modAbort fun a => { a with stage := 2 }).modDx 0 fun x => { x with mode := 2 }
    let a := s.host.abort
    a.stage = 2 ∧
    (s.dx ((abortDie (a.func / 4096) (a.func % 4096)).getD 0)).mode = 2) ∧
   (let s : State := base.modAbort fun a => { a with stage := 3 }
    let a := s.host.abort
    (a.stage = 2 ∨ a.stage = 3)) ∧
   (let s : State := base.modAbort fun a => { a with stage := 4, result := 1 }
    let a := s.host.abort
    a.stage = 4 ∧
    a.result = 1 ∧
    (abortDie (a.func / 4096) (a.func % 4096)).getD 0 = 0) ∧
   (let s : State := base.modAbort fun a => { a with stage := 4, result := 1 }
    let a := s.host.abort
    a.stage = 4 ∧
    a.result = 1) ∧
   (let s : State := base.modNv 7 fun n => { n with queue := [({ work := .refresh 4031 } : NvJob)] }
    let n : Nat := 7
    s.fitted n = true ∧
    let x := s.dx n
    let j := ({ work := .refresh 4031 } : NvJob)
    let js := []
    let aon := 1684
    let chold := 1665
    x.nv.queue = j :: js ∧
    s.belay.phase ≠ 2 ∧
    j.ofRom = false ∧
    (aonOk aon && choldOk chold) = false) ∧
   (let s : State := base
    let n : Nat := 7
    s.fitted n = true ∧
    let x := s.dx n
    let page := 4031
    s.belay.phase ≠ 2 ∧
    page < 4032 ∧
    x.nv.queue = []) ∧
   (let s : State := base.modDx 7 fun x => { x with mode := 2 }
    let n : Nat := 7
    s.fitted n = true ∧
    let x := s.dx n
    x.mode = 2 ∧
    s.leadLive = true ∧
    x.age.evalDue = true) ∧
   (let s : State := base
    let n : Nat := 7
    s.fitted n = true ∧
    let x := s.dx n
    let off := 0x83A10
    parWord n off = true ∧
    x.bad.contains off = false) ∧
   (let s : State := base.modDx 7 fun x => { x with mode := 2 }
    let n : Nat := 7
    s.fitted n = true ∧
    let x := s.dx n
    x.mode = 2 ∧
    s.cpFree n = true ∧
    s.belay.phase ≠ 2 ∧
    n ≠ 0) ∧
   (let s : State := base
    let n : Nat := 7
    s.fitted n = true) ∧
   (let s : State := linked.modDx 7 fun x => { x with fwdQ := [0], mode := 2 }
    let n : Nat := 7
    s.fitted n = true ∧
    let x := s.dx n
    let c := 0
    let cs := []
    x.fwdQ = c :: cs ∧
    x.mode = 2 ∧
    s.dieUp n = true ∧
    s.cpFree n = true ∧
    s.routeUp 0 n = true) := by
  refine ⟨?_, ?_, ?_, ?_, ?_, ?_, ?_, ?_, ?_, ?_, ?_, ?_, ?_, ?_, ?_, ?_, ?_, ?_, ?_, ?_, ?_, ?_, ?_, ?_, ?_, ?_, ?_⟩
  · decide +kernel
  · decide +kernel
  · decide +kernel
  · decide +kernel
  · decide +kernel
  · decide +kernel
  · decide +kernel
  · decide +kernel
  · decide +kernel
  · decide +kernel
  · decide +kernel
  · decide +kernel
  · decide +kernel
  · decide +kernel
  · decide +kernel
  · decide +kernel
  · decide +kernel
  · decide +kernel
  · decide +kernel
  · decide +kernel
  · decide +kernel
  · decide +kernel
  · decide +kernel
  · decide +kernel
  · decide +kernel
  · decide +kernel
  · decide +kernel

/-- States and operands that meet the hypotheses of UnitCommandsFrame, clause by clause. -/
theorem met_UnitCommandsFrame :
   (let s : State := ask base 7 0x0D05 ([7])
    (s.mbx 7).msg = some (msg 0x0D05 ([7])) ∧ ∃ t, exec (.ageingGetStatus 7) s = .next t) ∧
   (let s : State := ask base 7 0x0204 (leBytes 2 319)
    (s.mbx 7).msg = some (msg 0x0204 (leBytes 2 319)) ∧ ∃ t, exec (.inputClear 7) s = .next t) ∧
   (let s : State := ask base 7 0x0606 (leBytes 2 63)
    (s.mbx 7).msg = some (msg 0x0606 (leBytes 2 63)) ∧ ∃ t, exec (.dpllSetHoldover 7) s = .next t) ∧
   (let s : State := ask base 7 0x0502 (leBytes 2 63)
    (s.mbx 7).msg = some (msg 0x0502 (leBytes 2 63)) ∧ ∃ t, exec (.dpllSetSelection 7) s = .next t) ∧
   (let s : State := ask base 7 0x0805 (leBytes 2 127)
    (s.mbx 7).msg = some (msg 0x0805 (leBytes 2 127)) ∧ ∃ t, exec (.tdSetTod 7) s = .next t) ∧
   (let s : State := ask base 7 0x0701 (leBytes 2 31)
    (s.mbx 7).msg = some (msg 0x0701 (leBytes 2 31)) ∧ ∃ t, exec (.opllConfig 7) s = .next t) ∧
   (let s : State := ask base 7 0x0901 (leBytes 2 223)
    (s.mbx 7).msg = some (msg 0x0901 (leBytes 2 223)) ∧ ∃ t, exec (.stitchLoad 7) s = .next t) ∧
   (let s : State := ask base 7 0x0B03 (leBytes 2 127)
    (s.mbx 7).msg = some (msg 0x0B03 (leBytes 2 127)) ∧ ∃ t, exec (.irqRoute 7) s = .next t) := by
  refine ⟨?_, ?_, ?_, ?_, ?_, ?_, ?_, ?_⟩
  · exact ⟨by decide +kernel, exec_next _ _⟩
  · exact ⟨by decide +kernel, exec_next _ _⟩
  · exact ⟨by decide +kernel, exec_next _ _⟩
  · exact ⟨by decide +kernel, exec_next _ _⟩
  · exact ⟨by decide +kernel, exec_next _ _⟩
  · exact ⟨by decide +kernel, exec_next _ _⟩
  · exact ⟨by decide +kernel, exec_next _ _⟩
  · exact ⟨by decide +kernel, exec_next _ _⟩

/-- States and operands that meet the hypotheses of UnitEventsFrame, clause by clause. -/
theorem met_UnitEventsFrame :
   (∃ t, exec (.notValidTimeout 319) base = .next t) ∧
   (∃ t, exec (.streamTimeout 63 0) base = .next t) ∧
   (∃ t, exec (.thermistorRead 15 10000) base = .next t) ∧
   (∃ t, exec (.opllFaultRetry 31) base = .next t) ∧
   (∃ t, exec (.tdHoldExpire 127) base = .next t) ∧
   (∃ t, exec (.coreSwap 7 47 (-1)) base = .next t) := by
  refine ⟨?_, ?_, ?_, ?_, ?_, ?_⟩
  · exact exec_next _ _
  · exact exec_next _ _
  · exact exec_next _ _
  · exact exec_next _ _
  · exact exec_next _ _
  · exact exec_next _ _

/-- States and operands that meet the hypotheses of UnreachedWritesDoNothing, clause by clause. -/
theorem met_UnreachedWritesDoNothing :
   (let s : State := base.modBelay fun b => { b with phase := 2 }
    let p : Path := .spi
    let i : Instr := Instr.tbEnSet .spi 1
    s.pathLive p = false ∧
    let w := 1#32
    let n := 0
    let r := 0
    let b := true
    let a := 0
    let k := 0
    i ∈ [Instr.tbEnSet p w, .tbEnClear p w, .tbConfigWrite p w, .inputEnable p n, .inputDisable p n,
          .forceDisqWrite p n b, .rankPriorityWrite p n r k, .dpllEnable p n, .dpllDisable p n, .forceFreerun p n, .forceHoldover p n, .forceAutomatic p n,
          .selRetblkClear p n w, .selHookVerdictWrite p n w, .opllEnable p n, .opllDisable p n, .outputEnable p n, .outputDisable p n, .outRunStart p n,
          .outRunStop p n, .outPhaseWrite p n r w, .tdEnable p n, .tdDisable p n, .tdOfsCommit p n, .evConfigWrite p n r w, .stitchEnableWrite p n b,
          .stitchSignal p n, .mbxH2cDoorbell p n, .mbxC2hClear p n, .h2cBufWrite p n r w, .abortReqWrite p w, .semReadAcquire p n, .semRelease p n,
          .semHeldRelease p r w, .irqVecAckWrite p w, .indDataAccess p b w, .ringRdPtrWrite p n w, .bgEnWrite p n b, .aliasWrite p a w,
          .satCounterClear p a w, .registerWrite p a w]) ∧
   (let s : State := { base with part := { base.part with diesLog2 := 2, featE := false } }
    let p : Path := .spi
    let i : Instr := Instr.inputEnable .spi 160
    let n := 160
    s.hasInput n = false ∧
    let b := true
    let r := 0
    let k := 0
    i ∈ [Instr.inputEnable p n, .inputDisable p n, .forceDisqWrite p n b, .rankPriorityWrite p n r k]) ∧
   (let s : State := { base with part := { base.part with diesLog2 := 2, featE := false } }
    let p : Path := .spi
    let i : Instr := Instr.dpllEnable .spi 32
    let n := 32
    s.hasDpll n = false ∧
    let w := 0#32
    i ∈ [Instr.dpllEnable p n, .dpllDisable p n, .forceFreerun p n, .forceHoldover p n, .forceAutomatic p n,
        .selRetblkClear p n w, .selHookVerdictWrite p n w]) ∧
   (let s : State := { base with part := { base.part with diesLog2 := 2, featE := false } }
    let p : Path := .spi
    let i : Instr := Instr.outputEnable .spi 64
    let n := 64
    s.hasOut n = false ∧
    let r := 0
    let w := 0#32
    i ∈ [Instr.outputEnable p n, .outputDisable p n, .outRunStart p n, .outRunStop p n, .outPhaseWrite p n r w]) ∧
   (let s : State := { base with part := { base.part with diesLog2 := 2, featE := false } }
    let p : Path := .spi
    let i : Instr := Instr.evConfigWrite .spi 0 0 0
    let n := 0
    s.hasEv n = false ∧
    let r := 0
    let w := 0#32
    i = .evConfigWrite p n r w) ∧
   (let s : State := base
    let p : Path := .spi
    let i : Instr := Instr.h2cBufWrite .spi 3 63 0
    s.pathLive p = true ∧
    s.secureBy p = false ∧
    s.host.boot.download = false ∧
    let c := 3
    let k := 63
    let w := 0#32
    c < 4 ∧
    k < 64 ∧
    i ∈ [Instr.mbxH2cDoorbell p c, .mbxC2hClear p c, .h2cBufWrite p c k w, .semHeldRelease p (k % 2) w]) := by
  refine ⟨?_, ?_, ?_, ?_, ?_, ?_⟩
  · decide +kernel
  · decide +kernel
  · decide +kernel
  · decide +kernel
  · decide +kernel
  · decide +kernel

/-- States and operands that meet the hypotheses of FullRingDropsRecord, clause by clause. -/
theorem met_FullRingDropsRecord :
   (let s : State := ringing 256 0
    let i : Nat := 0
    let r : BitVec 128 := 1#128
    let rs : List (BitVec 128) := []
    s.admitAll.ringTurn = some i ∧
    let u := s.admitAll.ring i
    u.q = r :: rs ∧
    u.entries ≤ u.unread) := (by decide +kernel)

/-- States and operands that meet the hypotheses of OpllLosesLockAtFirstFailure, clause by clause. -/
theorem met_OpllLosesLockAtFirstFailure :
   (let s : State := base.modOpll 31 fun u => { u with state := .aligning, configured := true, refHz := 98304000, int := 100, nCur := 100 * 2 ^ 40 }
    let n : Nat := 31
    s.hasOpll n = true ∧
    ((s.opll n).state = .aligning ∨ (s.opll n).state = .locked) ∧
    let u := s.opll n
    let count := 98308
    u.passes count = false) ∧
   (let s : State := base.modOpll 31 fun u => { u with state := .locked, configured := true, refHz := 98304000, int := 100, nCur := 100 * 2 ^ 40 }
    let n : Nat := 31
    s.hasOpll n = true ∧
    ((s.opll n).state = .aligning ∨ (s.opll n).state = .locked) ∧
    let u := s.opll n
    let count := 98307
    u.passes count = true) ∧
   (let s : State := base.modOpll 31 fun u => { u with state := .locked }
    let n : Nat := 31
    s.hasOpll n = true ∧
    ((s.opll n).state = .aligning ∨ (s.opll n).state = .locked)) ∧
   (let s : State := base.modOpll 31 fun u => { u with state := .aligning, configured := true, refHz := 98304000, int := 100, nCur := 100 * 2 ^ 40 }
    let n : Nat := 31
    s.hasOpll n = true ∧
    ((s.opll n).state = .aligning ∨ (s.opll n).state = .locked) ∧
    let u := s.opll n
    u.expect = 98304) := by
  refine ⟨?_, ?_, ?_, ?_⟩
  · decide +kernel
  · decide +kernel
  · decide +kernel
  · decide +kernel

/-- States and operands that meet the hypotheses of LateWordsAreDiscarded, clause by clause. -/
theorem met_LateWordsAreDiscarded :
   (let s : State := (({ base with tb := { base.tb with k := 1 } } : State).modLink 5 0 fun p => { p with lane := [.word 0 0] }).modLink 7 1 fun p => { p with state := .up }
    let d : Nat := 7
    let l : Nat := 1
    let x : Nat := 5
    let i : Nat := 0
    let k : Nat := 0
    s.neighbour d l = some x ∧
    (s.link d l).state = .up ∧
    s.frameNext d l (.word i k) = true ∧
    k < s.tb.k) := (by decide +kernel)

end Sys2Proof.Tests
end

section
/-! SUPPORT. No command changes the fused identity of the part, its fused values or the queue (R1, R8). -/

namespace Sys2Proof.Machine
open Sys2Proof

/-- `t` has the part, the fused values and the queue of waiting commands of `s`. -/
def State.KeepsIdentity (s t : State) : Prop := t.part = s.part ∧ t.fused = s.fused ∧ t.pending = s.pending

theorem State.keepsIdentity_refl (s : State) : s.KeepsIdentity s := ⟨rfl, rfl, rfl⟩

/-- What follows every command keeps the identity, so a command keeps it when its own effect does. -/
theorem fin_keepsIdentity {s t u : State} (h : fin u = .next t) (hu : s.KeepsIdentity u) : s.KeepsIdentity t := by
  obtain ⟨hpart, hfused, hpending⟩ := hu
  rw [fin_next h]
  exact ⟨u.after_part.trans hpart, u.after_fused.trans hfused, u.after_pending.trans hpending⟩

theorem runCmd_keepsIdentity {s : State} {c op : Nat} {body : Nat → List Byte → State → Reply}
    (hb : ∀ p, s.KeepsIdentity (body c p s).s) : s.KeepsIdentity (s.runCmd c op body) := State.runCmd_keep3 s c op body hb

/-- Settles O42: a Unest command keeps the identity because its body does, every other command because the operation of its row does
(the lemmas of the Keep files). -/
theorem commandsKeepIdentityAndQueue : Obligations.CommandsKeepIdentityAndQueue := by
  unfold Obligations.CommandsKeepIdentityAndQueue
  intro c s t h
  change s.KeepsIdentity t
  cases c with
  -- the Unest commands
  | nop | getCaps | getVersion | reset | getAbortStatus | eventSubscribe | eventRead | logGet | logClear | sessionOpen | sessionAuth
  | sessionClose | portKeyProgram | channelPolicy | tbSetMaster | inputConfig | inputSetMonitors | inputGetStatus | inputClear | tdcGetPicot
  | tdcSaveSeed | tdcCoreReset | dpllConfig | dpllSetLoop | dpllGetLoop | dpllSetSteer | dpllPhaseAdjust | dpllGetStatus | dpllGetCandidates
  | dpllSetCandidates | dpllSetSelection | dpllGetSwitchLog | cairnSetMember | cairnSetConfig | cairnGetModel | cairnSave | cairnForget
  | dpllSetHoldover | dpllGetHoldover | opllConfig | opllSetFreq | opllAlign | outputConfig | outputRun | tdConfig | tdGetConfig | tdSetTime
  | tdGetTime | tdSetTod | stitchLoad | stitchCommit | stitchDefault | stitchRun | bootLoad | bootStart | bootConfirm | bootProfileSet
  | dmaRingConfig | dmaGetStatus | irqRoute | nvRead | nvWrite | nvLogin | nvSetPassword | nvGetStatus | belayConfig | belayEnter
  | powerGetStatus | marginGetPlan | ageingGetStatus =>
    exact fin_keepsIdentity h (runCmd_keepsIdentity fun p => by simp [State.KeepsIdentity])
  | fwFlash c =>
    refine fin_keepsIdentity h ?_
    split
    · exact s.keepsIdentity_refl
    · exact runCmd_keepsIdentity fun p => by simp [State.KeepsIdentity]
  -- the stitch instructions and the events of an engine
  | halt | waitEvent | waitTime | setField | clrField | read | cmp | branch | add | loop | emit | stitchInvoke | stitchWaitResume
  | stitchOverrun | stitchUnitWrite
  -- the register accesses
  | tbEnSet | tbEnClear | tbConfigWrite | inputEnable | inputDisable | forceDisqWrite | rankPriorityWrite | dpllEnable | dpllDisable
  | forceFreerun | forceHoldover | forceAutomatic | selRetblkClear | selHookVerdictWrite | opllEnable | opllDisable | outputEnable
  | outputDisable | outRunStart | outRunStop | outPhaseWrite | tdEnable | tdDisable | tdOfsCommit | evConfigWrite | stitchEnableWrite
  | stitchSignal | mbxH2cDoorbell | mbxC2hClear | h2cBufWrite | abortReqWrite | semRelease | semHeldRelease | irqVecAckWrite | indDataAccess
  | ringRdPtrWrite | bgEnWrite | aliasWrite | satCounterClear | registerWrite
  -- the events of the host side, the fabric and the signal path
  | spiStatus | spiCsRise | slowWriteDrain | pcieLinkLoss | powerOnReset | resetn | resetDelayExpire | belayTrigger | belayCapture
  | belayPowerDown | belayWake | belayOutputPulse | belayExit | syspllLock | bootRomStart | unitImageStreamed | followerImageStart
  | leadImageStart | mailboxOpen | mbxMessageTake | responsePost | forwardedRequest | cpPeriodicTask | cpHalt | flashOperationDone
  | abortRequestArrive | abortCleanupDone | abortForce | abortCompletion | abortUnconfirmed | nvPageWrite | marginScan | marginPlanEval
  | configScrub | fabricUnitSleep | ringRecordWrite | writebackTimerExpire | mainFailnRise | i2cStop | pcieLinkUp | pcieConfigWrite
  | tbpllLock | timebaseRestartEnd | portActivityLoss | portStart | linkTrainDone | linkTrainTimeout | linkRetrainRetry | linkAlignDone
  | linkResetSignal | laneLockLoss | resyncDone | resyncTimeout | reparentRelock | twoWayExchange | skewUpdate | shuttleFrameReceive
  | frameRetransmit | slotPlanAdopt | cdcValueDeliver | oscReturn | phasePredictorValid
  | tdcEdgeCapture | tdcFillEnd | bgHistogramDone | coreSwap | seedSave | updateBoundary | decisionTick | wtrExpire | holdoffExpire
  | switchExecute | losTimeout | losClear | freqGateEnd | driftEvaluation | staleTimeout | streamTimeout | notValidTimeout | lockGateEnd
  | mirrorLeaderLost | fbFaultTimeout | freerunWordRefresh | holdoverWordRefresh | historySample | portMeterSample | thermistorRead
  | cairnSecond | learningMean | restoreVerify | modelSave | opllBandCalDone | opllGateEnd | opllCycleSlip | opllLockingTimeout
  | opllFaultRetry | opllAlignSlot | outputFirstEdge | outputStopLevel | wholeSecondCrossing | todMessageStart | tdHoldExpire =>
    exact fin_keepsIdentity h (by simp [State.KeepsIdentity])
  | semReadAcquire p n =>
    refine fin_keepsIdentity h ?_
    split
    · dsimp only
      split <;> simp [State.KeepsIdentity]
    · exact s.keepsIdentity_refl
  | lateAccess p | remoteAccessComplete p =>
    refine fin_keepsIdentity h ?_
    split
    · simp [State.KeepsIdentity]
    · exact s.keepsIdentity_refl

end Sys2Proof.Machine
end

section
/-! SUPPORT. Register writes that reach no register: over a dead path, to an absent unit, or into a secure range (R3, R11, R471). -/

namespace Sys2Proof.Machine
open Sys2Proof

/-! ## Writes that reach nothing (R3, R11) -/

/-- A meaning whose effect is none leaves only what follows every command. -/
theorem fin_unchanged {s u : State} (h : u = s) : fin u = .next s.after := congrArg fin h

theorem State.land_dead {s : State} {p : Path} (h : s.pathLive p = false) (d off : Nat) (w : Word) : s.land p d off w = s := by
  unfold State.land
  simp [h]

theorem State.access_dead {s : State} {p : Path} (h : s.pathLive p = false) (a : Nat) (b : Bool) (w : Word) : s.access p a b w = s := by
  unfold State.access
  simp [h]

theorem State.landInput_absent {s : State} {n : Nat} (h : s.hasInput n = false) (p : Path) (w : Word) : s.landInput p n w = s := by
  unfold State.landInput
  simp [h]

theorem State.landDpll_absent {s : State} {n : Nat} (h : s.hasDpll n = false) (p : Path) (r : Nat) (w : Word) : s.landDpll p n r w = s := by
  unfold State.landDpll
  simp [h]

theorem State.landOut_absent {s : State} {n : Nat} (h : s.hasOut n = false) (p : Path) (r : Nat) (w : Word) : s.landOut p n r w = s := by
  unfold State.landOut
  simp [h]

/-! ## Secure ranges (R471) -/

theorem State.fitted_zero (s : State) : s.fitted 0 = true := by
  simp [State.fitted, State.nDies]

theorem State.violates_mailbox {s : State} {p : Path} {off : Nat} (hs : s.secureBy p = false) (hd : s.host.boot.download = false)
    (hlo : 0x80000 ≤ off) (hhi : off < 0x82000) (b : Bool) : s.violates p 0 off b = true := by
  simp [State.violates, State.secRange, hs, hd, hlo, hhi]

theorem State.violates_semHeld {s : State} {p : Path} {r : Nat} (hs : s.secureBy p = false) (hr : r < 2) :
    s.violates p 0 (0x900 + 4 * r) true = true := by
  have hoff : 0x900 + 4 * r = 0x900 ∨ 0x900 + 4 * r = 0x904 := by omega
  rcases hoff with h | h <;> simp [State.violates, State.secRange, hs, h]

/-- A write that is not secure, to a secure range, is dropped and marked. -/
theorem State.land_violates {s : State} {p : Path} {off : Nat} (hl : s.pathLive p = true) (hv : s.violates p 0 off true = true) (w : Word) :
    s.land p 0 off w = s.modHost fun h => { h with violH := true } := by
  unfold State.land
  simp [hl, hv, State.fitted_zero]

/-- Mailbox channels 0 to 3 lie in a secure range outside download mode. -/
theorem State.landMbx_insecure {s : State} {p : Path} {c r : Nat} (hl : s.pathLive p = true) (hs : s.secureBy p = false)
    (hd : s.host.boot.download = false) (hc : c < 4) (hr : r < 0x800) (w : Word) :
    s.landMbx p c r w = s.modHost fun h => { h with violH := true } := by
  unfold State.landMbx
  rw [if_pos (by omega), State.land_violates hl (State.violates_mailbox hs hd (by omega) (by omega) true)]

/-- Settles O57: a write over a path that is not live, and one to an absent unit, leaves the state as it is; one that is not secure meets a
secure range. -/
theorem unreachedWritesDoNothing : Obligations.UnreachedWritesDoNothing := by
  unfold Obligations.UnreachedWritesDoNothing
  intro s p i
  refine ⟨?deadPath, ?noInput, ?noDpll, ?noOut, ?noEv, ?insecure⟩
  case deadPath =>
    intro hp w n r b a k hi
    simp only [List.mem_cons, List.not_mem_nil, or_false] at hi
    casesm* _ ∨ _ <;> subst hi
    -- every row is a write at its register (State.land) or an access, perhaps under a condition of its own
    all_goals
      exact fin_unchanged (by simp [State.landInput, State.landDpll, State.landOpll, State.landOut, State.landTd, State.landStitch,
        State.landMbx, State.land_dead hp, State.access_dead hp, hp])
  case noInput =>
    intro n hn b r k hi
    simp only [List.mem_cons, List.not_mem_nil, or_false] at hi
    rcases hi with rfl | rfl | rfl | rfl <;> exact fin_unchanged (State.landInput_absent hn _ _)
  case noDpll =>
    intro n hn w hi
    simp only [List.mem_cons, List.not_mem_nil, or_false] at hi
    rcases hi with rfl | rfl | rfl | rfl | rfl | rfl | rfl <;> exact fin_unchanged (State.landDpll_absent hn _ _ _)
  case noOut =>
    intro n hn r w hi
    simp only [List.mem_cons, List.not_mem_nil, or_false] at hi
    rcases hi with rfl | rfl | rfl | rfl | rfl <;> exact fin_unchanged (by simp [State.landOut_absent hn])
  case noEv =>
    rintro n hn r w rfl
    exact fin_unchanged (by simp [hn])
  case insecure =>
    intro hl hs hd c k w hc hk hi
    simp only [List.mem_cons, List.not_mem_nil, or_false] at hi
    rcases hi with rfl | rfl | rfl | rfl
    · exact congrArg fin (State.landMbx_insecure hl hs hd hc (by omega) _)
    · exact congrArg fin (State.landMbx_insecure hl hs hd hc (by omega) _)
    · exact congrArg fin ((if_pos hk).trans (State.landMbx_insecure hl hs hd hc (by omega) w))
    · have hr : k % 2 < 2 := Nat.mod_lt k (by omega)
      exact congrArg fin ((if_pos hr).trans (State.land_violates hl (State.violates_semHeld hs hr) w))

end Sys2Proof.Machine
end

section
/-! SUPPORT. Accesses of a free port: from the port to the register they name (R11, R340, R462, R464, R471, R473, R476). -/

namespace Sys2Proof.Machine
open Sys2Proof

/-! ## Accesses of a free port (R462, R467) -/

/-- An address of the package over SPI, I2C or BAR0 starts its access at once when the port is free. -/
theorem State.access_free {s : State} {p : Path} {i a : Nat} (hl : s.pathLive p = true) (hp : p ≠ .bar2) (hi : portIdx p = some i)
    (hb : (s.port i).busy = none) (ha : a < 2 ^ 25) (h4 : a % 4 = 0) (b : Bool) (w : Word) :
    s.access p a b w = s.startAccess i { path := p, addr := a, write := b, val := w } := by
  have haddr : a / 4 * 4 = a := by omega
  have hbar4 : ¬ 2 ^ 25 ≤ a := by omega
  have henter : s.enter { path := p, addr := a, write := b, val := w } = s.startAccess i { path := p, addr := a, write := b, val := w } := by
    simp [State.enter, hi, hb]
  unfold State.access
  rw [if_neg (by simp [hl])]
  cases p with
  | bar0 | spi | i2c => simp only [if_neg hbar4, haddr, henter, reduceCtorEq, if_false]
  | bar2 => exact absurd rfl hp
  | cp d => cases hi
  | stitch => cases hi

/-- An address outside the indirect registers goes to its register. -/
theorem State.startAccess_direct {s : State} {i : Nat} {a : Access} (h : isInd a.addr = false) : s.startAccess i a = s.route i a := by
  simp [State.startAccess, h]

/-! ## Where an access goes (R11, R340, R471, R473) -/

section Route
variable {s : State} {p : Path} {i a : Nat} {b : Bool} {w : Word}

theorem State.route_absent (h : s.fitted (accDie a) = false ∨ ¬ s.letterAbsent (accOff a) = false) :
    s.route i { path := p, addr := a, write := true, val := w } = s := by
  unfold State.route
  rw [if_pos (by simpa using h)]
  rfl

theorem State.route_violates (hd : accDie a = 0) (hh : s.letterAbsent (accOff a) = false) (hv : s.violates p 0 (accOff a) true = true) :
    s.route i { path := p, addr := a, write := true, val := w } = s.modHost fun h => { h with violH := true } := by
  unfold State.route
  simp [hd, hh, hv, State.fitted_zero]

theorem State.route_remote (hd : accDie a ≠ 0) (hf : s.fitted (accDie a) = true) (hh : s.letterAbsent (accOff a) = false) :
    s.route i { path := p, addr := a, write := b, val := w } = s.remote i { path := p, addr := a, write := b, val := w } := by
  unfold State.route
  simp [State.violates, hd, hf, hh]

theorem State.route_slow (hd : accDie a = 0) (hh : s.letterAbsent (accOff a) = false) (hv : s.violates p 0 (accOff a) b = false)
    (hs : isSlow (accOff a) = true) :
    s.route i { path := p, addr := a, write := b, val := w } = s.slow i { path := p, addr := a, write := b, val := w } := by
  unfold State.route
  simp [hd, hh, hv, hs, State.fitted_zero]

/-- A fast register of die 0 is written in the view addressed (R464). -/
theorem State.route_write (hd : accDie a = 0) (hh : s.letterAbsent (accOff a) = false) (hv : s.violates p 0 (accOff a) true = false)
    (hs : isSlow (accOff a) = false) :
    s.route i { path := p, addr := a, write := true, val := w } = s.writeView p 0 (accView a) (accOff a) w := by
  unfold State.route State.local
  simp [hd, hh, hv, hs, State.fitted_zero]

/-- A fast register of die 0 that is no semaphore is read without a side effect (R465, R478). -/
theorem State.route_read (hd : accDie a = 0) (hh : s.letterAbsent (accOff a) = false) (hv : s.violates p 0 (accOff a) false = false)
    (hs : isSlow (accOff a) = false) (hsem : accOff a < 0x800 ∨ 0x900 ≤ accOff a) :
    s.route i { path := p, addr := a, write := false, val := w } = s.portRd i (s.rdReg 0 (accOff a)) := by
  have hno : ¬ (accView a = 0 ∧ 0x800 ≤ accOff a ∧ accOff a < 0x900 ∧ accOff a % 4 = 0) := by omega
  unfold State.route State.local
  simp [hd, hh, hv, hs, hno, State.fitted_zero]

end Route

/-- Units of letter E lie below die 0's slow registers and between its secure ranges. -/
theorem State.letterAbsent_of_slow {s : State} {off : Nat} (h : isSlow off = true) : s.letterAbsent off = false := by
  simp only [isSlow, Bool.or_eq_true, Bool.and_eq_true, decide_eq_true_eq] at h
  simp only [State.letterAbsent, Bool.and_eq_false_iff, Bool.or_eq_false_iff, decide_eq_false_iff_not]
  omega

theorem State.letterAbsent_of_violates {s : State} {p : Path} {off : Nat} (h : s.violates p 0 off true = true) : s.letterAbsent off = false := by
  simp only [State.violates, State.secRange, Bool.or_eq_true, Bool.and_eq_true, decide_eq_true_eq] at h
  simp only [State.letterAbsent, Bool.and_eq_false_iff, Bool.or_eq_false_iff, decide_eq_false_iff_not]
  omega

/-! ## The views of a register (R464) and the indirect window (R476) -/

theorem State.writeView_base {s : State} {p : Path} {d view off : Nat} {w : Word} (h : view = 0) :
    s.writeView p d view off w = s.writeBase p d off w :=
  if_pos h

theorem State.writeView_masked {s : State} {p : Path} {d view off : Nat} {w : Word} (h : view ≠ 0) :
    s.writeView p d view off w = if w &&& rwMask off = 0 then s
      else s.writeBase p d off (aliasVal view (s.rdReg d off) (w &&& rwMask off) &&& rwMask off) :=
  if_neg h

/-- IND_DATA of a free port reaches the register that IND_ADDR names, and IND_ADDR moves on. -/
theorem State.access_indData {s : State} {p : Path} {i : Nat} (hl : s.pathLive p = true) (hp : p ≠ .bar2) (hi : portIdx p = some i)
    (hb : (s.port i).busy = none) (hf : indForbidden (s.port i).indAddr = false) (b : Bool) (w : Word) :
    s.access p 0x404 b w = (s.route i { path := p, addr := (s.port i).indAddr, write := b, val := if b then w else 0 }).modPort i fun t =>
      { t with indAddr := if t.indInc then (t.indAddr + 4) % 2 ^ 25 else t.indAddr } := by
  rw [State.access_free hl hp hi hb (by omega) (by omega)]
  have hind : isInd 0x404 = true := by decide
  have hoff : accOff 0x404 = 0x404 := by decide
  have hbase : accView 0x404 = 0 := by decide
  cases b <;> simp [State.startAccess, State.indAccess, State.indData, hind, hoff, hbase, hf]

/-- Settles O17: a free port hands an access to its register at once, and each clause is one way that the route takes from there. -/
theorem accessesComplete : Obligations.AccessesComplete := by
  unfold Obligations.AccessesComplete
  intro s p i a w hl hp hi hb ha h4 hind off v here
  have hroute (b : Bool) : s.access p a b w = s.route i { path := p, addr := a, write := b, val := w } :=
    (State.access_free hl hp hi hb ha h4 b w).trans (State.startAccess_direct hind)
  have hwrite : exec (.registerWrite p a w) s = fin (s.route i { path := p, addr := a, write := true, val := w }) :=
    congrArg fin (hroute true)
  refine ⟨?base, ?view, ?slow, ?remote, ?secure, ?absent, ?indirect⟩
  case base =>
    intro hh hd hv hs h0
    have e : s.access p a true w = s.writeBase p 0 off w := by
      rw [hroute, State.route_write hd hh hv hs, State.writeView_base h0]
    exact ⟨congrArg fin e, congrArg fin e⟩
  case view =>
    intro hh hd hv hs h0 m x
    have hx : x = aliasVal v (s.rdReg 0 off) m := by
      unfold aliasVal
      rfl
    have e : s.access p a true w = if m = 0 then s else s.writeBase p 0 off (x &&& rwMask off) := by
      rw [hx, hroute, State.route_write hd hh hv hs, State.writeView_masked h0]
    have hview : exec (.aliasWrite p a w) s = exec (.registerWrite p a w) s := congrArg fin (if_pos ⟨hp, ha, h0⟩)
    refine ⟨?_, hview.symm⟩
    rw [hview]
    refine (congrArg fin e).trans ?_
    unfold fin
    split <;> rfl
  case slow =>
    intro hd hv hs hq
    rw [hwrite, State.route_slow hd (State.letterAbsent_of_slow hs) hv hs]
    exact congrArg fin (if_pos hq)
  case remote =>
    intro hh hd hup
    have hf : s.fitted (accDie a) = true := (Bool.and_eq_true_iff.mp hup).1
    rw [hwrite, State.route_remote hd hf hh]
    exact congrArg fin (if_pos hup)
  case secure =>
    intro hd hv
    rw [hwrite, State.route_violates hd (State.letterAbsent_of_violates hv) hv]
    rfl
  case absent =>
    intro h
    rw [hwrite, State.route_absent h]
    rfl
  case indirect =>
    intro hh hia hd hv hs h0 hf next
    have hdata (b : Bool) : exec (.indDataAccess p b w) s =
        fin ((s.route i { path := p, addr := a, write := b, val := if b then w else 0 }).modPort i next) := by
      refine congrArg fin ?_
      rw [if_neg hp, State.access_indData hl hp hi hb (hia ▸ hf), hia]
    refine ⟨?_, fun hsem hrd => ?_⟩
    · rw [hdata, State.route_write hd hh hv hs, State.writeView_base h0]
      rfl
    · rw [hdata, State.route_read hd hh hrd hs hsem]
      rfl

end Sys2Proof.Machine
end

section
/-! SUPPORT. What the work of the outputs and the OPLLs leaves alone (R263 to R271, R276 to R284). -/

namespace Sys2Proof.Machine
open Sys2Proof

/-! ## All but the outputs, the OPLLs, the stitch engines and the draws -/

/-- The state but for its outputs, its OPLLs, its stitch engines and the number of its draws. -/
def State.offOutputs (s : State) : State := { s with outs := [], oplls := [], stitches := [], fresh := 0 }

@[simp] theorem ite_offOutputs (c : Prop) [Decidable c] (a b : State) :
    (if c then a else b).offOutputs = if c then a.offOutputs else b.offOutputs := by split <;> rfl
@[simp] theorem State.forEach_offOutputs (s : State) (ns : List Nat) (f : State → Nat → State) (h : ∀ t n, (f t n).offOutputs = t.offOutputs) :
    (s.forEach ns f).offOutputs = s.offOutputs := State.forEach_keep State.offOutputs f h ns s
@[simp] theorem foldl_offOutputs {α : Type} (s : State) (l : List α) (f : State → α → State) (h : ∀ t a, (f t a).offOutputs = t.offOutputs) :
    (l.foldl f s).offOutputs = s.offOutputs := by
  induction l generalizing s with
  | nil => rfl
  | cons a l ih => rw [List.foldl_cons, ih, h]
@[simp] theorem State.setOut_offOutputs (s : State) (n : Nat) (u : OutUnit) : (s.setOut n u).offOutputs = s.offOutputs := rfl
@[simp] theorem State.modOut_offOutputs (s : State) (n : Nat) (f : OutUnit → OutUnit) : (s.modOut n f).offOutputs = s.offOutputs := rfl
@[simp] theorem State.setOpll_offOutputs (s : State) (n : Nat) (u : OpllUnit) : (s.setOpll n u).offOutputs = s.offOutputs := rfl
@[simp] theorem State.modOpll_offOutputs (s : State) (n : Nat) (f : OpllUnit → OpllUnit) : (s.modOpll n f).offOutputs = s.offOutputs := rfl
@[simp] theorem State.modStitch_offOutputs (s : State) (n : Nat) (f : Stitch → Stitch) : (s.modStitch n f).offOutputs = s.offOutputs := rfl
@[simp] theorem State.draw_offOutputs (s : State) : s.draw.2.offOutputs = s.offOutputs := rfl

@[simp] theorem State.putOut_offOutputs (s : State) (a1 : ℕ) (a2 : OutUnit) : (s.putOut a1 a2).offOutputs = s.offOutputs := by
  unfold State.putOut
  simp

@[simp] theorem State.tryStart_offOutputs (s : State) (a1 : ℕ) : (s.tryStart a1).offOutputs = s.offOutputs := by
  unfold State.tryStart
  simp

@[simp] theorem State.stopOut_offOutputs (s : State) (a1 : ℕ) (a2 : Bool) : (s.stopOut a1 a2).offOutputs = s.offOutputs := by
  unfold State.stopOut
  dsimp only
  repeat' split
  all_goals simp

@[simp] theorem State.bypassLost_offOutputs (s : State) (a1 : ℕ) : (s.bypassLost a1).offOutputs = s.offOutputs := by
  unfold State.bypassLost
  simp

@[simp] theorem State.bypassCheck_offOutputs (s : State) (a1 : ℕ) : (s.bypassCheck a1).offOutputs = s.offOutputs := by
  unfold State.bypassCheck
  simp

@[simp] theorem State.toClock_offOutputs (s : State) (a1 : ℕ) (a2 : Bool) : (s.toClock a1 a2).offOutputs = s.offOutputs := by
  unfold State.toClock
  simp

@[simp] theorem State.quiesceEnd_offOutputs (s : State) (a1 : ℕ) : (s.quiesceEnd a1).offOutputs = s.offOutputs := by
  unfold State.quiesceEnd
  simp

@[simp] theorem State.toQuiesce_offOutputs (s : State) (a1 : ℕ) (a2 : Bool) : (s.toQuiesce a1 a2).offOutputs = s.offOutputs := by
  unfold State.toQuiesce
  simp

@[simp] theorem State.opllOn_offOutputs (s : State) (a1 : ℕ) : (s.opllOn a1).offOutputs = s.offOutputs := by
  unfold State.opllOn
  simp

@[simp] theorem State.opllOff_offOutputs (s : State) (a1 : ℕ) : (s.opllOff a1).offOutputs = s.offOutputs := by
  unfold State.opllOff
  simp

@[simp] theorem State.writeOpllCtrl_offOutputs (s : State) (a1 : ℕ) (a2 : Word) : (s.writeOpllCtrl a1 a2).offOutputs = s.offOutputs := by
  unfold State.writeOpllCtrl
  simp

@[simp] theorem State.opllLocked_offOutputs (s : State) (a1 : ℕ) : (s.opllLocked a1).offOutputs = s.offOutputs := by
  unfold State.opllLocked
  simp

@[simp] theorem State.setDelay_offOutputs (s : State) (a1 : ℕ) (a2 : ℚ) : (s.setDelay a1 a2).offOutputs = s.offOutputs := by
  unfold State.setDelay
  simp

@[simp] theorem State.setCorr_offOutputs (s : State) (a1 : List (ℕ × Option ℤ)) : (s.setCorr a1).offOutputs = s.offOutputs := by
  unfold State.setCorr
  simp (disch := (intros; (repeat' split) <;> simp))

@[simp] theorem State.alignEnd_offOutputs (s : State) (a1 : ℕ) : (s.alignEnd a1).offOutputs = s.offOutputs := by
  unfold State.alignEnd
  split <;> simp

@[simp] theorem State.startAlign_offOutputs (s : State) (a1 : ℕ) (a2 : List ℕ) (a3 : Option ℕ) : (s.startAlign a1 a2 a3).offOutputs = s.offOutputs := by
  unfold State.startAlign
  split <;> simp

@[simp] theorem State.joinAlign_offOutputs (s : State) (a1 : ℕ) : (s.joinAlign a1).offOutputs = s.offOutputs := by
  unfold State.joinAlign
  simp

@[simp] theorem State.outFault_offOutputs (s : State) (m : Nat) : (s.outFault m).1.offOutputs = s.offOutputs := by
  unfold State.outFault
  dsimp only
  repeat' split
  all_goals simp

theorem State.tb_of_offOutputs {s t : State} (h : t.offOutputs = s.offOutputs) : t.tb = s.tb := by
  have hkeep (x : State) : x.offOutputs.tb = x.tb := rfl
  rw [← hkeep t, h, hkeep]

theorem State.oscs_of_offOutputs {s t : State} (h : t.offOutputs = s.offOutputs) : t.oscs = s.oscs := by
  have hkeep (x : State) : x.offOutputs.oscs = x.oscs := rfl
  rw [← hkeep t, h, hkeep]

theorem State.dplls_of_offOutputs {s t : State} (h : t.offOutputs = s.offOutputs) : t.dplls = s.dplls := by
  have hkeep (x : State) : x.offOutputs.dplls = x.dplls := rfl
  rw [← hkeep t, h, hkeep]

/-! ## All but those and the DPLLs (R153, R164) -/

/-- The state but for its outputs, its OPLLs, its stitch engines, its draws and its DPLLs, which a fault or a change of their feedback
reaches. -/
def State.offLoops (s : State) : State := { s.offOutputs with dplls := [] }

theorem State.offLoops_of {s t : State} (h : t.offOutputs = s.offOutputs) : t.offLoops = s.offLoops :=
  congrArg (fun x : State => { x with dplls := [] }) h

theorem State.tb_of_offLoops {s t : State} (h : t.offLoops = s.offLoops) : t.tb = s.tb := by
  have hkeep (x : State) : x.offLoops.tb = x.tb := rfl
  rw [← hkeep t, h, hkeep]

theorem State.oscs_of_offLoops {s t : State} (h : t.offLoops = s.offLoops) : t.oscs = s.oscs := by
  have hkeep (x : State) : x.offLoops.oscs = x.oscs := rfl
  rw [← hkeep t, h, hkeep]

@[simp] theorem ite_offLoops (c : Prop) [Decidable c] (a b : State) :
    (if c then a else b).offLoops = if c then a.offLoops else b.offLoops := by split <;> rfl
@[simp] theorem State.setOut_offLoops (s : State) (n : Nat) (u : OutUnit) : (s.setOut n u).offLoops = s.offLoops := rfl
@[simp] theorem State.modOut_offLoops (s : State) (n : Nat) (f : OutUnit → OutUnit) : (s.modOut n f).offLoops = s.offLoops := rfl
@[simp] theorem State.modOpll_offLoops (s : State) (n : Nat) (f : OpllUnit → OpllUnit) : (s.modOpll n f).offLoops = s.offLoops := rfl
@[simp] theorem State.modDpll_offLoops (s : State) (n : Nat) (f : DpllUnit → DpllUnit) : (s.modDpll n f).offLoops = s.offLoops := rfl
@[simp] theorem State.putOut_offLoops (s : State) (m : Nat) (u : OutUnit) : (s.putOut m u).offLoops = s.offLoops :=
  State.offLoops_of (s.putOut_offOutputs m u)
@[simp] theorem State.tryStart_offLoops (s : State) (m : Nat) : (s.tryStart m).offLoops = s.offLoops :=
  State.offLoops_of (s.tryStart_offOutputs m)
@[simp] theorem State.stopOut_offLoops (s : State) (m : Nat) (b : Bool) : (s.stopOut m b).offLoops = s.offLoops :=
  State.offLoops_of (s.stopOut_offOutputs m b)
@[simp] theorem State.bypassCheck_offLoops (s : State) (d : Nat) : (s.bypassCheck d).offLoops = s.offLoops :=
  State.offLoops_of (s.bypassCheck_offOutputs d)
@[simp] theorem State.setDelay_offLoops (s : State) (m : Nat) (q : Rat) : (s.setDelay m q).offLoops = s.offLoops :=
  State.offLoops_of (s.setDelay_offOutputs m q)
@[simp] theorem State.joinAlign_offLoops (s : State) (m : Nat) : (s.joinAlign m).offLoops = s.offLoops :=
  State.offLoops_of (s.joinAlign_offOutputs m)

/-- A loop that also collects a flag keeps what each of its rounds keeps. -/
theorem foldl_flag_keep {β : Type} (g : State → β) (f : State → Nat → State × Bool) (h : ∀ s n, g (f s n).1 = g s) (ns : List Nat) (a : State × Bool) :
    g (ns.foldl (fun (a : State × Bool) n => ((f a.1 n).1, a.2 || (f a.1 n).2)) a).1 = g a.1 := by
  induction ns generalizing a with
  | nil => rfl
  | cons n ns ih => rw [List.foldl_cons, ih, h]

@[simp] theorem State.fbFaultOf_offLoops (s : State) (o : Nat) : (s.fbFaultOf o).offLoops = s.offLoops := by
  unfold State.fbFaultOf
  split <;> simp

@[simp] theorem State.opllFault_offLoops (s : State) (o cause h : Nat) (byp loss : Bool) :
    (s.opllFault o cause h byp loss).offLoops = s.offLoops := by
  have hloop := foldl_flag_keep State.offLoops State.outFault fun t m => State.offLoops_of (t.outFault_offOutputs m)
  unfold State.opllFault
  dsimp only at hloop ⊢
  split <;> simp [hloop]

@[simp] theorem State.fbReconf_offLoops (s : State) (m : Nat) : (s.fbReconf m).offLoops = s.offLoops := by
  unfold State.fbReconf
  exact State.forEach_keep State.offLoops _ (fun t k => t.modDpll_offLoops k _) _ s

@[simp] theorem State.outOn_offLoops (s : State) (m : Nat) : (s.outOn m).offLoops = s.offLoops := by
  unfold State.outOn
  simp

@[simp] theorem State.outOff_offLoops (s : State) (m : Nat) : (s.outOff m).offLoops = s.offLoops := by
  unfold State.outOff
  dsimp only
  repeat' split
  all_goals simp

@[simp] theorem State.outRun_offLoops (s : State) (m : Nat) (run fromStitch : Bool) : (s.outRun m run fromStitch).offLoops = s.offLoops := by
  unfold State.outRun
  simp

@[simp] theorem State.writeOutCtrl_offLoops (s : State) (m : Nat) (w : Word) (fromStitch : Bool) :
    (s.writeOutCtrl m w fromStitch).offLoops = s.offLoops := by
  unfold State.writeOutCtrl
  simp

@[simp] theorem State.configOut_offLoops (s : State) (n : Nat) (p : List Byte) : (s.configOut n p).offLoops = s.offLoops := by
  unfold State.configOut
  simp

end Sys2Proof.Machine
end

section
/-! SUPPORT. The invariant of the block at reset and over every step (R1, R42). -/

namespace Sys2Proof.Machine
open Sys2Proof

/-- What follows every command keeps the invariant, so a command keeps it when its own effect does. -/
theorem fin_inv {t u : State} (h : fin u = .next t) (hu : u.Inv) : t.Inv := by
  rw [fin_next h]
  exact u.after_inv hu

/-- A condition that a command checks leaves it the unchanged state when it fails. -/
theorem State.Inv.ite {s t : State} (hs : s.Inv) (c : Prop) [Decidable c] (ht : t.Inv) : (if c then t else s).Inv := by
  split
  · exact ht
  · exact hs

/-- Every command keeps the invariant. Most leave all that it speaks of as it is (the lemmas of the Keep files); the writes that can reach
TB_CTRL, the resets, the boot ROM and the flash keep it by the lemmas of Laws/Inv. -/
theorem exec_inv {i : Instr} {s t : State} (hs : s.Inv) (h : exec i s = .next t) : t.Inv := by
  cases i with
  -- the Unest commands
  | nop | getCaps | getVersion | reset | getAbortStatus | eventSubscribe | eventRead | logGet | logClear | sessionOpen | sessionAuth
  | sessionClose | portKeyProgram | channelPolicy | inputConfig | inputSetMonitors | inputGetStatus | inputClear | tdcGetPicot
  | tdcSaveSeed | tdcCoreReset | dpllConfig | dpllSetLoop | dpllGetLoop | dpllSetSteer | dpllPhaseAdjust | dpllGetStatus | dpllGetCandidates
  | dpllSetCandidates | dpllSetSelection | dpllGetSwitchLog | cairnSetMember | cairnSetConfig | cairnGetModel | cairnSave | cairnForget
  | dpllSetHoldover | dpllGetHoldover | opllConfig | opllSetFreq | opllAlign | outputConfig | outputRun | tdConfig | tdGetConfig | tdSetTime
  | tdGetTime | tdSetTod | stitchLoad | stitchCommit | stitchDefault | stitchRun | bootLoad | bootStart | bootConfirm | bootProfileSet
  | dmaRingConfig | dmaGetStatus | irqRoute | nvRead | nvWrite | nvLogin | nvSetPassword | nvGetStatus | belayConfig | belayEnter
  | powerGetStatus | marginGetPlan | ageingGetStatus =>
    exact fin_inv h (State.runCmd_inv _ _ _ _ hs fun p => hs.of_same (by simp) (by simp) (by simp) (by simp))
  | tbSetMaster c => exact fin_inv h (State.runCmd_inv _ _ _ _ hs fun p => tbSetMasterReply_inv _ _ _ hs)
  | fwFlash c =>
    refine fin_inv h ?_
    split
    · exact hs
    · exact State.runCmd_inv _ _ _ _ hs fun p => hs.of_same (by simp) (by simp) (by simp) (by simp)
  -- the register writes of one unit
  | tbEnSet | tbEnClear | tbConfigWrite | abortReqWrite | irqVecAckWrite | bgEnWrite => exact fin_inv h (State.land_inv _ _ _ _ _ hs)
  | inputEnable | inputDisable | forceDisqWrite | rankPriorityWrite => exact fin_inv h (State.landInput_inv _ _ _ _ hs)
  | dpllEnable | dpllDisable | forceFreerun | forceHoldover | forceAutomatic | selRetblkClear | selHookVerdictWrite =>
    exact fin_inv h (State.landDpll_inv _ _ _ _ _ hs)
  | opllEnable | opllDisable => exact fin_inv h (State.landOpll_inv _ _ _ _ hs)
  | outputEnable | outputDisable | outRunStart | outRunStop => exact fin_inv h (State.landOut_inv _ _ _ _ _ hs)
  | tdEnable | tdDisable | tdOfsCommit => exact fin_inv h (State.landTd_inv _ _ _ _ _ hs)
  | stitchEnableWrite | stitchSignal => exact fin_inv h (State.landStitch_inv _ _ _ _ hs)
  | mbxH2cDoorbell | mbxC2hClear => exact fin_inv h (State.landMbx_inv _ _ _ _ _ hs)
  | outPhaseWrite => exact fin_inv h (hs.ite _ (State.landOut_inv _ _ _ _ _ hs))
  | h2cBufWrite => exact fin_inv h (hs.ite _ (State.landMbx_inv _ _ _ _ _ hs))
  | evConfigWrite | semRelease | semHeldRelease => exact fin_inv h (hs.ite _ (State.land_inv _ _ _ _ _ hs))
  | ringRdPtrWrite p r w =>
    refine fin_inv h ?_
    split
    · exact State.land_inv _ _ _ _ _ hs
    · exact hs.ite _ (State.land_inv _ _ _ _ _ hs)
  | semReadAcquire p n =>
    refine fin_inv h (hs.ite _ ?_)
    dsimp only
    split <;> exact hs.of_same (by simp) (by simp) (by simp) (by simp)
  -- the accesses by address
  | indDataAccess | satCounterClear | registerWrite => exact fin_inv h (State.access_inv _ _ _ _ _ hs)
  | aliasWrite => exact fin_inv h (hs.ite _ (State.access_inv _ _ _ _ _ hs))
  | slowWriteDrain => exact fin_inv h (State.slowDrain_inv _ hs)
  | stitchUnitWrite e => exact fin_inv h ((State.stitchUnitWrite_inv s e hs).of_same (by simp) (by simp) (by simp) (by simp))
  | lateAccess p =>
    refine fin_inv h ?_
    split
    · exact State.lateEnd_inv _ _ hs
    · exact hs
  | remoteAccessComplete p =>
    refine fin_inv h ?_
    split
    · exact State.remoteDone_inv _ _ hs
    · exact hs
  | shuttleFrameReceive d l ok f =>
    refine fin_inv h (hs.ite _ ?_)
    dsimp only
    split
    · exact State.frameWork_inv _ _ _ _ (hs.of_same (by simp) (by simp) (by simp) (by simp))
    · exact hs.of_same (by simp) (by simp) (by simp) (by simp)
  -- the resets, the boot ROM, belay and the flash
  | powerOnReset => exact fin_inv h (State.powerOn_inv _ _ hs)
  | resetn => exact fin_inv h (State.resetPart_inv _ _ _ hs)
  | resetDelayExpire => exact fin_inv h (State.resetDue_inv _ hs)
  | belayPowerDown => exact fin_inv h (State.belayDown_inv _ hs)
  | bootRomStart => exact fin_inv h (State.romStart_inv _ _ hs)
  | flashOperationDone => exact fin_inv h (State.flashDone_inv _ _ hs)
  -- the other stitch instructions and events
  | halt | waitEvent | waitTime | setField | clrField | read | cmp | branch | add | loop | emit | stitchInvoke | stitchWaitResume
  | stitchOverrun
  | spiStatus | spiCsRise | pcieLinkLoss | belayTrigger | belayCapture
  | belayWake | belayOutputPulse | belayExit | syspllLock | unitImageStreamed | followerImageStart
  | leadImageStart | mailboxOpen | mbxMessageTake | responsePost | forwardedRequest | cpPeriodicTask | cpHalt
  | abortRequestArrive | abortCleanupDone | abortForce | abortCompletion | abortUnconfirmed | nvPageWrite | marginScan | marginPlanEval
  | configScrub | fabricUnitSleep | ringRecordWrite | writebackTimerExpire | mainFailnRise | i2cStop | pcieLinkUp | pcieConfigWrite
  | tbpllLock | timebaseRestartEnd | portActivityLoss | portStart | linkTrainDone | linkTrainTimeout | linkRetrainRetry | linkAlignDone
  | linkResetSignal | laneLockLoss | resyncDone | resyncTimeout | reparentRelock | twoWayExchange | skewUpdate
  | frameRetransmit | slotPlanAdopt | cdcValueDeliver | oscReturn | phasePredictorValid
  | tdcEdgeCapture | tdcFillEnd | bgHistogramDone | coreSwap | seedSave | updateBoundary | decisionTick | wtrExpire | holdoffExpire
  | switchExecute | losTimeout | losClear | freqGateEnd | driftEvaluation | staleTimeout | streamTimeout | notValidTimeout | lockGateEnd
  | mirrorLeaderLost | fbFaultTimeout | freerunWordRefresh | holdoverWordRefresh | historySample | portMeterSample | thermistorRead
  | cairnSecond | learningMean | restoreVerify | modelSave | opllBandCalDone | opllGateEnd | opllCycleSlip | opllLockingTimeout
  | opllFaultRetry | opllAlignSlot | outputFirstEdge | outputStopLevel | wholeSecondCrossing | todMessageStart | tdHoldExpire =>
    exact fin_inv h (hs.of_same (by simp) (by simp) (by simp) (by simp))

/-- Settles O41: the idle step changes nothing, and the command at the front of the queue runs on a state that differs only in its queue. -/
theorem stepKeepsInvariant : Obligations.StepKeepsInvariant := by
  unfold Obligations.StepKeepsInvariant
  intro s t hs h
  unfold step at h
  split at h
  next =>
    cases h
    exact hs
  next c q _ =>
    have hq : State.Inv { s with pending := q } := hs.of_same rfl rfl rfl rfl
    exact exec_inv hq h

/-- Settles O40: after reset the flash is erased, TB_EN is 0 and the part has eight dies. -/
theorem resetMeetsInvariant : Obligations.ResetMeetsInvariant := by
  have hflash : tcanon (0xFF : Byte) none State.reset.host.flash = true := by decide
  have htb : State.reset.tb.tbEn = false := by decide
  have hpart : State.reset.part.diesLog2 = 3 := by decide
  exact ⟨hflash, fun h => absurd h (by rw [htb]; exact Bool.false_ne_true), hpart.le⟩

end Sys2Proof.Machine
end

section
/-! SUPPORT. What the operations leave of the timebase: all of it, or all but the counts of dropped records (R57). -/

namespace Sys2Proof.Machine
open Sys2Proof

@[simp] theorem ite_tb (c : Prop) [Decidable c] (a b : State) : (if c then a else b).tb = if c then a.tb else b.tb := by split <;> rfl
@[simp] theorem State.forEach_tb (s : State) (ns : List Nat) (f : State → Nat → State) (h : ∀ t n, (f t n).tb = t.tb) :
    (s.forEach ns f).tb = s.tb := State.forEach_keep (fun t => t.tb) f h ns s
@[simp] theorem foldl_tb {α : Type} (s : State) (l : List α) (f : State → α → State) (h : ∀ t n, (f t n).tb = t.tb) :
    (l.foldl f s).tb = s.tb := by
  induction l generalizing s with
  | nil => rfl
  | cons n ns ih => rw [List.foldl_cons, ih, h]

@[simp] theorem State.pairEdge_tb (s : State) (a1 : ℕ) (a2 : ℕ) : (s.pairEdge a1 a2).tb = s.tb := by
  unfold State.pairEdge
  dsimp only
  repeat' split
  all_goals simp

@[simp] theorem State.pairRun_tb (s : State) (a1 : ℕ) : (s.pairRun a1).tb = s.tb := by
  unfold State.pairRun
  simp

@[simp] theorem State.pairAll_tb (s : State) : (s.pairAll).tb = s.tb := by
  unfold State.pairAll
  simp

@[simp] theorem State.exchAnew_tb (s : State) (a1 : ℕ) : (s.exchAnew a1).tb = s.tb := by
  unfold State.exchAnew
  split <;> simp

@[simp] theorem State.viewsDown_tb (s : State) (a1 : ℕ) : (s.viewsDown a1).tb = s.tb := by
  unfold State.viewsDown
  simp

@[simp] theorem State.refreshUp_tb (s : State) : (s.refreshUp).tb = s.tb := by
  unfold State.refreshUp
  simp

@[simp] theorem State.linksUnseen_tb (s : State) : (s.linksUnseen).tb = s.tb := by
  unfold State.linksUnseen
  simp

@[simp] theorem State.predictorsOff_tb (s : State) (a1 : ℕ) : (s.predictorsOff a1).tb = s.tb := by
  unfold State.predictorsOff
  simp

@[simp] theorem State.post_tb (s : State) (a1 : ℕ) (a2 : Frame) : (s.post a1 a2).tb = s.tb := by
  unfold State.post
  split <;> simp

/-! ## All but the counts of dropped records (R57) -/

/-- The timebase but for EVX_DROP and EVX_SAT. -/
def Timebase.control (t : Timebase) : Timebase := { t with evxDrop := [], evxSat := 0 }

@[simp] theorem State.recordLost_control (s : State) (r : BitVec 128) : (s.recordLost r).tb.control = s.tb.control := rfl

@[simp] theorem foldl_control {α : Type} (s : State) (l : List α) (f : State → α → State) (h : ∀ t n, (f t n).tb.control = t.tb.control) :
    (l.foldl f s).tb.control = s.tb.control := by
  induction l generalizing s with
  | nil => rfl
  | cons n ns ih => rw [List.foldl_cons, ih, h]

@[simp] theorem State.lose_control (s : State) (fs : List Frame) : (s.lose fs).tb.control = s.tb.control := by
  unfold State.lose
  refine foldl_control _ _ _ fun t f => ?_
  split
  · simp
  · simp
  · split <;> simp
  · exact foldl_control _ _ _ State.recordLost_control
  · rfl

@[simp] theorem State.flushLink_control (s : State) (d l : Nat) : (s.flushLink d l).tb.control = s.tb.control := by
  unfold State.flushLink
  split <;> simp

@[simp] theorem State.allLinksDown_control (s : State) : s.allLinksDown.tb.control = s.tb.control := by
  unfold State.allLinksDown
  dsimp only
  rw [State.refreshUp_tb, State.forEach_tb _ _ _ fun t n => by simp]
  split
  · exact State.flushLink_control s 0 0
  · rfl

/-- TB_EN written 0 ends a restart too (R585). -/
theorem State.tbOff_control (s : State) :
    s.tbOff.tb.control = { s.tb.control with tbEn := false, restart := false, gapInWindow := true } := by
  unfold State.tbOff
  simp
  rfl

theorem State.tbOff_ctrl (s : State) :
    s.tbOff.tb.master = s.tb.master ∧ s.tbOff.tb.oscFreq = s.tb.oscFreq ∧ s.tbOff.tb.cfgRej = s.tb.cfgRej ∧ s.tbOff.tb.tbEn = false := by
  have h := s.tbOff_control
  generalize s.tbOff.tb = t at h ⊢
  simp only [Timebase.control, Timebase.mk.injEq] at h
  obtain ⟨hmaster, hen, hfreq, _, _, hrej, _⟩ := h
  exact ⟨hmaster, hfreq, hrej, hen⟩

end Sys2Proof.Machine
end

section
/-! SUPPORT. Writes of TB_CTRL and of IN_CTRL that reach their register (R38, R41, R42, R86, R87, R93). -/

namespace Sys2Proof.Machine
open Sys2Proof

/-! ## A write on its way to a register (R471) -/

/-- Below the mailboxes, and outside BOOT_OVR and SEM_HELD, no offset is in a secure range. -/
theorem State.violates_false {s : State} {p : Path} {d off : Nat} (h : off < 0x80000) (h1 : off ≠ 0x318) (h2 : off ≠ 0x900)
    (h3 : off ≠ 0x904) (b : Bool) : s.violates p d off b = false := by
  have h4 : ¬ 0x80000 ≤ off := by omega
  simp [State.violates, State.secRange, h1, h2, h3, h4]

/-- A write over a live path to a fitted die, outside the secure ranges, reaches its register. -/
theorem State.land_live {s : State} {p : Path} {d off : Nat} (hl : s.pathLive p = true) (hd : s.fitted d = true)
    (hv : s.violates p d off true = false) (w : Word) : s.land p d off w = s.writeBase p d off w := by
  unfold State.land
  simp [hl, hd, hv]

/-- A write of TB_CTRL over a live path (R38). -/
theorem State.land_tbCtrl {s : State} {p : Path} (hl : s.pathLive p = true) (w : Word) :
    s.land p 0 0x100 w = (s.writeTbCtrl w).fixPar 0 0x100 := by
  rw [State.land_live hl s.fitted_zero (State.violates_false (by decide) (by decide) (by decide) (by decide) true)]
  unfold State.writeBase State.wrReg
  simp [State.fitted_zero, State.writeLow]

/-! ## TB_CTRL (R41, R42, R585) -/

theorem bit_withBit_same (w : Word) {i : Nat} (h : i < 32) (b : Bool) : bit (withBit w i b) i = b := by rw [bit_withBit, if_pos ⟨rfl, h⟩]

theorem bit_withBit_one (w : Word) (b : Bool) : bit (withBit w 1 b) 1 = b := bit_withBit_same w (by decide) b

theorem bit_withBit_zero (w : Word) (b : Bool) : bit (withBit w 1 b) 0 = bit w 0 := by simp [bit_withBit]

theorem fld_withBit_four (w : Word) (b : Bool) : fld (withBit w 1 b) 4 4 = fld w 4 4 :=
  fld_congr _ _ _ _ fun i hi => by rw [bit_withBit, if_neg (by omega)]

/-- A word of TB_CTRL that arrives while TB_EN is 1 leaves its mark in CFG_REJ alone (R41). -/
def State.rejectConfig (s : State) (w : Word) : State :=
  { s with tb := { s.tb with cfgRej := s.tb.cfgRej || decide (bit w 0 ≠ s.tb.master) || decide (fld w 4 4 ≠ s.tb.oscFreq) } }

/-- While TB_EN is 1 a write of TB_CTRL keeps MASTER and OSC_FREQ, and CFG_REJ notes that it carries another value (R41). -/
theorem State.writeTbCtrl_on {s : State} (h : s.tb.tbEn = true) (w : Word) (b : Bool) :
    s.writeTbCtrl (withBit w 1 b) = if b then s.rejectConfig w else (s.rejectConfig w).tbOff := by
  unfold State.writeTbCtrl State.rejectConfig
  simp only [h, bit_withBit_one, bit_withBit_zero, fld_withBit_four, if_true, Bool.or_assoc]

/-- While TB_EN is 0 a write of TB_CTRL stores MASTER and OSC_FREQ; TB_EN rises only on a declared oscillator (R42). -/
theorem State.writeTbCtrl_off {s : State} (h : s.tb.tbEn = false) (w : Word) (b : Bool) :
    s.writeTbCtrl (withBit w 1 b) =
      let t := s.setMaster (bit w 0) (fld w 4 4)
      if b && oscBad (fld w 4 4) then { t with tb := { t.tb with cfgRej := true } } else { t with tb := { t.tb with tbEn := b } } := by
  unfold State.writeTbCtrl
  simp only [h, bit_withBit_one, bit_withBit_zero, fld_withBit_four, Bool.false_eq_true, if_false]

/-- With one oscillator model (R218) only models and slots of the cairn engine go. -/
@[simp] theorem State.oneModel_tb (s : State) : s.oneModel.tb = s.tb := by
  unfold State.oneModel
  split <;> rfl

@[simp] theorem State.oneModel_osc (s : State) (j : Nat) : s.oneModel.osc j = s.osc j := by
  unfold State.oneModel
  split <;> rfl

/-- The same MASTER again changes OSC_FREQ alone. -/
theorem State.setMaster_same {s : State} {m : Bool} (h : m = s.tb.master) (f : Nat) :
    s.setMaster m f = { s with tb := { s.tb with master := m, oscFreq := f } } := if_pos h

/-- Another MASTER: OSC_LOSS shows the activity of its oscillator (R39, R43). -/
theorem State.setMaster_other {s : State} {m : Bool} (h : m ≠ s.tb.master) (f : Nat) :
    (s.setMaster m f).tb = { s.tb with
      master := m, oscFreq := f, oscLoss := !(s.osc (if m then 1 else 0)).active,
      oscLossH := s.tb.oscLossH || !(s.osc (if m then 1 else 0)).active } := by
  unfold State.setMaster
  rw [if_neg h]
  simp only [State.oneModel_tb]
  rfl

theorem State.setMaster_osc (s : State) (m : Bool) (f j : Nat) : (s.setMaster m f).osc j = s.osc j := by
  unfold State.setMaster
  split
  · rfl
  · exact State.oneModel_osc _ j

@[simp] theorem State.setMaster_master (s : State) (m : Bool) (f : Nat) : (s.setMaster m f).tb.master = m := by
  by_cases h : m = s.tb.master
  · rw [State.setMaster_same h]
  · rw [State.setMaster_other h]

/-- TB_EN_SET, TB_EN_CLEAR and TB_CONFIG_WRITE are writes of TB_CTRL that differ in the TB_EN they carry. -/
theorem exec_tbWrite {s : State} {p : Path} (hl : s.pathLive p = true) (w : Word) :
    exec (.tbEnSet p w) s = .next ((s.writeTbCtrl (withBit w 1 true)).written 0 0x100) ∧
      exec (.tbEnClear p w) s = .next ((s.writeTbCtrl (withBit w 1 false)).written 0 0x100) ∧
      exec (.tbConfigWrite p w) s = .next ((s.writeTbCtrl (withBit w 1 s.tb.tbEn)).written 0 0x100) :=
  have h (w : Word) : fin (s.land p 0 0x100 w) = .next ((s.writeTbCtrl w).written 0 0x100) := congrArg fin (State.land_tbCtrl hl w)
  ⟨h _, h _, h _⟩

/-! ## IN_CTRL (R86, R87, R93) -/

theorem offInput_range (n : Nat) : 0x10000 ≤ offInput n ∧ offInput n < 0x10A00 ∧ (offInput n - 0x10000) % 0x40 = 0 := by
  unfold offInput
  split <;> omega

/-- The offset of IN_CTRL and the die say which input it is (R16, R92). -/
theorem inputAt_offInput (n : Nat) : inputAt (dieOfInput n) ((offInput n - 0x10000) / 0x40) = n := by
  unfold inputAt dieOfInput offInput
  by_cases h : n < 192
  · simp only [h, if_true]
    rw [if_pos (by omega)]
    omega
  · simp only [h, if_false]
    rw [if_neg (by omega)]
    omega

/-- A write of IN_CTRL of an input the part has, over a live path (R93). -/
theorem State.landInput_live {s : State} {p : Path} {n : Nat} (hl : s.pathLive p = true) (hn : s.hasInput n = true) (w : Word) :
    s.landInput p n w = (s.writeInput n 0 w).fixPar (dieOfInput n) (offInput n) := by
  have hd : s.fitted (dieOfInput n) = true := (Bool.and_eq_true_iff.mp hn).2
  obtain ⟨hlo, hhi, hreg⟩ := offInput_range n
  have hreg' : offInput n % 0x40 = 0 := by omega
  have h800 : ¬ offInput n < 0x900 := by omega
  have h900 : offInput n ≠ 0x900 := by omega
  have h904 : offInput n ≠ 0x904 := by omega
  have h510 : offInput n ≠ 0x510 := by omega
  have h840 : offInput n ≠ 0x84000 := by omega
  have hhigh : ¬ offInput n < 0x10000 := by omega
  unfold State.landInput
  rw [if_pos hn, State.land_live hl hd (State.violates_false (by omega) (by omega) h900 h904 true)]
  unfold State.writeBase State.wrReg State.writeHigh
  simp [hd, h800, h900, h904, h510, h840, hhigh, hhi, hreg', inputAt_offInput]

/-- The fields that IN_CTRL reads (R93). -/
theorem InputUnit.ctrl_fields (u : InputUnit) :
    bit u.ctrl 0 = u.enable ∧ bit u.ctrl 1 = u.forceDisq ∧ fld u.ctrl 8 8 = u.rank % 256 ∧ fld u.ctrl 16 5 = u.prio % 32 := by
  have hb (j : Nat) := bit_put 8 8 u.rank j
  have hp (j : Nat) := bit_put 16 5 u.prio j
  refine ⟨?_, ?_, fld_eq_mod _ 8 8 _ fun i hi => ?_, fld_eq_mod _ 16 5 _ fun i hi => ?_⟩ <;> unfold InputUnit.ctrl
  · simp [bit_putb, hb, hp]
  · simp [bit_putb, hb, hp]
  · have h1 : ¬ 16 ≤ 8 + i := by omega
    have h2 : ¬ 0 = 8 + i := by omega
    have h3 : ¬ 1 = 8 + i := by omega
    have h4 : 8 + i < 32 := by omega
    simp [bit_putb, hb, hp, h1, h2, h3, h4, hi]
  · have h1 : ¬ 16 + i - 8 < 8 := by omega
    have h2 : ¬ 0 = 16 + i := by omega
    have h3 : ¬ 1 = 16 + i := by omega
    have h4 : 16 + i < 32 := by omega
    simp [bit_putb, hb, hp, h1, h2, h3, h4, hi]

/-- ENABLE written with its own value changes nothing. -/
theorem InputUnit.enable_again (u : InputUnit) : (if u.enable then u.turnOn else u.turnOff) = u := by
  unfold InputUnit.turnOn InputUnit.turnOff
  cases h : u.enable <;> simp

/-- A write of IN_CTRL that changes one bit of ENABLE and FORCE_DISQ. -/
theorem InputUnit.writeCtrl_withBit (u : InputUnit) (b : Bool) :
    u.writeCtrl (withBit u.ctrl 0 b) =
        { (if b then u.turnOn else u.turnOff) with forceDisq := u.forceDisq, rank := u.rank % 256, prio := u.prio % 32 } ∧
      u.writeCtrl (withBit u.ctrl 1 b) = { u with forceDisq := b, rank := u.rank % 256, prio := u.prio % 32 } := by
  obtain ⟨hen, hforce, hrank, hprio⟩ := u.ctrl_fields
  have hr (i : Nat) (hi : i < 2) : fld (withBit u.ctrl i b) 8 8 = u.rank % 256 :=
    (fld_congr _ _ _ _ fun j hj => by rw [bit_withBit, if_neg (by omega)]).trans hrank
  have hp (i : Nat) (hi : i < 2) : fld (withBit u.ctrl i b) 16 5 = u.prio % 32 :=
    (fld_congr _ _ _ _ fun j hj => by rw [bit_withBit, if_neg (by omega)]).trans hprio
  constructor
  · unfold InputUnit.writeCtrl
    simp [bit_withBit, hforce, hr, hp]
  · unfold InputUnit.writeCtrl
    simp [bit_withBit, hen, InputUnit.enable_again, hr, hp]

/-- A write of IN_CTRL that changes RANK and PRIORITY. -/
theorem InputUnit.writeCtrl_rank (u : InputUnit) (rank prio : Nat) :
    u.writeCtrl (withFld (withFld u.ctrl 8 8 rank) 16 5 prio) = { u with rank := rank % 256, prio := prio % 32 } := by
  obtain ⟨hen, hforce, _, _⟩ := u.ctrl_fields
  have hr : fld (withFld (withFld u.ctrl 8 8 rank) 16 5 prio) 8 8 = rank % 256 := fld_eq_mod _ 8 8 _ fun i hi => by
    rw [bit_withFld _ _ _ _ _ (by decide), if_neg (by omega), bit_withFld _ _ _ _ _ (by decide), if_pos (by omega), Nat.add_sub_cancel_left]
  have hp : fld (withFld (withFld u.ctrl 8 8 rank) 16 5 prio) 16 5 = prio % 32 := fld_eq_mod _ 16 5 _ fun i hi => by
    rw [bit_withFld _ _ _ _ _ (by decide), if_pos (by omega), Nat.add_sub_cancel_left]
  unfold InputUnit.writeCtrl
  simp [bit_withFld, hen, hforce, InputUnit.enable_again, hr, hp]

/-- A write of IN_CTRL starts the channel of a physical input anew where it turns the input on (R87). -/
theorem State.writeInput_ctrl (s : State) (n : Nat) (w : Word) :
    s.writeInput n 0 w =
      (if bit w 0 && !(s.input n).enable && decide (n < 192) then s.modChan (chanOfInput n) TdcChan.newEnable else s).setInput n
        ((s.input n).writeCtrl w) := by
  have h : s.writeInput n 0 w =
      (if bit w 0 && !(s.input n).enable && decide (n < 192) then s.modChan (chanOfInput n) TdcChan.newEnable else s).modInput n
        fun u => u.writeCtrl w := rfl
  rw [h, State.modInput_eq]
  split <;> rfl

/-- A write of IN_CTRL that does not turn the input on touches its unit alone. -/
theorem State.writeInput_unit {s : State} {n : Nat} {w : Word} (h : bit w 0 = true → (s.input n).enable = true) :
    s.writeInput n 0 w = s.setInput n ((s.input n).writeCtrl w) := by
  rw [State.writeInput_ctrl, if_neg]
  intro hc
  simp only [Bool.and_eq_true, Bool.not_eq_true'] at hc
  exact Bool.false_ne_true (hc.1.2.symm.trans (h hc.1.1))

/-- Settles O12: a live path carries each write to TB_CTRL or to IN_CTRL, and the fields of the word that it writes decide the rest. -/
theorem timebaseAndInputWritesComplete : Obligations.TimebaseAndInputWritesComplete := by
  unfold Obligations.TimebaseAndInputWritesComplete
  intro s p hl
  refine ⟨fun w => ?_, fun w hon => ?_, fun n hn => ?_⟩
  case refine_1 =>
    obtain ⟨hset, hclear, hconfig⟩ := exec_tbWrite hl w
    obtain ⟨_, hen, hfreq⟩ := s.setMaster_rest (bit w 0) (fld w 4 4)
    have hsame (h : s.tb.tbEn = false) : ∀ t : State, t.tb.tbEn = s.tb.tbEn → { t with tb := { t.tb with tbEn := false } } = t := by
      intro t ht
      rw [← h, ← ht]
    refine ⟨s.setMaster_master _ _, hfreq, hen, fun h => State.setMaster_same h _, fun h => ?_, fun h hok => ?_, fun h hbad => ?_, fun h => ?_⟩
    · unfold State.masterPort
      rw [State.setMaster_osc, State.setMaster_other h]
    · rw [hset, State.writeTbCtrl_off h, hok]
      rfl
    · rw [hset, State.writeTbCtrl_off h, hbad]
      rfl
    · rw [hconfig, hclear, h, State.writeTbCtrl_off h]
      simp only [Bool.false_and, Bool.false_eq_true, if_false]
      rw [hsame h _ hen]
      exact ⟨rfl, rfl⟩
  case refine_2 =>
    obtain ⟨hset, hclear, hconfig⟩ := exec_tbWrite hl w
    rw [State.writeTbCtrl_on hon] at hset hclear
    rw [hon, State.writeTbCtrl_on hon] at hconfig
    exact ⟨hset, hconfig, hclear⟩
  case refine_3 =>
    have hen : bit (s.input n).ctrl 0 = (s.input n).enable := (s.input n).ctrl_fields.1
    have hland (w : Word) : fin (s.landInput p n w) = .next ((s.writeInput n 0 w).written (dieOfInput n) (offInput n)) :=
      congrArg fin (State.landInput_live hl hn w)
    refine ⟨(hland _).trans ?_, (hland _).trans ?_, fun b => (hland _).trans ?_, fun rank prio => (hland _).trans ?_⟩
    · rw [State.writeInput_ctrl, ((s.input n).writeCtrl_withBit true).1, bit_withBit_same _ (by decide)]
      by_cases hc : (s.input n).enable = false ∧ n < 192
      · simp only [hc.1, hc.2, and_self, if_true, Bool.not_false, Bool.and_self, decide_true]
        rfl
      · have hc' : ¬ (true && !(s.input n).enable && decide (n < 192)) = true := by simpa using hc
        rw [if_neg hc, if_neg hc']
        rfl
    · rw [State.writeInput_unit (by simp [bit_withBit]), ((s.input n).writeCtrl_withBit false).1]
      rfl
    · rw [State.writeInput_unit (by simp [bit_withBit, hen]), ((s.input n).writeCtrl_withBit b).2]
      rfl
    · rw [State.writeInput_unit (by simp [bit_withFld, hen]), (s.input n).writeCtrl_rank rank prio]
      rfl

@[simp] theorem State.written_tb (s : State) (d off : Nat) : (s.written d off).tb = s.tb := by
  unfold State.written State.fixPar
  simp

/-- Settles O53: TB_CTRL keeps MASTER and OSC_FREQ while TB_EN is 1, also where the write turns the timebase off. -/
theorem timebaseWriteWhileOn : Obligations.TimebaseWriteWhileOn := by
  unfold Obligations.TimebaseWriteWhileOn
  intro s p w i hl hon hi
  obtain ⟨hset, hclear, hconfig⟩ := exec_tbWrite hl w
  rw [State.writeTbCtrl_on hon] at hset hclear
  rw [hon, State.writeTbCtrl_on hon] at hconfig
  have hkept : (s.rejectConfig w).tb = { s.tb with
      cfgRej := s.tb.cfgRej || decide (bit w 0 ≠ s.tb.master) || decide (fld w 4 4 ≠ s.tb.oscFreq) } := rfl
  simp only [List.mem_cons, List.not_mem_nil, or_false] at hi
  rcases hi with rfl | rfl | rfl
  · refine ⟨_, hset, ?_⟩
    rw [if_pos rfl, State.written_tb, hkept]
    exact ⟨rfl, rfl, rfl, hon⟩
  · refine ⟨_, hclear, ?_⟩
    obtain ⟨hmaster, hfreq, hrej, hen⟩ := (s.rejectConfig w).tbOff_ctrl
    have hi : decide (Instr.tbEnClear p w ≠ .tbEnClear p w) = false := decide_eq_false fun h => h rfl
    rw [if_neg Bool.false_ne_true, State.written_tb, hmaster, hfreq, hrej, hen, hi, hkept]
    exact ⟨rfl, rfl, rfl, rfl⟩
  · refine ⟨_, hconfig, ?_⟩
    rw [if_pos rfl, State.written_tb, hkept]
    exact ⟨rfl, rfl, rfl, hon⟩

end Sys2Proof.Machine
end

section
/-! SUPPORT. The decision tick and the list of inputs (R74): a part of more dies than the family has (R1) lists an input twice. -/

namespace Sys2Proof.Machine
open Sys2Proof

/-- A loop whose rounds do nothing in `s` leaves `s`. -/
theorem State.forEach_idle {s : State} {f : State → Nat → State} {ns : List Nat} (h : ∀ n, f s n = s) : s.forEach ns f = s := by
  unfold State.forEach
  induction ns with
  | nil => rfl
  | cons n ns ih => rw [List.foldl_cons, h]; exact ih

/-- One round of the decision tick's qualification: the tick of input `n`. -/
def State.tickInput (t : State) (n : Nat) : State := t.setInput n ((t.input n).tick (t.tb.k / winPerMs) (t.measValid n))

theorem State.tickInput_input (t : State) (n j : Nat) :
    (t.tickInput n).input j = if j = n then (t.input n).tick (t.tb.k / winPerMs) (t.measValid n) else t.input j :=
  t.setInput_input n j _

/-- The qualification ticks an input once for every time that the list names it. -/
theorem State.tickInputs_input (ns : List Nat) (s : State) (n : Nat) :
    (s.forEach ns State.tickInput).input n = (fun u => u.tick (s.tb.k / winPerMs) (s.measValid n))^[ns.count n] (s.input n) := by
  induction ns generalizing s with
  | nil => rfl
  | cons m ns ih =>
    have hrest : ((s.tickInput m).tb.k / winPerMs, (s.tickInput m).measValid n) = (s.tb.k / winPerMs, s.measValid n) := rfl
    obtain ⟨hk, hmeas⟩ := Prod.mk.inj hrest
    have hstep : s.forEach (m :: ns) State.tickInput = (s.tickInput m).forEach ns State.tickInput := rfl
    rw [hstep, ih, hk, hmeas, State.tickInput_input]
    by_cases h : n = m
    · subst h
      rw [if_pos rfl, List.count_cons_self, Function.iterate_succ_apply]
    · rw [if_neg h, List.count_cons_of_ne (Ne.symm h)]

/-- While no DPLL selects (R187), a decision tick is the qualification of the inputs. -/
theorem State.decisionTick_unselecting {s : State} (hrun : s.running = true) (hd : s.dplls = []) :
    s.decisionTick = s.forEach s.allInputs State.tickInput := by
  have hkeep : (s.forEach s.allInputs State.tickInput).dplls = [] :=
    (State.forEach_keep (fun t => t.dplls) State.tickInput (fun _ _ => rfl) _ _).trans hd
  have hidle : ∀ n, (s.forEach s.allInputs State.tickInput).dpllTick n (s.forEach s.allInputs State.tickInput).tb.k =
      s.forEach s.allInputs State.tickInput := by
    intro n
    unfold State.dpllTick State.dpll
    rw [hkeep]
    rfl
  have hloop : s.decisionTick =
      (let s1 := s.forEach s.allInputs State.tickInput
       if s1.belay.phase = 1 then s1 else s1.forEach (s1.all 8) fun t n => t.dpllTick n t.tb.k) := if_pos hrun
  rw [hloop]
  dsimp only
  rw [State.forEach_idle (f := fun t n => t.dpllTick n t.tb.k) hidle]
  exact ite_self _

/-- A running part with 16 dies, whose input 192 has just lost the last cause that disqualifies it. -/
def overwide : State :=
  { State.reset with
    part := { diesLog2 := 4 }
    tb := { tbEn := true }
    dies := [(0, { up := true, tbLock := true, skewValid := true })]
    inputs := [(192, { enable := true, configured := true, running := true, mon := { wtr := 5 } })] }

/-- With 16 dies the physical indices reach past 191, and input 192 is listed as one of them too. -/
theorem overwide_lists_twice : overwide.allInputs.count 192 = 2 := by
  have hmap : ((List.range 256).map (· + 192)).Nodup := List.nodup_range.map fun a b h => Nat.add_right_cancel h
  have hlist : overwide.allInputs = List.range 384 ++ (List.range 256).map (· + 192) := rfl
  rw [hlist, List.count_append, List.count_eq_one_of_mem List.nodup_range (by simp), List.count_eq_one_of_mem hmap (by simp)]

/-- Refutes O21: nothing bounds the dies of the state, and a part with 16 dies ticks input 192 twice in one decision tick. Its
wait-to-restore time is then 1 ms shorter than one tick leaves it. -/
theorem not_boundaryAndTickComplete : ¬ Obligations.BoundaryAndTickComplete := by
  unfold Obligations.BoundaryAndTickComplete
  intro h
  have hrun : overwide.running = true := by decide
  obtain ⟨-, t, ht, -, htick⟩ := h overwide hrun
  have hone := htick 192 (by decide)
  rw [fin_next ht, State.after_input_same, State.decisionTick_unselecting hrun rfl, State.tickInputs_input, overwide_lists_twice] at hone
  have htwo : ((fun u : InputUnit => u.tick (overwide.tb.k / winPerMs) (overwide.measValid 192))^[2] (overwide.input 192)).wtrLeft = 4999 := by
    decide
  rw [hone] at htwo
  exact absurd htwo (by decide)

end Sys2Proof.Machine
end

section
/-! SUPPORT. A phase word on its way into a die (R31, R339). -/

namespace Sys2Proof.Machine
open Sys2Proof

/-- A change of a port leaves the die's counters and arrivals. -/
theorem State.modLink_words (s : State) (d l j : Nat) (f : LinkPort → LinkPort) :
    ((s.modLink d l f).die j).late = (s.die j).late ∧ ((s.modLink d l f).die j).arrived = (s.die j).arrived := by
  unfold State.modLink
  rw [State.modDie_die]
  split
  next h => rw [h]; exact ⟨rfl, rfl⟩
  next => exact ⟨rfl, rfl⟩

/-- The acknowledge of a frame is work of the two ports alone. -/
theorem State.frameAck_words (s : State) (d l j : Nat) (f : Frame) :
    ((s.frameAck d l f).die j).late = (s.die j).late ∧ ((s.frameAck d l f).die j).arrived = (s.die j).arrived ∧
      (s.frameAck d l f).tb = s.tb := by
  obtain ⟨hlate, harrived⟩ := s.modLink_words d l j fun p => { p with crcRun := 0 }
  unfold State.frameAck
  dsimp only
  split
  next x _ =>
    obtain ⟨hl, ha⟩ := State.modLink_words (s.modLink d l fun p => { p with crcRun := 0 }) x (backPort l) j
      fun p => { p with lane := p.lane.drop 1, replay := dropFirst f p.replay }
    exact ⟨hl.trans hlate, ha.trans harrived, rfl⟩
  next => exact ⟨hlate, harrived, rfl⟩

/-- A word that a port receives next stands on its neighbour's lane already (R30). -/
theorem State.frameSent_word {s : State} {d l i k : Nat} (h : s.frameNext d l (.word i k) = true) : s.frameSent d l (.word i k) = s := by
  unfold State.frameNext at h
  unfold State.frameSent
  split
  next => rfl
  next x hx =>
    rw [hx] at h
    dsimp only at h
    split at h
    next g gs hlane => rw [hlane]; exact if_neg Bool.false_ne_true
    next => exact absurd h Bool.false_ne_true

/-- A word of a window that has passed is counted, and nothing else takes it (R31). -/
theorem State.wordArrives_late {s : State} {k : Nat} (h : k < s.tb.k) (d l i : Nat) :
    ((s.wordArrives d l i k).die d).late = satInc (s.die d).late ∧ ((s.wordArrives d l i k).die d).arrived = (s.die d).arrived := by
  unfold State.wordArrives
  rw [if_neg (Nat.ne_of_gt h), if_pos h]
  dsimp only
  rw [State.modDie_die, if_pos rfl]
  exact ⟨rfl, rfl⟩

/-- Settles O60: the frame passes from the lane to the die, where the word's window lies behind the current boundary. -/
theorem lateWordsAreDiscarded : Obligations.LateWordsAreDiscarded := by
  unfold Obligations.LateWordsAreDiscarded
  intro s d l x i k hx hup hnext hk
  have hin : (s.linkIn d l .up && s.frameNext d l (.word i k)) = true := by simp [State.linkIn, hup, hx, hnext]
  have hexec : exec (.shuttleFrameReceive d l true (.word i k)) s = fin ((s.frameAck d l (.word i k)).wordArrives d l i k) := by
    refine congrArg fin ((if_pos hin).trans ?_)
    rw [State.frameSent_word hnext]
    rfl
  obtain ⟨hlate, harrived, htb⟩ := s.frameAck_words d l d (.word i k)
  obtain ⟨hcount, hstay⟩ := State.wordArrives_late (s := s.frameAck d l (.word i k)) (by rw [htb]; exact hk) d l i
  exact ⟨_, hexec, by rw [State.after_die_same, hcount, hlate], by rw [State.after_die_same, hstay, harrived]⟩

end Sys2Proof.Machine
end

section
/-! SUPPORT. The messages of the mailboxes and the CPs (R59, R60, R401, R402). -/

namespace Sys2Proof.Machine
open Sys2Proof

/-! ## What follows a command leaves a channel alone whose message is not held (R288, R402) -/

/-- Channel `c` holds no command whose acknowledge an event will give. -/
def State.Unheld (s : State) (c : Nat) : Prop := ∀ m, (s.mbx c).msg = some m → m.held = false

theorem State.posted_mbx_other (s : State) {c j : Nat} (h : j ≠ c) : (s.posted c).mbx j = s.mbx j := by
  rw [State.posted_eq, State.modMbx_mbx, if_neg h]
  rfl

theorem State.respond_mbx_other (s : State) {c j : Nat} (h : j ≠ c) (ret op seq : Nat) (b : List Byte) :
    (s.respond c ret op seq b).mbx j = s.mbx j := by
  unfold State.respond
  dsimp only
  split
  · rw [State.modMbx_mbx, if_neg h]
  · rw [State.posted_mbx_other _ h, State.modMbx_mbx, if_neg h]

theorem State.finish_mbx_other (s : State) {c j : Nat} (h : j ≠ c) (ret : Nat) (b : List Byte) : (s.finish c ret b).mbx j = s.mbx j := by
  unfold State.finish
  split
  · split
    · rw [State.respond_mbx_other _ h, State.modMbx_mbx, if_neg h]
    · rfl
  · rfl

theorem State.alignAck_mbx {s : State} {c : Nat} (hu : s.Unheld c) (n : Nat) : (s.alignAck n).mbx c = s.mbx c := by
  by_cases h : c = n
  · subst h
    unfold State.alignAck
    split
    next m hm => rw [if_neg]; rw [hu m hm]; exact fun hh => Bool.false_ne_true hh.2.1
    next => rfl
  · unfold State.alignAck
    split
    · split
      · exact State.finish_mbx_other s h _ _
      · rfl
    · rfl

theorem HostSide.sendVec_mbx (h : HostSide) (v : Nat) : (h.sendVec v).mbx = h.mbx := by
  unfold HostSide.sendVec
  split
  · rfl
  · split <;> rfl

theorem HostSide.sendVecs_mbx (h : HostSide) (vs : Nat) : (h.sendVecs vs).mbx = h.mbx := by
  unfold HostSide.sendVecs
  generalize List.range 32 = l
  induction l generalizing h with
  | nil => rfl
  | cons v l ih =>
    rw [List.foldl_cons, ih]
    split
    · exact HostSide.sendVec_mbx _ _
    · rfl

theorem State.settle_mbx (s : State) (c : Nat) : s.settle.mbx c = s.mbx c := by
  unfold State.settle State.mbx
  split
  · exact congrArg (fun t => tget {} t c) (HostSide.sendVecs_mbx s.host _)
  · rfl

/-- What follows a command changes no channel whose message is not held. -/
theorem State.after_mbx {s : State} {c : Nat} (hu : s.Unheld c) : s.after.mbx c = s.mbx c := by
  have hack : (s.forEach (List.range 8) State.alignAck).mbx c = s.mbx c := by
    refine State.forEach_inv (fun t => t.mbx c = s.mbx c) State.alignAck (fun t n ht => ?_) _ _ rfl
    rw [State.alignAck_mbx (fun m hm => hu m (ht ▸ hm)), ht]
  have hwake (t : State) (n : Nat) : (t.wakeDie n).mbx c = t.mbx c := by
    unfold State.mbx
    rw [State.wakeDie_host]
  unfold State.after
  rw [State.settle_mbx, State.forEach_keep (fun t => t.mbx c) State.wakeDie hwake, hack]

theorem DieX.awake_fwdRun (x : DieX) : x.awake.fwdRun = x.fwdRun := rfl

@[simp] theorem State.after_dx_fwdRun (s : State) (j : Nat) : (s.after.dx j).fwdRun = (s.dx j).fwdRun := by
  rw [← DieX.awake_fwdRun, State.after_awake, DieX.awake_fwdRun]

/-! ## Frames on their way leave the host side and the CPs alone -/

theorem State.post_eq (s : State) (d : Nat) (f : Frame) : ∃ x, s.post d f = { s with dies := x } := by
  unfold State.post
  split <;> exact ⟨_, rfl⟩

theorem State.dropFrames_eq (s : State) (p : Frame → Bool) : ∃ x, s.dropFrames p = { s with dies := x } := by
  unfold State.dropFrames
  split
  · refine State.forEach_inv (fun t => ∃ x, t = { s with dies := x }) _ ?_ _ s ⟨s.dies, rfl⟩
    rintro t n ⟨x, rfl⟩
    exact ⟨_, rfl⟩
  · exact ⟨s.dies, rfl⟩

theorem State.post_mbx (s : State) (d : Nat) (f : Frame) (c : Nat) : (s.post d f).mbx c = s.mbx c := by
  obtain ⟨x, h⟩ := s.post_eq d f
  rw [h]
  rfl

theorem State.post_dx (s : State) (d : Nat) (f : Frame) (j : Nat) : (s.post d f).dx j = s.dx j := by
  obtain ⟨x, h⟩ := s.post_eq d f
  rw [h]
  rfl

theorem State.dropFrames_mbx (s : State) (p : Frame → Bool) (c : Nat) : (s.dropFrames p).mbx c = s.mbx c := by
  obtain ⟨x, h⟩ := s.dropFrames_eq p
  rw [h]
  rfl

theorem State.dropFrames_dx (s : State) (p : Frame → Bool) (j : Nat) : (s.dropFrames p).dx j = s.dx j := by
  obtain ⟨x, h⟩ := s.dropFrames_eq p
  rw [h]
  rfl

/-! ## A forwarded request (R10, R60, R404) -/

/-- What becomes of the oldest forwarded request of die `d`: the die has it in its list when its CP `took` it. -/
def State.requestEnds (s : State) (d c : Nat) (cs : List Nat) (took : Bool) : State :=
  ((s.dropFrames fun g => decide (g = .request c d)).modDx d fun x =>
    { x with fwdQ := cs, fwdRun := if took then x.fwdRun ++ [c] else x.fwdRun }).modMbx c fun m =>
      { m with msg := m.msg.map fun g => if g.fwd = some d then { g with fwd := none } else g }

theorem State.requestEnds_dx (s : State) (d c : Nat) (cs : List Nat) (took : Bool) :
    ((s.requestEnds d c cs took).dx d).fwdQ = cs ∧
      ((s.requestEnds d c cs took).dx d).fwdRun = if took then (s.dx d).fwdRun ++ [c] else (s.dx d).fwdRun := by
  unfold State.requestEnds
  rw [State.modMbx_dx_same, State.modDx_dx, if_pos rfl, State.dropFrames_dx]
  exact ⟨rfl, rfl⟩

theorem State.requestEnds_msg {s : State} {d c : Nat} {m : Msg} (hm : (s.mbx c).msg = some m) (hf : m.fwd = some d) (cs : List Nat) (took : Bool) :
    ((s.requestEnds d c cs took).mbx c).msg = some { m with fwd := none } := by
  unfold State.requestEnds
  rw [State.modMbx_mbx, if_pos rfl, State.modDx_mbx_same, State.dropFrames_mbx]
  dsimp only
  rw [hm, Option.map_some, if_pos hf]

/-- A follower in RUN takes the request that has come over an open route. -/
theorem State.forwarded_taken {s : State} {d c : Nat} {cs : List Nat} (hq : (s.dx d).fwdQ = c :: cs) (hmode : (s.dx d).mode = 2)
    (hup : s.dieUp d = true) (hfree : s.cpFree d = true) (hroute : s.routeUp 0 d = true) : s.forwarded d = s.requestEnds d c cs true := by
  unfold State.forwarded
  rw [hq]
  dsimp only
  rw [hmode, hup, hfree, hroute]
  rfl

/-- The request to a die that has left ends without it. -/
theorem State.forwarded_left {s : State} {d c : Nat} {cs : List Nat} (hq : (s.dx d).fwdQ = c :: cs) (hdown : s.dieUp d = false)
    (hboot : (s.die d).booted = true) : s.forwarded d = s.requestEnds d c cs false := by
  unfold State.forwarded
  rw [hq]
  dsimp only
  rw [hdown, hboot, Bool.and_false, Bool.false_and, Bool.false_and]
  rfl

/-! ## The clocks that the periodic task advances (R59, R385) -/

/-- The heartbeat and the ageing record of die `d`, and the boot state with the firmware's clock. -/
def State.clocks (s : State) (d : Nat) : Nat × Age × Boot := ((s.dx d).heartbeat, (s.dx d).age, s.host.boot)

theorem State.respond_clocks (s : State) (c ret op seq : Nat) (b : List Byte) (d : Nat) : (s.respond c ret op seq b).clocks d = s.clocks d := by
  obtain ⟨h, e⟩ := s.respond_eq c ret op seq b
  have hboot : (s.respond c ret op seq b).host.boot = s.host.boot := by
    rw [← HostSide.quiet_boot, State.respond_quiet, HostSide.quiet_boot]
  have hxs : (s.respond c ret op seq b).xs = s.xs := by rw [e]
  unfold State.clocks State.dx
  rw [hboot, hxs]

theorem State.finish_clocks (s : State) (c ret : Nat) (b : List Byte) (d : Nat) : (s.finish c ret b).clocks d = s.clocks d := by
  unfold State.finish
  split
  · split
    · exact State.respond_clocks _ _ _ _ _ _ d
    · rfl
  · rfl

theorem State.after_clocks (s : State) (d : Nat) : s.after.clocks d = s.clocks d := by
  simp [State.clocks]

theorem HostSide.logRam_boot (h : HostSide) (l : LogEntry) : (h.logRam l).boot = h.boot := by simp only [HostSide.logRam]

theorem HostSide.logNv_boot (h : HostSide) (l : LogEntry) : (h.logNv l).boot = h.boot := by simp only [HostSide.logNv]

theorem State.modHost_clocks (s : State) {f : HostSide → HostSide} (h : ∀ x, (f x).boot = x.boot) (d : Nat) :
    (s.modHost f).clocks d = s.clocks d := by
  unfold State.clocks
  exact congrArg (fun b => ((s.dx d).heartbeat, (s.dx d).age, b)) (h s.host)

theorem State.queueSave_clocks (s : State) (x id : Nat) (void : Bool) (body : RecBody) (chan : Option Nat) (fin : NvFin) (d : Nat) :
    (s.queueSave x id void body chan fin).clocks d = s.clocks d := by
  unfold State.queueSave State.modNv State.clocks
  dsimp only
  rw [State.modDx_dx]
  split
  next h => rw [h]; rfl
  next => rfl

theorem State.happen_clocks (s : State) (e : EventEntry) (d : Nat) : (s.happen e).clocks d = s.clocks d := by
  have hloop : (s.forEach (List.range 8) fun x c => x.modMbx c fun m => m.event e).clocks d = s.clocks d :=
    State.forEach_keep (fun t => t.clocks d) (fun x c => x.modMbx c fun m => m.event e) (fun _ _ => rfl) _ s
  unfold State.happen
  dsimp only
  split
  · rw [State.queueSave_clocks, State.modHost_clocks, State.modHost_clocks, hloop]
    · exact fun h => HostSide.logRam_boot h _
    · exact fun h => HostSide.logNv_boot h _
  · rw [State.modHost_clocks, hloop]
    exact fun h => HostSide.logRam_boot h _

theorem foldl_clocks {α : Type} (d : Nat) (f : State → α → State) (h : ∀ t a, (f t a).clocks d = t.clocks d) (l : List α) (s : State) :
    (l.foldl f s).clocks d = s.clocks d := by
  induction l generalizing s with
  | nil => rfl
  | cons a l ih => rw [List.foldl_cons, ih, h]

/-- The scan of the events reads the clocks and leaves them (R453). -/
theorem State.scanEvents_clocks (s : State) (d : Nat) : s.scanEvents.clocks d = s.clocks d := by
  unfold State.scanEvents
  dsimp only
  rw [State.modHost_clocks, foldl_clocks d State.happen (fun t e => t.happen_clocks e d), State.modHost_clocks]
  · exact fun _ => rfl
  · exact fun _ => rfl

theorem State.commitPoll_clocks (s : State) (e d : Nat) : (s.commitPoll e).clocks d = s.clocks d := by
  unfold State.commitPoll
  dsimp only
  split
  · rfl
  · refine foldl_clocks d _ (fun t w => ?_) _ _
    unfold State.commitTake
    split
    · split
      · exact State.finish_clocks _ _ _ _ d
      · rfl
    · rfl

/-- The waits on the engines of a die age without its clocks (R375). -/
theorem State.commitAge_clocks (s : State) (e d : Nat) : (s.commitAge e).clocks d = s.clocks d := by
  unfold State.commitAge
  split
  · rfl
  · refine State.forEach_keep (fun t => t.clocks d) State.commitAgeOf (fun t x => ?_) _ s
    unfold State.commitAgeOf
    refine (foldl_clocks d _ (fun y w => ?_) _ _).trans (t.commitPoll_clocks x d)
    unfold State.commitAgeAt
    split
    · split
      · rfl
      · exact State.finish_clocks _ _ _ _ d
    · rfl

/-- The periodic task of the CP of die `d`: its heartbeat and its operating time, and on die 0 the firmware's clock (R59, R385). -/
theorem State.periodic_clocks {s : State} {d : Nat} (hfit : s.fitted d = true) (hmode : (s.dx d).mode = 2) (hfree : s.cpFree d = true)
    (hbelay : s.belay.phase ≠ 2) :
    ((s.periodic d).after.dx d).heartbeat = ((s.dx d).heartbeat + 1) % 65536 ∧
      ((s.periodic d).after.dx d).age.opMs = (s.dx d).age.opMs + 1 ∧
      (d = 0 → (s.periodic d).after.host.boot.uptime = satInc s.host.boot.uptime) := by
  have hdue : (s.fitted d && decide ((s.dx d).mode = 2) && s.cpFree d && decide (s.belay.phase ≠ 2)) = true := by
    simp [hfit, hmode, hfree, hbelay]
  have hclocks : (s.periodic d).after.clocks d =
      (((s.dx d).heartbeat + 1) % 65536, { (s.dx d).age with opMs := (s.dx d).age.opMs + 1 },
        if d = 0 then { s.host.boot with uptime := satInc s.host.boot.uptime } else s.host.boot) := by
    rw [State.after_clocks]
    unfold State.periodic
    rw [if_pos hdue]
    dsimp only
    by_cases hd : d = 0
    · subst hd
      rw [if_pos rfl, if_pos rfl, State.forEach_keep (fun t => t.clocks 0) State.commitAge (fun t n => t.commitAge_clocks n 0),
        State.scanEvents_clocks]
      unfold State.clocks
      rw [State.modBoot_dx_same, State.modDx_dx, if_pos rfl]
      rfl
    · rw [if_neg hd, if_neg hd]
      unfold State.clocks
      rw [State.modDx_dx, if_pos rfl]
      rfl
  simp only [State.clocks, Prod.mk.injEq] at hclocks
  obtain ⟨hbeat, hage, hboot⟩ := hclocks
  exact ⟨hbeat, by rw [hage], fun hd => by rw [hboot, if_pos hd]⟩

/-! ## The events (R59, R60, R385, R401, R402, R404) -/

/-- Settles O36: each event is the operation of its row, taken in the branch that the conditions of its clause open (R385, R401, R430, R454). -/
theorem mailboxEventsComplete : Obligations.MailboxEventsComplete := by
  unfold Obligations.MailboxEventsComplete
  intro s
  refine ⟨fun c hready => ⟨fun hcol => ?_, fun e hcol herr => ?_, fun hcol herr hfwd => ?_, fun d hcol herr hfwd => ?_⟩,
    fun c h hs hheld hfree hlive => ?_, fun d c cs hq hmode hup hfree hroute => ?_, fun d c cs hq hdown hboot => ?_,
    fun d hfit hmode hfree hbelay => ?_, fun d hfit => ?_⟩
  · refine congrArg fin ?_
    unfold State.mbxTake
    dsimp only
    rw [hready, hcol]
    rfl
  · refine congrArg fin ?_
    unfold State.mbxTake
    dsimp only
    rw [hready, hcol, herr]
    rfl
  · refine congrArg fin ?_
    unfold State.mbxTake
    dsimp only
    rw [hready, hcol, herr, hfwd]
    rfl
  · change ∃ t, fin (s.mbxTake c) = .next t ∧ _
    unfold State.mbxTake
    dsimp only
    rw [hready, hcol, herr, hfwd]
    simp only [Bool.not_true, Bool.false_eq_true, if_false]
    refine ⟨_, rfl, ?_⟩
    rw [State.after_mbx, State.post_mbx, State.modDx_mbx_same, State.setMbx_mbx, if_pos rfl, State.after_dx_fwdQ, State.post_dx,
      State.modDx_dx, if_pos rfl, State.setMbx_dx_same]
    · exact ⟨rfl, rfl, rfl⟩
    · intro m hm
      rw [State.post_mbx, State.modDx_mbx_same, State.setMbx_mbx, if_pos rfl] at hm
      cases hm
      rfl
  · refine congrArg fin ?_
    unfold State.postHeld
    dsimp only
    rw [hheld, hfree, hlive]
    rfl
  · refine ⟨_, congrArg fin (State.forwarded_taken hq hmode hup hfree hroute), ?_⟩
    obtain ⟨hfwdQ, hfwdRun⟩ := s.requestEnds_dx d c cs true
    refine ⟨(State.after_dx_fwdQ _ d).trans hfwdQ, (State.after_dx_fwdRun _ d).trans hfwdRun, fun m hm hf hheld => ?_⟩
    have hmsg := State.requestEnds_msg hm hf cs true
    rw [State.after_mbx, hmsg]
    intro m' hm'
    rw [hmsg] at hm'
    cases hm'
    exact hheld
  · refine ⟨_, congrArg fin (State.forwarded_left hq hdown hboot), ?_⟩
    obtain ⟨hfwdQ, hfwdRun⟩ := s.requestEnds_dx d c cs false
    exact ⟨(State.after_dx_fwdQ _ d).trans hfwdQ, (State.after_dx_fwdRun _ d).trans hfwdRun⟩
  · exact ⟨_, rfl, State.periodic_clocks hfit hmode hfree hbelay⟩
  · exact congrArg fin (if_pos hfit)

end Sys2Proof.Machine
end

section
/-! SUPPORT. The events of one DPLL (R48, R153 to R161, R190 to R193, R232 to R235). -/

namespace Sys2Proof.Machine
open Sys2Proof

/-! ## Bits that are set stay set -/

theorem bit_setb_same (w : Word) {i : Nat} (h : i < 32) : bit (setb w i) i = true := by simp [setb, bit_bm, h]

theorem bit_setb_of {w : Word} {j : Nat} (h : bit w j = true) (i : Nat) : bit (setb w i) j = true := by simp [setb, h]

theorem bit_setbIf_of {w : Word} {j : Nat} (h : bit w j = true) (i : Nat) (b : Bool) : bit (setbIf w i b) j = true := by
  unfold setbIf
  split
  · exact bit_setb_of h i
  · exact h

theorem bit_satFlag_of {w : Word} {j : Nat} (h : bit w j = true) (i m : Nat) : bit (satFlag w i m) j = true := bit_setbIf_of h i _

/-! ## Entry into FREERUN or HOLDOVER (R160) -/

/-- The steering by the word of FREERUN or HOLDOVER is work on the steer, the holdover side and bit 5 of the history. -/
theorem State.openEntry_dpll (s : State) (n : Nat) : ∃ ho st sp pl b, (s.openEntry n).dpll n =
    { s.dpll n with ho := ho, steer := st, steerPrev := sp, pullinLimit := pl, hist := setbIf (s.dpll n).hist 5 b } := by
  have hform : ∃ ho, (s.holdEntry n).dpll n = { s.dpll n with ho := ho } := by
    unfold State.holdEntry
    dsimp only
    split
    · exact ⟨_, by rw [State.setDpll_dpll, if_pos rfl]⟩
    · exact ⟨_, rfl⟩
  obtain ⟨ho, hform⟩ := hform
  have hsteer (u : DpllUnit) : ∃ st sp pl b, u.openNow = { u with steer := st, steerPrev := sp, pullinLimit := pl, hist := setbIf u.hist 5 b } := by
    unfold DpllUnit.openNow
    repeat' split
    all_goals first | exact ⟨u.steer, u.steerPrev, u.pullinLimit, false, rfl⟩ | exact ⟨_, _, _, _, rfl⟩
  obtain ⟨st, sp, pl, b, hsteer⟩ := hsteer ((s.holdEntry n).dpll n)
  refine ⟨ho, st, sp, pl, b, ?_⟩
  unfold State.openEntry
  rw [State.modDpll_dpll, if_pos rfl, hsteer, hform]

theorem DpllUnit.giveUp_keeps (u : DpllUnit) (k reason : Nat) (bo : Rat) :
    (u.giveUp k reason bo).state = u.state ∧ (u.giveUp k reason bo).hist = u.hist ∧ (u.giveUp k reason bo).fbFault = u.fbFault ∧
      (u.giveUp k reason bo).mirrorLost = u.mirrorLost := by
  unfold DpllUnit.giveUp DpllUnit.driftDrop DpllUnit.logSwitch
  dsimp only
  repeat' split
  all_goals exact ⟨rfl, rfl, rfl, rfl⟩

theorem DpllUnit.giveUp_selInput {u : DpllUnit} (h : u.cfg.role = 1) (k reason : Nat) (bo : Rat) : (u.giveUp k reason bo).selInput = 0x1FF := by
  unfold DpllUnit.giveUp
  split
  next => rfl
  next hno => exact of_not_not fun hs => hno ⟨h, hs⟩

/-- Entry into HOLDOVER: the reference is given up, the loop opens, the holdover side is set. -/
theorem DpllUnit.toHoldover_eq {u : DpllUnit} (h : u.state ≠ .holdover) (k reason : Nat) : ∃ ho ho', u.toHoldover k reason =
    { (({ u with ho := ho, state := .holdover, holdCnt := satInc u.holdCnt, lastHoldMts := mtsOf k,
                 hist := satFlag (setb u.hist 2) 9 (satInc u.holdCnt) } : DpllUnit).giveUp k reason u.bo).open_ k with ho := ho' } :=
  ⟨_, _, if_neg h⟩

/-- What a DPLL that enters FREERUN or HOLDOVER by itself keeps, and the reference that a selecting one gives up (R160). -/
def DpllUnit.Opened (u v : DpllUnit) : Prop :=
  (∀ j, bit u.hist j = true → bit v.hist j = true) ∧ v.fbFault = u.fbFault ∧ v.mirrorLost = u.mirrorLost ∧
    (u.state ≠ v.state → u.cfg.role = 1 → v.selInput = 0x1FF)

theorem DpllUnit.toHoldover_opened (u : DpllUnit) (k reason : Nat) :
    (u.toHoldover k reason).state = .holdover ∧ u.Opened (u.toHoldover k reason) := by
  by_cases h : u.state = .holdover
  · have hstay : u.toHoldover k reason = u := if_pos h
    rw [hstay]
    exact ⟨h, fun _ => id, rfl, rfl, fun hn => absurd rfl hn⟩
  · obtain ⟨ho, ho', heq⟩ := u.toHoldover_eq h k reason
    rw [heq]
    generalize hv : ({ u with ho := ho, state := .holdover, holdCnt := satInc u.holdCnt, lastHoldMts := mtsOf k,
                              hist := satFlag (setb u.hist 2) 9 (satInc u.holdCnt) } : DpllUnit) = v
    obtain ⟨hstate, hhist, hfault, hlost⟩ := v.giveUp_keeps k reason u.bo
    refine ⟨hstate.trans (hv ▸ rfl), fun j hj => ?_, hfault.trans (hv ▸ rfl), hlost.trans (hv ▸ rfl),
      fun _ hrole => v.giveUp_selInput (hv ▸ hrole) k reason u.bo⟩
    have hkept : bit v.hist j = true := hv ▸ bit_satFlag_of (bit_setb_of hj 2) 9 _
    exact hhist ▸ hkept

theorem DpllUnit.toFreerun_opened (u : DpllUnit) (k reason : Nat) (bo : Rat) :
    (u.toFreerun k reason bo).state = .freerun ∧ u.Opened (u.toFreerun k reason bo) := by
  generalize hv : ({ u with state := .freerun, ho := u.leaveHold } : DpllUnit) = v
  have heq : u.toFreerun k reason bo =
      { (v.giveUp k reason bo).open_ k with hist := setbIf (v.giveUp k reason bo).hist 3 (decide (u.state ≠ .freerun)) } := hv ▸ rfl
  obtain ⟨hstate, hhist, hfault, hlost⟩ := v.giveUp_keeps k reason bo
  rw [heq]
  refine ⟨hstate.trans (hv ▸ rfl), fun j hj => ?_, hfault.trans (hv ▸ rfl), hlost.trans (hv ▸ rfl),
    fun _ hrole => v.giveUp_selInput (hv ▸ hrole) k reason bo⟩
  have hkept : bit v.hist j = true := hv ▸ hj
  exact bit_setbIf_of (hhist ▸ hkept) 3 _

theorem DpllUnit.loseRef_opened (u : DpllUnit) (k reason : Nat) :
    (u.loseRef k reason).state = (if u.state = .locked ∨ u.state = .acquiring then if u.holdValid then .holdover else .freerun else u.state) ∧
      u.Opened (u.loseRef k reason) := by
  unfold DpllUnit.loseRef
  by_cases h : u.state = .acquiring ∨ u.state = .locked
  · rw [if_pos h, if_pos h.symm]
    split
    · exact u.toHoldover_opened k reason
    · exact u.toFreerun_opened k reason u.bo
  · rw [if_neg h, if_neg fun hl => h hl.symm]
    exact ⟨rfl, fun _ => id, rfl, rfl, fun hn => absurd rfl hn⟩

/-! ## The pending switch (R192 to R194) -/

/-- Nothing holds the DPLL on its reference: it is enabled, neither frozen nor forced, without parity hold and FB_FAULT. -/
def DpllUnit.Unheld (u : DpllUnit) : Prop :=
  u.enable = true ∧ u.frozen = false ∧ u.parityHold = false ∧ u.fbFault = false ∧ u.force ≠ 1 ∧ u.force ≠ 2

/-- The cancel of a switch to `t`, whose entry is not eligible any more (R194). -/
def DpllUnit.cancelled (u : DpllUnit) (t : Nat) : DpllUnit :=
  { u with sel := { u.sel with pend := none, cancelCnt := satInc u.sel.cancelCnt,
                               hist := satFlag (setb u.sel.hist 6) 8 (satInc u.sel.cancelCnt),
                               happened := u.sel.happened ++ [{ sub := 1, data := fromTo u.selInput t }] } }

/-- A switch without a hook ends in one of four ways: no candidate, no change, a cancel, the new reference. -/
theorem State.switchNow_plain {s : State} {n : Nat} {p : PendSwitch} (hp : (s.dpll n).sel.pend = some p) (hhook : p.hook = false)
    (hfree : (s.dpll n).Unheld) (k : Nat) :
    s.switchNow n k =
      if p.want = 0x1FF then (s.dpll n).noCandidate k
      else if p.want = (s.dpll n).selInput then { s.dpll n with sel := { (s.dpll n).sel with pend := none } }
      else if !s.stillEligible n p.want then (s.dpll n).cancelled p.want
      else (s.setDpll n (s.dpll n)).takeInput n p.want p.reason k := by
  obtain ⟨hen, hfrozen, hpar, hfb, hf1, hf2⟩ := hfree
  have hver : (if p.hook = true then p.verdict else 1) = 1 := if_neg (by rw [hhook]; decide)
  generalize hR : (if p.want = 0x1FF then _ else _) = r
  unfold State.switchNow
  dsimp only
  split
  next hnone => exact absurd (hp.symm.trans hnone) (Option.some_ne_none p)
  next q hq =>
    obtain rfl : p = q := Option.some.inj (hp.symm.trans hq)
    rw [if_neg (by simp [hen, hfrozen, hpar, hfb, hf1, hf2]), hver, hhook, if_neg fun h => absurd h.1 (by decide), ← hR]
    rfl

theorem DpllUnit.driftDrop_keeps (u : DpllUnit) (i : Nat) :
    (u.driftDrop i).state = u.state ∧ (u.driftDrop i).row = u.row ∧ (u.driftDrop i).sel.switchCnt = u.sel.switchCnt := by
  unfold DpllUnit.driftDrop
  dsimp only
  split <;> exact ⟨rfl, rfl, rfl⟩

/-- The DPLL that takes a new reference acquires it, unless it is LOCKED already (R193). -/
theorem State.takeInput_outcome (s : State) (n t reason k : Nat) :
    (s.takeInput n t reason k).selInput = t ∧ (s.takeInput n t reason k).sel.pend = none ∧
      (s.takeInput n t reason k).row = (s.input t).decl.type ∧
      (s.takeInput n t reason k).state = (if (s.dpll n).state = .locked then .locked else .acquiring) ∧
      bit (s.takeInput n t reason k).sel.hist 0 = true ∧
      (s.takeInput n t reason k).sel.switchCnt = satInc (s.dpll n).sel.switchCnt := by
  unfold State.takeInput
  dsimp only
  refine ⟨rfl, rfl, ?_, ?_, bit_setb_same _ (by decide), ?_⟩
  · refine (DpllUnit.driftDrop_keeps _ _).2.1.trans ?_
    split <;> rfl
  · refine (DpllUnit.driftDrop_keeps _ _).1.trans ?_
    cases hst : (s.dpll n).state <;> rfl
  · refine congrArg satInc ((DpllUnit.driftDrop_keeps _ _).2.2.trans ?_)
    cases hst : (s.dpll n).state <;> rfl

theorem DpllUnit.noCandidate_pend (u : DpllUnit) (k : Nat) : (u.noCandidate k).sel.pend = none := by
  unfold DpllUnit.noCandidate
  dsimp only
  split <;> rfl

/-- A DPLL left without a candidate gives its reference up (R160, R193). -/
theorem DpllUnit.noCandidate_outcome {u : DpllUnit} (hrole : u.cfg.role = 1) (h : u.state = .locked ∨ u.state = .acquiring) (k : Nat) :
    (u.noCandidate k).selInput = 0x1FF ∧ (u.noCandidate k).state = if u.ho.valid then .holdover else .freerun := by
  have hvalid : u.holdValid = u.ho.valid := if_neg (by rw [hrole]; decide)
  obtain ⟨hstate, -, -, -, hsel⟩ := u.loseRef_opened k 6
  rw [if_pos h, hvalid] at hstate
  have hleft : u.state ≠ (u.loseRef k 6).state := by
    rw [hstate]
    rcases h with h | h <;> rw [h] <;> split <;> decide
  unfold DpllUnit.noCandidate
  dsimp only
  split <;> exact ⟨hsel hleft hrole, hstate⟩

/-- The candidates of DPLL `n` as boundary `k` estimates them. -/
def State.estimated (s : State) (n k : Nat) : State := s.modDpll n fun x => { x with sel := { x.sel with cands := s.selBoundary n k } }

/-- The event is the switch on the estimates of the boundary that ends the window; what follows it is work on the steer, the holdover side
and the candidates alone (R193). -/
theorem State.exec_switchExecute {s : State} {n : Nat} {p : PendSwitch} (hn : s.hasDpll n = true) (hrun : s.running = true)
    (hp : (s.dpll n).sel.pend = some p) (hk : p.atK ≤ s.tb.k) :
    ∃ t ho st sp pl h c, exec (.switchExecute n) s = .next t ∧ t.dpll n =
      let v := (s.estimated n (s.tb.k + 1)).switchNow n (s.tb.k + 1)
      { v with ho := ho, steer := st, steerPrev := sp, pullinLimit := pl, hist := h, sel := { v.sel with cands := c } } := by
  have hat : (s.estimated n (s.tb.k + 1)).switchAt n (s.tb.k + 1) = (s.estimated n (s.tb.k + 1)).switchNow n (s.tb.k + 1) := by
    have hpe : ((s.estimated n (s.tb.k + 1)).dpll n).sel.pend = some p := by
      unfold State.estimated
      rw [State.modDpll_dpll, if_pos rfl]
      exact hp
    unfold State.switchAt
    rw [hpe]
    exact if_pos (Nat.lt_succ_of_le hk)
  generalize hv : (s.estimated n (s.tb.k + 1)).switchNow n (s.tb.k + 1) = v at hat ⊢
  obtain ⟨ho, st, sp, pl, b, hopen⟩ := ((s.estimated n (s.tb.k + 1)).setDpll n v).openEntry_dpll n
  rw [State.setDpll_dpll, if_pos rfl] at hopen
  have hguard : (s.hasDpll n && s.running && (s.dpll n).sel.pend.isSome) = true := by rw [hn, hrun, hp]; rfl
  have hexec : exec (.switchExecute n) s =
      fin ((((s.estimated n (s.tb.k + 1)).setDpll n ((s.estimated n (s.tb.k + 1)).switchAt n (s.tb.k + 1))).openEntry n).modDpll n
        fun u => { u with sel := { u.sel with cands := (s.dpll n).sel.cands } }) := congrArg fin (if_pos hguard)
  rw [hat] at hexec
  refine ⟨_, ho, st, sp, pl, setbIf v.hist 5 b, (s.dpll n).sel.cands, hexec, ?_⟩
  rw [State.after_dpll_same, State.modDpll_dpll, if_pos rfl, hopen]

/-! ## The measured alignment leaves the DPLLs alone (R271) -/

theorem State.alignSet_dpll (s : State) (n j : Nat) : (s.alignSet n).dpll j = s.dpll j := by
  have hoff : (s.alignSet n).offOutputs = s.offOutputs := by
    unfold State.alignSet
    simp
  have hdplls : (s.alignSet n).dplls = s.dplls := State.dplls_of_offOutputs hoff
  unfold State.dpll
  rw [hdplls]

/-! ## The end of a lock gate (R155 to R158) -/

/-- The limit of a LOCKED DPLL's delta (R158). -/
def DpllUnit.unlockLimit (u : DpllUnit) : Rat := 4 * (u.rowNow.lockThr : Rat) + (if u.res = 0 then 0 else (u.rowNow.psl : Rat))

theorem DpllUnit.gateEnd_locked {u : DpllUnit} {k : Nat} {f δ : Rat} (hrun : u.gate.running = true) (hst : u.state = .locked) :
    u.gateEnd k f (some δ) = if ratAbs δ ≤ u.unlockLimit then u.startGate k u.gate.passed else u.unlock k := by
  unfold DpllUnit.gateEnd
  rw [if_neg (by simp [hrun, hst])]
  dsimp only
  rw [if_pos hst]
  by_cases h : ratAbs δ ≤ u.unlockLimit
  · rw [if_pos h]
    exact if_neg (by simpa [DpllUnit.unlockLimit] using h)
  · rw [if_neg h]
    exact if_pos (by simpa [DpllUnit.unlockLimit] using h)

theorem DpllUnit.gateEnd_fast {u : DpllUnit} {k : Nat} {f δ : Rat} (hrun : u.gate.running = true) (hst : u.state = .acquiring)
    (hfast : u.acqFast = true) :
    (u.gateEnd k f (some δ)).state = .acquiring ∧ (u.gateEnd k f (some δ)).gate.passed = 0 ∧ (u.gateEnd k f (some δ)).steer = u.steer ∧
      (u.gateEnd k f (some δ)).acqFast = decide ((u.rowNow.lockThr : Rat) < ratAbs δ) := by
  unfold DpllUnit.gateEnd
  rw [if_neg (by simp [hrun, hst])]
  dsimp only
  rw [if_neg (by simp [hst]), if_pos hfast]
  by_cases h : ratAbs δ ≤ (u.rowNow.lockThr : Rat)
  · rw [if_pos (by simpa using h)]
    exact ⟨hst, rfl, rfl, (decide_eq_false (not_lt.mpr h)).symm⟩
  · rw [if_neg (by simpa using h)]
    exact ⟨hst, rfl, rfl, hfast.trans (decide_eq_true (not_le.mp h)).symm⟩

/-- The third passing gate in a row locks the DPLL (R156). -/
theorem DpllUnit.gateEnd_passes {u : DpllUnit} {k : Nat} {f δ : Rat} (hrun : u.gate.running = true) (hst : u.state = .acquiring)
    (hslow : u.acqFast = false) (hδ : ratAbs δ ≤ (u.rowNow.lockThr : Rat)) (hres : u.res = 0) (hph : ratAbs u.phLast ≤ (u.rowNow.phWin : Rat))
    (hgood : u.gate.bad = false) :
    (u.gateEnd k f (some δ)).state = (if 2 ≤ u.gate.passed then .locked else .acquiring) ∧
      (u.gateEnd k f (some δ)).gate.passed = if 2 ≤ u.gate.passed then 3 else u.gate.passed + 1 := by
  unfold DpllUnit.gateEnd
  rw [if_neg (by simp [hrun, hst])]
  dsimp only
  rw [if_neg (by simp [hst]), if_neg (by simp [hslow]), if_pos (by simp [hδ, hres, hph, hgood])]
  split
  · exact ⟨rfl, rfl⟩
  · exact ⟨hst, rfl⟩

/-- The gate of DPLL `n` has run its length at the current boundary. -/
def State.gateDue (s : State) (n : Nat) : Prop :=
  (s.dpll n).gate.startK + 3200 * (s.dpll n).gateLenEval (s.streamFreq (s.dpll n).refStream) ≤ s.tb.k

/-- The event evaluates the gate; an alignment that it starts is work of the OPLLs (R271). -/
theorem State.exec_lockGateEnd {s : State} {n : Nat} (hn : s.hasDpll n = true) (hen : (s.dpll n).enable = true)
    (hrun : (s.dpll n).gate.running = true) (hres : s.tb.restart = false) (hdue : s.gateDue n) :
    ∃ t, exec (.lockGateEnd n) s = .next t ∧
      t.dpll n = (s.dpll n).gateEval s.tb.k (s.streamFreq (s.dpll n).refStream)
        ((s.dpll n).deltaAt s.tb.k (periodOf (s.streamFreq (s.dpll n).refStream)) (periodOf (s.fbFreq n))) := by
  have hguard : (s.hasDpll n && (s.dpll n).enable && (s.dpll n).gate.running && !s.tb.restart &&
      decide ((s.dpll n).gate.startK + 3200 * (s.dpll n).gateLenEval (s.streamFreq (s.dpll n).refStream) ≤ s.tb.k)) = true := by
    simpa [hn, hen, hrun, hres] using (show _ ≤ s.tb.k from hdue)
  refine ⟨_, congrArg fin (if_pos hguard), ?_⟩
  rw [State.after_dpll_same]
  generalize (s.dpll n).gateEval _ _ _ = v
  have hset : ((s.setDpll n v).alignSet n).dpll n = v := by
    rw [State.alignSet_dpll, State.setDpll_dpll, if_pos rfl]
  dsimp only
  split
  · exact hset
  · rw [State.setDpll_dpll, if_pos rfl]

/-! ## Loss of the leader and of the feedback (R48, R153) -/

/-- The event is the entry that `f` makes, whose steer begins at once. -/
theorem State.openEntry_after {s : State} {n : Nat} {v : DpllUnit} :
    (((s.setDpll n v).openEntry n).after.dpll n).state = v.state ∧ (((s.setDpll n v).openEntry n).after.dpll n).fbFault = v.fbFault ∧
      (((s.setDpll n v).openEntry n).after.dpll n).mirrorLost = v.mirrorLost ∧
      ∀ j, bit v.hist j = true → bit (((s.setDpll n v).openEntry n).after.dpll n).hist j = true := by
  obtain ⟨ho, st, sp, pl, b, hopen⟩ := (s.setDpll n v).openEntry_dpll n
  rw [State.setDpll_dpll, if_pos rfl] at hopen
  rw [State.after_dpll_same, hopen]
  exact ⟨rfl, rfl, rfl, fun j hj => bit_setbIf_of hj 5 b⟩

theorem DpllUnit.mirrorLoss_outcome {u : DpllUnit} (hen : u.enable = true) (hrole : u.cfg.role = 2) (hs : 32 ≤ u.mirrorSilent) (k : Nat) :
    (u.mirrorLoss k).mirrorLost = true ∧ bit (u.mirrorLoss k).hist 7 = true ∧ (u.mirrorLoss k).state =
      if u.mirrorHad = true ∧ u.frozen = false ∧ u.parityHold = false ∧ u.force ≠ 1 ∧ u.force ≠ 2 then .holdover else u.state := by
  have h7 : bit (setb u.hist 7) 7 = true := bit_setb_same _ (by decide)
  unfold DpllUnit.mirrorLoss
  rw [if_pos ⟨hen, hrole, by omega⟩]
  dsimp only
  by_cases h : u.mirrorHad = true ∧ u.frozen = false ∧ u.parityHold = false ∧ u.force ≠ 1 ∧ u.force ≠ 2
  · rw [if_pos (by simpa [and_assoc] using h), if_pos h]
    obtain ⟨hst, hhist, -, hlost, -⟩ := DpllUnit.toHoldover_opened { u with mirrorLost := true, hist := setb u.hist 7 } k 9
    exact ⟨hlost, hhist 7 h7, hst⟩
  · rw [if_neg (by simpa [and_assoc] using h), if_neg h]
    exact ⟨rfl, h7, rfl⟩

theorem DpllUnit.fbFaultRise_outcome {u : DpllUnit} (hen : u.enable = true) (k : Nat) :
    (u.fbFaultRise k).fbFault = true ∧ bit (u.fbFaultRise k).hist 6 = true ∧ (u.fbFaultRise k).state =
      if u.state = .locked ∨ u.state = .acquiring then (if u.holdValid then .holdover else .freerun) else u.state := by
  obtain ⟨hst, hhist, hfault, -, -⟩ := DpllUnit.loseRef_opened { u with fbFault := true, hist := setb u.hist 6, fbGoodRun := 0 } k 9
  unfold DpllUnit.fbFaultRise
  rw [if_pos hen]
  exact ⟨hfault, hhist 6 (bit_setb_same _ (by decide)), hst⟩

theorem State.exec_mirrorLeaderLost {s : State} {n : Nat} (hn : s.hasDpll n = true) (hrole : (s.dpll n).cfg.role = 2)
    (hen : (s.dpll n).enable = true) (hres : s.tb.restart = false) (hs : 32 ≤ (s.dpll n).mirrorSilent) :
    exec (.mirrorLeaderLost n) s = fin ((s.setDpll n ((s.dpll n).mirrorLoss s.tb.k)).openEntry n) :=
  congrArg fin (if_pos (by simp [hn, hrole, hen, hres, hs]))

theorem State.exec_fbFaultTimeout {s : State} {n : Nat} (hn : s.hasDpll n = true) (hen : (s.dpll n).enable = true)
    (hok : (s.dpll n).fbFault = false) (hres : s.tb.restart = false) (htap : s.tapBusy n = false) (hrun : 320 < (s.dpll n).fbBadRun) :
    exec (.fbFaultTimeout n) s = fin ((s.setDpll n ((s.dpll n).fbFaultRise s.tb.k)).openEntry n) :=
  congrArg fin (if_pos (by simp [hn, hen, hok, hres, htap, hrun]))

/-! ## The words and the history (R161, R232 to R235) -/

theorem State.exec_holdoffExpire {s : State} {n : Nat} (hn : s.hasDpll n = true) (h0 : (s.dpll n).sel.holdoff ≠ 0)
    (hk : (s.dpll n).sel.holdoff ≤ s.tb.k) :
    exec (.holdoffExpire n) s = fin (s.setDpll n { s.dpll n with sel := { (s.dpll n).sel with holdoff := 0 } }) :=
  congrArg fin (if_pos (by simp [hn, h0, hk]))

theorem State.exec_freerunWordRefresh {s : State} {n : Nat} (hn : s.hasDpll n = true) (hen : (s.dpll n).enable = true) :
    exec (.freerunWordRefresh n) s = fin (s.setDpll n { s.dpll n with freeWord := (s.freeWordOf n).1, frBasis := (s.freeWordOf n).2 }) :=
  congrArg fin (if_pos (by simp [hn, hen]))

theorem State.exec_holdoverWordRefresh {s : State} {n : Nat} (hn : s.hasDpll n = true) (hen : (s.dpll n).enable = true)
    (hrole : (s.dpll n).cfg.role = 1) (hst : (s.dpll n).state = .holdover) :
    exec (.holdoverWordRefresh n) s =
      fin (s.setDpll n { s.dpll n with ho := s.formHold n (min 0xFFFFFFFF ((s.dpll n).ho.holdS + 1)) true (s.fmOf n) }) :=
  congrArg fin (if_pos (by simp [hn, hen, hrole, hst]))

/-- The sample that ends the tick in progress of a DPLL at boundary `k` (R233). -/
def DpllUnit.tickSample (u : DpllUnit) (k : Nat) (meter : Bool) : HoSample :=
  let c : Rat := u.ho.accN
  { u := u.ho.accU / c, y := u.ho.accY / c, c := u.ho.accC, s := u.ho.accS / c, tickEnd := k, inputs := u.ho.accIn,
    valid := u.ho.accOk && meter && decide (u.ho.accN = tickWin u.ho.tick) }

/-- A tick that has collected samples goes into the ring, unless E is fixed and it is not valid (R233, R234). -/
theorem DpllUnit.historySample_outcome {u : DpllUnit} (h : u.ho.accN ≠ 0) (k : Nat) (meter : Bool) :
    (u.historySample k meter).state = u.state ∧ (u.historySample k meter).ho.accN = 0 ∧ (u.historySample k meter).ho.tickStart = k ∧
      (u.historySample k meter).ho.ring = if u.ho.frozenE.isSome && !(u.tickSample k meter).valid then u.ho.ring
        else lastN 8192 (u.ho.ring ++ [u.tickSample k meter]) := by
  unfold DpllUnit.historySample
  dsimp only
  rw [if_neg h]
  exact ⟨rfl, rfl, rfl, rfl⟩

theorem DpllUnit.refreshValid_keeps (u : DpllUnit) (k : Nat) :
    (u.refreshValid k).state = u.state ∧ (u.refreshValid k).ho.accN = u.ho.accN ∧ (u.refreshValid k).ho.tickStart = u.ho.tickStart ∧
      (u.refreshValid k).ho.ring = u.ho.ring := by
  unfold DpllUnit.refreshValid
  split <;> exact ⟨rfl, rfl, rfl, rfl⟩

/-- The event stores the sample; what DPLL_SET_HOLDOVER has set and the validity come after it (R234, R242). -/
theorem State.exec_historySample {s : State} {n : Nat} (hn : s.hasDpll n = true) (hen : (s.dpll n).enable = true)
    (hrole : (s.dpll n).cfg.role = 1) (hk : s.tb.k % tickWin (s.dpll n).ho.tick = 0) (hacc : (s.dpll n).ho.accN ≠ 0) :
    ∃ t, exec (.historySample n) s = .next t ∧
      let v := (s.dpll n).historySample s.tb.k (s.osc (s.portOfDpll n)).meterOk
      (t.dpll n).state = v.state ∧ (t.dpll n).ho.accN = v.ho.accN ∧ (t.dpll n).ho.tickStart = v.ho.tickStart ∧ (t.dpll n).ho.ring = v.ho.ring := by
  refine ⟨_, congrArg fin (if_pos (by simp [hn, hen, hrole, hk, hacc])), ?_⟩
  rw [State.after_dpll_same, State.setDpll_dpll, if_pos rfl]
  dsimp only
  generalize (s.dpll n).historySample _ _ = v
  split
  · exact v.refreshValid_keeps _
  · exact DpllUnit.refreshValid_keeps { v with ho := v.ho.take } _

/-! ## The obligation -/

/-- A pending switch without a hook executes: to an input still eligible, cancelled, or to no input (R192 to R194). -/
theorem State.switch_completes {s : State} {n : Nat} {p : PendSwitch} (hn : s.hasDpll n = true) (hrun : s.running = true)
    (hp : (s.dpll n).sel.pend = some p) (hk : p.atK ≤ s.tb.k) (hhook : p.hook = false) (hfree : (s.dpll n).Unheld) :
    ∃ t, exec (.switchExecute n) s = .next t ∧ (t.dpll n).sel.pend = none ∧
      (p.want ≠ 0x1FF → p.want ≠ (s.dpll n).selInput → (s.estimated n (s.tb.k + 1)).stillEligible n p.want = true →
        (t.dpll n).selInput = p.want ∧ (t.dpll n).row = (s.input p.want).decl.type ∧
        (t.dpll n).state = (if (s.dpll n).state = .locked then .locked else .acquiring) ∧ bit (t.dpll n).sel.hist 0 = true ∧
        (t.dpll n).sel.switchCnt = satInc (s.dpll n).sel.switchCnt) ∧
      (p.want ≠ 0x1FF → p.want ≠ (s.dpll n).selInput → (s.estimated n (s.tb.k + 1)).stillEligible n p.want = false →
        (t.dpll n).selInput = (s.dpll n).selInput ∧ (t.dpll n).state = (s.dpll n).state ∧
        (t.dpll n).sel.cancelCnt = satInc (s.dpll n).sel.cancelCnt ∧ bit (t.dpll n).sel.hist 6 = true) ∧
      (p.want = 0x1FF → (s.dpll n).cfg.role = 1 → (s.dpll n).state = .locked ∨ (s.dpll n).state = .acquiring →
        (t.dpll n).selInput = 0x1FF ∧ (t.dpll n).state = if (s.dpll n).ho.valid then .holdover else .freerun) := by
  obtain ⟨t, ho, st, sp, pl, h, c, ht, htd⟩ := State.exec_switchExecute hn hrun hp hk
  have hest : (s.estimated n (s.tb.k + 1)).dpll n =
      { s.dpll n with sel := { (s.dpll n).sel with cands := s.selBoundary n (s.tb.k + 1) } } := (s.modDpll_dpll n n _).trans (if_pos rfl)
  have hnow := State.switchNow_plain (s := s.estimated n (s.tb.k + 1)) (p := p) (by rw [hest]; exact hp) hhook (by rw [hest]; exact hfree) (s.tb.k + 1)
  have hsel : ((s.estimated n (s.tb.k + 1)).dpll n).selInput = (s.dpll n).selInput := by rw [hest]
  rw [hsel] at hnow
  rw [hnow] at htd
  refine ⟨t, ht, ?_, fun hno hw he => ?_, fun hno hw he => ?_, fun hw hrole hst => ?_⟩
  · rw [htd]
    dsimp only
    split_ifs
    · exact DpllUnit.noCandidate_pend _ _
    · rfl
    · rfl
    · exact (State.takeInput_outcome _ _ _ _ _).2.1
  · have hinput : ((s.estimated n (s.tb.k + 1)).setDpll n ((s.estimated n (s.tb.k + 1)).dpll n)).input p.want = s.input p.want :=
      (State.setDpll_input_same _ _ _ _).trans (s.modDpll_input_same _ _ _)
    rw [htd, if_neg hno, if_neg hw, if_neg (by rw [he]; decide)]
    obtain ⟨hin, -, hrow, hstate, hbit, hcnt⟩ := State.takeInput_outcome ((s.estimated n (s.tb.k + 1)).setDpll n ((s.estimated n (s.tb.k + 1)).dpll n))
      n p.want p.reason (s.tb.k + 1)
    generalize State.takeInput _ _ _ _ _ = v at hin hrow hstate hbit hcnt ⊢
    rw [State.setDpll_dpll, if_pos rfl, hest] at hstate hcnt
    rw [hinput] at hrow
    exact ⟨hin, hrow, hstate, hbit, hcnt⟩
  · rw [htd, if_neg hno, if_neg hw, if_pos (by rw [he]; rfl), hest]
    exact ⟨rfl, rfl, rfl, bit_satFlag_of (bit_setb_same _ (by decide)) 8 _⟩
  · rw [htd, if_pos hw]
    obtain ⟨hin, hstate⟩ := DpllUnit.noCandidate_outcome (u := (s.estimated n (s.tb.k + 1)).dpll n) (by rw [hest]; exact hrole)
      (by rw [hest]; exact hst) (s.tb.k + 1)
    generalize DpllUnit.noCandidate _ _ = v at hin hstate ⊢
    rw [hest] at hstate
    exact ⟨hin, hstate⟩

/-- Settles O23: each event is the operation of its row, whose outcome on the DPLL the lemmas above state. -/
theorem dpllEventsComplete : Obligations.DpllEventsComplete := by
  unfold Obligations.DpllEventsComplete
  intro s n hn u
  refine ⟨fun h0 hk => State.exec_holdoffExpire hn h0 hk, ?_, ?_, ?_, ?_, fun hen => State.exec_freerunWordRefresh hn hen,
    fun hen hrole hst => ⟨State.exec_holdoverWordRefresh hn hen hrole hst, rfl, rfl⟩, ?_⟩
  case refine_1 =>
    intro p hrun hp hk hhook hen hfrozen hpar hfb hf1 hf2 b
    obtain ⟨t, ht, hpend, htake, hcancel, hlose⟩ := State.switch_completes hn hrun hp hk hhook ⟨hen, hfrozen, hpar, hfb, hf1, hf2⟩
    refine ⟨fun hno hw he => ?_, fun hno hw he => ?_, fun hw hrole hst => ?_⟩
    · obtain ⟨hin, hrow, hst, hbit, hcnt⟩ := htake hno hw he
      exact ⟨t, ht, hin, hpend, hrow, hst, hbit, hcnt⟩
    · obtain ⟨hin, hst, hcnt, hbit⟩ := hcancel hno hw he
      exact ⟨t, ht, hin, hpend, hst, hcnt, hbit⟩
    · obtain ⟨hin, hst⟩ := hlose hw hrole hst
      exact ⟨t, ht, hin, hpend, hst⟩
  case refine_2 =>
    intro δ hen hrun hres f hdue hδ r lim
    obtain ⟨t, ht, htd⟩ := State.exec_lockGateEnd hn hen hrun hres hdue
    rw [hδ] at htd
    refine ⟨fun hst => ⟨t, ht, ?_⟩, fun hst hfast => ⟨t, ht, ?_⟩, fun hst hslow hw hzero hph hgood => ⟨t, ht, ?_⟩⟩
    · have hend : ({ u with rows := u.rowsEval } : DpllUnit).gateEnd s.tb.k f (some δ) = _ := DpllUnit.gateEnd_locked hrun hst
      unfold DpllUnit.gateEval at htd
      refine ⟨fun hout => ?_, fun hin => ?_⟩
      · rw [htd, hend.trans (if_neg (not_le.mpr hout))]
        exact ⟨rfl, rfl, bit_satFlag_of (bit_setb_same _ (by decide)) 9 _⟩
      · rw [htd, hend.trans (if_pos hin)]
        exact ⟨hst, rfl⟩
    · rw [htd]
      exact DpllUnit.gateEnd_fast (u := { u with rows := u.rowsEval }) hrun hst hfast
    · rw [htd]
      exact DpllUnit.gateEnd_passes (u := { u with rows := u.rowsEval }) hrun hst hslow hw hzero hph hgood
  case refine_3 =>
    intro hrole hen hres hs
    obtain ⟨hst, -, hlost, hbit⟩ := State.openEntry_after (s := s) (n := n) (v := u.mirrorLoss s.tb.k)
    obtain ⟨hlost', hbit', hst'⟩ := DpllUnit.mirrorLoss_outcome hen hrole hs s.tb.k
    exact ⟨_, State.exec_mirrorLeaderLost hn hrole hen hres hs, hlost.trans hlost', hbit 7 hbit', hst.trans hst'⟩
  case refine_4 =>
    intro hen hok hres htap hrun
    obtain ⟨hst, hfault, -, hbit⟩ := State.openEntry_after (s := s) (n := n) (v := u.fbFaultRise s.tb.k)
    obtain ⟨hfault', hbit', hst'⟩ := DpllUnit.fbFaultRise_outcome hen s.tb.k
    exact ⟨_, State.exec_fbFaultTimeout hn hen hok hres htap hrun, hfault.trans hfault', hbit 6 hbit', hst.trans hst'⟩
  case refine_5 =>
    intro hen hrole hk hacc c x
    obtain ⟨t, ht, hst, hN, hstart, hring⟩ := State.exec_historySample hn hen hrole hk hacc
    obtain ⟨hst', hN', hstart', hring'⟩ := DpllUnit.historySample_outcome hacc s.tb.k (s.osc (s.portOfDpll n)).meterOk
    refine ⟨t, ht, hst.trans hst', hN.trans hN', hstart.trans hstart', fun h => ?_, fun hfix hbad => ?_⟩
    · rw [hring, hring', if_neg]
      · rfl
      · rcases h with h | h
        · rw [h]; exact Bool.false_ne_true
        · exact fun hand => absurd hand (by rw [show ((s.dpll n).tickSample _ _).valid = true from h]; simp)
    · rw [hring, hring', if_pos]
      rw [Option.isSome_iff_ne_none.mpr hfix, show ((s.dpll n).tickSample _ _).valid = false from hbad]
      rfl

end Sys2Proof.Machine
end

section
/-! SUPPORT. The events of the oscillator ports and of the cairn engine (R43, R215 to R217, R221 to R226, R237). -/

namespace Sys2Proof.Machine
open Sys2Proof

/-! ## A port loses its activity (R43, R216) -/

/-- The port as the loss of its activity leaves it. -/
def OscPort.lost (u : OscPort) : OscPort := { u with active := false, started := false, lossH := true, meterOk := false }

theorem State.belayOscLoss_keeps (s : State) (o : Nat) : (s.belayOscLoss o).oscs = s.oscs ∧ (s.belayOscLoss o).tb = s.tb := by
  unfold State.belayOscLoss
  split
  · have hoff := State.forEach_keep State.offOutputs (fun x m => x.modOut m fun u => { u with state := if u.enable then .stopped else .off })
      (fun _ _ => rfl) s.belay.outs s
    exact ⟨(State.oscs_of_offOutputs hoff :), (State.tb_of_offOutputs hoff :)⟩
  · exact ⟨rfl, rfl⟩

theorem State.osc_of_oscs {s t : State} (h : s.oscs = t.oscs) (o : Nat) : s.osc o = t.osc o := by
  unfold State.osc
  rw [h]

/-- The port loses its activity, and with the master's the timebase its oscillator (R43). -/
def State.lostPort (s : State) (o : Nat) : State :=
  if o = s.masterPort then
    { s.modOsc o OscPort.lost with tb := { s.tb with oscLoss := true, oscLossH := true },
                                   cairn := { s.cairn with tbHeld := s.cairn.tbHeld || s.tb.tbEn } }
  else s.modOsc o OscPort.lost

theorem State.lostPort_outcome (s : State) (o : Nat) : (s.lostPort o).osc o = (s.osc o).lost ∧
    (s.lostPort o).tb = if o = s.masterPort then { s.tb with oscLoss := true, oscLossH := true } else s.tb := by
  have hosc : (s.modOsc o OscPort.lost).osc o = (s.osc o).lost := by rw [State.modOsc_osc, if_pos rfl]
  unfold State.lostPort
  split
  · exact ⟨hosc, rfl⟩
  · exact ⟨hosc, rfl⟩

/-- The OPLLs that the port clocked fault, with their outputs and DPLLs (R263, R278). -/
theorem State.portLoss_offLoops {s : State} {o : Nat} (h : (s.osc o).active = true) : (s.portLoss o).offLoops = (s.lostPort o).offLoops := by
  unfold State.portLoss
  rw [if_pos h]
  dsimp only
  rw [State.bypassCheck_offLoops, State.forEach_keep State.offLoops _ fun t n => by split <;> simp]
  rfl

/-- The event is the loss of the port, after which belay drops its outputs with the master (R538). -/
theorem State.portActivityLoss_outcome {s : State} {o : Nat} (h : (s.osc o).active = true) :
    ∃ t, exec (.portActivityLoss o) s = .next t ∧ t.osc o = (s.osc o).lost ∧
      t.tb = if o = s.masterPort then { s.tb with oscLoss := true, oscLossH := true } else s.tb := by
  obtain ⟨hosc, htb⟩ := s.lostPort_outcome o
  obtain ⟨hoscs', htb'⟩ := (s.portLoss o).belayOscLoss_keeps o
  have hoff := State.portLoss_offLoops h
  refine ⟨_, rfl, ?_, ?_⟩
  · rw [State.after_osc_same, State.osc_of_oscs (hoscs'.trans (State.oscs_of_offLoops hoff)), hosc]
  · rw [State.after_tb, htb']
    exact (State.tb_of_offLoops hoff).trans htb

/-! ## A second of the cairn engine (R216, R221, R226) -/

theorem State.mem_all_two {s : State} {o : Nat} (h : s.hasOsc o = true) : o ∈ s.all 2 := by
  have hd : o / 2 < s.nDies := of_decide_eq_true h
  exact List.mem_range.mpr (by omega)

/-- A loop that changes every port by `g` changes each port of its list once. -/
theorem State.forEach_modOsc (g : OscPort → OscPort) (ns : List Nat) (hnd : ns.Nodup) (s : State) (o : Nat) :
    (s.forEach ns fun t n => t.modOsc n g).osc o = if o ∈ ns then g (s.osc o) else s.osc o := by
  induction ns generalizing s with
  | nil => rfl
  | cons n ns ih =>
    obtain ⟨hn, hns⟩ := List.nodup_cons.mp hnd
    have hstep : s.forEach (n :: ns) (fun t n => t.modOsc n g) = (s.modOsc n g).forEach ns fun t n => t.modOsc n g := rfl
    rw [hstep, ih hns, State.modOsc_osc]
    by_cases h : o = n
    · subst h
      simp [hn]
    · simp [h]

theorem State.portSeconds_eq (s : State) (n : Nat) : ∃ x, s.portSeconds n = { s with oscs := x } :=
  State.forEach_inv (fun t => ∃ x, t = { s with oscs := x }) _ (fun _ _ ⟨_, h⟩ => h ▸ ⟨_, rfl⟩) _ s ⟨s.oscs, rfl⟩

theorem State.portSeconds_sOn {s : State} {o : Nat} (h : s.hasOsc o = true) (n : Nat) :
    ((s.portSeconds n).osc o).sOn = if (s.osc o).active then (s.osc o).sOn + n else (s.osc o).sOn := by
  unfold State.portSeconds
  rw [State.forEach_modOsc (fun u => if u.active then { u with sOn := u.sOn + n } else u) (s.all 2) List.nodup_range, if_pos (State.mem_all_two h)]
  split <;> rfl

/-- The ports, the inputs and the DPLLs, and the second that the engine counts. -/
def State.secondView (s : State) : List (Nat × OscPort) × List (Nat × InputUnit) × List (Nat × DpllUnit) × Nat × Nat :=
  (s.oscs, s.inputs, s.dplls, s.cairn.secs, s.cairn.learnUse)

/-- Every model ages by a second. -/
def State.modelsSecond (s : State) : State := s.forEach (s.all 2) fun x o => x.setModel o (s.modelSecond o)

/-- The engine's own second on the ports and models of the state. -/
def State.engineSecond (s : State) : State :=
  { s.modelsSecond with cairn := { s.cairnStep with
      learning := (s.all 2).any fun o => s.learns o, learnUse := (if s.tb.oscLoss then none else s.learnDpll).getD 0x7F,
      secs := s.cairnStep.secs + 1 } }

/-- A new second of every learning DPLL begins. -/
def State.learnAnew (s : State) : State := s.forEach (s.all 8) fun x n => x.modDpll n fun u => { u with learnBad := false }

theorem State.cairnSecond_eq {s : State} (h : s.belay.phase ≠ 2) :
    s.cairnSecond = (s.portSeconds 1).engineSecond.correctAges.learnAnew := if_neg h

theorem State.cairnStep_secs (s : State) : s.cairnStep.secs = s.cairn.secs := by
  unfold State.cairnStep
  dsimp only
  split <;> rfl

theorem State.modelsSecond_view (s : State) : s.modelsSecond.secondView = s.secondView :=
  State.forEach_keep State.secondView (fun x o => x.setModel o (s.modelSecond o)) (fun _ _ => rfl) _ _

theorem State.engineSecond_view (s : State) : s.engineSecond.secondView =
    (s.oscs, s.inputs, s.dplls, s.cairn.secs + 1, (if s.tb.oscLoss then none else s.learnDpll).getD 0x7F) := by
  obtain ⟨hoscs, hrest⟩ := Prod.mk.inj s.modelsSecond_view
  obtain ⟨hinputs, hrest⟩ := Prod.mk.inj hrest
  obtain ⟨hdplls, -⟩ := Prod.mk.inj hrest
  rw [← hoscs, ← hinputs, ← hdplls, ← s.cairnStep_secs]
  rfl

theorem State.correctAge_view (s : State) (o : Nat) : (s.correctAge o).secondView = s.secondView := by
  unfold State.correctAge
  dsimp only
  split
  · rfl
  · split <;> rfl

theorem State.correctAges_view (s : State) : s.correctAges.secondView = s.secondView := by
  unfold State.correctAges
  split
  · exact State.forEach_keep State.secondView State.correctAge State.correctAge_view _ _
  · rfl

/-- A new second changes the mark of the learning DPLLs alone. -/
theorem State.learnAnew_keeps (s : State) :
    s.learnAnew.cairn = s.cairn ∧ s.learnAnew.inputs = s.inputs ∧ s.learnAnew.oscs = s.oscs ∧
      ∀ k, s.learnAnew.dpll k = { s.dpll k with learnBad := (s.learnAnew.dpll k).learnBad } := by
  refine State.forEach_inv (fun t => t.cairn = s.cairn ∧ t.inputs = s.inputs ∧ t.oscs = s.oscs ∧
    ∀ k, t.dpll k = { s.dpll k with learnBad := (t.dpll k).learnBad }) _ ?_ _ _ ⟨rfl, rfl, rfl, fun _ => rfl⟩
  rintro t n ⟨hcairn, hinputs, hoscs, hdpll⟩
  refine ⟨hcairn, hinputs, hoscs, fun k => ?_⟩
  rw [State.modDpll_dpll]
  split
  next h => rw [h, hdpll n]
  next => exact hdpll k

theorem State.cairnSecond_outcome {s : State} (h : s.belay.phase ≠ 2) :
    s.cairnSecond.cairn.learnUse = ((if s.tb.oscLoss then none else s.learnDpll).getD 0x7F) ∧ s.cairnSecond.cairn.secs = s.cairn.secs + 1 ∧
      s.cairnSecond.inputs = s.inputs ∧ s.cairnSecond.oscs = (s.portSeconds 1).oscs ∧
      ∀ k, s.cairnSecond.dpll k = { s.dpll k with learnBad := (s.cairnSecond.dpll k).learnBad } := by
  have hlearn : (s.portSeconds 1).learnDpll = s.learnDpll ∧ (s.portSeconds 1).tb = s.tb ∧ (s.portSeconds 1).inputs = s.inputs ∧
      (s.portSeconds 1).dplls = s.dplls ∧ (s.portSeconds 1).cairn = s.cairn := by
    obtain ⟨x, hx⟩ := s.portSeconds_eq 1
    rw [hx]
    exact ⟨rfl, rfl, rfl, rfl, rfl⟩
  obtain ⟨hlearn, htb, hinputs, hdplls, hcairn⟩ := hlearn
  have hview := (s.portSeconds 1).engineSecond.correctAges_view.trans (s.portSeconds 1).engineSecond_view
  rw [hlearn, htb, hinputs, hdplls, hcairn] at hview
  rw [State.cairnSecond_eq h]
  generalize (s.portSeconds 1).engineSecond.correctAges = t at hview ⊢
  obtain ⟨hO, hrest⟩ := Prod.mk.inj hview
  obtain ⟨hI, hrest⟩ := Prod.mk.inj hrest
  obtain ⟨hD, hrest⟩ := Prod.mk.inj hrest
  obtain ⟨hsecs, huse⟩ := Prod.mk.inj hrest
  obtain ⟨hc, hi, ho, hd⟩ := t.learnAnew_keeps
  refine ⟨by rw [hc, huse], by rw [hc, hsecs], hi.trans hI, ho.trans hO, fun k => ?_⟩
  have hk : t.dpll k = s.dpll k := by unfold State.dpll; rw [hD]
  rw [hd k, hk]

/-! ## The models (R222, R224, R225, R237) -/

/-- The end of a mean begins the next; a mean that a model takes has it learnt and unsaved (R222, R237). -/
theorem PortModel.learn_outcome (m : PortModel) (learnMin tau sec sOn fitNo : Nat) :
    (m.learn learnMin tau sec sOn fitNo).1.obs = [] ∧ (m.learn learnMin tau sec sOn fitNo).1.obsSec = 0 ∧
      (m.obs.length < 48 → (m.learn learnMin tau sec sOn fitNo).1 = { m with obs := [], obsSec := 0 }) ∧
      (48 ≤ m.obs.length → m.state = .learning ∨ m.state = .qualified →
        (m.learn learnMin tau sec sOn fitNo).1.sinceLearn = 0 ∧ (m.learn learnMin tau sec sOn fitNo).1.sinceStart = false ∧
        (m.learn learnMin tau sec sOn fitNo).1.unsaved = true) := by
  unfold PortModel.learn
  dsimp only
  split
  next hout =>
    refine ⟨rfl, rfl, fun _ => rfl, fun hn hst => ?_⟩
    rcases hst with hst | hst <;> rw [hst] at hout <;> exact absurd hout (by simp [hn])
  next hin =>
    obtain ⟨hn, -⟩ := not_or.mp hin
    split <;> (try split) <;> exact ⟨rfl, rfl, fun h => absurd h hn, fun _ _ => ⟨rfl, rfl, rfl⟩⟩

theorem State.learningMean_eq {s : State} {o : Nat} (h : 64 ≤ (s.model o).obsSec) :
    let r := (s.model o).learn s.cairn.learnMin s.cairn.learnTauD s.cairn.secs (s.osc o).sOn s.fresh
    s.learningMean o = { s.setModel o r.1 with
      cairn := { s.cairn with hist := setbIf (setbIf s.cairn.hist 5 r.2.1) 6 r.2.2 }, fresh := s.fresh + 1 } := if_pos h

theorem State.forgetModel_model (s : State) (o : Nat) (st : ModelSt) : (s.forgetModel o st).model o = (s.model o).cleared st := by
  unfold State.forgetModel State.queueSave State.modNv
  rw [State.modDx_model_same, State.modModel_model, if_pos rfl]

/-- A model whose verification fails is forgotten (R225). -/
theorem State.restoreVerify_failed {s : State} {o : Nat} (hst : (s.model o).state = .restored) (hn : s.cairn.restoreVerifyS ≤ (s.model o).verN)
    (hv : (s.model o).verified s.cairn.kRej = false) :
    ((s.restoreVerify o).model o).state = .learning ∧ bit (s.restoreVerify o).cairn.hist 3 = true := by
  unfold State.restoreVerify
  dsimp only
  rw [if_pos ⟨hst, hn⟩, if_neg (by rw [hv]; decide)]
  refine ⟨?_, bit_setb_same _ (by decide)⟩
  change (((s.forgetModel o .learning).modModel o fun m => { m with failCnt := m.failCnt + 1 }).model o).state = .learning
  rw [State.modModel_model, if_pos rfl, State.forgetModel_model]
  rfl

theorem State.restoreVerify_passed {s : State} {o : Nat} (hst : (s.model o).state = .restored) (hn : s.cairn.restoreVerifyS ≤ (s.model o).verN)
    (hv : (s.model o).verified s.cairn.kRej = true) : s.restoreVerify o = s.setModel o { s.model o with state := .qualified } := by
  unfold State.restoreVerify
  dsimp only
  rw [if_pos ⟨hst, hn⟩, if_pos hv]

theorem State.modelSave_eq {s : State} {o : Nat} (ho : s.hasOsc o = true) (hst : (s.model o).state = .qualified) (hl : s.learns o = true)
    (hm : s.cairn.saveMin ≠ 0) : s.modelSave o = s.saveModel o none := if_pos (by simp [ho, hst, hl, hm])

theorem OscPort.reading_good {u : OscPort} {m : PortModel} {ohms : Nat} (ht : m.tsense = true) (hf : tempFault m.r25 ohms = false) :
    u.reading m ohms = { u with goods := u.goods + 1, faults := 0, temp := fmtS 16 (tempOf m.r25 m.beta ohms m.tofs),
                                tempValid := u.tempValid || decide (10 ≤ u.goods + 1) } := by
  unfold OscPort.reading
  rw [if_neg (by rw [ht]; decide), if_neg (by rw [hf]; decide)]

theorem OscPort.reading_faulted {u : OscPort} {m : PortModel} {ohms : Nat} (ht : m.tsense = true) (hf : tempFault m.r25 ohms = true) :
    u.reading m ohms = { u with faults := u.faults + 1, goods := 0, tempFaultH := true, tempValid := u.tempValid && decide (u.faults + 1 < 10) } := by
  unfold OscPort.reading
  rw [if_neg (by rw [ht]; decide), if_pos hf]

theorem State.exec_thermistorRead {s : State} {o : Nat} (ho : s.hasOsc o = true) (ohms : Nat) :
    exec (.thermistorRead o ohms) s = fin (s.setOsc o ((s.osc o).reading (s.model o) ohms)) := congrArg fin (if_pos ho)

theorem State.exec_portMeterSample_valid {s : State} {o : Nat} (ho : s.hasOsc o = true) (hact : (s.osc o).active = true) (hrun : s.running = true)
    (hres : s.tb.restart = false) (hloss : s.tb.oscLoss = false) (hup : s.dieUp (dieOfOsc o) = true) (x : Int) :
    exec (.portMeterSample o x) s = fin (s.setOsc o { s.osc o with
      meter := lastN 16 ((s.osc o).meter ++ [if o = s.masterPort then 0 else (x : Rat)]), meterOk := true }) :=
  congrArg fin ((if_pos ho).trans (if_pos (by simp [hact, hrun, hres, hloss, hup])))

/-- Settles O24: each event is the operation of its row, whose outcome on the port, the model and the engine the lemmas above state. -/
theorem oscillatorEventsComplete : Obligations.OscillatorEventsComplete := by
  unfold Obligations.OscillatorEventsComplete
  intro s o ho u
  refine ⟨fun x hact hrun hres hloss hup => State.exec_portMeterSample_valid ho hact hrun hres hloss hup x, ?_, ?_, ?_, ?_, ?_, ?_, ?_, ?_, ?_⟩
  case refine_1 =>
    intro x hact
    exact congrArg fin ((if_pos ho).trans (if_neg (by simp [show (s.osc o).active = false from hact])))
  case refine_2 =>
    intro ohms ht hf
    rw [State.exec_thermistorRead ho, OscPort.reading_good ht hf]
    rfl
  case refine_3 =>
    intro ohms ht hf
    rw [State.exec_thermistorRead ho, OscPort.reading_faulted ht hf]
    rfl
  case refine_4 =>
    intro hact
    obtain ⟨t, ht, hosc, htb⟩ := State.portActivityLoss_outcome hact
    exact ⟨t, ht, hosc, fun h => htb.trans (if_pos h), fun h => htb.trans (if_neg h)⟩
  case refine_5 =>
    intro hphase
    obtain ⟨huse, hsecs, hinputs, hoscs, hdplls⟩ := State.cairnSecond_outcome hphase
    refine ⟨_, rfl, ?_, ?_, ?_, ?_, fun k => ?_⟩
    · rw [State.after_cairn, huse]
    · rw [State.after_cairn, hsecs]
    · rw [State.after_inputs, hinputs]
    · rw [State.after_osc_same, State.osc_of_oscs hoscs, State.portSeconds_sOn ho]
    · rw [State.after_dpll_same]
      exact hdplls k
  case refine_6 =>
    intro hsec r
    obtain ⟨hobs, hobsSec, hfew, hmany⟩ := (s.model o).learn_outcome s.cairn.learnMin s.cairn.learnTauD s.cairn.secs u.sOn s.fresh
    exact ⟨congrArg fin ((if_pos ho).trans (State.learningMean_eq hsec)), hobs, hobsSec, hfew, hmany⟩
  case refine_7 =>
    intro hst hn hv
    exact congrArg fin ((if_pos ho).trans (State.restoreVerify_passed hst hn hv))
  case refine_8 =>
    intro hst hn hv
    obtain ⟨hlearning, hbit⟩ := State.restoreVerify_failed hst hn hv
    exact ⟨_, congrArg fin (if_pos ho), by rw [State.after_model_same, hlearning], by rw [State.after_cairn, hbit]⟩
  case refine_9 =>
    intro hst hl hm
    exact congrArg fin ((if_pos ho).trans (State.modelSave_eq ho hst hl hm))

end Sys2Proof.Machine
end

section
/-! SUPPORT. The locks of the TBPLLs, and what happens when one locks (R34, R35, R45, R397, R540). -/

namespace Sys2Proof.Machine
open Sys2Proof

/-! ## What leaves the locks alone -/

/-- Whether the timebase has started, and of each die whether its TBPLL is locked and its TB_SKEW valid. -/
def State.locks (s : State) : Bool × (Nat → Bool × Bool) := (s.tb.started, fun d => ((s.die d).tbLock, (s.die d).skewValid))

theorem State.locks_of_offLoops {s t : State} (h : t.offLoops = s.offLoops) : t.locks = s.locks := by
  have hkeep (x : State) : x.offLoops.locks = x.locks := rfl
  rw [← hkeep t, h, hkeep]

@[simp] theorem ite_locks (c : Prop) [Decidable c] (a b : State) : (if c then a else b).locks = if c then a.locks else b.locks := by split <;> rfl
@[simp] theorem State.forEach_locks (s : State) (ns : List Nat) (f : State → Nat → State) (h : ∀ t n, (f t n).locks = t.locks) :
    (s.forEach ns f).locks = s.locks := State.forEach_keep State.locks f h ns s
@[simp] theorem foldl_locks {α : Type} (s : State) (l : List α) (f : State → α → State) (h : ∀ t n, (f t n).locks = t.locks) :
    (l.foldl f s).locks = s.locks := by
  induction l generalizing s with
  | nil => rfl
  | cons n ns ih => rw [List.foldl_cons, ih, h]

@[simp] theorem State.modChan_locks (s : State) (n : Nat) (f : TdcChan → TdcChan) : (s.modChan n f).locks = s.locks := rfl

@[simp] theorem State.setCrossing_locks (s : State) (n : Nat) (c : Crossing) : (s.setCrossing n c).locks = s.locks := rfl

@[simp] theorem State.modHost_locks (s : State) (f : HostSide → HostSide) : (s.modHost f).locks = s.locks := rfl

@[simp] theorem State.modMbx_locks (s : State) (n : Nat) (f : Mbx → Mbx) : (s.modMbx n f).locks = s.locks := rfl
@[simp] theorem State.modRing_locks (s : State) (n : Nat) (f : Ring → Ring) : (s.modRing n f).locks = s.locks := rfl
@[simp] theorem State.modBelay_locks (s : State) (f : Belay → Belay) : (s.modBelay f).locks = s.locks := rfl

theorem State.withTds_locks (s : State) (l : Tbl TdUnit) : ({ s with tds := l } : State).locks = s.locks := rfl

/-- A change of a die that leaves its locks. -/
theorem State.modDie_locks (s : State) (d : Nat) (f : Die → Die) (h : ∀ u, (f u).tbLock = u.tbLock ∧ (f u).skewValid = u.skewValid) :
    (s.modDie d f).locks = s.locks := by
  unfold State.locks
  refine congrArg (Prod.mk _) (funext fun j => ?_)
  rw [State.modDie_die]
  split
  next hj => rw [hj, (h _).1, (h _).2]
  next => rfl

@[simp] theorem State.modLink_locks (s : State) (d l : Nat) (f : LinkPort → LinkPort) : (s.modLink d l f).locks = s.locks :=
  s.modDie_locks d _ fun _ => ⟨rfl, rfl⟩

@[simp] theorem State.startFills_locks (s : State) (a1 : ℕ) : (s.startFills a1).locks = s.locks := by
  unfold State.startFills
  split
  · dsimp only
    rw [State.forEach_locks _ _ _ fun t n => t.modChan_locks n _]
    split
    · exact s.modDie_locks _ _ fun _ => ⟨rfl, rfl⟩
    · rfl
  · rfl

@[simp] theorem State.trainStart_locks (s : State) (a1 : ℕ) (a2 : ℕ) : (s.trainStart a1 a2).locks = s.locks := by
  unfold State.trainStart
  split <;> simp

@[simp] theorem State.trainAll_locks (s : State) : (s.trainAll).locks = s.locks := by
  unfold State.trainAll
  simp

@[simp] theorem State.predictorsOff_locks (s : State) (a1 : ℕ) : (s.predictorsOff a1).locks = s.locks := by
  unfold State.predictorsOff
  simp

@[simp] theorem State.clockPort_locks (s : State) (a1 : ℕ) (a2 : ℕ) : (s.clockPort a1 a2).locks = s.locks := by
  unfold State.clockPort
  split <;> simp

@[simp] theorem State.refreshAuth_locks (s : State) : (s.refreshAuth).locks = s.locks := by
  unfold State.refreshAuth
  simp

@[simp] theorem State.endSession_locks (s : State) (a1 : ℕ) : (s.endSession a1).locks = s.locks := by
  unfold State.endSession
  simp

@[simp] theorem State.semFree_locks (s : State) : (s.semFree).locks = s.locks := by
  unfold State.semFree
  simp

@[simp] theorem State.admitOne_locks (s : State) : (s.admitOne).locks = s.locks := by
  unfold State.admitOne
  dsimp only
  repeat' split
  all_goals simp [State.modDie_locks]

@[simp] theorem State.admitAll_locks (s : State) : (s.admitAll).locks = s.locks := by
  unfold State.admitAll
  simp

@[simp] theorem State.ringOff_locks (s : State) (a1 : ℕ) (a2 : Bool) (a3 : Bool) : (s.ringOff a1 a2 a3).locks = s.locks := by
  unfold State.ringOff
  simp

@[simp] theorem State.ringsOff_locks (s : State) (a1 : Bool) : (s.ringsOff a1).locks = s.locks := by
  unfold State.ringsOff
  simp

@[simp] theorem State.belayBegin_locks (s : State) (a1 : Bool) : (s.belayBegin a1).locks = s.locks := by
  unfold State.belayBegin
  dsimp only
  rw [State.modBelay_locks]
  refine (State.forEach_locks _ _ _ fun t n => ?_).trans ?_
  · split
    · rfl
    · exact State.locks_of_offLoops (t.stopOut_offLoops n true)
  rw [State.withTds_locks]
  simp

@[simp] theorem State.belayAgain_locks (s : State) : (s.belayAgain).locks = s.locks := by
  unfold State.belayAgain
  simp

@[simp] theorem State.resumeTds_locks (s : State) (a1 : ℕ) : (s.resumeTds a1).locks = s.locks := by
  unfold State.resumeTds
  dsimp only
  rw [State.modBelay_locks]
  exact State.forEach_locks _ _ _ fun _ _ => rfl

theorem guarded_locks {s : State} {r : Reply} (h : r.s.locks = s.locks) (l : List (Bool × Nat)) : (guarded s l r).s.locks = s.locks := by
  unfold guarded
  split
  · rfl
  · exact h

/-! ## The profile that a ROM applies at the lock (R397) -/

theorem State.profileEntry_locks {s : State} {r : Reply} {f : State → State} (hr : r.s.locks = s.locks) (hf : ∀ z, (f z).locks = z.locks) :
    (s.profileEntry r f).locks = s.locks := by
  unfold State.profileEntry
  split
  · rw [hf, hr]
  · rfl

theorem State.applyProfile_locks (s : State) (d : Nat) : (s.applyProfile d).locks = s.locks := by
  unfold State.applyProfile
  dsimp only
  split
  · rfl
  · split
    · rfl
    · rw [State.modDie_locks, foldl_locks, foldl_locks, State.modDie_locks]
      · rfl
      · exact fun _ => ⟨rfl, rfl⟩
      · exact fun t e => State.profileEntry_locks (guarded_locks (by rfl) _) fun z => State.locks_of_offLoops (State.offLoops_of (z.writeOpllCtrl_offOutputs _ _))
      · exact fun t e => State.profileEntry_locks (guarded_locks (State.locks_of_offLoops (by simp)) _) fun z =>
          State.locks_of_offLoops (z.writeOutCtrl_offLoops _ _ _)
      · exact fun _ => ⟨rfl, rfl⟩

theorem State.tbLocked_locks (s : State) (d : Nat) : (s.tbLocked d).locks = (s.tbLockDie d).locks := by
  unfold State.tbLocked
  dsimp only
  split
  · exact State.applyProfile_locks _ d
  · rfl

theorem Die.count_locks (u : Die) (k : Nat) : (u.count k).tbLock = u.tbLock ∧ (u.count k).skewValid = u.skewValid := by
  unfold Die.count
  split <;> exact ⟨rfl, rfl⟩

theorem State.tbpllLock_locks (s : State) (d : Nat) : (s.tbpllLock d).locks = (s.tbLockDie d).locks := by
  unfold State.tbpllLock
  dsimp only
  split
  · rw [State.belayAgain_locks, State.resumeTds_locks, State.modBelay_locks, State.modDie_locks _ _ _ fun u => u.count_locks _]
    exact s.tbLocked_locks d
  · exact s.tbLocked_locks d

/-! ## The lock of one die (R34, R35) -/

/-- The clock source of die `d` is locked: the master oscillator's die, the clock parent, or the grid parent before there is one (R35). -/
def State.SourceLocked (s : State) (d : Nat) : Prop :=
  d = 0 ∨ (∃ l x, s.parentPort d = some l ∧ s.neighbour d l = some x ∧ (s.die x).tbLock = true) ∨
    (s.parentPort d = none ∧ (s.die (gridParent d)).tbLock = true)

/-- The die as its lock makes it; at die 0 the timebase has started. -/
def State.dieLocks (s : State) (d : Nat) : State :=
  let s1 := s.modDie d fun u => { u with tbLock := true, aonRc := false, skewValid := if d = 0 then true else u.skewValid }
  if d = 0 then ({ s1 with tb := { s1.tb with started := true } } : State).modDie 0 fun u => { u with mclkOk := true } else s1

theorem State.dieLocks_outcome (s : State) (d : Nat) :
    ((s.dieLocks d).die d).tbLock = true ∧ (d = 0 → ((s.dieLocks d).die 0).skewValid = true ∧ (s.dieLocks d).tb.started = true) := by
  unfold State.dieLocks
  by_cases h0 : d = 0
  · subst h0
    dsimp only
    rw [if_pos rfl, State.modDie_die, if_pos rfl]
    have hdie (x : State) (t : Timebase) : ({ x with tb := t } : State).die 0 = x.die 0 := rfl
    rw [hdie, State.modDie_die, if_pos rfl]
    exact ⟨rfl, fun _ => ⟨rfl, rfl⟩⟩
  · dsimp only
    rw [if_neg h0, State.modDie_die, if_pos rfl]
    exact ⟨rfl, fun h => absurd h h0⟩

theorem State.tbLockDie_locks {s : State} {d : Nat} (hd : s.fitted d = true) (hen : s.tb.tbEn = true) (hsrc : s.SourceLocked d) :
    ∃ s0 : State, (s.tbLockDie d).locks = (s0.dieLocks d).locks := by
  have heq : s.tbLockDie d = (((((if (s.die d).cutOff then s.exchAnew d else s).dieLocks d).forEach (List.range 4)
      fun t l => t.clockPort d l).predictorsOff d).trainAll).startFills d := by
    refine if_pos ?_
    rw [hen, hd]
    obtain h0 | ⟨l, x, hp, hx, hl⟩ | ⟨hp, hl⟩ := hsrc
    · simp [h0]
    · simp [hp, hx, hl]
    · simp [hp, hl]
  refine ⟨if (s.die d).cutOff then s.exchAnew d else s, ?_⟩
  rw [heq, State.startFills_locks, State.trainAll_locks, State.predictorsOff_locks, State.forEach_locks _ _ _ fun t l => t.clockPort_locks d l]

theorem State.tbpllLock_outcome {s : State} {d : Nat} (hd : s.fitted d = true) (hen : s.tb.tbEn = true) (hsrc : s.SourceLocked d) :
    ((s.tbpllLock d).die d).tbLock = true ∧ (d = 0 → ((s.tbpllLock d).die 0).skewValid = true ∧ (s.tbpllLock d).tb.started = true) := by
  obtain ⟨s0, hlocks⟩ := State.tbLockDie_locks hd hen hsrc
  obtain ⟨hstarted, hdies⟩ := Prod.mk.inj ((s.tbpllLock_locks d).trans hlocks)
  obtain ⟨hlock, hzero⟩ := s0.dieLocks_outcome d
  obtain ⟨hd, -⟩ := Prod.mk.inj (congrFun hdies d)
  obtain ⟨-, h0⟩ := Prod.mk.inj (congrFun hdies 0)
  exact ⟨hd.trans hlock, fun h => ⟨h0.trans (hzero h).1, hstarted.trans (hzero h).2⟩⟩

/-! ## The end of a restart (R45) -/

/-- A loop that changes every DPLL by `g` changes each DPLL of its list once. -/
theorem State.forEach_modDpll (g : DpllUnit → DpllUnit) (ns : List Nat) (hnd : ns.Nodup) (s : State) (k : Nat) :
    (s.forEach ns fun t n => t.modDpll n g).dpll k = if k ∈ ns then g (s.dpll k) else s.dpll k := by
  induction ns generalizing s with
  | nil => rfl
  | cons n ns ih =>
    obtain ⟨hn, hns⟩ := List.nodup_cons.mp hnd
    have hstep : s.forEach (n :: ns) (fun t n => t.modDpll n g) = (s.modDpll n g).forEach ns fun t n => t.modDpll n g := rfl
    rw [hstep, ih hns, State.modDpll_dpll]
    by_cases h : k = n
    · subst h
      simp [hn]
    · simp [h]

theorem State.mem_all_eight {s : State} {k : Nat} (h : s.hasDpll k = true) : k ∈ s.all 8 := by
  have hd : k / 8 < s.nDies := of_decide_eq_true h
  exact List.mem_range.mpr (by omega)

/-- The gate of a DPLL that follows begins anew at boundary `k`, the gates that have passed stay (R164). -/
def DpllUnit.regate (u : DpllUnit) (k : Nat) : DpllUnit :=
  if u.state = .acquiring ∨ u.state = .locked then
    { u with gate := { running := true, startK := k, start := none, bad := false, passed := u.gate.passed } } else u

/-- RESTART clears; a capture that waits for it counts from here (R45, R543). -/
def State.restartOver (s : State) : State :=
  { s with tb := { s.tb with restart := false },
           belay := if s.belay.phase = 1 ∧ s.belay.entryK = none then { s.belay with trigK := s.tb.k } else s.belay }

/-- Each calibrating core starts a new histogram (R116). -/
def State.histogramsAnew (s : State) : State :=
  s.forEach (s.all 48) fun t n => t.modChan n fun u =>
    if (t.die (dieOfChan n)).bgFrozen || !u.cal.measures then u else u.begun (t.bgHits (dieOfChan n))

/-- The gates of every DPLL begin anew at boundary `k`. -/
def State.gatesAnew (s : State) (k : Nat) : State := s.forEach (s.all 8) fun t n => t.modDpll n fun u => u.regate k

theorem State.restartEnd_eq {s : State} (hres : s.tb.restart = true) (hlock : (s.die 0).tbLock = true)
    (hlinks : ∀ d l, s.fitted d = true → l < 4 → (s.link d l).state = .up → 32 ≤ (s.link d l).exchCnt) :
    s.restartEnd = s.restartOver.histogramsAnew.gatesAnew s.tb.k := by
  refine if_pos ?_
  rw [hres, hlock, Bool.and_true, Bool.true_and, List.all_eq_true]
  intro i hi
  have hfit : s.fitted (i / 4) = true := decide_eq_true (by have := List.mem_range.mp hi; omega)
  have hlink := hlinks (i / 4) (i % 4) hfit (Nat.mod_lt _ (by decide))
  by_cases hup : (s.link (i / 4) (i % 4)).state = .up
  · simp [hlink hup]
  · simp [hup]

theorem State.restartEnd_outcome {s : State} (hres : s.tb.restart = true) (hlock : (s.die 0).tbLock = true)
    (hlinks : ∀ d l, s.fitted d = true → l < 4 → (s.link d l).state = .up → 32 ≤ (s.link d l).exchCnt) :
    s.restartEnd.tb = { s.tb with restart := false } ∧ ∀ k, s.hasDpll k = true → s.restartEnd.dpll k = (s.dpll k).regate s.tb.k := by
  rw [State.restartEnd_eq hres hlock hlinks]
  have hchans : s.restartOver.histogramsAnew.tb = s.restartOver.tb ∧ s.restartOver.histogramsAnew.dplls = s.restartOver.dplls ∧
      s.restartOver.histogramsAnew.part = s.restartOver.part := by
    have hkeep := State.forEach_keep (fun t => (t.tb, t.dplls, t.part)) (fun t n => t.modChan n fun u =>
      if (t.die (dieOfChan n)).bgFrozen || !u.cal.measures then u else u.begun (t.bgHits (dieOfChan n))) (fun _ _ => rfl)
      (s.restartOver.all 48) s.restartOver
    obtain ⟨htb, hrest⟩ := Prod.mk.inj hkeep
    obtain ⟨hdplls, hpart⟩ := Prod.mk.inj hrest
    exact ⟨htb, hdplls, hpart⟩
  obtain ⟨htb, hdplls, hpart⟩ := hchans
  generalize s.restartOver.histogramsAnew = t at htb hdplls hpart ⊢
  have hgates : (t.gatesAnew s.tb.k).tb = t.tb := State.forEach_tb _ _ _ fun x n => x.modDpll_tb n _
  refine ⟨hgates.trans (htb.trans rfl), fun k hk => ?_⟩
  have hdpll : t.dpll k = s.dpll k := by
    unfold State.dpll
    rw [hdplls]
    rfl
  have hmem : k ∈ t.all 8 := by
    have hall : t.all 8 = s.all 8 := by
      unfold State.all State.nDies
      rw [hpart]
      rfl
    exact hall ▸ State.mem_all_eight hk
  unfold State.gatesAnew
  rw [State.forEach_modDpll _ (t.all 8) List.nodup_range, if_pos hmem, hdpll]

/-- Settles O27: the lock stands through the profile and the exit from belay; the restart's end begins the gates anew; a port's start and
return are the row's own operation. -/
theorem timebaseEventsComplete : Obligations.TimebaseEventsComplete := by
  unfold Obligations.TimebaseEventsComplete
  intro s
  refine ⟨fun d hd hen hsrc => ?_, fun hres hlock hlinks => ?_, fun o ho hst => ?_, fun o ho hact => ?_⟩
  · obtain ⟨hlock, hzero⟩ := State.tbpllLock_outcome hd hen hsrc
    refine ⟨_, rfl, ?_, fun h0 => ?_⟩
    · rw [State.after_die_same, hlock]
    · rw [State.after_die_same, State.after_tb]
      exact hzero h0
  · obtain ⟨htb, hdplls⟩ := State.restartEnd_outcome hres hlock hlinks
    refine ⟨_, rfl, by rw [State.after_tb, htb], fun k hk hst => ?_⟩
    rw [State.after_dpll_same, hdplls k hk]
    unfold DpllUnit.regate
    rw [if_pos (Or.inr hst)]
    exact ⟨hst, rfl, rfl, rfl⟩
  · have hguard : (s.hasOsc o && !(s.osc o).started) = true := by rw [ho, hst]; rfl
    exact ⟨fun hno => congrArg fin ((if_pos hguard).trans (if_neg hno)), fun hm => congrArg fin ((if_pos hguard).trans (if_pos hm))⟩
  · have hguard : (s.hasOsc o && !(s.osc o).active) = true := by rw [ho, hact]; rfl
    exact ⟨fun hno => congrArg fin ((if_pos hguard).trans (if_neg hno)), fun hm => congrArg fin ((if_pos hguard).trans (if_pos hm))⟩

end Sys2Proof.Machine
end

section
/-! SUPPORT. The PCIe link and the DMA engine (R56, R58, R482 to R488). -/

namespace Sys2Proof.Machine
open Sys2Proof

/-! ## Admission of the records at the intake (R56, R484) -/

/-- What the host controls at the PCIe port. -/
def HostSide.control (h : HostSide) : Bool × Bool × Bool × Bool := (h.linkUp, h.bme, h.msix, h.funcMask)

/-- The rings that are enabled. -/
def State.ringsOn (s : State) : Nat → Bool := fun i => (s.ring i).enable

/-- The view of the PCIe side that the admission of records leaves. -/
def State.pcieView (s : State) : Timebase × (Bool × Bool × Bool × Bool) × (Nat → Bool) := (s.tb, s.host.control, s.ringsOn)

theorem State.modRing_ring (s : State) (n j : Nat) (g : Ring → Ring) :
    (s.modRing n g).ring j = if j = n then g (s.ring n) else s.ring j := by
  simp only [State.modRing, State.ring, tget_tset]

theorem State.modRing_ringsOn {s : State} {i : Nat} {f : Ring → Ring} (h : (f (s.ring i)).enable = (s.ring i).enable) :
    (s.modRing i f).ringsOn = s.ringsOn := by
  funext j
  unfold State.ringsOn
  rw [State.modRing_ring]
  split
  next hj => rw [h, hj]
  next => rfl

theorem State.modRing_pcieView {s : State} {i : Nat} {f : Ring → Ring} (h : (f (s.ring i)).enable = (s.ring i).enable) :
    (s.modRing i f).pcieView = s.pcieView := by
  unfold State.pcieView
  rw [State.modRing_ringsOn h]
  rfl

theorem State.admitOne_pcieView (s : State) : s.admitOne.pcieView = s.pcieView := by
  unfold State.admitOne
  dsimp only
  repeat' split
  · rfl
  · rfl
  · exact (State.modRing_pcieView rfl).trans rfl
  · rfl

theorem State.admitAll_pcieView (s : State) : s.admitAll.pcieView = s.pcieView :=
  State.forEach_keep State.pcieView (fun t _ => t.admitOne) (fun t _ => t.admitOne_pcieView) _ _

theorem State.admitAll_mts (s : State) : s.admitAll.mts = s.mts := by
  obtain ⟨htb, -⟩ := Prod.mk.inj s.admitAll_pcieView
  unfold State.mts
  rw [htb]

/-! ## Disabling (R488, R498) -/

theorem State.ringOff_outcome (s : State) (i : Nat) (abort block : Bool) :
    (s.ringOff i abort block).host.control = s.host.control ∧ (s.ringOff i abort block).ringsOn = fun j => if j = i then false else s.ringsOn j := by
  unfold State.ringOff
  split
  next hoff =>
    refine ⟨rfl, funext fun j => ?_⟩
    split
    next h => rw [h]; exact (Bool.not_eq_true' _).mp hoff
    next => rfl
  next =>
    obtain ⟨-, hrest⟩ := Prod.mk.inj s.admitAll_pcieView
    obtain ⟨hcontrol, hon⟩ := Prod.mk.inj hrest
    refine ⟨hcontrol, funext fun j => ?_⟩
    rw [← congrFun hon j]
    unfold State.ringsOn
    dsimp only
    rw [State.modRing_ring]
    split <;> rfl

theorem State.ringsOff_outcome (s : State) (block : Bool) :
    (s.ringsOff block).host.control = s.host.control ∧ ∀ i, i < 16 → ((s.ringsOff block).ring i).enable = false := by
  have hloop (ns : List Nat) (t : State) : (t.forEach ns fun x i => x.ringOff i false block).host.control = t.host.control ∧
      ∀ j, (t.forEach ns fun x i => x.ringOff i false block).ringsOn j = if j ∈ ns then false else t.ringsOn j := by
    induction ns generalizing t with
    | nil => exact ⟨rfl, fun _ => rfl⟩
    | cons n ns ih =>
      obtain ⟨hcontrol, hon⟩ := t.ringOff_outcome n false block
      obtain ⟨hcontrol', hon'⟩ := ih (t.ringOff n false block)
      refine ⟨hcontrol'.trans hcontrol, fun j => (hon' j).trans ?_⟩
      rw [hon]
      by_cases h : j = n <;> simp [h]
  obtain ⟨hcontrol, hon⟩ := hloop (List.range 16) s
  exact ⟨hcontrol, fun i hi => (hon i).trans (if_pos (List.mem_range.mpr hi))⟩

theorem State.routesReset_keeps (s : State) : s.routesReset.host.control = s.host.control ∧ s.routesReset.ringsOn = s.ringsOn := by
  have hkeep := State.forEach_keep (fun t => (t.host.control, t.ringsOn))
    (fun x n => x.modHost fun h => { h with route := tset 0x100 h.route n (tget 0x100 h.route n &&& 0x300) }) (fun _ _ => rfl) (List.range 128) s
  exact Prod.mk.inj hkeep

/-- The rings at their reset configuration keep whether they are enabled. -/
theorem State.unconfig_keeps (s : State) (ns : List Nat) : (s.forEach ns fun x i => x.modRing i Ring.unconfig).host.control = s.host.control ∧
    (s.forEach ns fun x i => x.modRing i Ring.unconfig).ringsOn = s.ringsOn := by
  have hkeep := State.forEach_keep (fun t => (t.host.control, t.ringsOn)) (fun x i => x.modRing i Ring.unconfig)
    (fun t i => Prod.ext rfl (State.modRing_ringsOn rfl)) ns s
  exact Prod.mk.inj hkeep

theorem State.modHost_ringsOn {s : State} {f : HostSide → HostSide} (h : ∀ x, (f x).rings = x.rings) : (s.modHost f).ringsOn = s.ringsOn := by
  have hring (t : State) : t.ringsOn = fun i => (tget {} t.host.rings i).enable := rfl
  rw [hring, hring]
  exact congrArg (fun l => fun i => (tget {} l i).enable) (h s.host)

/-- The rings as the loss of the link leaves them: disabled, at their reset configuration and without vectors. -/
def State.ringsReset (s : State) : State :=
  ((s.ringsOff false).forEach (List.range 16) fun x i => x.modRing i Ring.unconfig).routesReset

theorem State.ringsReset_outcome (s : State) :
    s.ringsReset.host.control = s.host.control ∧ ∀ i, i < 16 → s.ringsReset.ringsOn i = false := by
  obtain ⟨hcontrol, hoff⟩ := s.ringsOff_outcome false
  obtain ⟨hcontrol', hon'⟩ := (s.ringsOff false).unconfig_keeps (List.range 16)
  unfold State.ringsReset
  generalize State.forEach _ _ _ = t at hcontrol' hon' ⊢
  obtain ⟨hcontrol'', hon''⟩ := t.routesReset_keeps
  refine ⟨hcontrol''.trans (hcontrol'.trans hcontrol), fun i hi => ?_⟩
  rw [hon'', hon']
  exact hoff i hi

/-- The link's loss disables the rings and takes the host's controls with it (R488). -/
theorem State.linkLoss_outcome (s : State) {k : Nat} (hk : k ≤ 3) :
    (s.linkLoss k).host.linkUp = (s.host.linkUp && decide (2 ≤ k)) ∧ (s.linkLoss k).host.bme = false ∧
      (s.linkLoss k).host.msix = (s.host.msix && decide (k = 3)) ∧ ∀ i, i < 16 → (s.linkLoss k).ringsOn i = false := by
  unfold State.linkLoss
  split
  next h3 =>
    subst h3
    obtain ⟨hcontrol, hon⟩ := s.ringsOff_outcome true
    generalize s.ringsOff true = t at hcontrol hon ⊢
    obtain ⟨hlink, hrest⟩ := Prod.mk.inj hcontrol
    obtain ⟨-, hrest⟩ := Prod.mk.inj hrest
    obtain ⟨hmsix, -⟩ := Prod.mk.inj hrest
    refine ⟨hlink.trans (Bool.and_true _).symm, rfl, hmsix.trans (Bool.and_true _).symm, fun i hi => ?_⟩
    exact (congrFun (State.modHost_ringsOn fun _ => rfl) i).trans (hon i hi)
  next h3 =>
    obtain ⟨hcontrol, hon⟩ := s.ringsReset_outcome
    unfold State.ringsReset at hcontrol hon
    rw [if_pos (by omega)]
    dsimp only
    generalize State.routesReset _ = t at hcontrol hon ⊢
    obtain ⟨hlink, -⟩ := Prod.mk.inj hcontrol
    have h2 : decide (k = 2) = decide (2 ≤ k) := decide_eq_decide.mpr (by omega)
    refine ⟨(congrArg (· && decide (k = 2)) hlink).trans (by rw [h2]), rfl, by rw [decide_eq_false h3, Bool.and_false]; rfl, fun i hi => ?_⟩
    exact (congrFun (State.modHost_ringsOn fun _ => rfl) i).trans (hon i hi)

/-! ## A write of the host's controls (R482) -/

theorem HostSide.unmask_quiet (h : HostSide) : h.unmask.quiet = h.quiet := by
  unfold HostSide.unmask
  generalize List.range 32 = l
  induction l generalizing h with
  | nil => rfl
  | cons v l ih =>
    rw [List.foldl_cons, ih]
    split
    · exact (HostSide.sendVec_quiet _ _).trans rfl
    · rfl

theorem State.pcieControl_outcome (s : State) (bme msix mask : Bool) :
    (s.pcieControl bme msix mask).host.quiet = ({ s.host with bme := bme, msix := msix, funcMask := mask } : HostSide).quiet := by
  unfold State.pcieControl State.modHost
  dsimp only
  split
  · exact (HostSide.unmask_quiet _).trans rfl
  · rfl

/-- Bus Master Enable at 0 disables the rings (R488). -/
theorem State.pcieConfig_outcome {s : State} (hx : s.part.featX = true) (hup : s.host.linkUp = true) (bme msix mask : Bool) :
    (s.pcieConfig bme msix mask).host.bme = bme ∧ (s.pcieConfig bme msix mask).host.msix = msix ∧
      (s.pcieConfig bme msix mask).host.funcMask = mask ∧
      (bme = false → ∀ i, i < 16 → ((s.pcieConfig bme msix mask).ring i).enable = false) := by
  unfold State.pcieConfig
  rw [if_pos (by rw [hx, hup]; rfl)]
  have hoff : bme = false → ∀ i, i < 16 → ((if bme then s else s.ringsOff true).ring i).enable = false := by
    rintro rfl
    exact (s.ringsOff_outcome true).2
  generalize (if bme then s else s.ringsOff true) = t at hoff ⊢
  have hquiet := t.pcieControl_outcome bme msix mask
  generalize t.pcieControl bme msix mask = v at hquiet ⊢
  have hrings : v.host.rings = t.host.rings := by rw [← HostSide.quiet_rings, hquiet, HostSide.quiet_rings]
  refine ⟨?_, ?_, ?_, fun h i hi => ?_⟩
  · rw [← HostSide.quiet_bme, hquiet, HostSide.quiet_bme]
  · rw [← HostSide.quiet_msix, hquiet, HostSide.quiet_msix]
  · rw [← HostSide.quiet_funcMask, hquiet, HostSide.quiet_funcMask]
  · unfold State.ring
    rw [hrings]
    exact hoff h i hi

/-! ## Records and write-backs (R484, R487) -/

theorem State.recordWrite_turn {s : State} {r : Nat} {x : BitVec 128} {xs : List (BitVec 128)} (hturn : s.admitAll.ringTurn = some r)
    (hq : (s.admitAll.ring r).q = x :: xs) :
    s.recordWrite r = ((s.admitAll.modRing r fun q => ({ q with q := xs } : Ring).take x s.mts).modHost fun h => { h with
      wrrRing := r, wrrLeft := (if r = h.wrrRing ∧ 0 < h.wrrLeft then h.wrrLeft else (s.admitAll.ring r).weight) - 1 }) := by
  unfold State.recordWrite
  dsimp only
  rw [if_pos hturn, hq, State.admitAll_mts]
  rfl

theorem State.wakeUnit_ring (s : State) (d u r : Nat) : (s.wakeUnit d u).ring r = s.ring r := by
  unfold State.wakeUnit
  split <;> rfl

/-- The expiry writes the block of an enabled ring that has entries to report (R487). -/
theorem State.wbTimer_ring {s : State} {r : Nat} (hen : (s.ring r).enable = true) (hn : 0 < (s.ring r).unreported) :
    (s.wbTimer r).ring r = (s.ring r).writeBack s.mts := by
  unfold State.wbTimer
  dsimp only
  rw [if_pos (by rw [hen, decide_eq_true hn]; rfl), State.modRing_ring, if_pos rfl, State.wakeUnit_ring]

/-- Settles O32: each event is the operation of its row; the admission of the records at the intake leaves the host's controls and the
rings that are enabled. -/
theorem pcieAndDmaEventsComplete : Obligations.PcieAndDmaEventsComplete := by
  unfold Obligations.PcieAndDmaEventsComplete
  intro s
  refine ⟨fun k hx hk => ?_, fun hx => congrArg fin (if_pos hx), fun bme msix mask hx hup => ?_,
    fun r x xs hturn hq => congrArg fin (State.recordWrite_turn hturn hq), fun r hturn => congrArg fin (if_neg hturn), fun r hen hn => ?_⟩
  · obtain ⟨hup, hbme, hmsix, hoff⟩ := s.linkLoss_outcome hk
    have hexec : exec (.pcieLinkLoss k) s = fin (s.linkLoss k) := congrArg fin (if_pos hx)
    refine ⟨_, hexec, ?_, fun i hi => ?_, ?_, ?_⟩
    · rw [State.after_host_bme, hbme]
    · rw [State.after_ring]
      exact hoff i hi
    · rw [State.after_host_linkUp, hup]
    · rw [State.after_host_msix, hmsix]
  · obtain ⟨hb, hm, hf, hoff⟩ := State.pcieConfig_outcome hx hup bme msix mask
    refine ⟨_, rfl, ?_, ?_, ?_, fun h i hi => ?_⟩
    · rw [State.after_host_bme, hb]
    · rw [State.after_host_msix, hm]
    · rw [State.after_host_funcMask, hf]
    · rw [State.after_ring, hoff h i hi]
  · refine ⟨_, rfl, ?_⟩
    rw [State.after_ring, State.wbTimer_ring hen hn]
    exact ⟨rfl, rfl, bit_setb_same _ (by decide), rfl⟩

end Sys2Proof.Machine
end

section
/-! SUPPORT. The marks that the events leave (R43, R60, R194, R216, R222, R406, R505, R516). -/

namespace Sys2Proof.Machine
open Sys2Proof

/-! ## The DPLLs (R155, R194) -/

/-- A switch that executes is no longer pending, whatever becomes of it. -/
theorem State.switchNow_pend (s : State) (n k : Nat) : (s.switchNow n k).sel.pend = none := by
  unfold State.switchNow
  dsimp only
  split
  next h => exact h
  next q _ =>
    generalize (if q.hook = true then q.verdict else 1) = ver
    generalize (if (decide (ver = 3) && List.any _ _) = true then q.input else q.want) = t
    generalize (if (decide (ver = 3) && List.any _ _) = true then 5 else q.reason) = reason
    repeat' split
    · rfl
    · rfl
    · exact DpllUnit.noCandidate_pend _ k
    · exact DpllUnit.noCandidate_pend _ k
    · rfl
    · rfl
    · exact (State.takeInput_outcome _ n t reason k).2.1

theorem State.switch_pend {s : State} {n : Nat} {p : PendSwitch} (hn : s.hasDpll n = true) (hrun : s.running = true)
    (hp : (s.dpll n).sel.pend = some p) (hk : p.atK ≤ s.tb.k) :
    ∃ t, exec (.switchExecute n) s = .next t ∧ (t.dpll n).sel.pend = none := by
  obtain ⟨t, ho, st, sp, pl, h, c, ht, htd⟩ := State.exec_switchExecute hn hrun hp hk
  refine ⟨t, ht, ?_⟩
  rw [htd]
  exact State.switchNow_pend _ n _

/-- The end of a gate of a DPLL that follows begins the next. -/
theorem DpllUnit.gateEnd_startK {u : DpllUnit} (hrun : u.gate.running = true) (hst : u.state = .acquiring ∨ u.state = .locked) (k : Nat) (f : Rat)
    (δ : Option Rat) : (u.gateEnd k f δ).gate.startK = k := by
  unfold DpllUnit.gateEnd
  rw [if_neg (by rcases hst with hst | hst <;> simp [hrun, hst])]
  dsimp only
  repeat' split
  all_goals rfl

/-! ## The models (R225, R237) -/

theorem State.restoreVerify_leaves {s : State} {o : Nat} (hst : (s.model o).state = .restored) (hn : s.cairn.restoreVerifyS ≤ (s.model o).verN) :
    ((s.restoreVerify o).model o).state ≠ .restored := by
  cases hv : (s.model o).verified s.cairn.kRej with
  | true =>
    rw [State.restoreVerify_passed hst hn hv, State.setModel_model, if_pos rfl]
    exact (by decide : ModelSt.qualified ≠ .restored)
  | false =>
    rw [(State.restoreVerify_failed hst hn hv).1]
    decide

theorem State.saveModel_unsaved (s : State) (o : Nat) (chan : Option Nat) : ((s.saveModel o chan).model o).unsaved = false := by
  unfold State.saveModel
  rw [State.modModel_model, if_pos rfl]

/-! ## The stores (R477, R502, R505) -/

theorem NvDie.undone_rejCnt (n : NvDie) : n.undone.rejCnt = n.rejCnt := by
  unfold NvDie.undone
  split <;> rfl

theorem State.finish_xs (s : State) (c ret : Nat) (b : List Byte) : (s.finish c ret b).xs = s.xs := by
  unfold State.finish
  split
  · split
    next m _ _ =>
      obtain ⟨h, e⟩ := (s.modMbx c fun x => { x with msg := none }).respond_eq c ret m.op m.seq b
      rw [e]
      rfl
    · rfl
  · rfl

/-- The answer to the command that a job serves leaves the stores. -/
theorem State.jobAnswer_dx (s : State) (d : Nat) (chan : Option Nat) (ret j : Nat) : (s.jobAnswer d chan ret).dx j = s.dx j := by
  have hxs : (s.jobAnswer d chan ret).xs = s.xs := by
    unfold State.jobAnswer
    split
    · rfl
    · split
      · rfl
      · split
        · rfl
        · dsimp only
          generalize (if _ = 0 then ret else _) = code
          split
          · rfl
          · exact State.finish_xs _ _ _ _
  unfold State.dx
  rw [hxs]

/-- A page write at a supply level that is too low is rejected (R505). -/
theorem State.nvPage_rejected {s : State} {d : Nat} {j : NvJob} {js : List NvJob} {aon chold : Nat} (hd : s.fitted d = true)
    (hq : (s.dx d).nv.queue = j :: js) (hbelay : s.belay.phase ≠ 2) (hrom : j.ofRom = false) (hlow : (aonOk aon && choldOk chold) = false) (good : Nat) :
    ((s.nvPage d aon chold good).dx d).nv.rejCnt = satInc (s.dx d).nv.rejCnt := by
  have hpower : s.nvPowered d = true := by simp [State.nvPowered, hd, hbelay]
  unfold State.nvPage
  dsimp only
  rw [hq]
  dsimp only
  rw [hpower, decide_eq_false hbelay, hlow, hrom]
  simp only [Bool.not_true, Bool.not_false, Bool.false_eq_true, if_false, if_true, Bool.false_and, Bool.or_false]
  unfold State.pageEnd
  rw [if_pos (by decide), State.jobAnswer_dx]
  unfold State.modNv
  rw [State.modDx_dx, if_pos rfl]
  exact NvDie.undone_rejCnt _

theorem State.marginScan_scanPage {s : State} {d page : Nat} (hd : s.fitted d = true) (hbelay : s.belay.phase ≠ 2) (hpage : page < 4032)
    (hq : (s.dx d).nv.queue = []) (weak : Bool) : ((s.marginScan d page weak).dx d).age.scanPage = page := by
  have hpower : s.nvPowered d = true := by simp [State.nvPowered, hd, hbelay]
  unfold State.marginScan
  dsimp only
  rw [if_pos (by simp [hpower, hpage, hq]), State.modDx_dx, if_pos rfl]

theorem State.planEval_evalAt {s : State} {d : Nat} (hd : s.fitted d = true) (hmode : (s.dx d).mode = 2) (hlead : s.leadLive = true)
    (hdue : (s.dx d).age.evalDue = true) (wear : Nat) : ((s.planEval d wear).dx d).age.evalAt = some (s.dx d).age.opMs := by
  unfold State.planEval
  dsimp only
  rw [if_neg (by simp [hd, hmode, hlead, hdue])]
  split
  · rw [State.modDx_dx, if_pos rfl]
  · unfold State.queueSave State.modNv
    simp only [State.modDx_dx, if_true]

/-- A word that was good before and is found bad is counted (R477). -/
theorem State.scrub_fresh {s : State} {d off : Nat} (hd : s.fitted d = true) (hpar : parWord d off = true) (hnew : (s.dx d).bad.contains off = false) :
    ((s.scrub d [off]).dx d).parCnt = satAdd (s.dx d).parCnt 1 ∧ ((s.scrub d [off]).dx d).bad.contains off = true := by
  have hfresh : ([off].filter fun o => parWord d o && !(s.dx d).bad.contains o).eraseDups = [off] := by
    simp only [List.filter_cons, hpar, hnew]
    rfl
  unfold State.scrub
  dsimp only
  rw [hfresh, if_neg (by simp [hd]), if_neg (by simp), State.modDx_dx, if_pos rfl]
  exact ⟨rfl, by simp⟩

/-- Settles O54: each mark is the outcome of the event's operation, taken in the branch that the conditions open. -/
theorem eventsLeaveTheirMark : Obligations.EventsLeaveTheirMark := by
  unfold Obligations.EventsLeaveTheirMark
  intro s n
  refine ⟨fun hn hen hres => ?dplls, fun ho => ?ports, ?aborts, fun hd => ?dies⟩
  case dplls =>
    have hset (v : DpllUnit) : (s.setDpll n v).after.dpll n = v := by rw [State.after_dpll_same, State.setDpll_dpll, if_pos rfl]
    refine ⟨fun h0 hk => ⟨_, State.exec_holdoffExpire hn h0 hk, by rw [hset]⟩, fun p hrun hp hk => State.switch_pend hn hrun hp hk,
      fun hrun hdue hst => ?_, fun hrole hs => ?_, fun hok htap hbad => ?_, ⟨_, State.exec_freerunWordRefresh hn hen, by rw [hset]⟩,
      fun hrole hst => ⟨_, State.exec_holdoverWordRefresh hn hen hrole hst, by rw [hset]; rfl⟩, fun hrole hk hacc => ?_⟩
    · obtain ⟨t, ht, htd⟩ := State.exec_lockGateEnd hn hen hrun hres hdue
      refine ⟨t, ht, ?_⟩
      rw [htd]
      exact DpllUnit.gateEnd_startK (u := { s.dpll n with rows := (s.dpll n).rowsEval }) hrun hst _ _ _
    · obtain ⟨-, -, hlost, -⟩ := State.openEntry_after (s := s) (n := n) (v := (s.dpll n).mirrorLoss s.tb.k)
      exact ⟨_, State.exec_mirrorLeaderLost hn hrole hen hres hs, hlost.trans (DpllUnit.mirrorLoss_outcome hen hrole hs s.tb.k).1⟩
    · obtain ⟨-, hfault, -, -⟩ := State.openEntry_after (s := s) (n := n) (v := (s.dpll n).fbFaultRise s.tb.k)
      exact ⟨_, State.exec_fbFaultTimeout hn hen hok hres htap hbad, hfault.trans (DpllUnit.fbFaultRise_outcome hen s.tb.k).1⟩
    · obtain ⟨t, ht, -, hN, hstart, -⟩ := State.exec_historySample hn hen hrole hk hacc
      obtain ⟨-, hN', hstart', -⟩ := DpllUnit.historySample_outcome hacc s.tb.k (s.osc (s.portOfDpll n)).meterOk
      exact ⟨t, ht, hN.trans hN', hstart.trans hstart'⟩
  case ports =>
    have hset (v : OscPort) : (s.setOsc n v).after.osc n = v := by rw [State.after_osc_same, State.setOsc_osc, if_pos rfl]
    refine ⟨fun x hact hrun hres hloss hup => ⟨_, State.exec_portMeterSample_valid ho hact hrun hres hloss hup x, by rw [hset]⟩,
      fun ohms ht hf => ⟨_, State.exec_thermistorRead ho ohms, by rw [hset, OscPort.reading_faulted ht hf]⟩, fun hact => ?_, fun hphase => ?_,
      fun hsec => ?_, fun hst hn => ⟨_, congrArg fin (if_pos ho), by rw [State.after_model_same]; exact State.restoreVerify_leaves hst hn⟩,
      fun hst hl hm => ?_⟩
    · obtain ⟨t, ht, hosc, -⟩ := State.portActivityLoss_outcome hact
      exact ⟨t, ht, by rw [hosc]; rfl, by rw [hosc]; rfl⟩
    · exact ⟨_, rfl, by rw [State.after_cairn, (State.cairnSecond_outcome hphase).2.1]⟩
    · refine ⟨_, congrArg fin ((if_pos ho).trans (State.learningMean_eq hsec)), ?_⟩
      rw [State.after_model_same]
      change ((s.setModel n _).model n).obsSec = 0
      rw [State.setModel_model, if_pos rfl]
      exact (PortModel.learn_outcome _ _ _ _ _ _).2.1
    · refine ⟨_, congrArg fin ((if_pos ho).trans (State.modelSave_eq ho hst hl hm)), ?_⟩
      rw [State.after_model_same, State.saveModel_unsaved]
  case aborts =>
    refine ⟨fun h1 => ?_, fun h2 hmode => ?_, fun h => ?_, fun h4 hres hdie => ?_, fun h4 hres => ?_⟩
    · have heq : s.abortArrive = s.modAbort fun a => { a with stage := 2, clean := false } := if_pos h1
      exact ⟨_, rfl, by rw [State.after_host_abort, heq]; rfl⟩
    · have heq : s.abortClean = s.modAbort fun x => { x with stage := 3, clean := true } := if_pos ⟨h2, hmode⟩
      exact ⟨_, rfl, by rw [State.after_host_abort, heq]; rfl, by rw [State.after_host_abort, heq]; rfl⟩
    · have heq : s.abortForced = ((s.semAbort s.host.abort.die).abortForce s.host.abort.cls s.host.abort.idx).modAbort fun x =>
        { x with stage := 4 } := if_pos h
      exact ⟨_, rfl, by rw [State.after_host_abort, heq]; rfl⟩
    · refine ⟨_, rfl, ?_⟩
      rw [State.after_host_abort]
      unfold State.abortComplete
      dsimp only
      rw [if_pos h4, if_pos ⟨hres, Or.inl hdie⟩]
      exact ⟨rfl, rfl⟩
    · refine ⟨_, rfl, ?_⟩
      rw [State.after_host_abort]
      unfold State.abortUnconfirmed
      dsimp only
      rw [if_pos ⟨hres, by omega⟩]
      exact ⟨rfl, rfl⟩
  case dies =>
    refine ⟨fun j js aon chold good hq hphase hrom hlow => ?_, fun page weak hphase hpage hq => ?_, fun wear hmode hlead hdue => ?_,
      fun off hpar hnew => ?_, fun hmode hfree hphase hne => ⟨_, rfl, (State.periodic_clocks hd hmode hfree hphase).1⟩,
      ⟨_, congrArg fin (if_pos hd), ?_⟩, fun c cs hq hmode hup hfree hroute => ?_⟩
    · refine ⟨_, rfl, ?_⟩
      rw [if_pos hd, State.after_dx_nv, State.modDie_dx_same, State.nvPage_rejected hd hq hphase hrom hlow]
    · exact ⟨_, rfl, by rw [State.after_dx_age, State.marginScan_scanPage hd hphase hpage hq]⟩
    · exact ⟨_, rfl, by rw [State.after_dx_age, State.planEval_evalAt hd hmode hlead hdue]⟩
    · obtain ⟨hcnt, hbad⟩ := State.scrub_fresh hd hpar hnew
      exact ⟨_, rfl, by rw [State.after_dx_parCnt, hcnt], by rw [State.after_dx_bad, hbad]⟩
    · rw [State.after_dx_mode, State.modDx_dx, if_pos rfl]
    · exact ⟨_, congrArg fin (State.forwarded_taken hq hmode hup hfree hroute),
        (State.after_dx_fwdQ _ n).trans (s.requestEnds_dx n c cs true).1⟩

end Sys2Proof.Machine
end

section
/-! SUPPORT. The commands of the timebase, the inputs and the TDC channels (R44, R73, R84, R97, R98, R136 to R138). -/

namespace Sys2Proof.Machine
open Sys2Proof

/-! ## TB_SET_MASTER (R44) -/

theorem State.setMaster_keeps (s : State) (m : Bool) (f : Nat) : (s.setMaster m f).tb.oscFreq = f ∧ (s.setMaster m f).tb.tbEn = s.tb.tbEn := by
  by_cases h : m = s.tb.master
  · rw [State.setMaster_same h]
    exact ⟨rfl, rfl⟩
  · rw [State.setMaster_other h]
    exact ⟨rfl, rfl⟩

theorem State.restartRise_tb (s : State) : s.restartRise.tb = { s.tb with restart := true, gapInWindow := true } := by
  unfold State.restartRise
  simp

/-- The new master's frequency; the samples of every DPLL take the offset `off` between the masters, and a restart rises (R242). -/
def State.masterSet (s : State) (m : Bool) (f : Nat) (off : Rat) : State :=
  ((s.setMaster m f).forEach ((s.setMaster m f).all 8) fun t k => t.modDpll k fun u =>
    { u with ho := { u.ho with ring := u.ho.ring.map fun x => { x with u := x.u - off, y := x.y + off } } }).restartRise

theorem State.masterSet_tb (s : State) (m : Bool) (f : Nat) (off : Rat) :
    (s.masterSet m f off).tb.master = m ∧ (s.masterSet m f off).tb.oscFreq = f ∧ (s.masterSet m f off).tb.tbEn = s.tb.tbEn ∧
      (s.masterSet m f off).tb.restart = true := by
  obtain ⟨hfreq, hen⟩ := s.setMaster_keeps m f
  unfold State.masterSet
  rw [State.restartRise_tb]
  dsimp only
  rw [State.forEach_tb _ _ _ fun t k => t.modDpll_tb k _]
  exact ⟨s.setMaster_master m f, hfreq, hen, rfl⟩

/-- The offset of the new master's meter over the old master over the last second (R242). -/
def State.masterOffset (s : State) (m : Bool) : Rat := if m = s.tb.master then 0 else ((s.osc (if m then 1 else 0)).meter.getLast?).getD 0

theorem tbSetMasterReply_ok {s : State} {c : Nat} {p : List Byte} (hc : c < 4) (hen : s.tb.tbEn = true) (hres : s.tb.restart = false)
    (hm : uAt p 0 1 ≤ 1) (hf : oscBad (uAt p 1 1) = false) (hr : uAt p 2 2 = 0) :
    tbSetMasterReply c p s =
      okReply (s.masterSet (decide (uAt p 0 1 = 1)) (uAt p 1 1) (s.masterOffset (decide (uAt p 0 1 = 1)))) := by
  refine guarded_pass s _ ?_
  simp [notSec, rsv, hf, hr, hen, hres, Nat.not_le.mpr hc, Nat.not_lt.mpr hm]

/-! ## The inputs (R73, R84, R97, R98) -/

/-- A present input of a die that is up passes the checks that name it. -/
theorem firstErr_inputChecks {s : State} {n : Nat} (hn : n < 320) (hin : s.hasInput n = true) (hup : s.dieUp (dieOfInput n) = true)
    (l : List (Bool × Nat)) : firstErr (inputChecks s n ++ l) = firstErr l := by
  simp [inputChecks, hin, hup, Nat.not_le.mpr hn]

section
variable {s : State} {p : List Byte} (hn : uAt p 0 2 < 320) (hin : s.hasInput (uAt p 0 2) = true) (hup : s.dieUp (dieOfInput (uAt p 0 2)) = true)
include hn hin hup

theorem inputConfigReply_ok (hbad : declBad (uAt p 0 2) p = false) (c : Nat) :
    inputConfigReply c p s = okReply (s.modInput (uAt p 0 2) fun u => u.config (declOf p)) := by
  refine guarded_pass s _ ?_
  rw [firstErr_inputChecks hn hin hup, hbad]
  rfl

theorem inputSetMonitorsReply_ok (hconf : (s.input (uAt p 0 2)).configured = true) (hbad : monBad (uAt p 0 2) (s.input (uAt p 0 2)).decl p = false)
    (c : Nat) : inputSetMonitorsReply c p s = okReply (s.modInput (uAt p 0 2) fun u => { u with monPend := some (monOf p) }) := by
  refine guarded_pass s _ ?_
  simp [inputChecks, hin, hup, hconf, hbad, Nat.not_le.mpr hn]

theorem inputGetStatusReply_ok (hr : uAt p 2 2 = 0) (c : Nat) :
    inputGetStatusReply c p s = okWith (inputStatusBytes s (uAt p 0 2) (s.measValid (uAt p 0 2))) s := by
  refine guarded_pass s _ ?_
  rw [firstErr_inputChecks hn hin hup]
  simp [rsv, hr]

/-- The action of INPUT_CLEAR: 1 and 3 end the wait, 2 and 3 discard the drift reference (R98). -/
theorem inputClearReply_ok (h1 : 1 ≤ uAt p 2 1) (h3 : uAt p 2 1 ≤ 3) (hr : uAt p 3 1 = 0) (c : Nat) :
    inputClearReply c p s = okReply (s.modInput (uAt p 0 2) fun u =>
      let v := if uAt p 2 1 ≠ 2 ∧ u.state = .qualifying then { u with endWtr := true } else u
      if 2 ≤ uAt p 2 1 then v.driftDiscard else v) := by
  have hbits : (uAt p 2 1).testBit 0 = decide (uAt p 2 1 ≠ 2) ∧ (uAt p 2 1).testBit 1 = decide (2 ≤ uAt p 2 1) := by
    generalize uAt p 2 1 = a at h1 h3 ⊢
    interval_cases a <;> decide
  obtain ⟨hwait, hdrift⟩ := hbits
  unfold inputClearReply
  dsimp only
  rw [hwait, hdrift]
  refine (guarded_pass s _ ?_).trans ?_
  · rw [firstErr_inputChecks hn hin hup]
    have h0 : uAt p 2 1 ≠ 0 := by omega
    have h4 : ¬ 4 ≤ uAt p 2 1 := by omega
    simp [rsv, hr, h0, h4]
  · simp only [Bool.and_eq_true, decide_eq_true_eq]

end

/-! ## The TDC channels (R136 to R138) -/

section
variable {s : State} {p : List Byte} (hn : uAt p 0 2 < 384) (hch : s.hasChan (uAt p 0 2) = true) (hup : s.dieUp (dieOfChan (uAt p 0 2)) = true)
  (hmeas : (s.chan (uAt p 0 2)).cal.measures = true) (hcore : uAt p 2 1 ≤ 1) (hr : uAt p 3 1 = 0)
include hn hch hup hmeas hcore hr

theorem tdcGetPicotReply_ok (h1 : 1 ≤ uAt p 6 1) (h32 : uAt p 6 1 ≤ 32) (htop : uAt p 4 2 + uAt p 6 1 ≤ 1152) (hr7 : uAt p 7 1 = 0) (c : Nat) :
    let k := (s.chan (uAt p 0 2)).core (uAt p 2 1)
    tdcGetPicotReply c p s = okWith (leBytes 2 (uAt p 0 2) ++ leBytes 1 (uAt p 2 1) ++ leBytes 1 k.role.code ++ leBytes 2 (uAt p 4 2) ++
      leBytes 1 (uAt p 6 1) ++ zeros 1 ++ leBytes 8 k.hits ++
      (List.range (uAt p 6 1)).flatMap fun i => leBytes 4 (k.table.getD (uAt p 4 2 + i) 0)) s := by
  refine guarded_pass s _ ?_
  have hstart : uAt p 4 2 < 1152 := by omega
  have hsome : uAt p 6 1 ≠ 0 := by omega
  simp [rsv, hch, hup, hmeas, hr, hr7, hsome, Nat.not_le.mpr hn, Nat.not_lt.mpr hcore, Nat.not_le.mpr hstart, Nat.not_lt.mpr h32, Nat.not_lt.mpr htop]

theorem tdcCoreResetReply_ok (hact : uAt p 2 1 ≠ (s.chan (uAt p 0 2)).active) (c : Nat) :
    tdcCoreResetReply c p s = okReply (s.modChan (uAt p 0 2) fun u =>
      u.resetCore (uAt p 2 1) ((s.die (dieOfChan (uAt p 0 2))).seedRec.segW.getD (2 * (uAt p 0 2 % 48) + uAt p 2 1) [])) := by
  refine guarded_pass s _ ?_
  simp [rsv, hch, hup, hmeas, hr, hact, Nat.not_le.mpr hn, Nat.not_lt.mpr hcore]

end

theorem tdcSaveSeedReply_waits {s : State} {p : List Byte} {ds : List Nat} (hds : ds = (List.range 8).filter fun d => (uAt p 0 1).testBit d)
    (hne : ds ≠ []) (hup : ∀ d ∈ ds, s.dieUp d = true) (hsave : s.nvSaving = false) (hrsv : uAt p 1 3 = 0) (c : Nat) :
    tdcSaveSeedReply c p s = { ret := retOK, wait := true, s := s.forEach ds fun x d => x.saveSeed d (some c) } := by
  have hfit : ∀ d ∈ ds, s.fitted d = true := fun d hd => (Bool.and_eq_true_iff.mp (hup d hd)).1
  have hchecks : firstErr [(ds.any fun d => !s.fitted d, retAbsent), (ds.any fun d => !s.dieUp d, retNotReady), (ds.isEmpty || !rsv p 1 3, retBadParam),
      (s.nvSaving, retBusy)] = none := by
    have habsent : (ds.any fun d => !s.fitted d) = false := List.any_eq_false.mpr fun d hd => by simp [hfit d hd]
    have hdown : (ds.any fun d => !s.dieUp d) = false := List.any_eq_false.mpr fun d hd => by simp [hup d hd]
    rw [habsent, hdown, hsave]
    simp [rsv, hrsv, List.isEmpty_eq_false_iff.mpr hne]
  unfold tdcSaveSeedReply
  dsimp only
  rw [← hds, hchecks]

/-- Settles O3: each command is ready and its checks pass, so it acknowledges with its effect; TDC_SAVE_SEED waits for its page writes. -/
theorem inputAndTdcCommandsComplete : Obligations.InputAndTdcCommandsComplete := by
  unfold Obligations.InputAndTdcCommandsComplete
  intro s c m p n
  refine ⟨fun h hc hen hres hm hf hr => ?setMaster, fun h hn hin hup hbad => ?config, fun h hn hin hup hconf hbad => ?monitors,
    fun h hn hin hup hr => ?status, fun h hn hin hup h1 h3 hr => ?clear, fun h hn hch hup hmeas hcore hr hc1 hc32 htop hr7 => ?picot,
    fun h => ?seed, fun h hn hch hup hmeas hcore hact hr => ?coreReset⟩
  case setMaster =>
    obtain ⟨hmaster, hfreq, hen', hrestart⟩ := s.masterSet_tb (decide (uAt m.payload 0 1 = 1)) (uAt m.payload 1 1)
      (s.masterOffset (decide (uAt m.payload 0 1 = 1)))
    exact ⟨_, State.runCmd_acks h (tbSetMasterReply_ok hc hen hres hm hf hr), hmaster, hfreq, hen'.trans hen, hrestart⟩
  case config => exact State.runCmd_acks h (inputConfigReply_ok hn hin hup hbad c)
  case monitors => exact State.runCmd_acks h (inputSetMonitorsReply_ok hn hin hup hconf hbad c)
  case status => exact State.runCmd_acks h (inputGetStatusReply_ok hn hin hup hr c)
  case clear => exact State.runCmd_acks h (inputClearReply_ok hn hin hup h1 h3 hr c)
  case picot => exact State.runCmd_acks h (tdcGetPicotReply_ok hn hch hup hmeas hcore hr hc1 hc32 htop hr7 c)
  case seed =>
    intro ds hne hup hsave hr
    exact State.runCmd_waits h (tdcSaveSeedReply_waits rfl hne hup hsave hr c)
  case coreReset => exact State.runCmd_acks h (tdcCoreResetReply_ok hn hch hup hmeas hcore hr hact c)

end Sys2Proof.Machine
end

section
/-! SUPPORT. The timers and monitors of the inputs (R74 to R77, R86, R87, R90, R91). -/

namespace Sys2Proof.Machine
open Sys2Proof

/-! ## LOS and FREQ (R74 to R76) -/

/-- LOS clears only on an input that can have edges: one with an electrical mode, or a virtual one (R64, R74). -/
theorem InputUnit.losOff_eq {u : InputUnit} (hrun : u.running = true) (hlos : u.los = true) (hmode : u.decl.mode ≠ 0 ∨ u.decl.type = 6) :
    u.losOff = { u with los := false, freq := true, gateOpen := none, hist := setb u.hist 3 } := by
  have hoff : (decide (u.decl.mode = 0) && decide (u.decl.type ≠ 6)) = false := by
    rcases hmode with h | h <;> simp [h]
  unfold InputUnit.losOff
  rw [hrun, hlos, hoff]
  rfl

/-- A gate that has lasted its length ends on a new word. -/
theorem InputUnit.gateEnd_due {u : InputUnit} {a b : Nat × Nat} {per : Rat} {k : Nat} (hrun : u.running = true) (hlos : u.los = false)
    (hopen : u.gateOpen = some a) (hab : a ≠ b) (hk : u.gateK + winPerMs * gateMs u.mon.freqGate ≤ k) :
    u.gateEnd per b k =
      (let mag : Rat := ((ratRound (gateOffset per a b)).natAbs : Rat)
       let set : Bool := decide (pptWord (10000 * u.mon.freqSet) < mag)
       let clr : Bool := decide (mag ≤ pptWord (10000 * u.mon.freqClr))
       { u with fofs := fmtFreq (gateOffset per a b), gateOpen := some b, gateK := k, freq := set || (u.freq && !clr), hist := setbIf u.hist 3 set }) := by
  unfold InputUnit.gateEnd
  rw [hopen]
  exact if_pos (by simp [hrun, hlos, hab, hk])

/-- No gate ends where none is open. -/
theorem InputUnit.gateEnd_closed {u : InputUnit} (hopen : u.gateOpen = none) (per : Rat) (b : Nat × Nat) (k : Nat) : u.gateEnd per b k = u := by
  unfold InputUnit.gateEnd
  rw [hopen]

theorem State.exec_freqGateEnd {s : State} {n : Nat} (hn : s.hasInput n = true) (hrun : (s.input n).running = true) (hlos : (s.input n).los = false)
    (hw : s.gateWord n = true) :
    exec (.freqGateEnd n) s = .next (s.setInput n ((s.input n).gateEnd (s.gatePeriod n) (s.gatePoint n s.tb.k) s.tb.k)).after :=
  congrArg fin (if_pos (by simp [hn, hrun, hlos, hw]))

/-! ## DRIFT (R77 to R79) -/

theorem length_lastN_le {α : Type} (n : Nat) (l : List α) : (lastN n l).length ≤ n := by
  unfold lastN
  rw [List.length_drop]
  omega

/-- An evaluation of DRIFT leaves the input's state, and holds no more samples than its window (R77). -/
theorem InputUnit.driftSample_keeps (u : InputUnit) (x : Rat) (fb : Bool) (k : Nat) :
    (u.driftSample x fb k).state = u.state ∧ (u.driftSample x fb k).dm.samples.length ≤ u.mon.driftWin := by
  unfold InputUnit.driftSample
  dsimp only
  repeat' split
  all_goals exact ⟨rfl, length_lastN_le _ _⟩

theorem State.forEach_setDpll_input (s : State) (ns : List Nat) (f : State → Nat → DpllUnit) (j : Nat) :
    (s.forEach ns fun t n => t.setDpll n (f t n)).input j = s.input j := State.forEach_keep (fun t => t.input j) (fun t n => t.setDpll n (f t n)) (fun _ _ => rfl) ns s

theorem State.driftSync_input (s : State) (j : Nat) : s.driftSync.input j = s.input j :=
  State.forEach_keep (fun t => t.input j) _ (fun t n => by dsimp only; split <;> rfl) _ s

/-- The exclusions that an evaluation brings about leave the inputs alone (R197, R198). -/
theorem State.driftExcludes_input (s : State) (c : Bool) (n t0 k j : Nat) :
    (if c then s.forEach (s.all 8) fun t i => t.setDpll i (t.driftExclude i n t0 k) else s).driftSync.input j = s.input j := by
  rw [State.driftSync_input]
  split
  · exact State.forEach_setDpll_input s _ (fun t i => t.driftExclude i n t0 k) j
  · rfl

/-- The DRIFT monitor of input `n` runs, and the latest word lets it take a point. -/
def State.driftRuns (s : State) (n : Nat) : Bool := s.hasInput n && (s.input n).running && !(s.input n).los && s.gateWord n

theorem State.driftEval_first {s : State} {n : Nat} (h : s.driftRuns n = true) (hopen : (s.input n).dm.opened = none) :
    s.driftEval n = s.setInput n { s.input n with dm := { (s.input n).dm with opened := some (s.gatePoint n s.tb.k), openedK := s.tb.k } } := by
  refine (if_pos h).trans ?_
  rw [hopen]

theorem State.driftEval_waits {s : State} {n : Nat} (h : s.driftRuns n = true) (hopen : (s.input n).dm.opened = some (s.gatePoint n s.tb.k)) :
    s.driftEval n = s := by
  refine (if_pos h).trans ?_
  rw [hopen]
  exact if_pos (by simp)

/-- A second of DRIFT ends on a new word: what the sample makes of the input, and the next second opens there. -/
theorem State.driftEval_sample {s : State} {n : Nat} {a : Nat × Nat} (h : s.driftRuns n = true) (hopen : (s.input n).dm.opened = some a)
    (ha : a ≠ s.gatePoint n s.tb.k) (hk : (s.input n).dm.openedK + winPerSec ≤ s.tb.k) :
    ∃ x fb, (s.driftEval n).input n =
      (let v := (s.input n).driftSample x fb (s.input n).dm.openedK
       { v with dm := { v.dm with opened := some (s.gatePoint n s.tb.k), openedK := s.tb.k } }) := by
  have hdue : ¬ (decide (s.tb.k < (s.input n).dm.openedK + winPerSec) || decide (a = s.gatePoint n s.tb.k)) = true := by
    simp [ha, Nat.not_lt.mpr hk]
  have heval : s.driftEval n = _ := if_pos h
  rw [heval, hopen]
  dsimp only
  rw [if_neg hdue]
  exact ⟨_, _, (State.driftExcludes_input _ _ _ _ _ _).trans ((s.setInput_input n n _).trans (if_pos rfl))⟩

/-! ## STALE and validity (R86, R91) -/

theorem InputUnit.evalDisq_notValid (u : InputUnit) : u.evalDisq.notValid = u.notValid := by
  unfold InputUnit.evalDisq InputUnit.disqualify
  dsimp only
  repeat' split
  all_goals rfl

theorem State.staleNow_eq (s : State) (n : Nat) : s.staleNow n = (decide (192 ≤ n) && decide ((s.input n).mon.staleS ≠ 0) &&
    decide ((s.td (n - 192)).lastAccK.getD (s.td (n - 192)).enableK + (s.input n).mon.staleS * winPerSec ≤ s.tb.k)) := by
  unfold State.staleNow
  cases h : (s.td (n - 192)).lastAccK <;> simp only [h, Option.getD]

/-- Settles O22: each event is the operation of its row, taken in the branch that the conditions of its clause open. -/
theorem inputEventsComplete : Obligations.InputEventsComplete := by
  unfold Obligations.InputEventsComplete
  intro s n hn u
  have hruns (hrun : u.running = true) (hlos : u.los = false) (hw : s.gateWord n = true) : s.driftRuns n = true := by
    simp [State.driftRuns, u, hn, hrun, hlos, hw]
  refine ⟨fun hst hc hend hgap => ?wtr, fun hp hrun hgap hdue => ?losOn, fun hp hrun hlos hgap hneed hmode => ?losOff,
    fun a hrun hlos hw hopen ha hk => ?gate, fun hopen hrun hlos hw => ?gateClosed, fun hrun hlos hw hopen => ?driftFirst,
    fun hrun hlos hw hopen => ?driftWaits, fun a hrun hlos hw hopen ha hk => ?drift, fun hv hrun hgap hs hk => ?stale,
    fun k hk hdie hup => ?stream, fun hen hmeas hinv => ?notValid⟩
  case wtr =>
    have hq : exec (.wtrExpire n) s = .next (s.setInput n u.qualify).after := congrArg fin (if_pos (by simpa [u, hn, hst, hc, hgap] using hend))
    refine ⟨_, hq, ?_⟩
    rw [State.after_input_same, State.setInput_input, if_pos rfl]
    exact ⟨rfl, bit_setb_same _ (by decide), rfl⟩
  case losOn => exact congrArg fin ((if_pos (by simp [u, hn, hp, hgap, hdue])).trans (congrArg (s.setInput n) (if_pos hrun)))
  case losOff =>
    have hneed' : u.losNeed ≤ u.edgeRun := hneed
    exact congrArg fin ((if_pos (by simp [u, hn, hp, hgap, hneed'])).trans (congrArg (s.setInput n) (InputUnit.losOff_eq hrun hlos hmode)))
  case gate => rw [State.exec_freqGateEnd hn hrun hlos hw, InputUnit.gateEnd_due hrun hlos hopen ha hk]
  case gateClosed => rw [State.exec_freqGateEnd hn hrun hlos hw, InputUnit.gateEnd_closed hopen]
  case driftFirst => exact congrArg fin (State.driftEval_first (hruns hrun hlos hw) hopen)
  case driftWaits => exact congrArg fin (State.driftEval_waits (hruns hrun hlos hw) hopen)
  case drift =>
    obtain ⟨x, fb, hin⟩ := State.driftEval_sample (hruns hrun hlos hw) hopen ha hk
    obtain ⟨hstate, hlen⟩ := u.driftSample_keeps x fb u.dm.openedK
    refine ⟨_, rfl, ?_⟩
    rw [State.after_input_same, hin]
    exact ⟨rfl, rfl, hstate, hlen⟩
  case stale => exact congrArg fin (if_pos (by simp [u, hn, hrun, hgap, State.staleNow_eq, hv, hs, hk]))
  case stream => exact congrArg fin (if_pos (by simp [hk, hdie, hup]))
  case notValid =>
    have hcond : (s.hasInput n && u.enable && !s.measValid n && (decide (320 < u.invalidRun) || !u.running)) = true := by
      simpa [hn, hen, hmeas] using hinv
    refine ⟨_, congrArg fin (if_pos hcond), ?_⟩
    rw [State.after_input_same, State.setInput_input, if_pos rfl]
    split
    · exact InputUnit.evalDisq_notValid _
    · rfl

end Sys2Proof.Machine
end

section
/-! SUPPORT. The events of the TDC channels (R104, R106, R112 to R116, R119, R121). -/

namespace Sys2Proof.Machine
open Sys2Proof

/-! ## An edge on its channel (R104 to R106, R114) -/

/-- The edge at `x` is at least 2.5 ns from the last accepted one (R106). -/
def TdcChan.spaced (u : TdcChan) (x : Nat) : Prop := ∀ l, u.last = some l → mergeGap ≤ (wrapDiff extMod x l).natAbs

theorem TdcChan.takeEdge_spaced {u : TdcChan} {x : Nat} (h : u.spaced x) :
    u.takeEdge x = ({ u with last := some x, win := u.win ++ [x], seen := true }, true) := by
  unfold TdcChan.takeEdge
  cases hl : u.last with
  | none => rfl
  | some l =>
    dsimp only
    exact if_neg (by simpa using h l hl)

theorem TdcChan.takeEdge_near {u : TdcChan} {x l : Nat} (hl : u.last = some l) (h : (wrapDiff extMod x l).natAbs < mergeGap) :
    u.takeEdge x = ({ u with merged := satInc u.merged, sat := u.sat || decide (0xFFFFFFFF ≤ satInc u.merged), mergeMark := true }, false) := by
  unfold TdcChan.takeEdge
  rw [hl]
  dsimp only
  exact if_pos (decide_eq_true h)

/-- The overlap's measurement adds to its sums alone (R114). -/
theorem TdcChan.overlapEdge_eq (u : TdcChan) (coarse a b : Nat) : ∃ sum cnt, u.overlapEdge coarse a b = { u with ovlSum := sum, ovlCnt := cnt } := by
  unfold TdcChan.overlapEdge
  dsimp only
  split
  · exact ⟨_, _, rfl⟩
  · exact ⟨u.ovlSum, u.ovlCnt, rfl⟩

/-- The channel once it has met an edge at `x`. -/
def TdcChan.met (u : TdcChan) (coarse a b x : Nat) : TdcChan :=
  let r := u.takeEdge x
  if r.2 then r.1.overlapEdge coarse a b else r.1

theorem TdcChan.met_spaced {u : TdcChan} {x : Nat} (h : u.spaced x) (coarse a b : Nat) :
    (u.met coarse a b x).last = some x ∧ (u.met coarse a b x).win = u.win ++ [x] := by
  unfold TdcChan.met
  rw [TdcChan.takeEdge_spaced h]
  obtain ⟨sum, cnt, hov⟩ := TdcChan.overlapEdge_eq { u with last := some x, win := u.win ++ [x], seen := true } coarse a b
  dsimp only
  rw [if_pos rfl, hov]
  exact ⟨rfl, rfl⟩

theorem TdcChan.met_near {u : TdcChan} {x l : Nat} (hl : u.last = some l) (h : (wrapDiff extMod x l).natAbs < mergeGap) (coarse a b : Nat) :
    (u.met coarse a b x).merged = satInc u.merged ∧ (u.met coarse a b x).last = some l ∧ (u.met coarse a b x).win = u.win := by
  unfold TdcChan.met
  rw [TdcChan.takeEdge_near hl h]
  exact ⟨rfl, hl, rfl⟩

/-! ## An edge on its way to what its channel serves (R80, R318) -/

theorem chanOfInput_of_die {d c : Nat} (hc : c < 24) : chanOfInput (24 * d + c) = 48 * d + c := by
  unfold chanOfInput
  omega

/-- An edge counts on its input, when the channel accepted it, and a glitch marks input and channel (R74, R80). -/
theorem State.edgeGlitch_eq (s : State) (n : Nat) (u : TdcChan) (x : Nat) (accepted : Bool) :
    ∃ s1, (s1 = s ∨ ∃ g, s1 = s.modInput n g) ∧ (s.edgeGlitch n u x accepted = s1 ∨
      ∃ g, s.edgeGlitch n u x accepted = (s1.modInput n g).modChan (chanOfInput n) fun c => { c with glitchMark := true }) := by
  refine ⟨if accepted then s.modInput n _ else s, ?_, (ite_eq_or_eq _ _ _).symm.imp_right fun h => ⟨_, h⟩⟩
  exact (ite_eq_or_eq _ _ _).symm.imp_right fun h => ⟨_, h⟩

/-- A glitch leaves on the channel its mark alone (R80). -/
theorem State.edgeGlitch_chan (s : State) (n : Nat) (u : TdcChan) (x : Nat) (accepted : Bool) :
    ∃ g, (s.edgeGlitch n u x accepted).chan (chanOfInput n) = { s.chan (chanOfInput n) with glitchMark := g } := by
  obtain ⟨s1, hcount, hmark⟩ := s.edgeGlitch_eq n u x accepted
  have hs1 : s1.chan (chanOfInput n) = s.chan (chanOfInput n) := by rcases hcount with rfl | ⟨g, rfl⟩ <;> rfl
  rcases hmark with h | ⟨g, h⟩ <;> rw [h]
  · exact ⟨_, hs1⟩
  · exact ⟨true, by rw [State.modChan_chan, if_pos rfl, State.modInput_chan_same, hs1]⟩

theorem State.evEdge_evs (s : State) (e x : Nat) : ∃ l, s.evEdge e x = { s with evs := l } := by
  unfold State.evEdge
  dsimp only
  split <;> exact ⟨_, rfl⟩

/-- The state once channel `c` of die `d` has met an edge at `x`, before what the channel serves has. -/
def State.edgeMet (s : State) (d c coarse a b x : Nat) : State := s.setChan (48 * d + c) ((s.chan (48 * d + c)).met coarse a b x)

/-- The edge of an input's channel goes on to the input, that of an event channel to the event channel (R80, R318). -/
theorem State.edgeTake_eq (s : State) (d c coarse a b x : Nat) :
    (c < 24 ∧ ∃ r, s.edgeTake d c coarse a b x = (s.edgeMet d c coarse a b x).edgeGlitch (24 * d + c) (s.chan (48 * d + c)) x r) ∨
      ∃ l, s.edgeTake d c coarse a b x = { s.edgeMet d c coarse a b x with evs := l } := by
  have hmet : s.edgeMet d c coarse a b x = s.setChan (48 * d + c) (if ((s.chan (48 * d + c)).takeEdge x).2 then
      ((s.chan (48 * d + c)).takeEdge x).1.overlapEdge coarse a b else ((s.chan (48 * d + c)).takeEdge x).1) := rfl
  unfold State.edgeTake
  dsimp only
  rw [← hmet]
  generalize s.edgeMet d c coarse a b x = s1
  split
  next hc => exact .inl ⟨hc, _, rfl⟩
  refine .inr ?_
  repeat' split
  · exact ⟨s1.evs, rfl⟩
  · exact ⟨s1.evs, rfl⟩
  · exact s1.evEdge_evs _ x
  · exact ⟨_, rfl⟩

theorem State.edgeTake_chan (s : State) (d c coarse a b x : Nat) :
    ∃ g, (s.edgeTake d c coarse a b x).chan (48 * d + c) = { (s.chan (48 * d + c)).met coarse a b x with glitchMark := g } := by
  have hmet : (s.edgeMet d c coarse a b x).chan (48 * d + c) = (s.chan (48 * d + c)).met coarse a b x :=
    (s.setChan_chan _ _ _).trans (if_pos rfl)
  obtain ⟨hc, r, hin⟩ | ⟨l, hev⟩ := s.edgeTake_eq d c coarse a b x
  · obtain ⟨g, hg⟩ := (s.edgeMet d c coarse a b x).edgeGlitch_chan (24 * d + c) (s.chan (48 * d + c)) x r
    rw [chanOfInput_of_die hc, hmet] at hg
    exact ⟨g, hin ▸ hg⟩
  · exact ⟨_, (congrArg (fun t => t.chan (48 * d + c)) hev).trans hmet⟩

/-! ## Which window measures an edge (R115, R121) -/

/-- Channel `c` of die `d` measures edges with codes `a` and `b` (R104, R318). -/
def State.edgeReady (s : State) (d c a b : Nat) : Bool :=
  s.running && (s.die d).tbLock && (s.die d).mclkOk && decide (c < 48) && s.hasChan (48 * d + c) && decide (a < 1152) && decide (b < 1152) &&
    !s.tb.restart && (s.chan (48 * d + c)).cal.measures && (decide (c < 32) || s.chanValid (48 * d + c))

/-- The extended time of a capture by the core that is active. -/
def State.capturedAt (s : State) (d c coarse a b : Nat) : Nat :=
  let u := s.chan (48 * d + c)
  s.extOfCapture (48 * d + c) u.active coarse (if u.active = 0 then a else b)

/-- An edge is passed over, kept for its own window or its own core, or taken. -/
theorem State.edgeMeasure_eq (s : State) (kept : Bool) (d c coarse a b : Nat) : s.edgeMeasure kept d c coarse a b =
    if !s.edgeReady d c a b then s
    else if !kept && decide (wrapDiff (2 ^ 64) (extToMts (s.capturedAt d c coarse a b)) s.mts < 0) then s
    else if decide (((s.chan (48 * d + c)).core (1 - (s.chan (48 * d + c)).active)).role = .overlapEnd) ||
        decide (0 ≤ wrapDiff (2 ^ 64) (extToMts (s.capturedAt d c coarse a b)) (mtsOf (s.tb.k + 1))) then
      s.modChan (48 * d + c) fun v => { v with ahead := v.ahead ++ [(coarse, a, b)] }
    else s.edgeTake d c coarse a b (s.capturedAt d c coarse a b) := rfl

/-- An edge of the open window or a later one, where no swap waits. -/
theorem State.edgeCapture_eq {s : State} {d c coarse a b : Nat} (hr : s.edgeReady d c a b = true)
    (hrole : ((s.chan (48 * d + c)).core (1 - (s.chan (48 * d + c)).active)).role ≠ .overlapEnd)
    (h0 : 0 ≤ wrapDiff (2 ^ 64) (extToMts (s.capturedAt d c coarse a b)) s.mts) :
    s.edgeCapture d c coarse a b =
      if 0 ≤ wrapDiff (2 ^ 64) (extToMts (s.capturedAt d c coarse a b)) (mtsOf (s.tb.k + 1)) then
        s.modChan (48 * d + c) fun v => { v with ahead := v.ahead ++ [(coarse, a, b)] }
      else s.edgeTake d c coarse a b (s.capturedAt d c coarse a b) := by
  have hready : ¬ (!s.edgeReady d c a b) = true := by simp [hr]
  have hopen : ¬ (!false && decide (wrapDiff (2 ^ 64) (extToMts (s.capturedAt d c coarse a b)) s.mts < 0)) = true := by simpa using h0
  rw [State.edgeCapture, State.edgeMeasure_eq, if_neg hready, if_neg hopen]
  simp only [hrole, decide_false, Bool.false_or, decide_eq_true_eq]

theorem State.exec_tdcEdgeCapture {s : State} {d c coarse a b : Nat} {rising : Bool} (h : s.activeEdge d c rising = true) :
    exec (.tdcEdgeCapture d c (coarse, rising) a b) s = .next (s.edgeCapture d c coarse a b).after := congrArg fin (if_pos h)

/-! ## Fills and histograms (R112, R113, R116) -/

theorem TdcChan.begun_eq (u : TdcChan) (h : Nat) : ∃ cyc, u.begun h = { u with cyc := cyc } := by
  unfold TdcChan.begun
  split
  · exact ⟨_, rfl⟩
  · exact ⟨u.cyc, rfl⟩

theorem TdcChan.endFill_measures {u : TdcChan} (h : u.cal = .fill) (h0 h1 profile : List Nat) : (u.endFill h0 h1 profile).cal.measures = true := by
  unfold TdcChan.endFill
  rw [h]
  dsimp only
  split
  · rfl
  · dsimp only
    split <;> rfl

/-- The enabling of retained OPLLs leaves the channels alone (R540). -/
theorem State.resumeOplls_chan (s : State) (d n : Nat) : (s.resumeOplls d).chan n = s.chan n := by
  have hchan (t : State) : t.offOutputs.chan n = t.chan n := rfl
  have hloop (ns : List Nat) : (s.forEach ns fun x o => x.opllOn o).chan n = s.chan n := by
    rw [← hchan, State.forEach_offOutputs s ns _ State.opllOn_offOutputs, hchan]
  unfold State.resumeOplls
  dsimp only
  split
  · rfl
  · exact hloop _

theorem State.fillEnd_chan {s : State} {d c : Nat} {h0 h1 : List Nat} (hen : s.tb.tbEn = true) (hres : s.tb.restart = false) (hc : c < 48)
    (hch : s.hasChan (48 * d + c) = true) (hl0 : h0.length = 1152) (hl1 : h1.length = 1152) :
    (s.fillEnd d c h0 h1).chan (48 * d + c) = ((s.chan (48 * d + c)).endFill h0 h1 (s.die d).seedRec.profile).begun (s.bgHits d) := by
  have hready : s.fillEnd d c h0 h1 = _ := if_pos (by simp [hen, hres, hc, hch, hl0, hl1])
  rw [hready, State.resumeOplls_chan]
  split
  · rw [State.modDie_chan_same, State.setChan_chan, if_pos rfl]
  · rw [State.setChan_chan, if_pos rfl]

theorem State.bgDone_chan {s : State} {d c : Nat} {h : List Nat} (hen : s.tb.tbEn = true) (hres : s.tb.restart = false) (hc : c < 48)
    (hch : s.hasChan (48 * d + c) = true) (hfrozen : (s.die d).bgFrozen = false) (hmeas : (s.chan (48 * d + c)).cal.measures = true)
    (hrole : ((s.chan (48 * d + c)).core (1 - (s.chan (48 * d + c)).active)).role = .calibrating) (hl : h.length = 1152)
    (hsum : 2 ^ (s.chan (48 * d + c)).cyc.getD (s.bgHits d) ≤ sumN h) :
    (s.bgDone d c h).chan (48 * d + c) =
      ((s.chan (48 * d + c)).histogram (1 - (s.chan (48 * d + c)).active) h).begun (s.bgHits d) := by
  have hready : s.bgDone d c h = _ := if_pos (by simp [hen, hres, hc, hch, hfrozen, hmeas, hrole, hl, hsum])
  rw [hready]
  split
  · rw [State.modDie_chan_same, State.modDx_chan_same, State.setChan_chan, if_pos rfl]
  · rw [State.modDx_chan_same, State.setChan_chan, if_pos rfl]

/-! ## The swap (R114, R115) -/

theorem TdcChan.setCore_eq (u : TdcChan) (i : Nat) (c : Core) : ∃ c0 c1, u.setCore i c = { u with c0 := c0, c1 := c1 } := by
  unfold TdcChan.setCore
  split
  · exact ⟨_, u.c1, rfl⟩
  · exact ⟨u.c0, _, rfl⟩

theorem TdcChan.swap_overlapped {u : TdcChan} (h : (u.core (1 - u.active)).role = .overlapEnd) (pulses : Int) :
    (u.swap pulses).active = 1 - u.active ∧ (u.swap pulses).swapCnt = satInc u.swapCnt ∧ (u.swap pulses).ahead = u.ahead ∧
      (u.swap pulses).delta = u.delta + (if 256 ≤ u.ovlCnt then divRound u.ovlSum u.ovlCnt else divRound pulses 256) := by
  have hcore : u.swap pulses = _ := if_pos h
  have hahead (v : TdcChan) (i : Nat) (c : Core) : (v.setCore i c).ahead = v.ahead := by
    obtain ⟨c0, c1, hset⟩ := v.setCore_eq i c
    rw [hset]
  rw [hcore]
  exact ⟨rfl, rfl, (hahead _ _ _).trans (hahead _ _ _), rfl⟩

theorem State.takeAhead_none {s : State} {n : Nat} (h : (s.chan n).ahead = []) : s.takeAhead n = s := if_pos (by rw [h]; rfl)

/-- The channel after a swap that no edge waited for. -/
theorem State.coreSwap_chan {s : State} {n : Nat} {pulses : Int} {h : Nat} (hrole : ((s.chan n).core (1 - (s.chan n).active)).role = .overlapEnd)
    (ha : (s.chan n).ahead = []) :
    ((s.modChan n fun u => (u.swap pulses).begun h).takeAhead n).chan n = ((s.chan n).swap pulses).begun h := by
  have hswap : (s.modChan n fun u => (u.swap pulses).begun h).chan n = ((s.chan n).swap pulses).begun h := by
    rw [State.modChan_chan, if_pos rfl]
  obtain ⟨cyc, hcyc⟩ := TdcChan.begun_eq ((s.chan n).swap pulses) h
  obtain ⟨-, -, hahead, -⟩ := TdcChan.swap_overlapped hrole pulses
  rw [State.takeAhead_none, hswap]
  rw [hswap, hcyc]
  exact hahead.trans ha

/-- Settles O20: each event is the operation of its row, taken in the branch that the conditions open; an edge's mark on its input or event
channel leaves the channel's window alone. -/
theorem tdcEventsComplete : Obligations.TdcEventsComplete := by
  unfold Obligations.TdcEventsComplete
  intro s d c hc hch n u
  refine ⟨fun coarse a b rising hrun hlock hmclk hres hmeas ha hb hact hrole hval => ?edge, fun coarse a b hin => ?passive,
    fun h0 h1 hen hres hl0 hl1 => ?fill, fun h hen hres hfrozen hmeas hrole hl hsum => ?histogram,
    fun pulses hres hfrozen _ hrole ha => ?swap, fun hup hmode hdue => ?seed⟩
  case edge =>
    have hready : s.edgeReady d c a b = true := by
      have hvalid : (decide (c < 32) || s.chanValid n) = true := by simpa using hval
      simp only [State.edgeReady, hrun, hlock, hmclk, hc, hch, ha, hb, hres, decide_true, Bool.and_self, Bool.not_false, Bool.true_and]
      exact Bool.and_eq_true_iff.mpr ⟨hmeas, hvalid⟩
    intro x m h0
    have hcap := State.exec_tdcEdgeCapture (coarse := coarse) (a := a) (b := b) hact
    rw [State.edgeCapture_eq hready hrole h0] at hcap
    refine ⟨fun hnow => ⟨_, hcap.trans (congrArg fin (if_neg (not_le.mpr hnow))), ?_⟩, fun hlater => hcap.trans (congrArg fin (if_pos hlater))⟩
    obtain ⟨g, hg⟩ := s.edgeTake_chan d c coarse a b (s.capturedAt d c coarse a b)
    rw [State.after_chan_same, hg]
    exact ⟨fun hfar => TdcChan.met_spaced hfar coarse a b, fun l hl hnear => TdcChan.met_near hl hnear coarse a b⟩
  case passive =>
    have hpass : s.activeEdge d c (s.input (24 * d + c)).decl.falling = false := by simp [State.activeEdge, hin]
    exact fin_unchanged (if_neg (by simp [hpass]))
  case fill =>
    refine ⟨_, rfl, ?_⟩
    rw [State.after_chan_same, State.fillEnd_chan hen hres hc hch hl0 hl1]
    refine ⟨rfl, fun hcal => ?_⟩
    obtain ⟨cyc, hcyc⟩ := TdcChan.begun_eq (u.endFill h0 h1 (s.die d).seedRec.profile) (s.bgHits d)
    exact hcyc ▸ TdcChan.endFill_measures hcal h0 h1 _
  case histogram => exact ⟨_, rfl, (State.after_chan_same _ n).trans (State.bgDone_chan hen hres hc hch hfrozen hmeas hrole hl hsum)⟩
  case swap =>
    refine ⟨_, congrArg fin (if_pos (by simp [hc, hch, hres, hfrozen])), ?_⟩
    rw [State.after_chan_same, State.coreSwap_chan hrole ha]
    obtain ⟨cyc, hcyc⟩ := TdcChan.begun_eq (u.swap pulses) (s.bgHits d)
    obtain ⟨hactive, hcnt, -, hdelta⟩ := TdcChan.swap_overlapped hrole pulses
    rw [hcyc]
    exact ⟨hactive, hcnt, hdelta⟩
  case seed => exact congrArg fin (if_pos (by simp [hup, hmode, hdue]))

end Sys2Proof.Machine
end

section
/-! SUPPORT. What leaves alone all units but the one it names, and all units of another kind (R11 to R16, R74, R160, R263, R302). -/

namespace Sys2Proof.Machine
open Sys2Proof

/-! ## A kind of unit and its table in the state -/

/-- A kind of unit: the value of a unit that is not listed, and the table of the state that lists the units. -/
structure UnitKind (α : Type) where
  unlisted : α
  table : State → Tbl α
  put : State → Tbl α → State
  table_put : ∀ s l, table (put s l) = l := by intros; rfl
  put_table : ∀ s, put s (table s) = s := by intros; rfl
  put_put : ∀ s l l', put (put s l) l' = put s l' := by intros; rfl
  put_side : ∀ s l h x, put { s with host := h, xs := x } l = { put s l with host := h, xs := x } := by intros; rfl

namespace UnitKind

def inputs : UnitKind InputUnit where
  unlisted := {}
  table := State.inputs
  put s l := { s with inputs := l }

def dplls : UnitKind DpllUnit where
  unlisted := {}
  table := State.dplls
  put s l := { s with dplls := l }

def oplls : UnitKind OpllUnit where
  unlisted := {}
  table := State.oplls
  put s l := { s with oplls := l }

def tds : UnitKind TdUnit where
  unlisted := {}
  table := State.tds
  put s l := { s with tds := l }

def stitches : UnitKind Stitch where
  unlisted := {}
  table := State.stitches
  put s l := { s with stitches := l }

def oscs : UnitKind OscPort where
  unlisted := {}
  table := State.oscs
  put s l := { s with oscs := l }

variable {α : Type} (K : UnitKind α) {n : Nat} {s t r : State}

/-- Unit `j` of the kind. -/
def unit (s : State) (j : Nat) : α := tget K.unlisted (K.table s) j

/-- Of the units of state `s` only number `n` of the kind is another in `t`; all else stays. -/
def Only (n : Nat) (s t : State) : Prop := t = K.put s (K.table t) ∧ ∀ j, j ≠ n → K.unit t j = K.unit s j

theorem only_refl (n : Nat) (s : State) : K.Only n s s := ⟨(K.put_table s).symm, fun _ _ => rfl⟩

/-- A write of unit `n` changes no other. -/
theorem only_put [DecidableEq α] (n : Nat) (s : State) (u : α) : K.Only n s (K.put s (tset K.unlisted (K.table s) n u)) := by
  unfold Only unit
  rw [K.table_put]
  exact ⟨rfl, fun j hj => (tget_tset _ _ _ _ _).trans (if_neg hj)⟩

variable {K}

theorem Only.trans (hst : K.Only n s t) (htr : K.Only n t r) : K.Only n s r := by
  obtain ⟨hst, hunit⟩ := hst
  obtain ⟨htr, hunit'⟩ := htr
  refine ⟨?_, fun j hj => (hunit' j hj).trans (hunit j hj)⟩
  calc r = K.put t (K.table r) := htr
    _ = K.put (K.put s (K.table t)) (K.table r) := congrArg (fun x => K.put x (K.table r)) hst
    _ = K.put s (K.table r) := K.put_put _ _ _

/-- An effect that a condition guards. -/
theorem Only.ite (h : K.Only n s t) (c : Prop) [Decidable c] : K.Only n s (if c then t else s) := by
  split
  · exact h
  · exact K.only_refl n s

end UnitKind

/-! ## The writes of the state -/

theorem State.setInput_only (s : State) (n : Nat) (u : InputUnit) : UnitKind.inputs.Only n s (s.setInput n u) := UnitKind.inputs.only_put n s u
theorem State.setDpll_only (s : State) (n : Nat) (u : DpllUnit) : UnitKind.dplls.Only n s (s.setDpll n u) := UnitKind.dplls.only_put n s u
theorem State.setOpll_only (s : State) (n : Nat) (u : OpllUnit) : UnitKind.oplls.Only n s (s.setOpll n u) := UnitKind.oplls.only_put n s u
theorem State.setTd_only (s : State) (n : Nat) (u : TdUnit) : UnitKind.tds.Only n s (s.setTd n u) := UnitKind.tds.only_put n s u
theorem State.setStitch_only (s : State) (n : Nat) (u : Stitch) : UnitKind.stitches.Only n s (s.setStitch n u) := UnitKind.stitches.only_put n s u
theorem State.setOsc_only (s : State) (n : Nat) (u : OscPort) : UnitKind.oscs.Only n s (s.setOsc n u) := UnitKind.oscs.only_put n s u

end Sys2Proof.Machine
end

section
/-! SUPPORT. The frame of the events of one unit (R74, R119, R160, R215, R217, R263, R302, R312). -/

namespace Sys2Proof.Machine
open Sys2Proof

/-! ## The DPLLs (R160, R193) -/

theorem State.openEntry_only (s : State) (n : Nat) : UnitKind.dplls.Only n s (s.openEntry n) :=
  ((s.setDpll_only n _).ite _).trans (State.setDpll_only _ n _)

/-- A DPLL that takes a new state steers by its word at once. -/
theorem State.setOpen_only (s : State) (n : Nat) (u : DpllUnit) : UnitKind.dplls.Only n s ((s.setDpll n u).openEntry n) :=
  (s.setDpll_only n u).trans (State.openEntry_only _ n)

/-! ## The meters of the oscillator ports (R215, R233) -/

/-- Of the ports only number `n` is another in `t`, and of a DPLL only whether the history tick in progress is good. -/
def State.MeterOnly (n : Nat) (s t : State) : Prop :=
  t = { s with oscs := t.oscs, dplls := t.dplls } ∧ (∀ j, j ≠ n → t.osc j = s.osc j) ∧
    ∀ j, t.dpll j = { s.dpll j with ho := { (s.dpll j).ho with accOk := (t.dpll j).ho.accOk } }

theorem State.meterOnly_setOsc (s : State) (n : Nat) (u : OscPort) : State.MeterOnly n s (s.setOsc n u) :=
  ⟨rfl, (s.setOsc_only n u).2, fun _ => rfl⟩

theorem State.meterOnly_refl (n : Nat) (s : State) : State.MeterOnly n s s := ⟨rfl, fun _ _ => rfl, fun _ => rfl⟩

/-- A reading that is not valid spoils the tick in progress of a DPLL. -/
theorem State.MeterOnly.spoil {n : Nat} {s t : State} (h : State.MeterOnly n s t) (k : Nat) :
    State.MeterOnly n s (t.modDpll k fun u => { u with ho := { u.ho with accOk := false } }) := by
  obtain ⟨hst, hosc, hdpll⟩ := h
  refine ⟨congrArg (fun x : State => x.modDpll k fun u => { u with ho := { u.ho with accOk := false } }) hst, hosc, fun j => ?_⟩
  rw [State.modDpll_dpll]
  split
  next hj => rw [hj, hdpll k]
  next => exact hdpll j

theorem State.portMeterSample_only (s : State) (o : Nat) (m : Int) {t : State} (h : exec (.portMeterSample o m) s = .next t) :
    ∃ u, t = u.after ∧ State.MeterOnly o s u := by
  refine ⟨_, fin_next h, ?_⟩
  split
  · split
    · exact s.meterOnly_setOsc o _
    · refine State.forEach_inv (State.MeterOnly o s) _ (fun t k ht => ?_) _ _ (s.meterOnly_setOsc o _)
      dsimp only
      split
      · exact ht.spoil k
      · exact ht
  · exact State.meterOnly_refl o s

/-! ## The time domains (R302, R312) -/

theorem TdUnit.holdExpire_time (u : TdUnit) (k : Nat) : (u.holdExpire k).sec = u.sec ∧ (u.holdExpire k).sub = u.sub := by
  unfold TdUnit.holdExpire
  repeat' split
  all_goals exact ⟨rfl, rfl⟩

/-- The start of a message, and the end of one that no longer goes out, leave the domain's time. -/
theorem State.todMessage_eq (s : State) (n : Nat) :
    s.todMessage n = s ∨ ∃ v, s.todMessage n = s.setTd n v ∧ v.sec = (s.td n).sec ∧ v.sub = (s.td n).sub := by
  unfold State.todMessage
  dsimp only
  split
  · exact .inr ⟨_, rfl, rfl, rfl⟩
  split
  swap
  · exact .inl rfl
  refine .inr ?_
  repeat' split
  all_goals exact ⟨_, rfl, rfl, rfl⟩

/-- Of the domains only number `n` is another in `t`, and its time stays. -/
def State.TdOnly (n : Nat) (s t : State) : Prop :=
  t = { s with tds := t.tds } ∧ (∀ j, j ≠ n → t.td j = s.td j) ∧ (t.td n).sec = (s.td n).sec ∧ (t.td n).sub = (s.td n).sub

theorem State.tdOnly_refl (n : Nat) (s : State) : State.TdOnly n s s := ⟨rfl, fun _ _ => rfl, rfl, rfl⟩

theorem State.tdOnly_setTd {s : State} {n : Nat} {v : TdUnit} (h : v.sec = (s.td n).sec ∧ v.sub = (s.td n).sub) : State.TdOnly n s (s.setTd n v) := by
  obtain ⟨hst, hunit⟩ := s.setTd_only n v
  refine ⟨hst, hunit, ?_⟩
  rw [State.setTd_td, if_pos rfl]
  exact h

/-! ## The swap of a TDC channel's cores (R114, R115) -/

/-- Of the channels only number `c` of die `d` is another in `t`, of the inputs only the one that it serves; event channels may be. -/
def State.ChanOnly (d c : Nat) (s t : State) : Prop :=
  t = { s with chans := t.chans, inputs := t.inputs, evs := t.evs } ∧ (∀ j, j ≠ 48 * d + c → t.chan j = s.chan j) ∧
    ∀ j, j ≠ 24 * d + c → t.input j = s.input j

theorem State.chanOnly_refl (d c : Nat) (s : State) : State.ChanOnly d c s s := ⟨rfl, fun _ _ => rfl, fun _ _ => rfl⟩

theorem State.ChanOnly.trans {d c : Nat} {s t r : State} (hst : State.ChanOnly d c s t) (htr : State.ChanOnly d c t r) : State.ChanOnly d c s r := by
  obtain ⟨hst, hchan, hinput⟩ := hst
  obtain ⟨htr, hchan', hinput'⟩ := htr
  exact ⟨htr.trans (congrArg (fun x : State => { x with chans := r.chans, inputs := r.inputs, evs := r.evs }) hst),
    fun j hj => (hchan' j hj).trans (hchan j hj), fun j hj => (hinput' j hj).trans (hinput j hj)⟩

theorem State.chanOnly_setChan (s : State) (d c : Nat) (u : TdcChan) : State.ChanOnly d c s (s.setChan (48 * d + c) u) :=
  ⟨rfl, fun j hj => (s.setChan_chan _ j u).trans (if_neg hj), fun _ _ => rfl⟩

theorem State.chanOnly_modInput (s : State) (d c : Nat) (f : InputUnit → InputUnit) : State.ChanOnly d c s (s.modInput (24 * d + c) f) :=
  ⟨rfl, fun _ _ => rfl, fun j hj => (s.modInput_input _ j f).trans (if_neg hj)⟩

theorem State.edgeGlitch_only {d c : Nat} (hc : c < 24) (s : State) (u : TdcChan) (x : Nat) (accepted : Bool) :
    State.ChanOnly d c s (s.edgeGlitch (24 * d + c) u x accepted) := by
  obtain ⟨s1, hcount, hmark⟩ := s.edgeGlitch_eq (24 * d + c) u x accepted
  have hs1 : State.ChanOnly d c s s1 := by
    obtain rfl | ⟨g, rfl⟩ := hcount
    · exact State.chanOnly_refl d c s1
    · exact s.chanOnly_modInput d c g
  obtain h | ⟨g, h⟩ := hmark <;> rw [h]
  · exact hs1
  · rw [chanOfInput_of_die hc]
    exact (hs1.trans (s1.chanOnly_modInput d c g)).trans (State.chanOnly_setChan _ d c _)

theorem State.edgeTake_only (s : State) (d c coarse a b x : Nat) : State.ChanOnly d c s (s.edgeTake d c coarse a b x) := by
  have hmet : State.ChanOnly d c s (s.edgeMet d c coarse a b x) := s.chanOnly_setChan d c _
  obtain ⟨hc, r, h⟩ | ⟨l, h⟩ := s.edgeTake_eq d c coarse a b x <;> rw [h]
  · exact hmet.trans (State.edgeGlitch_only hc _ _ x r)
  · exact hmet.trans ⟨rfl, fun _ _ => rfl, fun _ _ => rfl⟩

theorem State.edgeMeasure_only (s : State) (kept : Bool) (d c coarse a b : Nat) : State.ChanOnly d c s (s.edgeMeasure kept d c coarse a b) := by
  rw [State.edgeMeasure_eq]
  repeat' split
  · exact State.chanOnly_refl d c s
  · exact State.chanOnly_refl d c s
  · exact s.chanOnly_setChan d c _
  · exact s.edgeTake_only d c coarse a b _

theorem State.takeAhead_only {d c : Nat} (hc : c < 48) (s : State) : State.ChanOnly d c s (s.takeAhead (48 * d + c)) := by
  have hdie : (48 * d + c) / 48 = d := by omega
  have hchan : (48 * d + c) % 48 = c := by omega
  have hloop (q : List (Nat × Nat × Nat)) (t : State) (ht : State.ChanOnly d c s t) :
      State.ChanOnly d c s (q.foldl (fun t e => t.edgeMeasure true d c e.1 e.2.1 e.2.2) t) := by
    induction q generalizing t with
    | nil => exact ht
    | cons e q ih => exact ih _ (ht.trans (t.edgeMeasure_only true d c _ _ _))
  unfold State.takeAhead
  rw [hdie, hchan]
  dsimp only
  split
  · exact State.chanOnly_refl d c s
  · exact hloop _ _ (s.chanOnly_setChan d c _)

theorem State.coreSwap_only {s t : State} {d c : Nat} {pulses : Int} (h : exec (.coreSwap d c pulses) s = .next t) :
    ∃ u, t = u.after ∧ State.ChanOnly d c s u := by
  refine ⟨_, fin_next h, ?_⟩
  split
  next hready =>
    have hc : c < 48 := by
      simp only [Bool.and_eq_true, decide_eq_true_eq] at hready
      obtain ⟨⟨⟨hc, -⟩, -⟩, -⟩ := hready
      exact hc
    exact (s.chanOnly_setChan d c _).trans (State.takeAhead_only hc _)
  next => exact State.chanOnly_refl d c s

/-! ## The obligation -/

/-- Settles O56: the operation of each row writes the unit that it names, and a swap what its channel serves. -/
theorem unitEventsFrame : Obligations.UnitEventsFrame := by
  unfold Obligations.UnitEventsFrame
  intro s t i n h
  refine ⟨fun hi => ?inputs, fun hi => ?dplls, fun hi => ?oscs, fun hi => ?oplls, fun hi => ?tds, fun d c x hi => ?chans⟩
  case inputs =>
    simp only [List.mem_cons, List.not_mem_nil, or_false] at hi
    rcases hi with rfl | rfl | rfl | rfl | rfl | rfl <;> exact ⟨_, fin_next h, (s.setInput_only n _).ite _⟩
  case dplls =>
    simp only [List.mem_cons, List.not_mem_nil, or_false] at hi
    rcases hi with (rfl | rfl | rfl | rfl | rfl | rfl | rfl) | ⟨k, rfl⟩
    -- HOLDOFF_EXPIRE
    · exact ⟨_, fin_next h, (s.setDpll_only n _).ite _⟩
    -- SWITCH_EXECUTE
    · exact ⟨_, fin_next h, (((s.setDpll_only n _).trans (State.setOpen_only _ n _)).trans (State.setDpll_only _ n _)).ite _⟩
    -- MIRROR_LEADER_LOST
    · exact ⟨_, fin_next h, (s.setOpen_only n _).ite _⟩
    -- FB_FAULT_TIMEOUT
    · exact ⟨_, fin_next h, (s.setOpen_only n _).ite _⟩
    -- FREERUN_WORD_REFRESH, HOLDOVER_WORD_REFRESH, HISTORY_SAMPLE, STREAM_TIMEOUT
    all_goals exact ⟨_, fin_next h, (s.setDpll_only n _).ite _⟩
  case oscs =>
    obtain ⟨x, rfl⟩ | ⟨x, rfl⟩ := hi
    · exact s.portMeterSample_only n x h
    · refine ⟨_, fin_next h, ?_⟩
      split
      · exact s.meterOnly_setOsc n _
      · exact s.meterOnly_refl n
  case oplls =>
    simp only [List.mem_cons, List.not_mem_nil, or_false] at hi
    rcases hi with rfl | rfl <;> exact ⟨_, fin_next h, (s.setOpll_only n _).ite _⟩
  case tds =>
    have hstart : State.TdOnly n s (s.todMessage n) := by
      obtain hm | ⟨v, hm, htime⟩ := s.todMessage_eq n <;> rw [hm]
      · exact s.tdOnly_refl n
      · exact State.tdOnly_setTd htime
    have hexpire : State.TdOnly n s (s.modTd n fun u => u.holdExpire s.tb.k) := State.tdOnly_setTd ((s.td n).holdExpire_time s.tb.k)
    simp only [List.mem_cons, List.not_mem_nil, or_false] at hi
    rcases hi with rfl | rfl <;> refine ⟨_, fin_next h, ?_⟩ <;> split
    · exact hstart
    · exact s.tdOnly_refl n
    · exact hexpire
    · exact s.tdOnly_refl n
  case chans =>
    subst hi
    exact State.coreSwap_only h

end Sys2Proof.Machine
end

section
/-! SUPPORT. The frame of the Unest commands (R73, R84, R155, R165, R166, R287, R296, R327, R380, R401, R437, R496). -/

namespace Sys2Proof.Machine
open Sys2Proof

/-! ## What the answer to a command changes (R401, R435, R451, R457, R477) -/

/-- State `t` is `s` but for what the answer to a command of channel `c` changes: the channel, the read-only mask and the note of the session
on the host side, and the parity marks of the words written. -/
def State.Answers (c : Nat) (s t : State) : Prop :=
  t = { s with host := t.host, xs := t.xs } ∧ (∀ j, (t.dx j).nv = (s.dx j).nv) ∧ (∀ j, j ≠ c → t.mbx j = s.mbx j) ∧
    t.host.rings = s.host.rings ∧ t.host.boot = s.host.boot ∧ t.host.route = s.host.route

/-- Two changes of the host side and of the parity marks are one. -/
theorem State.side_trans {s t r : State} (hst : t = { s with host := t.host, xs := t.xs }) (htr : r = { t with host := r.host, xs := r.xs }) :
    r = { s with host := r.host, xs := r.xs } :=
  htr.trans (congrArg (fun x : State => { x with host := r.host, xs := r.xs }) hst)

theorem State.answers_refl (c : Nat) (s : State) : State.Answers c s s := ⟨rfl, fun _ => rfl, fun _ _ => rfl, rfl, rfl, rfl⟩

theorem State.Answers.trans {c : Nat} {s t r : State} (hst : State.Answers c s t) (htr : State.Answers c t r) : State.Answers c s r := by
  obtain ⟨hst, hnv, hmbx, hrings, hboot, hroute⟩ := hst
  obtain ⟨htr, hnv', hmbx', hrings', hboot', hroute'⟩ := htr
  exact ⟨State.side_trans hst htr, fun j => (hnv' j).trans (hnv j),
    fun j hj => (hmbx' j hj).trans (hmbx j hj), hrings'.trans hrings, hboot'.trans hboot, hroute'.trans hroute⟩

theorem State.answers_modMbx (c : Nat) (s : State) (f : Mbx → Mbx) : State.Answers c s (s.modMbx c f) :=
  ⟨rfl, fun _ => rfl, fun j hj => (s.modMbx_mbx c j f).trans (if_neg hj), rfl, rfl, rfl⟩

theorem State.answers_posted (c : Nat) (s : State) : State.Answers c s (s.posted c) := by
  rw [State.posted_eq]
  exact State.Answers.trans ⟨rfl, fun _ => rfl, fun _ _ => rfl, rfl, rfl, rfl⟩ (State.answers_modMbx c _ _)

theorem State.answers_respond (c : Nat) (s : State) (ret op seq : Nat) (b : List Byte) : State.Answers c s (s.respond c ret op seq b) := by
  unfold State.respond
  dsimp only
  split
  · exact s.answers_modMbx c _
  · exact (s.answers_modMbx c _).trans (State.answers_posted c _)

theorem State.answers_blame (c : Nat) (s : State) (op : Nat) (p : List Byte) : State.Answers c s (s.blame c op p) := by
  unfold State.blame
  dsimp only
  split
  · exact s.answers_refl c
  · exact ⟨rfl, fun _ => rfl, fun _ _ => rfl, rfl, rfl, rfl⟩

theorem State.answers_fixCmd (c : Nat) (s : State) (op : Nat) (p : List Byte) : State.Answers c s (s.fixCmd op p) := by
  unfold State.fixCmd
  dsimp only
  split
  · refine ⟨rfl, fun j => ?_, fun _ _ => rfl, rfl, rfl, rfl⟩
    rw [State.modDx_dx]
    split
    next hj => rw [hj]
    next => rfl
  · exact s.answers_refl c

theorem policed_s (ro : Bool) (op : Nat) (s : State) (r : Reply) : (policed ro op s r).s = s ∨ (policed ro op s r).s = r.s :=
  (ite_eq_or_eq _ _ _).imp (congrArg Reply.s) (congrArg Reply.s)

/-- The message of a channel is answered from the state that its command's body leaves, or the command has changed nothing (R437). -/
theorem State.runCmd_answers {s : State} {c : Nat} {m : Msg} (hm : (s.mbx c).msg = some m) (op : Nat) (body : Nat → List Byte → State → Reply) :
    State.Answers c s (s.runCmd c op body) ∨ State.Answers c (body c m.payload s).s (s.runCmd c op body) := by
  unfold State.runCmd
  rw [hm]
  dsimp only
  split
  swap
  · exact .inl (s.answers_refl c)
  have hpol := policed_s m.ro op s (body c m.payload s)
  generalize policed m.ro op s (body c m.payload s) = r at hpol ⊢
  have hnote : State.Answers c r.s (if r.ret = retOK then (r.s.blame c op m.payload).fixCmd op m.payload
      else if op = 0x0C03 ∧ r.bytes ≠ [] then r.s.blame c op m.payload else r.s) := by
    split
    · exact (State.answers_blame c _ op _).trans (State.answers_fixCmd c _ op _)
    split
    · exact State.answers_blame c _ op _
    · exact State.answers_refl c _
  generalize (if r.ret = retOK then _ else _ : State) = noted at hnote ⊢
  have hend : State.Answers c r.s (if r.wait then noted.modMbx c fun x => { x with msg := some { m with held := true } }
      else (noted.modMbx c fun x => { x with msg := none }).respond c r.ret op m.seq r.bytes) := by
    split
    · exact hnote.trans (noted.answers_modMbx c _)
    · exact (hnote.trans (noted.answers_modMbx c _)).trans (State.answers_respond c _ _ _ _ _)
  obtain h | h := hpol <;> rw [h] at hend
  · exact .inl hend
  · exact .inr hend

/-! ## A body behind its checks (R437) -/

theorem guarded_s (s : State) (l : List (Bool × Nat)) (r : Reply) : (guarded s l r).s = s ∨ (guarded s l r).s = r.s := by
  unfold guarded
  split
  · exact .inl rfl
  · exact .inr rfl

/-- Checks leave what the effect behind them leaves. -/
theorem guarded_view {β : Type} (g : State → β) {s : State} {l : List (Bool × Nat)} {r : Reply} (h : g r.s = g s) : g (guarded s l r).s = g s := by
  obtain hs | hs := guarded_s s l r <;> rw [hs]
  exact h

/-- A command's checks, and then no effect. -/
theorem guarded_same {s : State} {l : List (Bool × Nat)} {b : List Byte} : (guarded s l (okWith b s)).s = s := guarded_view id rfl

theorem UnitKind.guarded_only {α : Type} {K : UnitKind α} {n : Nat} {s : State} {l : List (Bool × Nat)} {r : Reply} (h : K.Only n s r.s) :
    K.Only n s (guarded s l r).s := by
  obtain hs | hs := guarded_s s l r <;> rw [hs]
  · exact K.only_refl n s
  · exact h

/-! ## What a command leaves -/

/-- A command that only reads. -/
theorem State.runCmd_reads {s : State} {c op : Nat} {m : Msg} {body : Nat → List Byte → State → Reply} (hm : (s.mbx c).msg = some m)
    (hb : (body c m.payload s).s = s) : State.Answers c s (s.runCmd c op body) := by
  have hans := State.runCmd_answers hm op body
  rwa [hb, or_self] at hans

namespace UnitKind
variable {α : Type} {K : UnitKind α}

theorem table_side (s : State) (h : HostSide) (x : Tbl DieX) : K.table { s with host := h, xs := x } = K.table s := by
  have hput := K.put_side s (K.table s) h x
  rw [K.put_table] at hput
  rw [← hput, K.table_put]

/-- State `t` is `s` but for unit `n` of the kind, the host side and the parity marks. -/
def CommandOnly (K : UnitKind α) (n : Nat) (s t : State) : Prop :=
  t = { K.put s (K.table t) with host := t.host, xs := t.xs } ∧ ∀ j, j ≠ n → K.unit t j = K.unit s j

theorem Only.answered {n c : Nat} {s r t : State} (h : K.Only n s r) (ha : State.Answers c r t) : K.CommandOnly n s t := by
  obtain ⟨hr, hunit⟩ := h
  obtain ⟨ht, -⟩ := ha
  have htable : K.table t = K.table r := by rw [ht, table_side]
  refine ⟨?_, fun j hj => Eq.trans ?_ (hunit j hj)⟩
  · rw [htable]
    exact ht.trans (congrArg (fun x : State => { x with host := t.host, xs := t.xs }) hr)
  · unfold unit
    rw [htable]

/-- A command whose body writes unit `n` of a kind alone. -/
theorem runCmd_only {s : State} {c op n : Nat} {m : Msg} {body : Nat → List Byte → State → Reply} (hm : (s.mbx c).msg = some m)
    (hb : K.Only n s (body c m.payload s).s) : K.CommandOnly n s (s.runCmd c op body) :=
  (State.runCmd_answers hm op body).elim (K.only_refl n s).answered hb.answered

/-- What a write of unit `n`, behind a command's checks, leaves of that unit, the command leaves. -/
theorem runCmd_unit [DecidableEq α] (K : UnitKind α) {β : Type} (f : α → β) {s : State} {c op n : Nat} {m : Msg}
    {body : Nat → List Byte → State → Reply} {l : List (Bool × Nat)} {u : α} (hm : (s.mbx c).msg = some m)
    (hbody : body c m.payload s = guarded s l (okReply (K.put s (tset K.unlisted (K.table s) n u)))) (hu : f u = f (K.unit s n)) :
    f (K.unit (s.runCmd c op body) n) = f (K.unit s n) := by
  have hput : f (K.unit (K.put s (tset K.unlisted (K.table s) n u)) n) = f (K.unit s n) := by
    rw [← hu]
    unfold unit
    rw [K.table_put, tget_tset, if_pos rfl]
  have hside (x : State) (h : HostSide) (y : Tbl DieX) : K.unit { x with host := h, xs := y } n = K.unit x n :=
    congrArg (fun t => tget K.unlisted t n) (table_side x h y)
  obtain ⟨hs, -⟩ | ⟨hs, -⟩ := State.runCmd_answers hm op body <;> rw [hs, hside]
  rw [hbody]
  exact guarded_view (fun x => f (K.unit x n)) hput

end UnitKind

/-! ## The obligation -/

/-- What the loop of a DPLL has come to: its state, STEER and PHERR. -/
def DpllUnit.loopView (u : DpllUnit) : DpllSt × Int × Rat := (u.state, u.steer, u.pherr)

/-- The time of a domain. -/
def TdUnit.timeView (u : TdUnit) : Nat × Nat := (u.sec, u.sub)

/-- IRQ_ROUTE writes the route of one source (R496). -/
theorem irqRouteReply_only (c : Nat) (p : List Byte) (s : State) :
    (irqRouteReply c p s).s = { s with host := (irqRouteReply c p s).s.host, xs := (irqRouteReply c p s).s.xs } ∧
      ∀ j, j ≠ uAt p 0 2 → tget 0x100 (irqRouteReply c p s).s.host.route j = tget 0x100 s.host.route j := by
  unfold irqRouteReply
  dsimp only
  generalize ([_, _, _] : List (Bool × Nat)) = checks
  obtain h | h := guarded_s s checks _ <;> rw [h]
  · exact ⟨rfl, fun _ _ => rfl⟩
  · exact ⟨rfl, fun j hj => (tget_tset _ _ _ _ _).trans (if_neg hj)⟩

/-- Settles O55: the body of each command writes the unit that it names, behind its checks, or nothing; the answer adds what `State.Answers`
says. -/
theorem unitCommandsFrame : Obligations.UnitCommandsFrame := by
  unfold Obligations.UnitCommandsFrame
  intro s t c m i hm h n
  refine ⟨fun hi => ?reads, fun hi => ?inputs, fun hi => ?dplls, fun hi => ?loops, fun hi => ?tds, fun hi => ?oplls, fun hi => ?stitches,
    fun hi => ?route⟩
  case reads =>
    suffices hans : ∃ u, t = u.after ∧ State.Answers c s u by
      obtain ⟨u, ht, hu, hnv, hmbx, hrings, hboot, -⟩ := hans
      exact ⟨u, ht, hu, hnv, hmbx, hrings, hboot⟩
    simp only [List.mem_cons, List.not_mem_nil, or_false] at hi
    rcases hi with rfl | rfl | rfl | rfl | rfl | rfl | rfl | rfl | rfl | rfl | rfl | rfl | rfl | rfl | rfl | rfl | rfl | rfl | rfl | rfl | rfl
    -- NOP, GET_CAPS and GET_VERSION have no checks of their own
    · exact ⟨_, fin_next h, State.runCmd_reads hm rfl⟩
    · exact ⟨_, fin_next h, State.runCmd_reads hm rfl⟩
    · exact ⟨_, fin_next h, State.runCmd_reads hm rfl⟩
    all_goals exact ⟨_, fin_next h, State.runCmd_reads hm guarded_same⟩
  case inputs =>
    simp only [List.mem_cons, List.not_mem_nil, or_false] at hi
    rcases hi with rfl | rfl | rfl <;>
      exact ⟨_, fin_next h, UnitKind.inputs.runCmd_only hm (UnitKind.guarded_only (s.setInput_only n _))⟩
  case dplls =>
    simp only [List.mem_cons, List.not_mem_nil, or_false] at hi
    rcases hi with rfl | rfl | rfl | rfl | rfl | rfl | rfl <;>
      exact ⟨_, fin_next h, UnitKind.dplls.runCmd_only hm (UnitKind.guarded_only (s.setDpll_only n _))⟩
  case loops =>
    suffices hview : (t.dpll n).loopView = (s.dpll n).loopView by
      obtain ⟨hstate, hrest⟩ := Prod.ext_iff.mp hview
      exact ⟨hstate, Prod.ext_iff.mp hrest⟩
    simp only [List.mem_cons, List.not_mem_nil, or_false] at hi
    rcases hi with rfl | rfl | rfl | rfl | rfl <;> rw [fin_next h, State.after_dpll_same] <;>
      exact UnitKind.dplls.runCmd_unit DpllUnit.loopView hm rfl rfl
  case tds =>
    suffices hans : ∃ u, t = u.after ∧ UnitKind.tds.CommandOnly n s u ∧ (u.td n).timeView = (s.td n).timeView by
      obtain ⟨u, ht, ⟨hu, hunit⟩, htime⟩ := hans
      exact ⟨u, ht, hu, hunit, Prod.ext_iff.mp htime⟩
    simp only [List.mem_cons, List.not_mem_nil, or_false] at hi
    rcases hi with rfl | rfl | rfl <;>
      exact ⟨_, fin_next h, UnitKind.tds.runCmd_only hm (UnitKind.guarded_only (s.setTd_only n _)),
        UnitKind.tds.runCmd_unit TdUnit.timeView hm rfl rfl⟩
  case oplls =>
    subst hi
    exact ⟨_, fin_next h, UnitKind.oplls.runCmd_only hm (UnitKind.guarded_only (s.setOpll_only n _))⟩
  case stitches =>
    subst hi
    obtain ⟨hu, hunit⟩ := UnitKind.stitches.runCmd_only (op := 0x0901) (body := stitchLoadReply) hm (UnitKind.guarded_only (s.setStitch_only n _))
    exact ⟨_, fin_next h, hu, hunit, UnitKind.stitches.runCmd_unit Stitch.prog hm rfl rfl⟩
  case route =>
    subst hi
    refine ⟨_, fin_next h, ?_⟩
    obtain ⟨hbody, hroute⟩ := irqRouteReply_only c m.payload s
    obtain ⟨hu, -, -, -, -, heq⟩ | ⟨hu, -, -, -, -, heq⟩ := State.runCmd_answers hm 0x0B03 irqRouteReply
    · exact ⟨hu, fun j _ => congrArg (fun l => tget 0x100 l j) heq⟩
    · exact ⟨State.side_trans hbody hu, fun j hj => (congrArg (fun l => tget 0x100 l j) heq).trans (hroute j hj)⟩

end Sys2Proof.Machine
end

section
/-! SUPPORT. Writes of the semaphores, IRQ_VEC_ACK, the ring pointers and TDC_CAL_CTRL that reach their register (R120, R478, R480, R482,
R485). -/

namespace Sys2Proof.Machine
open Sys2Proof

/-! ## A write on its way to a register (R471) -/

/-- A secure path violates no range. -/
theorem State.violates_secure {s : State} {p : Path} (h : s.secureBy p = true) (d off : Nat) (b : Bool) : s.violates p d off b = false := by
  simp [State.violates, h]

/-- Above mailbox channels 0 to 3 no offset is in a secure range. -/
theorem State.violates_above {s : State} {p : Path} {d off : Nat} (h : 0x82000 ≤ off) (b : Bool) : s.violates p d off b = false := by
  have h1 : ¬ off < 0x82000 := by omega
  have h2 : off ≠ 0x318 := by omega
  have h3 : off ≠ 0x900 := by omega
  have h4 : off ≠ 0x904 := by omega
  simp [State.violates, State.secRange, h1, h2, h3, h4]

/-- From 0x10000 on every write but ABORT_REQ's goes by its offset to a unit's registers, and its word's parity follows (R477). -/
theorem State.writeBase_high {s : State} {d off : Nat} (hd : s.fitted d = true) (h : 0x10000 ≤ off) (ha : off ≠ 0x84000) (p : Path) (w : Word) :
    s.writeBase p d off w = (s.writeHigh ((portIdx p).getD 0) d off w (decide (p = .stitch))).fixPar d off := by
  have h1 : ¬ off < 0x900 := by omega
  have h2 : off ≠ 0x900 := by omega
  have h3 : off ≠ 0x904 := by omega
  have h4 : off ≠ 0x510 := by omega
  have h5 : ¬ off < 0x10000 := by omega
  unfold State.writeBase State.wrReg
  simp [hd, h1, h2, h3, h4, h5, ha]

/-- Writing 1 over the whole word clears the bits written. -/
theorem w1c_word (w v : Word) : w1c w v 0xFFFFFFFF = w &&& ~~~v := by
  have hall : v &&& 0xFFFFFFFF = v := BitVec.and_allOnes
  rw [w1c, hall]

/-- A write of IRQ_VEC_ACK clears the bits written 1, and their vectors whose OR is 1 send again (R482). -/
theorem State.writeVecAck_eq (s : State) (w : Word) :
    s.writeVecAck w = s.modHost fun h => ({ h with vecAck := h.vecAck &&& ~~~w } : HostSide).sendVecs
      (if s.part.featX && s.host.msix then s.vecOrs &&& w.toNat else 0) := by
  simp only [State.writeVecAck, w1c_word]

/-- From 0xA0000 to 0xA0400 stand the registers of the rings, on a part with the letter X (R485, R493). -/
theorem State.writeHigh_ring {s : State} {off : Nat} (hx : s.part.featX = true) (hlo : 0xA0000 ≤ off) (hhi : off < 0xA0400) (port : Nat) (w : Word)
    (b : Bool) : s.writeHigh port 0 off w b = s.writeRing ((off - 0xA0000) / 0x40) (off % 0x40) w := by
  have habove (k : Nat) (hk : k ≤ 0xA0000) : ¬ off < k := by omega
  unfold State.writeHigh
  simp [habove, hx, hhi]

section Reached
variable {s : State} {p : Path} (hl : s.pathLive p = true)
include hl

/-! ## The semaphores (R478, R480) -/

/-- A write of SEM[n] over a live path. -/
theorem State.land_sem {n : Nat} (hn : n < 64) (w : Word) :
    s.land p 0 (0x800 + 4 * n) w = (s.semWrite (masterOf p) n w).fixPar 0 (0x800 + 4 * n) := by
  have hend : 0x800 + 4 * n < 0x900 := by omega
  have hword : (0x800 + 4 * n) % 4 = 0 := by omega
  have hidx : (0x800 + 4 * n - 0x800) / 4 = n := by omega
  rw [State.land_live hl s.fitted_zero (State.violates_false (by omega) (by omega) (by omega) (by omega) true)]
  unfold State.writeBase
  simp only [hend, hword, hidx, Nat.le_add_right, and_self, if_true]

/-- A write of half `r` of SEM_HELD over a live and secure path. -/
theorem State.land_semHeld (hs : s.secureBy p = true) {r : Nat} (hr : r < 2) (w : Word) :
    s.land p 0 (0x900 + 4 * r) w = (s.semHeldWrite r w).fixPar 0 (0x900 + 4 * r) := by
  rw [State.land_live hl s.fitted_zero (State.violates_secure hs _ _ true)]
  obtain rfl | rfl : r = 0 ∨ r = 1 := by omega
  · rfl
  · rfl

/-! ## The interrupts (R482) -/

/-- A write of IRQ_VEC_ACK over a live path. -/
theorem State.land_vecAck (w : Word) : s.land p 0 0x510 w = (s.writeVecAck w).fixPar 0 0x510 := by
  rw [State.land_live hl s.fitted_zero (State.violates_false (by decide) (by decide) (by decide) (by decide) true)]
  rfl

/-! ## The ring pointers (R485) -/

/-- A write of RD_PTR of ring `r` over a live path, on a part with the letter X. -/
theorem State.land_ringRd (hx : s.part.featX = true) {r : Nat} (hr : r < 16) (w : Word) :
    s.land p 0 (0xA0020 + 0x40 * r) w = (s.modRing r fun q => q.writeRd w 2).fixPar 0 (0xA0020 + 0x40 * r) := by
  have hreg : (0xA0020 + 0x40 * r) % 0x40 = 0x20 := by omega
  have hidx : (0xA0020 + 0x40 * r - 0xA0000) / 0x40 = r := by omega
  rw [State.land_live hl s.fitted_zero (State.violates_above (by omega) true), State.writeBase_high s.fitted_zero (by omega) (by omega),
    State.writeHigh_ring hx (by omega) (by omega), hreg, hidx]
  rfl

/-- A write of LOC_RD_PTR over a live path. -/
theorem State.land_locRd (w : Word) :
    s.land p 0 0xA0404 w = (s.modHost fun h => { h with loc := h.loc.writeRd w 2 }).fixPar 0 0xA0404 := by
  rw [State.land_live hl s.fitted_zero (State.violates_above (by decide) true), State.writeBase_high s.fitted_zero (by decide) (by decide)]
  rfl

/-! ## TDC_CAL_CTRL (R120) -/

/-- A write of TDC_CAL_CTRL of a fitted die over a live path. -/
theorem State.land_calCtrl {d : Nat} (hd : s.fitted d = true) (w : Word) : s.land p d 0x20800 w = (s.writeCal d 0 w).fixPar d 0x20800 := by
  rw [State.land_live hl hd (State.violates_false (by decide) (by decide) (by decide) (by decide) true),
    State.writeBase_high hd (by decide) (by decide)]
  rfl

end Reached

/-- The fields beside BG_EN that TDC_CAL_CTRL reads. -/
theorem State.calCtrl_fields (s : State) (d : Nat) :
    fld (s.calReg d 0) 8 5 = (s.die d).hitsLog2 % 32 ∧ fld (s.calReg d 0) 16 8 = (s.die d).seedSaveH % 256 := by
  have hword : s.calReg d 0 = putb 0 (s.die d).bgEn ||| put 8 5 (s.die d).hitsLog2 ||| put 16 8 (s.die d).seedSaveH := rfl
  rw [hword]
  constructor
  · refine fld_eq_mod _ 8 5 _ fun i hi => ?_
    have hbg : ¬ 0 = 8 + i := by omega
    have hseed : ¬ 16 ≤ 8 + i := by omega
    have hin : 8 + i < 32 := by omega
    simp [bit_putb, bit_put, hbg, hseed, hin, hi]
  · refine fld_eq_mod _ 16 8 _ fun i hi => ?_
    have hbg : ¬ 0 = 16 + i := by omega
    have hhits : ¬ 16 + i - 8 < 5 := by omega
    have hin : 16 + i < 32 := by omega
    simp [bit_putb, bit_put, hbg, hhits, hin, hi]

/-- A write of TDC_CAL_CTRL that changes BG_EN alone. -/
theorem State.writeCal_bgEn (s : State) (d : Nat) (b : Bool) :
    s.writeCal d 0 (withBit (s.calReg d 0) 0 b) =
      s.modDie d fun u => { u with bgEn := b, hitsLog2 := min 28 (max 22 (u.hitsLog2 % 32)), seedSaveH := u.seedSaveH % 256 } := by
  obtain ⟨hhits, hseed⟩ := s.calCtrl_fields d
  have hhits' : fld (withBit (s.calReg d 0) 0 b) 8 5 = (s.die d).hitsLog2 % 32 :=
    (fld_congr _ _ _ _ fun j hj => by rw [bit_withBit, if_neg (by omega)]).trans hhits
  have hseed' : fld (withBit (s.calReg d 0) 0 b) 16 8 = (s.die d).seedSaveH % 256 :=
    (fld_congr _ _ _ _ fun j hj => by rw [bit_withBit, if_neg (by omega)]).trans hseed
  simp only [State.writeCal, State.modDie, bit_withBit_same _ (Nat.zero_lt_succ 31), hhits', hseed']

/-! ## The rows -/

/-- SEM_READ_ACQUIRE over a port: the port takes what the read of SEM[n] returns. -/
theorem exec_semReadAcquire {s : State} {p : Path} (hl : s.pathLive p = true) {n i : Nat} (hn : n < 64) (hi : portIdx p = some i) :
    exec (.semReadAcquire p n) s = .next (((s.semRead (masterOf p) n).1.portRd i (s.semRead (masterOf p) n).2).after) := by
  change fin _ = _
  rw [if_pos ⟨hl, hn⟩, hi]
  rfl

/-- SEM_RELEASE is a write of 0 to SEM[n]. -/
theorem exec_semRelease {s : State} {p : Path} (hl : s.pathLive p = true) {n : Nat} (hn : n < 64) :
    exec (.semRelease p n) s = .next ((s.semWrite (masterOf p) n 0).written 0 (0x800 + 4 * n)) :=
  congrArg fin ((if_pos hn).trans (State.land_sem hl hn 0))

/-- Settles O16: a live path carries each write to its register, and the register decides the rest. That another master's release of a
free semaphore sets SEM_VIOL_H too is the model's choice (log entry 52). -/
theorem semaphoreAndInterruptWritesComplete : Obligations.SemaphoreAndInterruptWritesComplete := by
  unfold Obligations.SemaphoreAndInterruptWritesComplete
  intro s p hl
  refine ⟨?acquired, ?taken, ?released, ?notOwner, ?held, ?vecAck, ?ring, ?localRing, ?bgEn⟩
  case acquired =>
    intro n i hn hi hfree
    have hread : s.semRead (masterOf p) n = (s.setSem n (masterOf p), 0) := if_pos hfree
    rw [exec_semReadAcquire hl hn hi, hread]
  case taken =>
    intro n i hn hi hheld
    have hread : s.semRead (masterOf p) n = (s, cw (s.semOwner n)) := if_neg hheld
    rw [exec_semReadAcquire hl hn hi, hread]
  case released =>
    intro n hn howner
    have hwrite : s.semWrite (masterOf p) n 0 = s.setSem n 0 := (if_pos howner).trans (if_pos rfl)
    rw [exec_semRelease hl hn, hwrite]
  case notOwner =>
    intro n hn hother
    have hwrite : s.semWrite (masterOf p) n 0 = s.modHost fun h => { h with hpStat := setb h.hpStat 2 } := if_neg hother
    rw [exec_semRelease hl hn, hwrite]
  case held =>
    intro r w hr hs
    exact congrArg fin ((if_pos hr).trans (State.land_semHeld hl hs hr w))
  case vecAck =>
    intro w
    exact congrArg fin ((State.land_vecAck hl w).trans (congrArg (State.fixPar · 0 0x510) (s.writeVecAck_eq w)))
  case ring =>
    intro r w hr hx
    exact congrArg fin ((if_pos hr).trans (State.land_ringRd hl hx hr w))
  case localRing =>
    intro w
    have hring : ¬ 0xFF < 16 := by decide
    exact congrArg fin ((if_neg hring).trans ((if_pos rfl).trans (State.land_locRd hl w)))
  case bgEn =>
    intro d b hd
    rw [← State.writeCal_bgEn]
    exact congrArg fin (State.land_calCtrl hl hd _)

end Sys2Proof.Machine
end

section
/-! SUPPORT. Writes of DPLL_CTRL, SEL_RETBLK and SEL_HOOK_VERDICT that reach their register (R160, R168, R192, R201). -/

namespace Sys2Proof.Machine
open Sys2Proof

/-! ## The way to the register (R471) -/

/-- From 0x30000 to 0x30800 stand the registers of the DPLLs. -/
theorem State.writeHigh_dpll {off : Nat} (hlo : 0x30000 ≤ off) (hhi : off < 0x30800) (s : State) (port d : Nat) (w : Word) (b : Bool) :
    s.writeHigh port d off w b = s.writeDpll (8 * d + (off - 0x30000) / 0x100) (off % 0x100) w := by
  have habove (k : Nat) (hk : k ≤ 0x30000) : ¬ off < k := by omega
  unfold State.writeHigh
  simp [habove, hhi]

/-- A write of register `r` of a DPLL the part has, over a live path. -/
theorem State.landDpll_live {s : State} {p : Path} {n r : Nat} (hl : s.pathLive p = true) (hn : s.hasDpll n = true) (hr : r < 0x100) (w : Word) :
    s.landDpll p n r w = (s.writeDpll n r w).fixPar (dieOfDpll n) (offDpll n + r) := by
  have hrange : 0x30000 ≤ offDpll n + r ∧ offDpll n + r < 0x30800 := by unfold offDpll; omega
  obtain ⟨hlo, hhi⟩ := hrange
  have hidx : 8 * dieOfDpll n + (offDpll n + r - 0x30000) / 0x100 = n := by unfold offDpll dieOfDpll; omega
  have hreg : (offDpll n + r) % 0x100 = r := by unfold offDpll; omega
  unfold State.landDpll
  rw [if_pos hn, State.land_live hl hn (State.violates_false (by omega) (by omega) (by omega) (by omega) true),
    State.writeBase_high hn (by omega) (by omega), State.writeHigh_dpll hlo hhi, hidx, hreg]

/-! ## DPLL_CTRL (R160, R168) -/

/-- The fields that DPLL_CTRL reads. -/
theorem DpllUnit.ctrl_fields (u : DpllUnit) : bit u.ctrl 0 = u.enable ∧ fld u.ctrl 1 2 = u.force % 4 ∧ bit u.ctrl 3 = u.glitchUse := by
  refine ⟨?_, fld_eq_mod _ 1 2 _ fun i hi => ?_, ?_⟩ <;> unfold DpllUnit.ctrl
  · simp [bit_putb, bit_put]
  · have henable : ¬ 0 = 1 + i := by omega
    have hglitch : ¬ 3 = 1 + i := by omega
    have hin : 1 + i < 32 := by omega
    simp [bit_putb, bit_put, henable, hglitch, hin, hi]
  · simp [bit_putb, bit_put]

/-- A write of DPLL_CTRL that changes ENABLE alone: FORCE acts again as it stands. -/
theorem DpllUnit.writeCtrl_enable (u : DpllUnit) (k : Nat) (b : Bool) (fw : Int) (fb : Bool) :
    u.writeCtrl k (withBit u.ctrl 0 b) fw fb =
      { (if b then u.turnOn k fw fb else u.turnOff k).writeForce k (u.force % 4) with glitchUse := u.glitchUse } := by
  obtain ⟨-, hforce, hglitch⟩ := u.ctrl_fields
  have hforce' : fld (withBit u.ctrl 0 b) 1 2 = u.force % 4 :=
    (fld_congr _ _ _ _ fun j _ => by rw [bit_withBit, if_neg (by omega)]).trans hforce
  have hglitch' : bit (withBit u.ctrl 0 b) 3 = u.glitchUse := by rw [bit_withBit, if_neg (by decide), hglitch]
  unfold DpllUnit.writeCtrl
  rw [bit_withBit_same _ (by decide), hforce', hglitch']

/-- ENABLE written with its own value: an enabled DPLL stays as it is, a disabled one leaves FROZEN and PARITY_HOLD (R160). -/
def DpllUnit.enableKept (u : DpllUnit) : DpllUnit := if u.enable = true then u else { u with frozen := false, parityHold := false }

theorem DpllUnit.enable_again (u : DpllUnit) (k : Nat) (fw : Int) (fb : Bool) :
    (if u.enable then u.turnOn k fw fb else u.turnOff k) = u.enableKept := by
  unfold DpllUnit.turnOn DpllUnit.turnOff DpllUnit.enableKept
  cases h : u.enable <;> simp

/-- A write of DPLL_CTRL that changes FORCE alone. -/
theorem DpllUnit.writeCtrl_force (u : DpllUnit) (k f : Nat) (fw : Int) (fb : Bool) :
    u.writeCtrl k (withFld u.ctrl 1 2 f) fw fb = { u.enableKept.writeForce k (f % 4) with glitchUse := u.glitchUse } := by
  obtain ⟨hen, -, hglitch⟩ := u.ctrl_fields
  have hen' : bit (withFld u.ctrl 1 2 f) 0 = u.enable := by rw [bit_withFld _ _ _ _ _ (by decide), if_neg (by decide), hen]
  have hglitch' : bit (withFld u.ctrl 1 2 f) 3 = u.glitchUse := by rw [bit_withFld _ _ _ _ _ (by decide), if_neg (by decide), hglitch]
  have hforce : fld (withFld u.ctrl 1 2 f) 1 2 = f % 4 := fld_eq_mod _ 1 2 _ fun i hi => by
    rw [bit_withFld _ _ _ _ _ (by decide), if_pos (by omega), Nat.add_sub_cancel_left]
  unfold DpllUnit.writeCtrl
  rw [hen', hforce, hglitch', DpllUnit.enable_again]

/-- A write of DPLL_CTRL starts the feedback channel anew where it carries 1 for the ENABLE of a disabled DPLL. -/
theorem State.writeDpll_ctrl (s : State) (n : Nat) (w : Word) :
    s.writeDpll n 0 w =
      (if bit w 0 && !(s.dpll n).enable then s.modChan (chanOfFb n) TdcChan.newEnable else s).modDpll n
        fun u => u.writeCtrl s.tb.k w (s.freeWordOf n).1 (s.freeWordOf n).2 := rfl

/-- What a DPLL's update leaves hangs on its function's value at the unit alone. -/
theorem State.modDpll_congr {s : State} {n : Nat} {f g : DpllUnit → DpllUnit} (h : f (s.dpll n) = g (s.dpll n)) : s.modDpll n f = s.modDpll n g :=
  congrArg (s.setDpll n) h

/-- A write of DPLL_CTRL that changes ENABLE: where it turns the DPLL on, the feedback channel starts anew. -/
theorem State.writeDpll_enable (s : State) (n : Nat) (b : Bool) :
    s.writeDpll n 0 (withBit (s.dpll n).ctrl 0 b) =
      (if b && !(s.dpll n).enable then s.modChan (chanOfFb n) TdcChan.newEnable else s).modDpll n fun u =>
        { (if b then u.turnOn s.tb.k (s.freeWordOf n).1 (s.freeWordOf n).2 else u.turnOff s.tb.k).writeForce s.tb.k (u.force % 4) with
          glitchUse := u.glitchUse } := by
  rw [State.writeDpll_ctrl, bit_withBit_same _ (by decide)]
  refine State.modDpll_congr ?_
  have hunit : (if b && !(s.dpll n).enable then s.modChan (chanOfFb n) TdcChan.newEnable else s).dpll n = s.dpll n := by split <;> rfl
  rw [hunit]
  exact (s.dpll n).writeCtrl_enable _ _ _ _

/-- A write of DPLL_CTRL that changes FORCE touches the unit alone. -/
theorem State.writeDpll_force (s : State) (n f : Nat) :
    s.writeDpll n 0 (withFld (s.dpll n).ctrl 1 2 f) =
      s.modDpll n fun u => { u.enableKept.writeForce s.tb.k (f % 4) with glitchUse := u.glitchUse } := by
  have hen : bit (withFld (s.dpll n).ctrl 1 2 f) 0 = (s.dpll n).enable := by
    rw [bit_withFld _ _ _ _ _ (by decide), if_neg (by decide), (s.dpll n).ctrl_fields.1]
  rw [State.writeDpll_ctrl, hen, Bool.and_not_self, if_neg Bool.false_ne_true]
  exact State.modDpll_congr ((s.dpll n).writeCtrl_force _ _ _ _)

/-- Settles O13: a live path carries each write to its register of the DPLL, and the fields of the word that it writes decide the rest. -/
theorem dpllWritesComplete : Obligations.DpllWritesComplete := by
  unfold Obligations.DpllWritesComplete
  intro s p n hl hn
  have hland (r : Nat) (hr : r < 0x100) (w : Word) :
      fin (s.landDpll p n r w) = .next ((s.writeDpll n r w).written (dieOfDpll n) (offDpll n + r)) :=
    congrArg fin (State.landDpll_live hl hn hr w)
  refine ⟨(hland 0 (by decide) _).trans ?enable, (hland 0 (by decide) _).trans ?disable, (hland 0 (by decide) _).trans ?freerun,
    (hland 0 (by decide) _).trans ?holdover, (hland 0 (by decide) _).trans ?automatic,
    fun w => hland 0x98 (by decide) w, fun w => hland 0x9C (by decide) w⟩
  case enable =>
    rw [s.writeDpll_enable n true]
    simp only [Bool.true_and, Bool.not_eq_true', if_true]
    rfl
  case disable =>
    rw [s.writeDpll_enable n false]
    rfl
  case freerun =>
    rw [s.writeDpll_force n 1]
    rfl
  case holdover =>
    rw [s.writeDpll_force n 2]
    rfl
  case automatic =>
    rw [s.writeDpll_force n 0]
    rfl

end Sys2Proof.Machine
end

section
/-! SUPPORT. The commands of the DPLLs (R155, R165, R166, R175, R176, R179, R180, R182, R212, R213, R251, R252). -/

namespace Sys2Proof.Machine
open Sys2Proof

/-! ## The checks the commands share (R181) -/

section
variable {s : State} {n : Nat} (hn : n < 64) (hd : s.dieUp (dieOfDpll n) = true)
include hn hd

/-- A DPLL of a die that is up is present, and passes the checks that name it. -/
theorem firstErr_dpllChecks (l : List (Bool × Nat)) :
    firstErr (dpllChecks s n ++ l) = firstErr l ∧ firstErr ((dpllChecks s n).take 2 ++ l) = firstErr l := by
  have hfit : s.hasDpll n = true := (Bool.and_eq_true_iff.mp hd).1
  simp [dpllChecks, hfit, hd, Nat.not_le.mpr hn]

/-- A DPLL with a role passes the check of R181 too. -/
theorem firstErr_dpllOn (hrole : (s.dpll n).cfg.role ≠ 0) (l : List (Bool × Nat)) :
    firstErr ((dpllChecks s n).take 2 ++ roleOff s n :: l) = firstErr l := by
  rw [(firstErr_dpllChecks hn hd _).2]
  simp [roleOff, hrole]

/-- The checks of a command that names further units beside its DPLL: `a` says that one of them is absent (R212). -/
theorem firstErr_absentOr (hrole : (s.dpll n).cfg.role ≠ 0) {a : Bool} (ha : a = false) (l : List (Bool × Nat)) :
    firstErr ((decide (n < 64) && !s.hasDpll n || a, retAbsent) :: (decide (n < 64) && !s.dieUp (dieOfDpll n), retNotReady) :: roleOff s n :: l) =
      firstErr l := by
  rw [← firstErr_dpllOn hn hd hrole l, ha, Bool.or_false]
  rfl

end

/-! ## OPLLs of a configuration (R175) -/

/-- OPLLs that no other DPLL holds are free for this one. -/
theorem State.heldByOther_none {s : State} {n mask : Nat}
    (h : ∀ o < 4, mask.testBit o = true → ∀ k, s.holderOf (4 * dieOfDpll n + o) = some k → k = n) :
    ((List.range 4).any fun o => mask.testBit o && s.heldByOther n (4 * dieOfDpll n + o)) = false := by
  refine List.any_eq_false.mpr fun o ho => ?_
  intro hheld
  obtain ⟨hbit, hother⟩ := Bool.and_eq_true_iff.mp hheld
  unfold State.heldByOther at hother
  split at hother
  case h_1 k hk => exact of_decide_eq_true hother (h o (List.mem_range.mp ho) hbit k hk)
  case h_2 => exact Bool.false_ne_true hother

/-! ## HIST_TICK as it stands (R242, R251) -/

/-- Outside HOLDOVER, with HIST_TICK as it stands, no history is discarded. -/
theorem DpllUnit.setHoldover_sameTick {u : DpllUnit} {t : Nat} (hst : u.state ≠ .holdover) (ht : t = u.ho.tick) (b a g : Nat) :
    u.setHoldover b t a g =
      (let h : Hold := { u.ho with basis := b, avgS := a, guardS := g, late := false }
       { u with ho := if u.enable = true ∧ u.cfg.role = 1 then h else h.take }) := by
  subst ht
  unfold DpllUnit.setHoldover
  dsimp only
  rw [if_neg hst, if_pos rfl]

/-! ## What each command answers (R174 to R181, R212, R213, R251, R252) -/

section
variable {s : State} {p : List Byte} (hn : uAt p 0 2 < 64) (hd : s.dieUp (dieOfDpll (uAt p 0 2)) = true)
include hn hd

theorem dpllConfigReply_ok (hoff : (s.dpll (uAt p 0 2)).enable = false) (hbad : s.dpllCfgBad (uAt p 0 2) p = false)
    (hout : (dpllCfgOf p).opllMask ≠ 0 → (dpllCfgOf p).fbOutput < 128 → s.hasOut (dpllCfgOf p).fbOutput = true)
    (hlead : (dpllCfgOf p).role = 2 → s.dieUp (dieOfDpll (dpllCfgOf p).leader) = true)
    (hfree : ∀ o < 4, (dpllCfgOf p).opllMask.testBit o = true → ∀ k, s.holderOf (4 * dieOfDpll (uAt p 0 2) + o) = some k → k = uAt p 0 2) (c : Nat) :
    dpllConfigReply c p s = okReply (s.modDpll (uAt p 0 2) fun u => u.config (dpllCfgOf p) s.tb.k) := by
  have hfit : s.hasDpll (uAt p 0 2) = true := (Bool.and_eq_true_iff.mp hd).1
  have hleadFit : (dpllCfgOf p).role = 2 → s.hasDpll (dpllCfgOf p).leader = true := fun h => (Bool.and_eq_true_iff.mp (hlead h)).1
  have habsentOut : (decide ((dpllCfgOf p).opllMask ≠ 0) && decide ((dpllCfgOf p).fbOutput < 128) && !s.hasOut (dpllCfgOf p).fbOutput) = false := by
    simpa using hout
  have habsentLead : (decide ((dpllCfgOf p).role = 2) && decide ((dpllCfgOf p).leader < 64) && !s.hasDpll (dpllCfgOf p).leader) = false := by
    simpa using fun h _ => hleadFit h
  have hdownLead : (decide ((dpllCfgOf p).role = 2) && decide ((dpllCfgOf p).leader < 64) && !s.dieUp (dieOfDpll (dpllCfgOf p).leader)) = false := by
    simpa using fun h _ => hlead h
  refine guarded_pass s _ ?_
  rw [habsentOut, habsentLead, hdownLead, State.heldByOther_none hfree, hbad, hoff]
  simp [hfit, hd, Nat.not_le.mpr hn]

/-! ### The responses that no role bars (R177, R179) -/

theorem dpllGetLoopReply_ok (h1 : 1 ≤ uAt p 2 1) (h7 : uAt p 2 1 ≤ 7) (hr : uAt p 3 1 = 0) (c : Nat) :
    dpllGetLoopReply c p s = okWith (rowBytes (uAt p 0 2) (uAt p 2 1) ((s.dpll (uAt p 0 2)).rowAt (uAt p 2 1))) s := by
  refine guarded_pass s _ ?_
  rw [(firstErr_dpllChecks hn hd _).1]
  simp [rsv, hr, Nat.not_lt.mpr h7, Nat.ne_of_gt h1]

theorem dpllGetStatusReply_ok (hr : uAt p 2 2 = 0) (c : Nat) : dpllGetStatusReply c p s = okWith (s.dpllStatusBytes (uAt p 0 2)) s := by
  refine guarded_pass s _ ?_
  rw [(firstErr_dpllChecks hn hd _).1]
  simp [rsv, hr]

/-! ### Loop, steer and phase (R155, R165, R166, R176) -/

variable (hrole : (s.dpll (uAt p 0 2)).cfg.role ≠ 0)
include hrole

theorem dpllSetLoopReply_ok (hbad : rowBad p = false) (c : Nat) :
    dpllSetLoopReply c p s = okReply (s.modDpll (uAt p 0 2) fun u => { u with rowPend := u.rowPend ++ [(uAt p 2 1, rowOf p)] }) := by
  refine guarded_pass s _ ((firstErr_dpllOn hn hd hrole _).trans ?_)
  simp [hbad, Nat.not_le.mpr hn]

theorem dpllSetSteerReply_ok (hr : uAt p 2 6 = 0) (hmag : (sAt p 8 8).natAbs ≤ 204800000000) (c : Nat) :
    dpllSetSteerReply c p s = okReply (s.modDpll (uAt p 0 2) fun u => { u with hostSteer := sAt p 8 8 }) := by
  refine guarded_pass s _ ((firstErr_dpllOn hn hd hrole _).trans ?_)
  simp [rsv, hr, Nat.not_le.mpr hn, Nat.not_lt.mpr hmag]

theorem dpllPhaseAdjustReply_ok (hr : uAt p 2 6 = 0) (hmag : (sAt p 8 8).natAbs ≤ 65536000000)
    (hres : ratAbs ((s.dpll (uAt p 0 2)).res - (sAt p 8 8 : Rat)) ≤ 65536000000) (c : Nat) :
    dpllPhaseAdjustReply c p s = okReply (s.modDpll (uAt p 0 2) fun u => { u with adjust := some (u.adjust.getD 0 + sAt p 8 8) }) := by
  refine guarded_pass s _ ((firstErr_dpllOn hn hd hrole _).trans ?_)
  simp [rsv, hr, Nat.not_le.mpr hn, Nat.not_lt.mpr hmag, not_lt.mpr hres]

/-! ### Selection (R180, R212, R213) -/

theorem dpllGetCandidatesReply_ok (h1 : 1 ≤ uAt p 3 1) (h8 : uAt p 3 1 ≤ 8) (hst : uAt p 2 1 ≤ (s.dpll (uAt p 0 2)).sel.cands.length) (c : Nat) :
    let e := ((s.dpll (uAt p 0 2)).sel.cands.drop (uAt p 2 1)).take (uAt p 3 1)
    dpllGetCandidatesReply c p s = okWith (leBytes 2 (uAt p 0 2) ++ leBytes 1 (uAt p 2 1) ++ leBytes 1 e.length ++
      leBytes 1 (s.dpll (uAt p 0 2)).sel.cands.length ++ zeros 3 ++ e.flatMap (s.candBytes (uAt p 0 2))) s := by
  refine guarded_pass s _ ((firstErr_dpllOn hn hd hrole _).trans ?_)
  simp [Nat.not_le.mpr hn, Nat.ne_of_gt h1, Nat.not_lt.mpr h8, Nat.not_lt.mpr hst]

theorem dpllSetCandidatesReply_ok (hmir : (s.dpll (uAt p 0 2)).cfg.role ≠ 2) (hcnt : uAt p 2 1 ≤ 16) (hr : uAt p 3 1 = 0)
    (hin : ∀ i ∈ candList p, s.hasInput i = true) (hdup : (candList p).Nodup)
    (htail : uAt p (4 + 2 * uAt p 2 1) (36 - (4 + 2 * uAt p 2 1)) = 0) (c : Nat) :
    dpllSetCandidatesReply c p s = okReply (s.modDpll (uAt p 0 2) fun u => { u with sel := u.sel.setList (candList p) }) := by
  have habsent : ((candList p).any fun i => decide (i < 320) && !s.hasInput i) = false :=
    List.any_eq_false.mpr fun i hi => by simp [hin i hi]
  have hrange : ((candList p).any fun i => decide (320 ≤ i)) = false := List.any_eq_false.mpr fun i hi => by
    have hlt : i < 320 := of_decide_eq_true (Bool.and_eq_true_iff.mp (hin i hi)).1
    simpa using hlt
  refine guarded_pass s _ ((firstErr_absentOr hn hd hrole habsent _).trans ?_)
  rw [hrange]
  simp [rsv, isMirror, hmir, hr, hdup, htail, Nat.not_le.mpr hn, Nat.not_lt.mpr hcnt]

theorem dpllSetSelectionReply_ok (hmir : (s.dpll (uAt p 0 2)).cfg.role ≠ 2) (hmode : uAt p 2 1 ≤ 3) (hfl : uAt p 3 1 < 8)
    (hauto : uAt p 2 1 < 2 → uAt p 4 2 = 0x1FF)
    (hman : 2 ≤ uAt p 2 1 → s.hasInput (uAt p 4 2) = true ∧ uAt p 4 2 ∈ (s.dpll (uAt p 0 2)).sel.latest) (hr : uAt p 10 6 = 0) (c : Nat) :
    dpllSetSelectionReply c p s = okReply (s.modDpll (uAt p 0 2) fun u => { u with sel := { u.sel with
      set := { mode := uAt p 2 1, hookChg := (uAt p 3 1).testBit 0, hookSw := (uAt p 3 1).testBit 1, retBlock := (uAt p 3 1).testBit 2,
               manual := uAt p 4 2, holdoffMs := uAt p 6 2, retAllow := uAt p 8 2 } } }) := by
  have habsent : (decide (2 ≤ uAt p 2 1) && decide (uAt p 4 2 < 320) && !s.hasInput (uAt p 4 2)) = false := by
    simpa using fun h _ => (hman h).1
  have hmanual : (decide (uAt p 2 1 < 2) && decide (uAt p 4 2 ≠ 0x1FF)) = false := by simpa using hauto
  have hlisted : (decide (2 ≤ uAt p 2 1) && !(s.dpll (uAt p 0 2)).sel.latest.contains (uAt p 4 2)) = false := by
    simpa using fun h => (hman h).2
  refine guarded_pass s _ ((firstErr_absentOr hn hd hrole habsent _).trans ?_)
  rw [hmanual, hlisted]
  simp [rsv, isMirror, hmir, hr, Nat.not_le.mpr hn, Nat.not_lt.mpr hmode, Nat.not_le.mpr hfl]

theorem dpllGetSwitchLogReply_ok (hmir : (s.dpll (uAt p 0 2)).cfg.role ≠ 2) (h1 : 1 ≤ uAt p 3 1) (h7 : uAt p 3 1 ≤ 7)
    (hst : (s.dpll (uAt p 0 2)).sel.log = [] ∨ uAt p 2 1 < (s.dpll (uAt p 0 2)).sel.log.length) (h15 : uAt p 2 1 ≤ 15) (c : Nat) :
    let e := ((s.dpll (uAt p 0 2)).sel.log.drop (uAt p 2 1)).take (uAt p 3 1)
    dpllGetSwitchLogReply c p s = okWith (leBytes 2 (uAt p 0 2) ++ leBytes 1 (uAt p 2 1) ++ leBytes 1 e.length ++
      leBytes 1 (s.dpll (uAt p 0 2)).sel.log.length ++ zeros 3 ++ e.flatMap SwLog.bytes) s := by
  have hstart : (decide (0 < (s.dpll (uAt p 0 2)).sel.log.length) && decide ((s.dpll (uAt p 0 2)).sel.log.length - 1 < uAt p 2 1)) = false := by
    rcases hst with hnil | hlt
    · rw [hnil]
      rfl
    · have hlast : ¬ (s.dpll (uAt p 0 2)).sel.log.length - 1 < uAt p 2 1 := by omega
      simp [hlast]
  refine guarded_pass s _ ((firstErr_dpllOn hn hd hrole _).trans ?_)
  rw [hstart]
  simp [isMirror, hmir, Nat.not_le.mpr hn, Nat.ne_of_gt h1, Nat.not_lt.mpr h7, Nat.not_lt.mpr h15]

/-! ### Holdover (R251, R252) -/

theorem dpllSetHoldoverReply_ok (hst : (s.dpll (uAt p 0 2)).state ≠ .holdover) (hbasis : uAt p 2 1 ≤ 2) (htick : uAt p 3 1 ≤ 2)
    (hsame : uAt p 3 1 = (s.dpll (uAt p 0 2)).ho.tick) (havg : uAt p 4 4 ≠ 0) (havgTick : uAt p 4 4 % tickSec (uAt p 3 1) = 0)
    (hguardTick : uAt p 8 4 % tickSec (uAt p 3 1) = 0) (hsum : uAt p 4 4 + uAt p 8 4 ≤ 8192 * tickSec (uAt p 3 1)) (hr : uAt p 12 4 = 0) (c : Nat) :
    dpllSetHoldoverReply c p s = okReply (s.modDpll (uAt p 0 2) fun u =>
      let h : Hold := { u.ho with basis := uAt p 2 1, avgS := uAt p 4 4, guardS := uAt p 8 4, late := false }
      { u with ho := if u.enable = true ∧ u.cfg.role = 1 then h else h.take }) := by
  refine (guarded_pass s _ ((firstErr_dpllOn hn hd hrole _).trans ?_)).trans
    (congrArg okReply (State.modDpll_congr (DpllUnit.setHoldover_sameTick hst hsame _ _ _)))
  simp [rsv, havg, havgTick, hguardTick, hr, Nat.not_le.mpr hn, Nat.not_lt.mpr hbasis, Nat.not_lt.mpr htick, Nat.not_lt.mpr hsum]

theorem dpllGetHoldoverReply_ok (hr : uAt p 2 2 = 0) (c : Nat) : dpllGetHoldoverReply c p s = okWith (s.holdBytes (uAt p 0 2)) s := by
  refine guarded_pass s _ ((firstErr_dpllOn hn hd hrole _).trans ?_)
  simp [rsv, hr, Nat.not_le.mpr hn]

end

/-- Settles O4: each command is ready and its checks pass, so it acknowledges with its effect. That the values of DPLL_SET_HOLDOVER are
taken at once where no history runs is the model's choice (log entry 23). -/
theorem dpllCommandsComplete : Obligations.DpllCommandsComplete := by
  unfold Obligations.DpllCommandsComplete
  intro s c m p n up on
  refine ⟨fun h ⟨hn, hd⟩ hoff hbad hout hlead hfree => ?config, fun h ⟨⟨hn, hd⟩, hrole⟩ hbad => ?setLoop,
    fun h ⟨hn, hd⟩ h1 h7 hr => ?getLoop, fun h ⟨⟨hn, hd⟩, hrole⟩ hr hmag => ?setSteer,
    fun h ⟨⟨hn, hd⟩, hrole⟩ hr hmag hres => ?adjust, fun h ⟨hn, hd⟩ hr => ?getStatus,
    fun h ⟨⟨hn, hd⟩, hrole⟩ h1 h8 hst => ?getCandidates, fun h ⟨⟨hn, hd⟩, hrole⟩ hmir hcnt hr hin hdup htail => ?setCandidates,
    fun h ⟨⟨hn, hd⟩, hrole⟩ hmir hmode hfl hauto hman hr => ?setSelection,
    fun h ⟨⟨hn, hd⟩, hrole⟩ hmir h1 h7 hst h15 => ?getSwitchLog,
    fun h ⟨⟨hn, hd⟩, hrole⟩ hst hbasis htick hsame havg havgTick hguardTick hsum hr => ?setHoldover,
    fun h ⟨⟨hn, hd⟩, hrole⟩ hr => ?getHoldover⟩
  case config => exact State.runCmd_acks h (dpllConfigReply_ok hn hd hoff hbad hout hlead hfree c)
  case setLoop => exact State.runCmd_acks h (dpllSetLoopReply_ok hn hd hrole hbad c)
  case getLoop => exact State.runCmd_acks h (dpllGetLoopReply_ok hn hd h1 h7 hr c)
  case setSteer => exact State.runCmd_acks h (dpllSetSteerReply_ok hn hd hrole hr hmag c)
  case adjust => exact State.runCmd_acks h (dpllPhaseAdjustReply_ok hn hd hrole hr hmag hres c)
  case getStatus => exact State.runCmd_acks h (dpllGetStatusReply_ok hn hd hr c)
  case getCandidates => exact State.runCmd_acks h (dpllGetCandidatesReply_ok hn hd hrole h1 h8 hst c)
  case setCandidates => exact State.runCmd_acks h (dpllSetCandidatesReply_ok hn hd hrole hmir hcnt hr hin hdup htail c)
  case setSelection => exact State.runCmd_acks h (dpllSetSelectionReply_ok hn hd hrole hmir hmode hfl hauto hman hr c)
  case getSwitchLog => exact State.runCmd_acks h (dpllGetSwitchLogReply_ok hn hd hrole hmir h1 h7 hst h15 c)
  case setHoldover => exact State.runCmd_acks h (dpllSetHoldoverReply_ok hn hd hrole hst hbasis htick hsame havg havgTick hguardTick hsum hr c)
  case getHoldover => exact State.runCmd_acks h (dpllGetHoldoverReply_ok hn hd hrole hr c)

end Sys2Proof.Machine
end

section
/-! SUPPORT. The commands of the cairn engine (R246 to R250). -/

namespace Sys2Proof.Machine
open Sys2Proof

/-! ## Members, models and forgetting (R246, R247, R249) -/

section
variable {s : State}

/-- An oscillator port of a die that is up, in the ensemble of its part, passes the checks that name it. -/
theorem firstErr_portChecks {o : Nat} (hk : s.noK o = false) (hd : s.dieUp (dieOfOsc o) = true) (l : List (Bool × Nat)) :
    firstErr (portChecks s o ++ l) = firstErr l := by
  have hfit : s.hasOsc o = true := (Bool.and_eq_true_iff.mp hd).1
  simp [portChecks, hfit, hk, hd]

variable {p : List Byte} (hk : s.noK (uAt p 0 2) = false) (hd : s.dieUp (dieOfOsc (uAt p 0 2)) = true)
include hk hd

theorem cairnSetMemberReply_ok (hfeat : s.part.featK = true ∨ uAt p 2 1 = 0 ∨ s.otherMember (uAt p 0 2) = false) (hbad : memberBad p = false)
    (hfree : uAt p 2 1 = 1 → s.isMember (uAt p 0 2) = false → (s.cairn.slots.all fun x => x.used) = false) (c : Nat) :
    cairnSetMemberReply c p s = okReply (s.setMember (uAt p 0 2) p) := by
  have hsecond : (!s.part.featK && decide (uAt p 2 1 = 1) && s.otherMember (uAt p 0 2)) = false := by
    rcases hfeat with h | h | h <;> simp [h]
  have hfull : (decide (uAt p 2 1 = 1) && !s.isMember (uAt p 0 2) && s.cairn.slots.all fun x => x.used) = false := by
    simpa using hfree
  refine guarded_pass s _ ?_
  rw [hsecond, hbad, hfull, List.append_assoc, List.singleton_append, firstErr_pass, firstErr_portChecks hk hd]
  rfl

variable (ho : uAt p 0 2 < 16) (hr : uAt p 2 2 = 0)
include ho hr

theorem cairnGetModelReply_ok (c : Nat) : cairnGetModelReply c p s = okWith (s.modelBytes (uAt p 0 2)) s := by
  refine guarded_pass s _ ((firstErr_portChecks hk hd _).trans ?_)
  simp [rsv, hr, Nat.not_le.mpr ho]

theorem cairnForgetReply_ok (c : Nat) :
    cairnForgetReply c p s = okReply (s.forgetModel (uAt p 0 2) (if s.isMember (uAt p 0 2) then .learning else .none)) := by
  refine guarded_pass s _ ((firstErr_portChecks hk hd _).trans ?_)
  simp [rsv, hr, Nat.not_le.mpr ho]

end

/-! ## The configuration (R248) -/

/-- The DPLLs that a CAIRN_SET_CONFIG payload names. -/
def cairnNamed (p : List Byte) : List Nat := ((List.range 4).map fun i => uAt p i 1).filter (· ≠ 0xFF)

/-- The fields of a CAIRN_SET_CONFIG payload after its list of DPLLs are in the ranges of R248. -/
structure CairnConfigInRange (p : List Byte) : Prop where
  rankMax : uAt p 4 1 ≤ 254
  kRej : 16 ≤ uAt p 5 1
  rejoin : 60 ≤ uAt p 6 2
  learnMin : 1 ≤ uAt p 8 2
  learnMax : uAt p 8 2 ≤ 1440
  saveMax : uAt p 10 2 ≤ 1440
  ageMin : 1 ≤ uAt p 12 2
  ageMax : uAt p 12 2 ≤ 3650
  domain : uAt p 14 1 < 128
  learnTau : 1 ≤ uAt p 15 1
  verify : 60 ≤ uAt p 18 2
  reserved : uAt p 20 4 = 0

/-- The configuration is taken when each DPLL named is up, is no mirror and stands once, and the time domain is present. -/
theorem cairnSetConfigReply_ok {s : State} {p : List Byte}
    (hnamed : ∀ k ∈ cairnNamed p, k < 64 ∧ s.dieUp (dieOfDpll k) = true ∧ (s.dpll k).cfg.role ≠ 2) (honce : noRepeat (cairnNamed p) = true)
    (htd : s.hasTd (uAt p 14 1) = true) (hin : CairnConfigInRange p) (c : Nat) :
    cairnSetConfigReply c p s = okReply { s with cairn := s.cairn.configure p } := by
  obtain ⟨hrank, hkRej, hrejoin, hlearnMin, hlearnMax, hsave, hageMin, hageMax, hdomain, htau, hverify, hr⟩ := hin
  have hfit : ∀ k ∈ cairnNamed p, s.hasDpll k = true := fun k hk => (Bool.and_eq_true_iff.mp (hnamed k hk).2.1).1
  have habsent : ((cairnNamed p).any fun k => decide (k < 64) && !s.hasDpll k) = false :=
    List.any_eq_false.mpr fun k hk => by simp [hfit k hk]
  have hdown : ((cairnNamed p).any fun k => decide (k < 64) && !s.dieUp (dieOfDpll k)) = false :=
    List.any_eq_false.mpr fun k hk => by simp [(hnamed k hk).2.1]
  have hplain : ((cairnNamed p).any fun k => decide (64 ≤ k) || isMirror s k) = false := List.any_eq_false.mpr fun k hk => by
    obtain ⟨hlt, -, hrole⟩ := hnamed k hk
    simp [isMirror, hrole, hlt]
  refine guarded_pass s _ ?_
  rw [← cairnNamed, habsent, hdown, hplain, honce]
  simp [rsv, htd, hr, Nat.not_lt.mpr hrank, Nat.not_lt.mpr hkRej, Nat.not_lt.mpr hrejoin, Nat.ne_of_gt hlearnMin, Nat.not_lt.mpr hlearnMax,
    Nat.not_lt.mpr hsave, Nat.ne_of_gt hageMin, Nat.not_lt.mpr hageMax, Nat.not_le.mpr hdomain, Nat.ne_of_gt htau, Nat.not_lt.mpr hverify]

/-! ## Saves (R250) -/

/-- The ports that a CAIRN_SAVE payload names. -/
def cairnSavePorts (p : List Byte) : List Nat := (List.range 16).filter fun o => (uAt p 0 2).testBit o

/-- Those of the named ports whose model is QUALIFIED, which CAIRN_SAVE saves. -/
def State.cairnSaveSet (s : State) (p : List Byte) : List Nat := (cairnSavePorts p).filter fun o => decide ((s.model o).state = .qualified)

section
variable {s : State} {p : List Byte} (hports : ∀ o ∈ cairnSavePorts p, s.hasOsc o = true ∧ s.noK o = false ∧ s.dieUp (dieOfOsc o) = true)
  (hsave : s.nvSaving = false) (hr : uAt p 2 2 = 0)
include hports hsave hr

/-- The checks pass; the models to save decide how the command goes on. -/
theorem cairnSaveReply_ok (c : Nat) : cairnSaveReply c p s =
    if s.cairnSaveSet p = [] then okReply s
    else { ret := retOK, wait := true, s := s.forEach (s.cairnSaveSet p) fun x o => x.saveModel o (some c) } := by
  have habsent : ((cairnSavePorts p).any fun o => !s.hasOsc o || s.noK o) = false := List.any_eq_false.mpr fun o ho => by
    obtain ⟨hosc, hk, -⟩ := hports o ho
    simp [hosc, hk]
  have hdown : ((cairnSavePorts p).any fun o => !s.dieUp (dieOfOsc o)) = false := List.any_eq_false.mpr fun o ho => by simp [(hports o ho).2.2]
  have hchecks : firstErr [((cairnSavePorts p).any fun o => !s.hasOsc o || s.noK o, retAbsent),
      ((cairnSavePorts p).any fun o => !s.dieUp (dieOfOsc o), retNotReady), (!rsv p 2 2, retBadParam), (s.nvSaving, retBusy)] = none := by
    rw [habsent, hdown, hsave]
    simp [rsv, hr]
  unfold cairnSaveReply
  dsimp only
  rw [← cairnSavePorts, hchecks, ← State.cairnSaveSet]
  simp only [List.isEmpty_iff]

/-- A ready CAIRN_SAVE is acknowledged at once when there is nothing to save, and else waits for its saves. -/
theorem exec_cairnSave {c : Nat} {m : Msg} (h : s.Ready c 0x0604 m) (hp : p = m.payload) :
    exec (.cairnSave c) s = .next (if s.cairnSaveSet p = [] then s.acked c m []
      else (s.forEach (s.cairnSaveSet p) fun x o => x.saveModel o (some c)).waits c m) := by
  subst hp
  have hok := cairnSaveReply_ok hports hsave hr c
  split_ifs with hnone
  · exact State.runCmd_acks h (hok.trans (if_pos hnone))
  · exact State.runCmd_waits h (hok.trans (if_neg hnone))

end

/-- Settles O5: each command is ready and its checks pass, so it acknowledges with its effect; CAIRN_SAVE waits for its saves when it has
any. -/
theorem cairnCommandsComplete : Obligations.CairnCommandsComplete := by
  unfold Obligations.CairnCommandsComplete
  intro s c m p o up
  refine ⟨fun h ⟨_, hk, hd⟩ hfeat hbad hfree => ?setMember,
    fun h hnamed honce hrank hkRej hrejoin hlearnMin hlearnMax hsave hageMin hageMax hdomain htd htau hverify hr => ?setConfig,
    fun h ⟨ho, hk, hd⟩ hr => ?getModel, fun h hports hsave hr => ?save, fun h ⟨ho, hk, hd⟩ hr => ?forget⟩
  case setMember => exact State.runCmd_acks h (cairnSetMemberReply_ok hk hd hfeat hbad hfree c)
  case setConfig =>
    have hin : CairnConfigInRange p :=
      ⟨hrank, hkRej, hrejoin, hlearnMin, hlearnMax, hsave, hageMin, hageMax, hdomain, htau, hverify, hr⟩
    exact State.runCmd_acks h (cairnSetConfigReply_ok hnamed honce htd hin c)
  case getModel => exact State.runCmd_acks h (cairnGetModelReply_ok hk hd ho hr c)
  case save => exact exec_cairnSave hports hsave hr h rfl
  case forget => exact State.runCmd_acks h (cairnForgetReply_ok hk hd ho hr c)

end Sys2Proof.Machine
end

section
/-! SUPPORT. The events of the OPLLs and the outputs (R260 to R263, R270, R271, R273, R275). -/

namespace Sys2Proof.Machine
open Sys2Proof

/-! ## The operations of the outputs leave the OPLLs alone (R273, R277, R278) -/

theorem State.opll_of_oplls {s t : State} (h : t.oplls = s.oplls) (n : Nat) : t.opll n = s.opll n := by
  unfold State.opll
  rw [h]

@[simp] theorem State.putOut_oplls (s : State) (m : Nat) (u : OutUnit) : (s.putOut m u).oplls = s.oplls := by
  unfold State.putOut
  dsimp only
  split <;> rfl

@[simp] theorem State.tryStart_oplls (s : State) (m : Nat) : (s.tryStart m).oplls = s.oplls := by
  unfold State.tryStart
  dsimp only
  split
  · exact s.putOut_oplls m _
  · rfl

@[simp] theorem State.stopOut_oplls (s : State) (m : Nat) (forced : Bool) : (s.stopOut m forced).oplls = s.oplls := by
  unfold State.stopOut
  dsimp only
  split
  · exact s.putOut_oplls m _
  · exact s.putOut_oplls m _
  · rfl

@[simp] theorem State.bypassLost_oplls (s : State) (m : Nat) : (s.bypassLost m).oplls = s.oplls := by
  unfold State.bypassLost
  split
  · simp
  · rfl

@[simp] theorem State.bypassCheck_oplls (s : State) (d : Nat) : (s.bypassCheck d).oplls = s.oplls :=
  State.forEach_keep State.oplls State.bypassLost State.bypassLost_oplls _ s

@[simp] theorem State.toClock_oplls (s : State) (m : Nat) (byp : Bool) : (s.toClock m byp).oplls = s.oplls := by
  unfold State.toClock
  dsimp only
  split <;> rfl

@[simp] theorem State.outFault_oplls (s : State) (m : Nat) : (s.outFault m).1.oplls = s.oplls := by
  unfold State.outFault
  dsimp only
  split
  · split <;> simp
  · rfl

@[simp] theorem State.fbFaultOf_oplls (s : State) (o : Nat) : (s.fbFaultOf o).oplls = s.oplls := by
  unfold State.fbFaultOf
  split
  · split <;> rfl
  · rfl

/-! ## A fault, and the gates (R260, R261, R263) -/

/-- A fault enters FAULT with its cause, and counts a loss of lock where it is one; the way of the outputs changes neither. -/
theorem State.opllFault_opll (s : State) (o cause h : Nat) (byp loss : Bool) :
    ((s.opllFault o cause h byp loss).opll o).state = .fault ∧ ((s.opllFault o cause h byp loss).opll o).faultCause = cause ∧
      ((s.opllFault o cause h byp loss).opll o).locklossCnt =
        if loss then satInc (s.opll o).locklossCnt else (s.opll o).locklossCnt := by
  have houts := foldl_flag_keep State.oplls State.outFault State.outFault_oplls
  unfold State.opllFault
  dsimp only at houts ⊢
  split
  · rw [State.opll_of_oplls ((State.fbFaultOf_oplls _ o).trans (State.bypassCheck_oplls _ _)), State.modOpll_opll, if_pos rfl,
      State.opll_of_oplls (houts _ _), State.modOpll_opll, if_pos rfl]
    exact ⟨rfl, rfl, rfl⟩
  · rw [State.modOpll_opll, if_pos rfl]
    exact ⟨rfl, rfl, rfl⟩

/-- A count passes within 20 ppm of the expected count, rounded up, and one count more (R260). -/
theorem OpllUnit.passes_iff (u : OpllUnit) (count : Nat) :
    u.passes count = true ↔ ((count : Int) - (u.expect : Int)).natAbs ≤ (20 * u.expect + 999999) / 1000000 + 1 := decide_eq_true_iff

section
variable {s : State} {n count : Nat} {g : Bool}

theorem State.opllGate_locking_passes (hst : (s.opll n).state = .locking) (hp : (s.opll n).passes count = true) (hg : (s.opll n).gates < 2) :
    s.opllGate n count g = s.setOpll n { s.opll n with gates := (s.opll n).gates + 1 } := by
  unfold State.opllGate
  simp [hst, hp, Nat.not_le.mpr hg]

theorem State.opllGate_locking_fails (hst : (s.opll n).state = .locking) (hp : (s.opll n).passes count = false) :
    s.opllGate n count g = s.setOpll n { s.opll n with gates := 0 } := by
  unfold State.opllGate
  simp [hst, hp]

theorem State.opllGate_aligning_passes (hst : (s.opll n).state = .aligning) (hp : (s.opll n).passes count = true) : s.opllGate n count g = s := by
  unfold State.opllGate
  simp [hst, hp]

theorem State.opllGate_locked_passes (hst : (s.opll n).state = .locked) (hp : (s.opll n).passes count = true) :
    s.opllGate n count g = s.setOpll n { s.opll n with hist := setbIf (s.opll n).hist 5 (!g) } := by
  unfold State.opllGate
  simp [hst, hp]

/-- Once ALIGNING or LOCKED, the first failing gate is a loss of lock. -/
theorem State.opllGate_loses (hst : (s.opll n).state = .aligning ∨ (s.opll n).state = .locked) (hp : (s.opll n).passes count = false) :
    s.opllGate n count g = s.opllFault n 2 1 true true := by
  unfold State.opllGate
  rcases hst with hst | hst <;> simp [hst, hp]

/-- Once ALIGNING or LOCKED, a passing gate keeps the state and counts no loss. -/
theorem State.opllGate_keeps (hst : (s.opll n).state = .aligning ∨ (s.opll n).state = .locked) (hp : (s.opll n).passes count = true) :
    ((s.opllGate n count g).opll n).state = (s.opll n).state ∧ ((s.opllGate n count g).opll n).locklossCnt = (s.opll n).locklossCnt := by
  rcases hst with hst | hst
  · rw [State.opllGate_aligning_passes hst hp]
    exact ⟨rfl, rfl⟩
  · rw [State.opllGate_locked_passes hst hp, State.setOpll_opll, if_pos rfl]
    exact ⟨rfl, rfl⟩

variable (hn : s.hasOpll n = true)
include hn

theorem State.exec_opllGateEnd : exec (.opllGateEnd n count g) s = fin (s.opllGate n count g) := congrArg fin (if_pos hn)

theorem State.exec_opllCycleSlip (hst : (s.opll n).state = .aligning ∨ (s.opll n).state = .locked) :
    exec (.opllCycleSlip n) s = fin (s.opllFault n 2 1 true true) := congrArg fin (if_pos (by simpa [hn] using hst))

end

/-- What a loss of lock leaves once the step has ended. -/
theorem State.opllFault_after (s : State) (n cause h : Nat) (byp : Bool) :
    ((s.opllFault n cause h byp true).after.opll n).state = .fault ∧ ((s.opllFault n cause h byp true).after.opll n).faultCause = cause ∧
      ((s.opllFault n cause h byp true).after.opll n).locklossCnt = satInc (s.opll n).locklossCnt := by
  rw [State.after_opll_same]
  exact s.opllFault_opll n cause h byp true

/-- Settles O59: a failing gate and a cycle slip are losses of lock, which enter FAULT; a passing gate of LOCKED marks its guard alone. The
tolerance at an expected count of 98 304 is two counts, 20 ppm rounded up, and one more. -/
theorem opllLosesLockAtFirstFailure : Obligations.OpllLosesLockAtFirstFailure := by
  unfold Obligations.OpllLosesLockAtFirstFailure
  intro s n hn hst u
  obtain ⟨hfault, -, hloss⟩ := s.opllFault_after n 2 1 true
  refine ⟨fun count g hp => ⟨_, ?_, hfault, hloss⟩, fun count g hp => ⟨_, State.exec_opllGateEnd hn, ?_⟩,
    ⟨_, State.exec_opllCycleSlip hn hst, hfault, hloss⟩, fun he count => ?_⟩
  · rw [State.exec_opllGateEnd hn, State.opllGate_loses hst hp]
    rfl
  · rw [State.after_opll_same]
    exact State.opllGate_keeps hst hp
  · rw [u.passes_iff, he]
    omega

/-! ## Band calibration (R263, R264) -/

section
variable {s : State} {n band cover guard : Nat} (hst : (s.opll n).state = .bandCal)
include hst

theorem State.bandDone_covered (h : guard ≤ cover) : s.bandDone n band cover guard =
    s.setOpll n { s.opll n with state := .locking, band := band % 64, gates := 0, slipThr := (s.dx (dieOfOpll n)).plan.slip } := by
  unfold State.bandDone
  simp [hst, h]

theorem State.bandDone_uncovered (h : cover < guard) : s.bandDone n band cover guard = s.opllFault n 3 6 false false := by
  unfold State.bandDone
  simp [hst, Nat.not_le.mpr h]

end

/-! ## The slots of a measured alignment (R270, R271) -/

/-- The state once the slot of output `m` has given the correction `corr`, which is 0 for the feedback output; `ms` is left to measure. -/
def State.slotMeasured (s : State) (n : Nat) (r : AlignRun) (m : Nat) (ms : List Nat) (corr : Int) : State :=
  s.setOpll n { s.opll n with align := some { r with
    todo := ms, rep := 0,
    done := r.done ++ [(m, some (if (s.aligner n).any (fun k => decide ((s.dpll k).cfg.fbOutput = m)) then 0 else fdWrap corr))] } }

section
variable {s : State} {n m : Nat} {r : AlignRun}

/-- A slot whose words were valid gives its correction; the last one ends the measurement. -/
theorem State.alignSlot_measured {ms : List Nat} (hr : (s.opll n).align = some r) (htodo : r.todo = m :: ms) (hres : s.tb.restart = false)
    (corr : Int) :
    s.alignSlot n true corr = if ms.isEmpty then (s.slotMeasured n r m ms corr).alignEnd n else s.slotMeasured n r m ms corr := by
  unfold State.alignSlot State.slotMeasured
  cases s.aligner n <;> simp [hr, htodo, hres, State.modOpll_eq]

/-- In LOCKED the corrections of the measurement are set together, and the OPLL stays LOCKED. -/
theorem State.alignEnd_locked (hr : (s.opll n).align = some r) (hst : (s.opll n).state = .locked) :
    s.alignEnd n = (s.setCorr r.done).modOpll n fun u =>
      { u with align := none, measured := u.measured || r.full, hist := setbIf u.hist 4 r.failed } := by
  unfold State.alignEnd
  simp [hr, hst]

/-- The output measured last is ALIGNED once the corrections are set. -/
theorem State.setCorr_aligned (s : State) (l : List (Nat × Option Int)) (m : Nat) (c : Int) :
    ((s.setCorr (l ++ [(m, some c)])).out m).aligned = true := by
  unfold State.setCorr State.setDelay
  rw [List.foldl_append]
  simp

theorem State.alignEnd_measured (hst : (s.opll n).state = .locked) (corr : Int) :
    (((s.slotMeasured n r m [] corr).alignEnd n).opll n).align = none ∧ (((s.slotMeasured n r m [] corr).alignEnd n).out m).aligned = true := by
  have hunit : (s.slotMeasured n r m [] corr).opll n = _ := (State.setOpll_opll s n n _).trans (if_pos rfl)
  rw [State.alignEnd_locked (congrArg OpllUnit.align hunit) ((congrArg OpllUnit.state hunit).trans hst), State.modOpll_opll, if_pos rfl,
    State.modOpll_out_same]
  exact ⟨rfl, State.setCorr_aligned _ _ _ _⟩

end

/-! ## The first edge and the stop level of an output (R273, R275) -/

theorem State.putOut_out (s : State) (m j : Nat) (u : OutUnit) : (s.putOut m u).out j = if j = m then u else s.out j := by
  rw [← State.setOut_out]
  unfold State.putOut
  dsimp only
  split <;> rfl

/-- A phase that is applied changes neither the output's state nor its marks. -/
theorem State.applyPhase_out (s : State) (m : Nat) :
    ((s.applyPhase m).out m).state = (s.out m).state ∧ ((s.applyPhase m).out m).hist = (s.out m).hist := by
  unfold State.applyPhase State.setDelay
  simp

theorem State.firstEdge_out {s : State} {m : Nat} (hst : (s.out m).state = .starting) (hat : (s.out m).startAt = none) :
    ((s.firstEdge m).out m).state = .running ∧ bit ((s.firstEdge m).out m).hist 0 = true := by
  have hrun : (s.putOut m { s.out m with state := .running, hist := setb (s.out m).hist 0 }).out m = _ :=
    (State.putOut_out s m m _).trans (if_pos rfl)
  have hmark : bit (setb (s.out m).hist 0) 0 = true := bit_setb_same _ (by decide)
  unfold State.firstEdge
  dsimp only
  rw [if_pos ⟨hst, hat⟩]
  split
  · obtain ⟨hstate, hhist⟩ := (s.putOut m { s.out m with state := .running, hist := setb (s.out m).hist 0 }).applyPhase_out m
    rw [hstate, hhist, hrun]
    exact ⟨rfl, hmark⟩
  · rw [hrun]
    exact ⟨rfl, hmark⟩

/-- The end of a QUIESCE changes no output's state and takes none off (R263, R284). -/
theorem State.quiesceEnd_out (s : State) (o m : Nat) :
    ((s.quiesceEnd o).out m).state = (s.out m).state ∧ ((s.quiesceEnd o).out m).offPend = (s.out m).offPend := by
  have hloop := State.forEach_keep (fun t => ((t.out m).state, (t.out m).offPend))
    (fun t j => if (t.out j).onBypass then t.modOut j fun v => { v with onBypass := false } else t)
    (fun t j => by split <;> by_cases h : m = j <;> simp [h]) (s.outsOf o) s
  unfold State.quiesceEnd
  dsimp only
  split
  · split
    · exact Prod.ext_iff.mp hloop
    · exact ⟨rfl, rfl⟩
  · exact ⟨rfl, rfl⟩

theorem State.stopLevel_off {s : State} {m : Nat} (hst : (s.out m).state = .stopping) (hoff : (s.out m).offPend = true) :
    ((s.stopLevel m).out m).state = .off ∧ ((s.stopLevel m).out m).offPend = false := by
  unfold State.stopLevel
  dsimp only
  rw [if_pos hst, if_pos hoff, (State.quiesceEnd_out _ _ m).1, (State.quiesceEnd_out _ _ m).2, State.putOut_out, if_pos rfl]
  exact ⟨rfl, rfl⟩

/-- Settles O25: each event is the operation of its row, whose outcome on the OPLL and the output the lemmas above state. That a slot stores
its correction and that the corrections of a measurement are set together at its end is the model's choice (log entry 39), as is the form of
the events: the count, the guard and the band come as operands (log entry 28). -/
theorem synthesisEventsComplete : Obligations.SynthesisEventsComplete := by
  unfold Obligations.SynthesisEventsComplete
  intro s n
  refine ⟨fun hn => ⟨fun band cover x hst => ?bandCal, fun count g hst hp hg => ?lockingPass, fun count g hst hp => ?lockingFail,
    fun count g hst hp => ?lockedPass, fun count g hst hp => ?lockedFail, fun hst => ?slip, fun hst => ?timeout, fun hst hosc => ?retry,
    fun r m ms hr htodo hms hres corr => ?slot, fun r m hr htodo hst hres corr => ?lastSlot⟩,
    fun hn => ⟨fun hst hat => ?firstEdge, fun hst hoff => ?stopLevel⟩⟩
  case bandCal =>
    refine ⟨_, congrArg fin (if_pos (by simp [hn, show (s.opll n).state = .bandCal from hst])), fun h => ?_, fun h => ?_⟩ <;>
      rw [State.after_opll_same, State.modDx_opll_same]
    · rw [State.bandDone_covered hst h, State.setOpll_opll, if_pos rfl]
    · rw [State.bandDone_uncovered hst h]
      obtain ⟨hfault, hcause, -⟩ := s.opllFault_opll n 3 6 false false
      exact ⟨hfault, hcause⟩
  case lockingPass => exact (State.exec_opllGateEnd hn).trans (congrArg fin (State.opllGate_locking_passes hst hp hg))
  case lockingFail => exact (State.exec_opllGateEnd hn).trans (congrArg fin (State.opllGate_locking_fails hst hp))
  case lockedPass => exact (State.exec_opllGateEnd hn).trans (congrArg fin (State.opllGate_locked_passes hst hp))
  case lockedFail =>
    exact ⟨_, (State.exec_opllGateEnd hn).trans (congrArg fin (State.opllGate_loses (.inr hst) hp)), s.opllFault_after n 2 1 true⟩
  case slip => exact ⟨_, State.exec_opllCycleSlip hn hst.symm, s.opllFault_after n 2 1 true⟩
  case timeout =>
    refine ⟨_, congrArg fin (if_pos (by simp [hn, show (s.opll n).state = .locking from hst])), ?_⟩
    rw [State.after_opll_same, State.modOpll_opll, if_pos rfl]
    exact ⟨rfl, rfl⟩
  case retry =>
    refine ⟨_, congrArg fin (if_pos (by simp [hn, hosc, show (s.opll n).state = .fault from hst])), ?_⟩
    rw [State.after_opll_same, State.modOpll_opll, if_pos rfl]
    exact ⟨rfl, rfl⟩
  case slot =>
    exact congrArg fin ((if_pos hn).trans ((State.alignSlot_measured hr htodo hres corr).trans (if_neg (by simpa using hms))))
  case lastSlot =>
    refine ⟨_, congrArg fin ((if_pos hn).trans ((State.alignSlot_measured hr htodo hres corr).trans (if_pos rfl))), ?_⟩
    rw [State.after_opll_same, State.after_out_same]
    exact State.alignEnd_measured hst corr
  case firstEdge =>
    refine ⟨_, congrArg fin (if_pos hn), ?_⟩
    rw [State.after_out_same]
    exact State.firstEdge_out hst hat
  case stopLevel =>
    refine ⟨_, congrArg fin (if_pos hn), ?_⟩
    rw [State.after_out_same]
    exact State.stopLevel_off hst hoff

end Sys2Proof.Machine
end

section
/-! SUPPORT. Writes of OPLL_CTRL, of the outputs' registers, of TD_CTRL, TD_OFS_COMMIT, EV_CTRL and EV_RATE that reach their register (R263,
R269, R273, R276, R299, R302, R318). -/

namespace Sys2Proof.Machine
open Sys2Proof

/-! ## The way to the register (R471) -/

/-- The path of an engine's own writes carries no other. -/
theorem State.pathLive_not_stitch {s : State} {p : Path} (hl : s.pathLive p = true) : p ≠ .stitch := by
  rintro rfl
  exact Bool.false_ne_true hl

/-- A write over a live path to the registers of a fitted die's units, below the mailboxes. -/
theorem State.land_unit {s : State} {p : Path} {d off : Nat} (hl : s.pathLive p = true) (hd : s.fitted d = true) (hlo : 0x10000 ≤ off)
    (hhi : off < 0x80000) (w : Word) :
    s.land p d off w = (s.writeHigh ((portIdx p).getD 0) d off w false).fixPar d off := by
  rw [State.land_live hl hd (State.violates_false hhi (by omega) (by omega) (by omega) true), State.writeBase_high hd hlo (by omega),
    decide_eq_false (State.pathLive_not_stitch hl)]

section
variable {off : Nat} (s : State) (port d : Nat) (w : Word) (b : Bool)

/-- From 0x50000 to 0x50100 stand the registers of the OPLLs. -/
theorem State.writeHigh_opll (hlo : 0x50000 ≤ off) (hhi : off < 0x50100) :
    s.writeHigh port d off w b = s.writeOpll (4 * d + (off - 0x50000) / 0x40) (off % 0x40) w := by
  have habove (k : Nat) (hk : k ≤ 0x50000) : ¬ off < k := by omega
  unfold State.writeHigh
  simp [habove, hhi]

/-- From 0x51000 to 0x51400 stand the registers of the outputs. -/
theorem State.writeHigh_out (hlo : 0x51000 ≤ off) (hhi : off < 0x51400) :
    s.writeHigh port d off w b = s.writeOut (16 * d + (off - 0x51000) / 0x40) (off % 0x40) w b := by
  have habove (k : Nat) (hk : k ≤ 0x51000) : ¬ off < k := by omega
  unfold State.writeHigh
  simp [habove, hlo, hhi]

/-- From 0x60000 to 0x60800 stand the registers of the time domains. -/
theorem State.writeHigh_td (hlo : 0x60000 ≤ off) (hhi : off < 0x60800) :
    s.writeHigh port d off w b = s.writeTd (16 * d + (off - 0x60000) / 0x80) (off % 0x80) w := by
  have habove (k : Nat) (hk : k ≤ 0x60000) : ¬ off < k := by omega
  unfold State.writeHigh
  simp [habove, hhi]

/-- From 0x61000 to 0x61200 stand the registers of the event channels, on a part with the letter E. -/
theorem State.writeHigh_ev (hE : s.part.featE = true) (hlo : 0x61000 ≤ off) (hhi : off < 0x61200) :
    s.writeHigh port d off w b = s.writeEv (16 * d + (off - 0x61000) / 0x20) (off % 0x20) w := by
  have habove (k : Nat) (hk : k ≤ 0x61000) : ¬ off < k := by omega
  unfold State.writeHigh
  simp [habove, hlo, hhi, hE]

end

section
variable {s : State} {p : Path} {n r : Nat} (hl : s.pathLive p = true)
include hl

theorem State.landOpll_live (hn : s.hasOpll n = true) (w : Word) :
    s.landOpll p n w = (s.writeOpllCtrl n w).fixPar (dieOfOpll n) (offOpll n) := by
  have hrange : 0x50000 ≤ offOpll n ∧ offOpll n < 0x50100 := by unfold offOpll; omega
  obtain ⟨hlo, hhi⟩ := hrange
  have hidx : 4 * dieOfOpll n + (offOpll n - 0x50000) / 0x40 = n := by unfold offOpll dieOfOpll; omega
  have hreg : offOpll n % 0x40 = 0 := by unfold offOpll; omega
  unfold State.landOpll
  rw [if_pos hn, State.land_unit hl hn (by omega) (by omega), State.writeHigh_opll _ _ _ _ _ hlo hhi, hidx, hreg]
  rfl

theorem State.landOut_live (hn : s.hasOut n = true) (hr : r < 0x40) (w : Word) :
    s.landOut p n r w = (s.writeOut n r w false).fixPar (dieOfOut n) (offOut n + r) := by
  have hrange : 0x51000 ≤ offOut n + r ∧ offOut n + r < 0x51400 := by unfold offOut; omega
  obtain ⟨hlo, hhi⟩ := hrange
  have hidx : 16 * dieOfOut n + (offOut n + r - 0x51000) / 0x40 = n := by unfold offOut dieOfOut; omega
  have hreg : (offOut n + r) % 0x40 = r := by unfold offOut; omega
  unfold State.landOut
  rw [if_pos hn, State.land_unit hl hn (by omega) (by omega), State.writeHigh_out _ _ _ _ _ hlo hhi, hidx, hreg]

theorem State.landTd_live (hn : s.hasTd n = true) (hr : r < 0x80) (w : Word) :
    s.landTd p n r w = (s.writeTd n r w).fixPar (dieOfTd n) (offTd n + r) := by
  have hrange : 0x60000 ≤ offTd n + r ∧ offTd n + r < 0x60800 := by unfold offTd; omega
  obtain ⟨hlo, hhi⟩ := hrange
  have hidx : 16 * dieOfTd n + (offTd n + r - 0x60000) / 0x80 = n := by unfold offTd dieOfTd; omega
  have hreg : (offTd n + r) % 0x80 = r := by unfold offTd; omega
  unfold State.landTd
  rw [if_pos hn, State.land_unit hl hn (by omega) (by omega), State.writeHigh_td _ _ _ _ _ hlo hhi, hidx, hreg]

/-- EV_CTRL and EV_RATE stand at 0 and 4. -/
theorem State.land_ev (hn : s.hasEv n = true) (hr : r = 0 ∨ r = 4) (w : Word) :
    s.land p (n / 16) (offEv n + r) w = (s.modEv n fun u => u.write r w).fixPar (n / 16) (offEv n + r) := by
  obtain ⟨hd, hE⟩ := Bool.and_eq_true_iff.mp hn
  have hrange : 0x61000 ≤ offEv n + r ∧ offEv n + r < 0x61200 := by unfold offEv; omega
  obtain ⟨hlo, hhi⟩ := hrange
  have hidx : 16 * (n / 16) + (offEv n + r - 0x61000) / 0x20 = n := by unfold offEv; omega
  have hreg : (offEv n + r) % 0x20 = r := by unfold offEv; omega
  rw [State.land_unit hl hd (by omega) (by omega), State.writeHigh_ev _ _ _ _ _ hE hlo hhi, hidx, hreg]
  rcases hr with rfl | rfl <;> rfl

end

/-! ## OUT_CTRL (R273, R276, R286) -/

/-- The fields that OUT_CTRL reads. -/
theorem OutUnit.ctrl_fields (u : OutUnit) :
    bit u.ctrl 0 = u.enable ∧ bit u.ctrl 1 = u.run ∧ fld u.ctrl 2 2 = u.stopLvl % 4 ∧ bit u.ctrl 4 = u.bypRet ∧ bit u.ctrl 5 = u.belay := by
  refine ⟨?_, ?_, fld_eq_mod _ 2 2 _ fun i hi => ?_, ?_, ?_⟩ <;> unfold OutUnit.ctrl
  · simp [bit_putb, bit_put]
  · simp [bit_putb, bit_put]
  · have h0 : ¬ 0 = 2 + i := by omega
    have h1 : ¬ 1 = 2 + i := by omega
    have h4 : ¬ 4 = 2 + i := by omega
    have h5 : ¬ 5 = 2 + i := by omega
    have hin : 2 + i < 32 := by omega
    simp [bit_putb, bit_put, h0, h1, h4, h5, hin, hi]
  · simp [bit_putb, bit_put]
  · simp [bit_putb, bit_put]

/-- STOP_LVL, BYP_RET and BELAY of output `n` written back as they read. -/
def State.levelKept (s : State) (n : Nat) : State := s.modOut n fun u => { u with stopLvl := u.stopLvl % 4 }

/-- A write of OUT_CTRL that changes ENABLE or RUN alone. -/
theorem State.writeOutCtrl_bit (s : State) (n : Nat) {i : Nat} (hi : i < 2) (b : Bool) :
    let w := withBit (s.out n).ctrl i b
    let x := if bit w 0 then (s.levelKept n).outOn n else (s.levelKept n).outOff n
    s.writeOutCtrl n w false = if (s.out n).run = bit w 1 then x.tryStart n else x.outRun n (bit w 1) false := by
  obtain ⟨-, -, hlvl, hbyp, hbel⟩ := (s.out n).ctrl_fields
  have hlvl' : fld (withBit (s.out n).ctrl i b) 2 2 = (s.out n).stopLvl % 4 :=
    (fld_congr _ _ _ _ fun j _ => by rw [bit_withBit, if_neg (by omega)]).trans hlvl
  have hbyp' : bit (withBit (s.out n).ctrl i b) 4 = (s.out n).bypRet := by rw [bit_withBit, if_neg (by omega), hbyp]
  have hbel' : bit (withBit (s.out n).ctrl i b) 5 = (s.out n).belay := by rw [bit_withBit, if_neg (by omega), hbel]
  have hkept : (s.modOut n fun u => { u with
      stopLvl := fld (withBit (s.out n).ctrl i b) 2 2, bypRet := bit (withBit (s.out n).ctrl i b) 4, belay := bit (withBit (s.out n).ctrl i b) 5 }) =
      s.levelKept n := by
    rw [hlvl', hbyp', hbel']
    rfl
  unfold State.writeOutCtrl
  dsimp only
  rw [hkept]

/-- A write of OUT_CTRL that changes ENABLE alone. -/
theorem State.writeOutCtrl_enable (s : State) (n : Nat) (b : Bool) :
    s.writeOutCtrl n (withBit (s.out n).ctrl 0 b) false =
      (if b then (s.levelKept n).outOn n else (s.levelKept n).outOff n).tryStart n := by
  have hrun : bit (withBit (s.out n).ctrl 0 b) 1 = (s.out n).run := by rw [bit_withBit, if_neg (by decide), (s.out n).ctrl_fields.2.1]
  rw [s.writeOutCtrl_bit n (by decide), hrun, if_pos rfl, bit_withBit_same _ (by decide)]

/-- A write of OUT_CTRL that changes RUN alone: ENABLE acts again as it stands. -/
theorem State.writeOutCtrl_run (s : State) (n : Nat) (b : Bool) :
    let x := if (s.out n).enable then (s.levelKept n).outOn n else (s.levelKept n).outOff n
    s.writeOutCtrl n (withBit (s.out n).ctrl 1 b) false = if (s.out n).run = b then x.tryStart n else x.outRun n b false := by
  have hen : bit (withBit (s.out n).ctrl 1 b) 0 = (s.out n).enable := by rw [bit_withBit_zero, (s.out n).ctrl_fields.1]
  rw [s.writeOutCtrl_bit n (by decide), hen, bit_withBit_one]

/-- The other registers that OUT_PHASE_WRITE names hold the phase (R268). -/
theorem State.writeOut_phase (s : State) (n : Nat) {r : Nat} (hr : r = 0x10 ∨ r = 0x14 ∨ r = 0x28) (w : Word) (b : Bool) :
    s.writeOut n r w b = s.writePhase n r w := by
  rcases hr with rfl | rfl | rfl <;> rfl

/-- Settles O14: a live path carries each write to its register, and the fields of the word that it writes decide the rest. -/
theorem synthesisAndTimeWritesComplete : Obligations.SynthesisAndTimeWritesComplete := by
  unfold Obligations.SynthesisAndTimeWritesComplete
  intro s p n hl
  refine ⟨fun hn => ?opll, fun hn => ?out, fun hn => ?td, fun hn w => ?ev⟩
  case opll => exact ⟨congrArg fin (State.landOpll_live hl hn 1), congrArg fin (State.landOpll_live hl hn 0)⟩
  case out =>
    have hland (w : Word) : fin (s.landOut p n 0 w) = .next ((s.writeOutCtrl n w false).written (dieOfOut n) (offOut n)) :=
      congrArg fin (State.landOut_live hl hn (by decide) w)
    refine ⟨(hland _).trans ?enable, (hland _).trans ?disable, fun hrun => (hland _).trans ?start, fun hrun => (hland _).trans ?started,
      fun hrun => (hland _).trans ?stop, fun hrun => (hland _).trans ?stopped, fun r w hr => ?phase⟩
    case enable =>
      rw [s.writeOutCtrl_enable n true]
      rfl
    case disable =>
      rw [s.writeOutCtrl_enable n false]
      rfl
    case start =>
      rw [s.writeOutCtrl_run n true, if_neg (by simp [hrun])]
      rfl
    case started =>
      rw [s.writeOutCtrl_run n true, if_pos hrun]
      rfl
    case stop =>
      rw [s.writeOutCtrl_run n false, if_neg (by simp [hrun])]
      rfl
    case stopped =>
      rw [s.writeOutCtrl_run n false, if_pos hrun]
      rfl
    case phase =>
      rw [← State.writeOut_phase s n hr w false]
      exact congrArg fin ((if_pos hr).trans (State.landOut_live hl hn (by omega) w))
  case td =>
    exact ⟨congrArg fin (State.landTd_live hl hn (by decide) 1), congrArg fin (State.landTd_live hl hn (by decide) 0),
      congrArg fin (State.landTd_live hl hn (by decide) 1)⟩
  case ev =>
    exact ⟨congrArg fin ((if_pos ⟨hn, .inl rfl⟩).trans (State.land_ev hl hn (.inl rfl) w)),
      congrArg fin ((if_pos ⟨hn, .inr rfl⟩).trans (State.land_ev hl hn (.inr rfl) w))⟩

end Sys2Proof.Machine
end

section
/-! SUPPORT. The commands of the OPLLs, the outputs and the time domains (R280, R287 to R291, R296, R327 to R330). -/

namespace Sys2Proof.Machine
open Sys2Proof

/-! ## OPLLs (R280, R287, R288) -/

/-- An OPLL of a die that is up is present, and passes the checks that name it. -/
theorem firstErr_opllChecks {s : State} {n : Nat} (hd : s.dieUp (dieOfOpll n) = true) (l : List (Bool × Nat)) :
    firstErr (opllChecks s n ++ l) = firstErr l := by
  have hfit : s.hasOpll n = true := (Bool.and_eq_true_iff.mp hd).1
  simp [opllChecks, hfit, hd]

section
variable {s : State} {p : List Byte} (hn : uAt p 0 2 < 32) (hd : s.dieUp (dieOfOpll (uAt p 0 2)) = true)
include hn hd

theorem opllConfigReply_ok (hoff : (s.opll (uAt p 0 2)).enable = false) (hbad : s.opllBad (uAt p 0 2) p = false) (c : Nat) :
    opllConfigReply c p s = okReply (s.setOpll (uAt p 0 2) (opllOf (s.opll (uAt p 0 2)) p)) := by
  refine guarded_pass s _ ((firstErr_opllChecks hd _).trans ?_)
  simp [hbad, hoff, Nat.not_le.mpr hn]

variable (hst : (s.opll (uAt p 0 2)).state = .locked)
include hst

/-- Within 0.2 % of n_nom the frequency is ramped to; a larger step goes through QUIESCE (R280, R288). -/
theorem opllSetFreqReply_ok (hfree : s.steererOf (uAt p 0 2) = none) (hbad : s.opllFreqBad (uAt p 0 2) p = false) (c : Nat) :
    let n := uAt p 0 2
    let u := s.opll n
    let rate := if uAt p 2 2 = 0 then 2000 else uAt p 2 2
    opllSetFreqReply c p s = okReply (if ratAbs ((freqOf p : Rat) / u.nNom - 1) ≤ 2 / 1000 then
        s.setOpll n { u with rate := rate, steer := 0, rampTo := if u.nNom = (freqOf p : Rat) ∧ u.nCur = freqOf p then none else some (freqOf p) }
      else (s.setOpll n { u with rate := rate, steer := 0, newFreq := some (uAt p 4 2, uAt p 8 8), rampTo := none }).toQuiesce n false) := by
  refine guarded_pass s _ ((firstErr_opllChecks hd _).trans ?_)
  simp [hst, hfree, hbad, Nat.not_le.mpr hn]

/-- A measurement starts where a steering DPLL holds the OPLL and it has enabled outputs; else there is nothing to align (R270, R288). -/
theorem opllAlignReply_ok (hr : uAt p 2 2 = 0) (c : Nat) :
    let n := uAt p 0 2
    opllAlignReply c p s = if (s.aligner n).isSome = true ∧ s.enabledOuts n ≠ []
      then { ret := retOK, s := s.startAlign n (s.enabledOuts n) (some c), wait := true } else okReply s := by
  refine (guarded_pass s _ ((firstErr_opllChecks hd _).trans ?_)).trans ?_
  · simp [rsv, hst, hr, Nat.not_le.mpr hn]
  · cases s.aligner (uAt p 0 2) <;> simp

end

/-- A ready OPLL_ALIGN waits for its measurement when it starts one, and is acknowledged at once when there is nothing to align. -/
theorem exec_opllAlign {s : State} {c : Nat} {m : Msg} (h : s.Ready c 0x0703 m) (hn : uAt m.payload 0 2 < 32)
    (hd : s.dieUp (dieOfOpll (uAt m.payload 0 2)) = true) (hst : (s.opll (uAt m.payload 0 2)).state = .locked) (hr : uAt m.payload 2 2 = 0) :
    let n := uAt m.payload 0 2
    exec (.opllAlign c) s = .next (if (s.aligner n).isSome = true ∧ s.enabledOuts n ≠ []
      then (s.startAlign n (s.enabledOuts n) (some c)).waits c m else s.acked c m []) := by
  have hok := opllAlignReply_ok hn hd hst hr c
  dsimp only at hok ⊢
  split_ifs with hwork
  · exact State.runCmd_waits h (hok.trans (if_pos hwork))
  · exact State.runCmd_acks h (hok.trans (if_neg hwork))

/-! ## Outputs (R276, R279, R289 to R291) -/

section
variable {s : State} {p : List Byte}

theorem outputConfigReply_ok (hn : uAt p 0 2 < 128) (hd : s.dieUp (dieOfOut (uAt p 0 2)) = true) (hbad : s.outBad (uAt p 0 2) p = false)
    (hst : (s.out (uAt p 0 2)).state = .off ∨ (s.out (uAt p 0 2)).state = .stopped) (c : Nat) :
    outputConfigReply c p s = okReply ((s.configOut (uAt p 0 2) p).bypassCheck (dieOfOut (uAt p 0 2))) := by
  have hfit : s.hasOut (uAt p 0 2) = true := (Bool.and_eq_true_iff.mp hd).1
  have hidle : (decide ((s.out (uAt p 0 2)).state ≠ .off) && decide ((s.out (uAt p 0 2)).state ≠ .stopped)) = false := by
    rcases hst with hst | hst <;> simp [hst]
  refine guarded_pass s _ ?_
  rw [hidle]
  simp [hfit, hd, hbad, Nat.not_le.mpr hn]

variable (h8 : uAt p 0 1 < 8) (hd : s.dieUp (uAt p 0 1) = true) (hact : uAt p 1 1 ≤ 2) (hmask : uAt p 2 2 ≠ 0) (hr : uAt p 4 4 = 0)
  (hconf : ∀ x ∈ runOuts (uAt p 0 1) (uAt p 2 2), (s.out x).configured = true)
include h8 hd hact hmask hr hconf

/-- The checks of OUTPUT_RUN pass when the die is up and each output named is configured (R290). -/
theorem firstErr_outputRun : firstErr
    [(decide (uAt p 0 1 < 8) && !s.fitted (uAt p 0 1), retAbsent), (decide (uAt p 0 1 < 8) && !s.dieUp (uAt p 0 1), retNotReady),
     (decide (uAt p 0 1 < 8) && (runOuts (uAt p 0 1) (uAt p 2 2)).any (fun m => !(s.out m).configured), retNotReady),
     (decide (8 ≤ uAt p 0 1) || decide (2 < uAt p 1 1) || decide (uAt p 2 2 = 0) || !rsv p 4 4, retBadParam)] = none := by
  have hfit : s.fitted (uAt p 0 1) = true := (Bool.and_eq_true_iff.mp hd).1
  have hall : ((runOuts (uAt p 0 1) (uAt p 2 2)).any fun m => !(s.out m).configured) = false :=
    List.any_eq_false.mpr fun x hx => by simp [hconf x hx]
  rw [hall]
  simp [rsv, hfit, hd, hmask, hr, Nat.not_le.mpr h8, Nat.not_lt.mpr hact]

/-- ACTION 0 and 1 go group by group, with one T0 for all (R276, R371). -/
theorem outputRunReply_groups (hrun : uAt p 1 1 < 2) (c : Nat) :
    outputRunReply c p s = okReply (s.draw.2.forEach (List.range 4) fun t b =>
      t.runGroup (uAt p 0 1) b (uAt p 2 2) (uAt p 1 1) (s.tb.k + 1 + s.draw.1.toNat % 2)) :=
  (guarded_pass s _ (firstErr_outputRun h8 hd hact hmask hr hconf)).trans (congrArg okReply (if_neg hrun.ne))

/-- ACTION 2 returns each output on its bypass clock to its OPLL where that is LOCKED (R279). -/
theorem outputRunReply_returns (hret : uAt p 1 1 = 2) (c : Nat) :
    outputRunReply c p s = okReply (s.forEach (runOuts (uAt p 0 1) (uAt p 2 2)) fun t i =>
      if (t.out i).onBypass = true ∧ (t.opll (t.opllOfOut i)).state = .locked then
        ((t.toClock i false).modOut i fun u => { u with hist := setb u.hist 3 }).tryStart i
      else t) := by
  refine (guarded_pass s _ (firstErr_outputRun h8 hd hact hmask hr hconf)).trans (congrArg okReply ((if_pos hret).trans ?_))
  simp only [Bool.and_eq_true, decide_eq_true_eq]

end

/-! ## Time domains (R296, R327 to R330) -/

/-- A time domain of a die that is up is present, and passes the checks that name it. -/
theorem firstErr_tdChecks {s : State} {n : Nat} (hd : s.dieUp (dieOfTd n) = true) (l : List (Bool × Nat)) :
    firstErr (tdChecks s n ++ l) = firstErr l := by
  have hfit : s.hasTd n = true := (Bool.and_eq_true_iff.mp hd).1
  simp [tdChecks, hfit, hd]

section
variable {s : State} {p : List Byte} (hn : uAt p 0 2 < 128) (hd : s.dieUp (dieOfTd (uAt p 0 2)) = true)
include hn hd

theorem tdConfigReply_ok (hbad : tdSetBad p = false) (hsyn : (tdSetOf p).syn = true → s.hasDpll (tdSetOf p).synDpll = true) (c : Nat) :
    tdConfigReply c p s = okReply (s.modTd (uAt p 0 2) fun u => { u with setPend := some (tdSetOf p) }) := by
  have hfit : s.hasTd (uAt p 0 2) = true := (Bool.and_eq_true_iff.mp hd).1
  have habsent : ((tdSetOf p).syn && decide ((tdSetOf p).synDpll < 64) && !s.hasDpll (tdSetOf p).synDpll) = false := by
    simpa using fun h _ => hsyn h
  refine guarded_pass s _ ?_
  rw [habsent]
  simp [tdChecks, hfit, hd, hbad, Nat.not_le.mpr hn]

theorem tdGetConfigReply_ok (hr : uAt p 2 2 = 0) (c : Nat) :
    tdGetConfigReply c p s = okWith ((s.td (uAt p 0 2)).setBytes (uAt p 0 2)) s := by
  refine guarded_pass s _ ((firstErr_tdChecks hd _).trans ?_)
  simp [rsv, hr, Nat.not_le.mpr hn]

theorem tdSetTimeReply_ok (hon : (s.td (uAt p 0 2)).state ≠ .off) (hheld : (s.td (uAt p 0 2)).held = false) (hbad : s.timeBad p = false)
    (c : Nat) : tdSetTimeReply c p s = okReply (s.setTd (uAt p 0 2)
      { s.td (uAt p 0 2) with timeWrite := (s.td (uAt p 0 2)).timeWrite ++ [timeWriteOf p], firstOfs := true }) := by
  refine guarded_pass s _ ((firstErr_tdChecks hd _).trans ?_)
  simp [hon, hheld, hbad, Nat.not_le.mpr hn]

theorem tdGetTimeReply_ok (hr : uAt p 2 2 = 0) (c : Nat) :
    let u := s.td (uAt p 0 2)
    tdGetTimeReply c p s = okWith (leBytes 2 (uAt p 0 2) ++ leBytes 1 u.state.code ++ leBytes 1 (u.stat.toNat % 256) ++ leBytes 4 u.snapNs ++
      leBytes 8 u.snapSec ++ leBytes 4 u.snapFrac ++ zeros 4 ++ leBytes 8 u.snapMts ++ leBytesI 8 u.rate) s := by
  refine guarded_pass s _ ((firstErr_tdChecks hd _).trans ?_)
  simp [rsv, hr, Nat.not_le.mpr hn]

theorem tdSetTodReply_ok (hbad : todBad p = false) (c : Nat) :
    tdSetTodReply c p s = okReply (s.modTd (uAt p 0 2) fun u => { u with todPend := some (todOf p) }) := by
  refine guarded_pass s _ ((firstErr_tdChecks hd _).trans ?_)
  simp [hbad, Nat.not_le.mpr hn]

end

/-- Settles O6: each command is ready and its checks pass, so it acknowledges with its effect; OPLL_ALIGN waits for its measurement when it
has outputs to measure. The model's choices in these effects: T0 of OUTPUT_RUN is drawn of two boundaries (log entries 6, 29), TD_SET_TIME
appends its write to those of the window (log entry 30), OPLL_ALIGN joins a measurement in progress and answers at its end (log entry 39), and
OPLL_SET_FREQ leaves STEER at 0 (log entry 28). -/
theorem outputAndTimeCommandsComplete : Obligations.OutputAndTimeCommandsComplete := by
  unfold Obligations.OutputAndTimeCommandsComplete
  intro s c m p n pll td
  refine ⟨fun h ⟨hn, hd⟩ hoff hbad => ?config, fun h ⟨hn, hd⟩ hst hfree hbad => ?setFreq, fun h ⟨hn, hd⟩ hst hr => ?align,
    fun h hn hd hbad hst => ?output, fun h h8 hd hact hmask hr hconf => ?runGroups, fun h h8 hd hact hmask hr hconf => ?runReturns,
    fun h ⟨hn, hd⟩ hbad hsyn => ?tdConfig, fun h ⟨hn, hd⟩ hr => ?tdGetConfig, fun h ⟨hn, hd⟩ hon hheld hbad => ?tdSetTime,
    fun h ⟨hn, hd⟩ hr => ?tdGetTime, fun h ⟨hn, hd⟩ hbad => ?tdSetTod⟩
  case config => exact State.runCmd_acks h (opllConfigReply_ok hn hd hoff hbad c)
  case setFreq =>
    have hok := opllSetFreqReply_ok hn hd hst hfree hbad c
    exact (State.runCmd_acks h hok).trans (congrArg _ (apply_ite (State.acked · c m []) _ _ _))
  case align => exact exec_opllAlign h hn hd hst hr
  case output => exact State.runCmd_acks h (outputConfigReply_ok hn hd hbad hst c)
  case runGroups => exact State.runCmd_acks h (outputRunReply_groups h8 hd hact.le hmask hr hconf hact c)
  case runReturns => exact State.runCmd_acks h (outputRunReply_returns h8 hd hact.le hmask hr hconf hact c)
  case tdConfig => exact State.runCmd_acks h (tdConfigReply_ok hn hd hbad hsyn c)
  case tdGetConfig => exact State.runCmd_acks h (tdGetConfigReply_ok hn hd hr c)
  case tdSetTime => exact State.runCmd_acks h (tdSetTimeReply_ok hn hd hon hheld hbad c)
  case tdGetTime => exact State.runCmd_acks h (tdGetTimeReply_ok hn hd hr c)
  case tdSetTod => exact State.runCmd_acks h (tdSetTodReply_ok hn hd hbad c)

end Sys2Proof.Machine
end

section
/-! SUPPORT. The events of the time domains (R293, R302, R308, R311 to R313, R316, R317). -/

namespace Sys2Proof.Machine
open Sys2Proof

/-! ## A crossing (R293, R308) -/

theorem State.setDelay_td_same (s : State) (m : Nat) (place : Rat) (j : Nat) : (s.setDelay m place).td j = s.td j :=
  s.modOut_td_same m _ j

/-- A domain but for what a missed pulse changes: the counts of missed pulses, the marks and the happenings. -/
def TdUnit.offMisses (u : TdUnit) : TdUnit := { u with ppsMissCnt := 0, ppsMissOut := 0, hist := 0, happened := [] }

theorem TdUnit.miss_offMisses (u : TdUnit) (m i : Nat) : (u.miss m i).offMisses = u.offMisses := rfl

/-- A pulse, emitted or missed, changes a domain in its misses alone. -/
theorem State.pulse_offMisses (s : State) (t sec crossT : Nat) (ctl width : Word) (m j : Nat) :
    ((s.pulse t sec crossT ctl width m).td j).offMisses = (s.td j).offMisses := by
  unfold State.pulse
  extract_lets
  split_ifs
  · rfl
  · rfl
  · rfl
  · rw [State.modBelay_td_same, State.modOut_td_same, State.setDelay_td_same]
  · rw [State.modTd_td]
    split
    · next hj => rw [TdUnit.miss_offMisses, hj]
    · rfl

/-- A crossing that the counter makes moves it to the second reached and takes the waiting time-of-day settings. -/
theorem State.cross_td (s : State) (n k : Nat) (off : Rat) (sec : Nat) :
    let v := (s.cross n k off sec true).td n
    v.sec = sec ∧ v.sub = 0 ∧ v.tod = (s.td n).todPend.getD (s.td n).tod ∧ v.todPend = none := by
  unfold State.cross
  extract_lets u crossT counted tod u' v' due v s1 e loc s2 s3 w
  have hkeep : w.offMisses = v.offMisses := by
    have htrigger : w = s3.td n := by
      unfold w
      split_ifs
      · exact s3.modStitch_td_same e _ n
      · rfl
    have hloop : (s2.td n).offMisses = (s1.td n).offMisses :=
      State.forEach_keep (fun x => (x.td n).offMisses) _ (fun x m => x.pulse_offMisses n sec crossT _ _ m n) _ s1
    have hset : s1.td n = v := (s.setTd_td n n v).trans (if_pos rfl)
    rw [htrigger, s2.modStitch_td_same e _ n, hloop, hset]
  have hv : v.sec = sec ∧ v.sub = 0 ∧ v.tod = tod ∧ v.todPend = none := by
    unfold v
    split_ifs <;> exact ⟨rfl, rfl, rfl, rfl⟩
  obtain ⟨hsec, hsub, htod, hpend⟩ := hv
  exact ⟨(congrArg TdUnit.sec hkeep).trans hsec, (congrArg TdUnit.sub hkeep).trans hsub, (congrArg TdUnit.tod hkeep).trans htod,
    (congrArg TdUnit.todPend hkeep).trans hpend⟩

theorem TdUnit.crossing_ahead {u : TdUnit} (hat : u.atSec = none) (hoff : u.crossOffset < windowNs) :
    u.crossing = some (u.crossOffset, (u.sec + 1) % 2 ^ 64, true) := by
  unfold TdUnit.crossing
  rw [hat]
  exact if_pos hoff

/-- A window that opens with no second left to cross makes the one crossing that its counter reaches (R121, R293). -/
theorem State.crossAll_ahead {s : State} {n : Nat} (hat : (s.td n).atSec = none) (hoff : (s.td n).crossOffset < windowNs) (k : Nat) :
    s.crossAll n k = s.cross n k (s.td n).crossOffset (((s.td n).sec + 1) % 2 ^ 64) true := by
  unfold State.crossAll
  rw [TdUnit.crossing_ahead hat hoff, hat]

/-! ## The start of a message (R311 to R313, R316, R317) -/

/-- The second that a message of the domain names (R312). -/
def TdUnit.namedSec (u : TdUnit) : Nat := (u.crossSec + b2n u.tod.lead) % 2 ^ 64

/-- The domain once its message is no longer due and a pending leap second has been applied (R314). -/
def TdUnit.todStart (u : TdUnit) : TdUnit :=
  let r := u.tod.utc u.namedSec
  { u with todDue := false, tod := r.2.1, hist := setbIf u.hist 6 r.2.2.2, happened := noteIf u.happened r.2.2.2 { sub := 3 } }

/-- A formatter sends for a domain that is TRACKING or in FREERUN, until belay is entered (R312, R324). -/
theorem State.formatterLive_iff (s : State) (n : Nat) :
    ((decide ((s.td n).state = .tracking) || decide ((s.td n).state = .freerun)) && decide (s.belay.phase ≠ 1)) = true ↔
      ((s.td n).state = .tracking ∨ (s.td n).state = .freerun) ∧ s.belay.phase ≠ 1 := by
  simp

section
variable {s : State} {n : Nat} (hdue : (s.td n).todDue = true)
include hdue

theorem State.todMessage_dropped (hlive : ¬(((s.td n).state = .tracking ∨ (s.td n).state = .freerun) ∧ s.belay.phase ≠ 1)) :
    s.todMessage n = s.setTd n { s.td n with todDue := false } := by
  unfold State.todMessage
  exact if_pos (by rw [hdue, Bool.eq_false_iff.mpr (mt (s.formatterLive_iff n).mp hlive)]; rfl)

variable (hlive : ((s.td n).state = .tracking ∨ (s.td n).state = .freerun) ∧ s.belay.phase ≠ 1)
include hlive

theorem State.todMessage_zda (hf : (s.td n).tod.format = 1) : s.todMessage n =
    s.setTd n ((s.td n).todStart.send (zdaBytes (s.td n).tod.talker ((s.td n).tod.utc (s.td n).namedSec).1)) := by
  unfold State.todMessage
  dsimp only
  rw [if_neg (by rw [(s.formatterLive_iff n).mpr hlive]; simp), if_pos (by simp [hdue, hf]), hf]
  rfl

theorem State.todMessage_gepevel (hf : (s.td n).tod.format = 2) : s.todMessage n =
    s.setTd n ((s.td n).todStart.send
      ((s.td n).gepevel n (s.td n).namedSec ((s.td n).tod.utc (s.td n).namedSec).2.2.1)) := by
  unfold State.todMessage
  dsimp only
  rw [if_neg (by rw [(s.formatterLive_iff n).mpr hlive]; simp), if_pos (by simp [hdue, hf]), hf]
  rfl

/-- The bytes that the engine's program left go out once it has ended for this crossing and they fit before the next. -/
theorem State.todMessage_stitch (hf : 3 ≤ (s.td n).tod.format) {len : Nat} (hlen : fld ((s.stitch (engineOfTd n)).loc.getD 24 0) 0 7 = len)
    (hdone : (s.stitch (engineOfTd n)).crossDone = cw2 (s.td n).crossMts) (h1 : 1 ≤ len) (h96 : len ≤ 96) (hdelay : (s.td n).tod.delayMs ≠ 0)
    (hfits : todFits (s.td n).tod.delayMs len (s.td n).tod.baud = true) :
    s.todMessage n = s.setTd n ((s.td n).todStart.send ((s.stitch (engineOfTd n)).todBuf len)) := by
  obtain ⟨k, hk⟩ := Nat.exists_eq_add_of_le' hf
  unfold State.todMessage
  dsimp only
  rw [if_neg (by rw [(s.formatterLive_iff n).mpr hlive]; simp), if_pos (by simp [hdue, hk]), hk, hlen]
  exact if_pos (by simp [hdone, h1, h96, hdelay, hfits])

end

theorem State.exec_todMessageStart {s : State} {n : Nat} (hn : s.hasTd n = true) : exec (.todMessageStart n) s = fin (s.todMessage n) :=
  congrArg fin (if_pos hn)

/-- What the domain whose message goes out holds once the step has ended. -/
theorem State.sent_after (s : State) (n : Nat) (l : List Byte) :
    let v := (s.setTd n ((s.td n).todStart.send l)).after.td n
    v.todDue = false ∧ v.todSeq = ((s.td n).todSeq + 1) % 256 ∧ v.todOut = l := by
  dsimp only
  rw [State.after_td_same, State.setTd_td, if_pos rfl]
  exact ⟨rfl, rfl, rfl⟩

/-! ## The end of the hold (R302) -/

theorem TdUnit.holdExpire_expired {u : TdUnit} {j k : Nat} (hlast : u.lastAccK = some j) (hst : u.state = .tracking)
    (hk : j + u.set.holdMs * winPerMs ≤ k) :
    u.holdExpire k = { u with state := .freerun, y := u.integ, slewLimit := false, hist := setb u.hist 1 } := by
  unfold TdUnit.holdExpire
  rw [hlast]
  exact if_pos ⟨hst, hk⟩

/-- Settles O26: each event is the operation of its row, whose outcome on the domain the lemmas above state. That
WHOLE_SECOND_CROSSING itself makes the crossing that the window holds, so that NS and the fraction read 0 after it, is the model's choice
(log entry 30). -/
theorem timeDomainEventsComplete : Obligations.TimeDomainEventsComplete := by
  unfold Obligations.TimeDomainEventsComplete
  intro s n hn
  refine ⟨fun hrun hen hat hoff => ?crossing, fun hdue hlive hf => ?message, fun hdue hlive => ?dropped,
    fun hdue hlive hf hdone h1 h96 hdelay hfits => ?stitchMessage, fun j hlast hst hk => ?expire⟩
  case crossing =>
    refine ⟨_, congrArg fin ((if_pos (by simp [hn, hrun, hen])).trans (State.crossAll_ahead hat hoff _)), ?_⟩
    rw [State.after_td_same]
    exact s.cross_td n _ _ _
  case message =>
    obtain ⟨l, hstart⟩ : ∃ l, s.todMessage n = s.setTd n ((s.td n).todStart.send l) := by
      rcases hf with hf | hf
      · exact ⟨_, State.todMessage_zda hdue hlive hf⟩
      · exact ⟨_, State.todMessage_gepevel hdue hlive hf⟩
    obtain ⟨hend, hseq, -⟩ := s.sent_after n l
    exact ⟨_, (State.exec_todMessageStart hn).trans (congrArg fin hstart), hend, hseq⟩
  case dropped => exact (State.exec_todMessageStart hn).trans (congrArg fin (State.todMessage_dropped hdue hlive))
  case stitchMessage =>
    obtain ⟨hend, -, hbytes⟩ := s.sent_after n ((s.stitch (engineOfTd n)).todBuf (fld ((s.stitch (engineOfTd n)).loc.getD 24 0) 0 7))
    exact ⟨_, (State.exec_todMessageStart hn).trans (congrArg fin (State.todMessage_stitch hdue hlive hf rfl hdone h1 h96 hdelay hfits)),
      hend, hbytes⟩
  case expire =>
    exact congrArg fin ((if_pos hn).trans ((s.modTd_eq n _).trans (congrArg (s.setTd n) (TdUnit.holdExpire_expired hlast hst hk))))

end Sys2Proof.Machine
end

section
/-! SUPPORT. The crossings between the clock domains of a die (R349 to R352). -/

namespace Sys2Proof.Machine
open Sys2Proof

/-! ## Values and pulses on their way into a crossing (R350, R351) -/

theorem Crossing.send_flying {c : Crossing} (h : c.inFlight = true) (v : BitVec 128) : c.send v = { c with pending := some v } := if_pos h

theorem Crossing.send_idle {c : Crossing} (h : c.inFlight = false) (v : BitVec 128) : c.send v = { c with holding := v, inFlight := true } :=
  if_neg (by simp [h])

theorem Crossing.send_next (c : Crossing) (v : BitVec 128) : (c.send v).next = c.next := by
  unfold Crossing.send
  split <;> rfl

theorem Crossing.sends_next (vs : List (BitVec 128)) (c : Crossing) : (vs.foldl Crossing.send c).next = c.next := by
  induction vs generalizing c with
  | nil => rfl
  | cons v vs ih => rw [List.foldl_cons, ih, Crossing.send_next]

/-- Of the values that come while a transfer is in flight the last one waits, and the transfer goes on (R350). -/
theorem Crossing.sends_flying {c : Crossing} (h : c.inFlight = true) (vs : List (BitVec 128)) (w : BitVec 128) :
    (vs ++ [w]).foldl Crossing.send c = { c with pending := some w } := by
  induction vs generalizing c with
  | nil => exact Crossing.send_flying h w
  | cons v vs ih =>
    rw [List.cons_append, List.foldl_cons, Crossing.send_flying h]
    exact ih (c := { c with pending := some v }) h

theorem Crossing.pulses_held {c : Crossing} {n : Nat} (h : c.next + n ≤ 15) : c.pulses n = ({ c with next := c.next + n }, false) :=
  if_neg (Nat.not_lt.mpr h)

theorem Crossing.pulses_lost {c : Crossing} {n : Nat} (h : 15 < c.next + n) : c.pulses n = ({ c with next := 15 }, true) := if_pos h

/-- Pulses come to the count alone. -/
theorem Crossing.pulses_values (c : Crossing) (n : Nat) :
    (c.pulses n).1.inFlight = c.inFlight ∧ (c.pulses n).1.pending = c.pending ∧ (c.pulses n).1.holding = c.holding := by
  unfold Crossing.pulses
  split <;> exact ⟨rfl, rfl, rfl⟩

/-! ## The acknowledge (R350, R351) -/

theorem Crossing.deliver_last {c : Crossing} (h : c.inFlight = true) (hp : c.pending = none) :
    c.deliver = { c with received := c.holding, inFlight := false, recvCnt := c.recvCnt + c.sent, sent := c.next, next := 0 } := by
  unfold Crossing.deliver
  rw [if_pos h, hp]

theorem Crossing.deliver_pending {c : Crossing} {v : BitVec 128} (h : c.inFlight = true) (hp : c.pending = some v) :
    c.deliver = { c with received := c.holding, holding := v, pending := none, recvCnt := c.recvCnt + c.sent, sent := c.next, next := 0 } := by
  unfold Crossing.deliver
  rw [if_pos h, hp]

theorem Crossing.deliver_sent (c : Crossing) : c.deliver.sent = c.next := by
  unfold Crossing.deliver
  split
  · split <;> rfl
  · rfl

/-! ## The rows -/

section
variable {s : State} {d x : Nat} (hd : s.fitted d = true) (hx : x < 256)
include hd hx

theorem exec_cdcValueDeliver (n : Nat) (vs : List (BitVec 128)) : exec (.cdcValueDeliver d x n vs) s = fin (s.cdcDeliver d x n vs) :=
  congrArg fin (if_pos (by simp [hd, hx]))

theorem exec_phasePredictorValid : exec (.phasePredictorValid d x) s =
    fin (s.setCrossing (256 * d + x) { s.crossing (256 * d + x) with predictor := true }) :=
  congrArg fin (if_pos (by simp [hd, hx]))

end

/-- A burst of pulses that the count holds changes the crossing alone (R351). -/
theorem State.cdcDeliver_held {s : State} {d x n : Nat} {vs : List (BitVec 128)} {c : Crossing}
    (hc : vs.foldl Crossing.send (s.crossing (256 * d + x)) = c) (hn : c.next + n ≤ 15) :
    s.cdcDeliver d x n vs = s.setCrossing (256 * d + x) (Crossing.deliver { c with next := c.next + n }) := by
  unfold State.cdcDeliver crossingOf
  dsimp only
  rw [hc, Crossing.pulses_held hn]
  rfl

/-- What the crossing becomes, whether pulses are lost or not. -/
theorem State.cdcDeliver_crossing (s : State) (d x n : Nat) (vs : List (BitVec 128)) :
    (s.cdcDeliver d x n vs).crossing (256 * d + x) = ((vs.foldl Crossing.send (s.crossing (256 * d + x))).pulses n).1.deliver := by
  unfold State.cdcDeliver crossingOf
  dsimp only
  split <;> simp

/-- Pulses that find the count full are counted at the die (R351). -/
theorem State.cdcDeliver_lost {s : State} {d x n : Nat} (hn : 15 < (s.crossing (256 * d + x)).next + n) (vs : List (BitVec 128)) :
    ((s.cdcDeliver d x n vs).crossing (256 * d + x)).sent = 15 ∧
      ((s.cdcDeliver d x n vs).die d).cdcOvfCnt = satInc (s.die d).cdcOvfCnt ∧ bit ((s.cdcDeliver d x n vs).die d).shtHist 6 = true := by
  have hlost := Crossing.pulses_lost (c := vs.foldl Crossing.send (s.crossing (256 * d + x))) (n := n) (by rw [Crossing.sends_next]; exact hn)
  refine ⟨?_, ?_⟩
  · rw [State.cdcDeliver_crossing, hlost, Crossing.deliver_sent]
  · unfold State.cdcDeliver crossingOf
    dsimp only
    rw [hlost, if_pos rfl]
    dsimp only
    rw [State.modDie_die, if_pos rfl, State.setCrossing_die_same]
    exact ⟨rfl, bit_satFlag_of (bit_setb_same _ (by decide)) 7 _⟩

/-- Settles O30: the values and the pulses reach the crossing, and the acknowledge moves it on. That the crossings of a die are numbered 0 to
255, and the transfers that one event makes, are the model's choice (log entry 56). -/
theorem crossingEventsComplete : Obligations.CrossingEventsComplete := by
  unfold Obligations.CrossingEventsComplete
  intro s d x hd hx
  refine ⟨fun n hfly hpend hn => ?none, fun n v hidle hpend hn => ?one, fun n v w vs hfly => ?several, fun n vs hn => ?burst,
    exec_phasePredictorValid hd hx⟩
  case none =>
    exact (exec_cdcValueDeliver hd hx n []).trans (congrArg fin ((State.cdcDeliver_held (vs := []) rfl hn).trans
      (congrArg _ (Crossing.deliver_last (c := { s.crossing (256 * d + x) with next := _ }) hfly hpend))))
  case one =>
    refine (exec_cdcValueDeliver hd hx n [v]).trans (congrArg fin ((State.cdcDeliver_held (vs := [v]) (Crossing.send_idle hidle v) hn).trans
      (congrArg _ ((Crossing.deliver_last (c := { s.crossing (256 * d + x) with holding := v, inFlight := true, next := _ }) rfl hpend).trans ?_))))
    rw [hidle]
  case several =>
    refine ⟨_, exec_cdcValueDeliver hd hx n _, ?_⟩
    have hlast : vs ++ [v, w] = vs ++ [v] ++ [w] := by simp
    obtain ⟨hfly', hpend, hhold⟩ := Crossing.pulses_values { s.crossing (256 * d + x) with pending := some w } n
    rw [State.after_crossing_same, State.cdcDeliver_crossing, hlast, Crossing.sends_flying hfly, Crossing.deliver_pending (hfly'.trans hfly) hpend]
    exact ⟨hhold, rfl, rfl⟩
  case burst =>
    obtain ⟨hsent, hcount, hbit⟩ := State.cdcDeliver_lost hn vs
    refine ⟨_, exec_cdcValueDeliver hd hx n vs, ?_⟩
    rw [State.after_crossing_same, State.after_die_same]
    exact ⟨hsent, hcount, hbit⟩

end Sys2Proof.Machine
end

section
/-! SUPPORT. The byte of the SPI status operation (R468). -/

namespace Sys2Proof.Machine
open Sys2Proof

/-- A part whose SPI port reads a register of die 7 and has a second read behind that one: no write waits at the port. -/
def readsBehindRead : State :=
  State.reset.modPort 1 fun t => { t with
    busy := some { path := .spi, addr := 0x1C00100, write := false, val := 0 }
    queue := [{ path := .spi, addr := 0x100, write := false, val := 0 }] }

/-- Refutes O31: bit 0 of the SPI status byte says that no write waits at the port (R468), and the port's queue also holds reads. With a read
alone in the queue SPI_STATUS makes the byte 1, where the first clause, which takes bit 0 from the whole queue, makes it 0. -/
theorem not_portEventsComplete : ¬ Obligations.PortEventsComplete := by
  unfold Obligations.PortEventsComplete
  intro h
  obtain ⟨hstatus, -⟩ := h readsBehindRead
  have hnext := hstatus (by decide)
  have hspi : exec .spiStatus readsBehindRead = .next (readsBehindRead.modHost fun h => { h with spiStatus := 1 }).after := by
    refine congrArg fin ((if_pos (by decide)).trans ?_)
    rfl
  have heq := congrArg (fun t => t.host.spiStatus) (Host.Outcome.next.inj (hspi.symm.trans hnext))
  rw [State.after_host_spiStatus, State.after_host_spiStatus] at heq
  exact absurd heq (by decide)

end Sys2Proof.Machine
end

section
/-! SUPPORT. The dies and the ports of the shuttle: what a change of one port leaves, and what the traffic of the links leaves of every die
(R54, R62, R63, R333, R339, R343 to R348). -/

namespace Sys2Proof.Machine
open Sys2Proof

/-! ## The grid (R332, R333) -/

theorem facing_ne {d l : Nat} {g : Nat × Nat} (h : facing d l = some g) : gridOf d ≠ g := by
  unfold facing at h
  grind

theorem State.neighbour_ne {s : State} {d l x : Nat} (h : s.neighbour d l = some x) : d ≠ x := by
  unfold State.neighbour at h
  split at h
  next => cases h
  next g hg =>
    have hx : gridOf x = g := of_decide_eq_true (List.find?_some (p := fun y => decide (gridOf y = g)) h)
    rintro rfl
    exact facing_ne hg hx

theorem State.neighbour_lt_four {s : State} {d l x : Nat} (h : s.neighbour d l = some x) : l < 4 := by
  unfold State.neighbour facing at h
  match l, h with
  | 0, _ | 1, _ | 2, _ | 3, _ => omega
  | _ + 4, h => cases h

theorem State.neighbour_of_part {s t : State} (h : t.part = s.part) (d l : Nat) : t.neighbour d l = s.neighbour d l := by
  unfold State.neighbour State.nDies
  rw [h]

theorem State.modDie_neighbour (s : State) (j : Nat) (f : Die → Die) (d l : Nat) : (s.modDie j f).neighbour d l = s.neighbour d l := rfl

theorem State.modLink_neighbour (s : State) (j m : Nat) (f : LinkPort → LinkPort) (d l : Nat) :
    (s.modLink j m f).neighbour d l = s.neighbour d l := rfl

/-! ## One die and one port -/

theorem State.modDie_die_ne (s : State) {d j : Nat} (h : j ≠ d) (f : Die → Die) : (s.modDie d f).die j = s.die j := by
  rw [State.modDie_die, if_neg h]

/-- What a change of a die leaves of every die. -/
theorem State.modDie_leaves {β : Type} (g : Die → β) (s : State) (d j : Nat) {f : Die → Die} (h : ∀ u, g (f u) = g u) :
    g ((s.modDie d f).die j) = g (s.die j) := by
  rw [State.modDie_die]
  split
  next hj => rw [h, hj]
  next => rfl

/-- A change of a port leaves all of a die that is not its ports. -/
theorem State.modLink_leaves {β : Type} (g : Die → β) (h : ∀ u q, g { u with links := q } = g u) (s : State) (d l j : Nat)
    (f : LinkPort → LinkPort) : g ((s.modLink d l f).die j) = g (s.die j) := s.modDie_leaves g d j fun u => h u _

theorem State.modLink_die_ne (s : State) {d j : Nat} (h : j ≠ d) (l : Nat) (f : LinkPort → LinkPort) : (s.modLink d l f).die j = s.die j :=
  s.modDie_die_ne h _

@[simp] theorem State.modLink_width (s : State) (d l j : Nat) (f : LinkPort → LinkPort) :
    ((s.modLink d l f).die j).links.length = (s.die j).links.length :=
  s.modDie_leaves (fun u => u.links.length) d j fun _ => List.length_set

theorem State.link_of_die {s t : State} {d : Nat} (h : t.die d = s.die d) (l : Nat) : t.link d l = s.link d l := by
  unfold State.link
  rw [h]

@[simp] theorem State.after_link (s : State) (d l : Nat) : s.after.link d l = s.link d l := State.link_of_die (s.after_die_same d) l

/-- What a change of a die leaves of its ports. -/
theorem State.modDie_link (s : State) (d j l : Nat) {f : Die → Die} (h : ∀ u, (f u).links = u.links) : (s.modDie d f).link j l = s.link j l :=
  congrArg (fun q : List LinkPort => q.getD l {}) (s.modDie_leaves Die.links d j h)

theorem State.modLink_link_same {s : State} {d l : Nat} (hl : l < (s.die d).links.length) (f : LinkPort → LinkPort) :
    (s.modLink d l f).link d l = f (s.link d l) := by
  unfold State.modLink State.link
  rw [State.modDie_die, if_pos rfl]
  simp [hl]

theorem State.modLink_link_other (s : State) {d l m : Nat} (h : m ≠ l) (f : LinkPort → LinkPort) : (s.modLink d l f).link d m = s.link d m := by
  unfold State.modLink State.link
  rw [State.modDie_die, if_pos rfl]
  simp [List.getElem?_set_ne h.symm]

/-- A port after a change of a port: as it was, or changed. -/
theorem State.modLink_link_cases (s : State) (d l j m : Nat) (f : LinkPort → LinkPort) :
    (s.modLink d l f).link j m = s.link j m ∨ (s.modLink d l f).link j m = f (s.link j m) := by
  by_cases hj : j = d
  · subst hj
    by_cases hm : m = l
    · subst hm
      by_cases hl : m < (s.die j).links.length
      · exact .inr (State.modLink_link_same hl f)
      · left
        unfold State.link
        have hwidth := s.modLink_width j m j f
        rw [List.getD_eq_default _ _ (by omega), List.getD_eq_default _ _ (by omega)]
    · exact .inl (s.modLink_link_other hm f)
  · exact .inl (State.link_of_die (s.modLink_die_ne hj l f) m)

/-- What a change of a port leaves of every port. -/
theorem State.modLink_leavesPort {β : Type} (g : LinkPort → β) {f : LinkPort → LinkPort} (h : ∀ p, g (f p) = g p) (s : State) (d l j m : Nat) :
    g ((s.modLink d l f).link j m) = g (s.link j m) := by
  rcases s.modLink_link_cases d l j m f with e | e
  · rw [e]
  · rw [e, h]

/-- What a loop over ports of a die leaves of every die. -/
theorem State.forEach_modLink_leaves {β : Type} (g : Die → β) (h : ∀ u q, g { u with links := q } = g u) (s : State) (d j : Nat)
    (ns : List Nat) (f : Nat → LinkPort → LinkPort) : g ((s.forEach ns fun t i => t.modLink d i (f i)).die j) = g (s.die j) :=
  State.forEach_keep (fun t => g (t.die j)) (fun t i => t.modLink d i (f i)) (fun t i => t.modLink_leaves g h d i j (f i)) ns s

/-- What a loop over ports of a die leaves of every port. -/
theorem State.forEach_modLink_leavesPort {β : Type} (g : LinkPort → β) {f : Nat → LinkPort → LinkPort} (h : ∀ i p, g (f i p) = g p) (s : State)
    (d j m : Nat) (ns : List Nat) : g ((s.forEach ns fun t i => t.modLink d i (f i)).link j m) = g (s.link j m) :=
  State.forEach_keep (fun t => g (t.link j m)) (fun t i => t.modLink d i (f i)) (fun t i => t.modLink_leavesPort g (h i) d i j m) ns s

/-- A loop over ports of a die changes each port of its list once. -/
theorem State.forEach_modLink {d m : Nat} (g : Nat → LinkPort → LinkPort) {ns : List Nat} (hnd : ns.Nodup) {s : State}
    (hm : m < (s.die d).links.length) :
    (s.forEach ns fun t i => t.modLink d i (g i)).link d m = if m ∈ ns then g m (s.link d m) else s.link d m := by
  induction ns generalizing s with
  | nil => rfl
  | cons n ns ih =>
    obtain ⟨hn, hns⟩ := List.nodup_cons.mp hnd
    have hstep : s.forEach (n :: ns) (fun t i => t.modLink d i (g i)) = (s.modLink d n (g n)).forEach ns fun t i => t.modLink d i (g i) := rfl
    rw [hstep, ih hns (by rw [State.modLink_width]; exact hm)]
    by_cases h : m = n
    · subst h
      simp [hn, State.modLink_link_same hm]
    · simp [h, s.modLink_link_other h]

/-! ## What the traffic of the links leaves -/

/-- The port but for its exchanges and its frames. -/
def LinkPort.steady (p : LinkPort) : LinkPort := { p with exch := [], exchCnt := 0, replay := [], lane := [] }

/-- The die but for its frames and records, DIE_UP and the loss of its paths, SEED_PRESENT, and the exchanges and frames of its ports. -/
def Die.steady (u : Die) : Die :=
  { u with up := false, cutOff := false, rerun := false, waiting := [], exportQ := [], intake := [], inbound := [], seedPresent := false,
           links := u.links.map LinkPort.steady }

/-- Every die but for those. -/
def State.steady (s : State) : Nat → Die := fun d => (s.die d).steady

theorem State.steady_of_dies {s t : State} (h : t.dies = s.dies) : t.steady = s.steady := by
  unfold State.steady State.die
  rw [h]

section
variable {s t : State} {d : Nat} (h : t.steady d = s.steady d)
include h

/-- What is read of a die, or of a port, is the same when it is read of what is steady of it. -/
theorem State.read_of_steady {β : Type} (g : Die → β) (hg : ∀ u, g u.steady = g u) : g (t.die d) = g (s.die d) := by
  rw [← hg (t.die d), ← hg (s.die d)]
  exact congrArg g h

theorem State.link_of_steady (l : Nat) : (t.link d l).steady = (s.link d l).steady := by
  have hread (x : State) : (x.link d l).steady = (x.steady d).links.getD l {} := by
    show _ = ((x.die d).links.map LinkPort.steady).getD l {}
    rw [List.getD_eq_getElem?_getD, List.getElem?_map]
    unfold State.link
    rw [List.getD_eq_getElem?_getD]
    cases (x.die d).links[l]? <;> rfl
  rw [hread, hread, h]

theorem State.readPort_of_steady {β : Type} (g : LinkPort → β) (hg : ∀ p, g p.steady = g p) (l : Nat) : g (t.link d l) = g (s.link d l) := by
  rw [← hg (t.link d l), ← hg (s.link d l), State.link_of_steady h]

theorem State.state_of_steady (l : Nat) : (t.link d l).state = (s.link d l).state := State.readPort_of_steady h LinkPort.state (fun _ => rfl) l

theorem State.shtHist_of_steady : (t.die d).shtHist = (s.die d).shtHist := State.read_of_steady h Die.shtHist fun _ => rfl

theorem State.width_of_steady : (t.die d).links.length = (s.die d).links.length :=
  State.read_of_steady h (fun u => u.links.length) fun _ => List.length_map LinkPort.steady

end

@[simp] theorem ite_steady (c : Prop) [Decidable c] (a b : State) : (if c then a else b).steady = if c then a.steady else b.steady := by
  split <;> rfl
@[simp] theorem State.forEach_steady (s : State) (ns : List Nat) (f : State → Nat → State) (h : ∀ t n, (f t n).steady = t.steady) :
    (s.forEach ns f).steady = s.steady := State.forEach_keep State.steady f h ns s
@[simp] theorem foldl_steady {α : Type} (s : State) (l : List α) (f : State → α → State) (h : ∀ t a, (f t a).steady = t.steady) :
    (l.foldl f s).steady = s.steady := by
  induction l generalizing s with
  | nil => rfl
  | cons a l ih => rw [List.foldl_cons, ih, h]

theorem State.modDie_steady (s : State) (d : Nat) {f : Die → Die} (h : ∀ u, (f u).steady = u.steady) : (s.modDie d f).steady = s.steady :=
  funext fun j => s.modDie_leaves Die.steady d j h

theorem State.modLink_steady (s : State) (d l : Nat) {f : LinkPort → LinkPort} (h : ∀ p, (f p).steady = p.steady) :
    (s.modLink d l f).steady = s.steady := by
  refine s.modDie_steady d fun u => ?_
  have hports : (u.links.set l (f (u.links.getD l {}))).map LinkPort.steady = u.links.map LinkPort.steady := by
    rw [List.map_set, h]
    by_cases hl : l < u.links.length
    · rw [List.getD_eq_getElem _ _ hl, ← List.getElem_map (l := u.links) LinkPort.steady (h := by simpa using hl), List.set_getElem_self]
    · exact List.set_eq_of_length_le (by simpa using hl)
  unfold Die.steady
  rw [hports]

@[simp] theorem State.modHost_steady (s : State) (f : HostSide → HostSide) : (s.modHost f).steady = s.steady := rfl
@[simp] theorem State.modRing_steady (s : State) (r : Nat) (f : Ring → Ring) : (s.modRing r f).steady = s.steady := rfl
@[simp] theorem State.modMbx_steady (s : State) (c : Nat) (f : Mbx → Mbx) : (s.modMbx c f).steady = s.steady := rfl
@[simp] theorem State.modDx_steady (s : State) (d : Nat) (f : DieX → DieX) : (s.modDx d f).steady = s.steady := rfl
@[simp] theorem State.modChan_steady (s : State) (n : Nat) (f : TdcChan → TdcChan) : (s.modChan n f).steady = s.steady := rfl
@[simp] theorem State.modDpll_steady (s : State) (n : Nat) (f : DpllUnit → DpllUnit) : (s.modDpll n f).steady = s.steady := rfl
@[simp] theorem State.modBelay_steady (s : State) (f : Belay → Belay) : (s.modBelay f).steady = s.steady := rfl

/-! ### Paths and exchanges (R62, R63, R116) -/

@[simp] theorem State.exchAnew_steady (s : State) (d : Nat) : (s.exchAnew d).steady = s.steady := by
  unfold State.exchAnew
  split
  · exact s.modLink_steady d _ fun _ => rfl
  · rfl

@[simp] theorem State.viewsDown_steady (s : State) (d : Nat) : (s.viewsDown d).steady = s.steady := by
  unfold State.viewsDown
  simp

@[simp] theorem State.refreshUp_steady (s : State) : s.refreshUp.steady = s.steady := by
  unfold State.refreshUp
  refine State.forEach_steady _ _ _ fun t d => ?_
  dsimp only
  rw [ite_steady, State.viewsDown_steady, ite_self, ite_steady, State.exchAnew_steady, ite_self]
  exact t.modDie_steady d fun _ => rfl

@[simp] theorem State.startFills_steady (s : State) (d : Nat) : (s.startFills d).steady = s.steady := by
  unfold State.startFills
  split
  · dsimp only
    refine (State.forEach_steady _ _ _ fun t n => t.modChan_steady n _).trans ?_
    split
    · exact s.modDie_steady d fun _ => rfl
    · rfl
  · rfl

/-! ### Frames and records on their way (R54, R56, R334, R339, R347, R348) -/

@[simp] theorem State.post_steady (s : State) (d : Nat) (f : Frame) : (s.post d f).steady = s.steady := by
  unfold State.post
  split
  · exact s.modLink_steady d _ fun _ => rfl
  · exact s.modDie_steady d fun _ => rfl

@[simp] theorem State.sendWaiting_steady (s : State) : s.sendWaiting.steady = s.steady := by
  unfold State.sendWaiting
  refine State.forEach_steady _ _ _ fun t d => ?_
  dsimp only
  split
  · rfl
  · exact (foldl_steady _ _ _ fun x f => x.post_steady d f).trans (t.modDie_steady d fun _ => rfl)

theorem State.recordLost_steady (s : State) (r : BitVec 128) : (s.recordLost r).steady = s.steady := rfl

@[simp] theorem State.lose_steady (s : State) (fs : List Frame) : (s.lose fs).steady = s.steady := by
  unfold State.lose
  refine foldl_steady _ _ _ fun t f => ?_
  cases f with
  | write a w => exact (State.modHost_steady _ _).trans (t.modDie_steady _ fun _ => rfl)
  | request c d => simp
  | records rs => exact foldl_steady _ _ _ State.recordLost_steady
  | read _ | word _ _ | marker | rate _ _ | image _ => rfl

@[simp] theorem State.flushLink_steady (s : State) (d l : Nat) : (s.flushLink d l).steady = s.steady := by
  unfold State.flushLink
  split
  · rfl
  · have hempty (t : State) (j m : Nat) : (t.modLink j m LinkPort.emptied).steady = t.steady := t.modLink_steady j m fun _ => rfl
    rw [State.lose_steady, hempty, hempty]

@[simp] theorem State.wordsLost_steady (s : State) (d l : Nat) : (s.wordsLost d l).steady = s.steady := by
  unfold State.wordsLost
  dsimp only
  split
  · rfl
  · split
    · exact s.modLink_steady _ _ fun _ => rfl
    · rfl

@[simp] theorem State.pushExport_steady (s : State) (d : Nat) (rs : List (BitVec 128)) : (s.pushExport d rs).steady = s.steady := by
  unfold State.pushExport
  dsimp only
  split
  · exact s.modDie_steady 0 fun _ => rfl
  · refine Eq.trans ?_ (s.modDie_steady d (f := fun u => { u with exportQ := (s.die d).exportQ ++ rs.take (4096 - (s.die d).exportQ.length) })
      fun _ => rfl)
    split <;> rfl

@[simp] theorem State.recordsArrive_steady (s : State) (d : Nat) (rs : List (BitVec 128)) : (s.recordsArrive d rs).steady = s.steady := by
  unfold State.recordsArrive
  split
  · exact foldl_steady _ _ _ fun t r => t.modDie_steady _ fun _ => rfl
  · split
    · exact s.modLink_steady d _ fun _ => rfl
    · exact s.pushExport_steady d rs

/-! ### Belay entered anew (R531, R543) -/

@[simp] theorem State.admitOne_steady (s : State) : s.admitOne.steady = s.steady := by
  unfold State.admitOne
  dsimp only
  split
  · rfl
  · next d _ =>
    split
    · rfl
    · next r rs _ =>
      have htake : (s.modDie d fun u => { u with intake := rs }).steady = s.steady := s.modDie_steady d fun _ => rfl
      split <;> exact htake

@[simp] theorem State.ringOff_steady (s : State) (i : Nat) (abort block : Bool) : (s.ringOff i abort block).steady = s.steady := by
  unfold State.ringOff State.admitAll
  simp

theorem State.steady_of_offLoops {s t : State} (h : t.offLoops = s.offLoops) : t.steady = s.steady :=
  State.steady_of_dies (congrArg State.dies h : t.offLoops.dies = s.offLoops.dies)

@[simp] theorem State.endSession_steady (s : State) (c : Nat) : (s.endSession c).steady = s.steady := by
  unfold State.endSession State.refreshAuth
  simp

theorem State.withTds_steady (s : State) (l : Tbl TdUnit) : ({ s with tds := l } : State).steady = s.steady := rfl

@[simp] theorem State.belayBegin_steady (s : State) (cmd : Bool) : (s.belayBegin cmd).steady = s.steady := by
  unfold State.belayBegin State.ringsOff State.semFree
  dsimp only
  rw [State.modBelay_steady]
  refine (State.forEach_steady _ _ _ fun t m => ?_).trans ?_
  · split
    · rfl
    · exact State.steady_of_offLoops (t.stopOut_offLoops m true)
  rw [State.withTds_steady]
  simp

@[simp] theorem State.belayAgain_steady (s : State) : s.belayAgain.steady = s.steady := by
  unfold State.belayAgain
  simp

@[simp] theorem State.resumeTds_steady (s : State) (d : Nat) : (s.resumeTds d).steady = s.steady := by
  unfold State.resumeTds
  dsimp only
  rw [State.modBelay_steady]
  exact State.forEach_steady _ _ _ fun _ _ => rfl

end Sys2Proof.Machine
end

section
/-! SUPPORT. The events of the shuttle links (R62, R63, R343 to R348). -/

namespace Sys2Proof.Machine
open Sys2Proof

theorem State.linkIn_of {s : State} {d l x : Nat} {q : LinkSt} (hx : s.neighbour d l = some x) (hst : (s.link d l).state = q) :
    s.linkIn d l q = true := by simp [State.linkIn, hst, hx]

@[simp] theorem State.shtHist_link (s : State) (d i j l : Nat) : (s.shtHist d i).link j l = s.link j l := s.modDie_link d j l fun _ => rfl

theorem State.shtHist_bit (s : State) (d : Nat) {i : Nat} (hi : i < 32) : bit ((s.shtHist d i).die d).shtHist i = true := by
  unfold State.shtHist
  rw [State.modDie_die, if_pos rfl]
  exact bit_setb_same _ hi

/-! ## Paths judged again (R62, R63) -/

theorem State.exchAnew_die_ne (s : State) {d j : Nat} (h : j ≠ d) : (s.exchAnew d).die j = s.die j := by
  unfold State.exchAnew
  split
  · exact s.modLink_die_ne h _ _
  · rfl

theorem State.exchAnew_exch_nil {s : State} {j m : Nat} (h : (s.link j m).exch = []) (d : Nat) : ((s.exchAnew d).link j m).exch = [] := by
  unfold State.exchAnew
  split
  next l _ =>
    rcases s.modLink_link_cases d l j m fun p => { p with exch := [], exchCnt := 0 } with e | e
    · rw [e, h]
    · rw [e]
  next => exact h

theorem State.viewsDown_dies (s : State) (d : Nat) : (s.viewsDown d).dies = s.dies :=
  State.forEach_keep State.dies _ (fun t n => by dsimp only; split <;> rfl) _ s

theorem State.viewsDown_die (s : State) (d j : Nat) : (s.viewsDown d).die j = s.die j := by
  unfold State.die
  rw [State.viewsDown_dies]

theorem State.viewsDown_link (s : State) (d j m : Nat) : (s.viewsDown d).link j m = s.link j m := State.link_of_die (s.viewsDown_die d j) m

/-- DIE_UP of one die judged in the state `s`, and its exchanges begun anew when a path has returned (R62, R63). -/
def State.judge (s t : State) (d : Nat) : State :=
  let u := t.die d
  let path := s.hasPath d
  let cut := u.cutOff || (u.up && !path)
  let up := path && (u.up || (u.booted && u.skewValid && !u.reparent && !cut))
  let t1 := t.modDie d fun v => { v with up := up, cutOff := cut, rerun := cut && path }
  let t2 := if cut && path && !u.rerun then t1.exchAnew d else t1
  if u.up && !up then t2.viewsDown d else t2

theorem State.refreshUp_eq (s : State) : s.refreshUp = s.forEach ((List.range s.nDies).drop 1) s.judge := rfl

theorem State.judge_exch_nil {s t : State} {j m : Nat} (h : (t.link j m).exch = []) (d : Nat) : ((s.judge t d).link j m).exch = [] := by
  unfold State.judge
  extract_lets u path cut up t1 t2
  have hlink : t1.link j m = t.link j m := t.modDie_link d j m fun _ => rfl
  have ht1 : (t1.link j m).exch = [] := by rw [hlink, h]
  have ht2 : (t2.link j m).exch = [] := by
    unfold t2
    split
    · exact State.exchAnew_exch_nil ht1 d
    · exact ht1
  split
  · rw [State.viewsDown_link, ht2]
  · exact ht2

theorem State.refreshUp_exch_nil {s : State} {d l : Nat} (h : (s.link d l).exch = []) : (s.refreshUp.link d l).exch = [] := by
  rw [State.refreshUp_eq]
  exact State.forEach_inv (fun t => (t.link d l).exch = []) s.judge (fun _ n ht => State.judge_exch_nil ht n) _ s h

/-- The exchanges of die `d` go on: they run already, or no path has returned to a die that was cut off. -/
def Die.settled (u : Die) (path : Bool) : Prop := u.rerun = true ∨ (u.cutOff && path) = false

theorem State.judge_links {s t : State} {d : Nat} (h : (t.die d).settled (s.hasPath d)) (j : Nat) :
    ((s.judge t j).die d).links = (t.die d).links ∧ ((s.judge t j).die d).settled (s.hasPath d) := by
  unfold State.judge
  dsimp only
  have hviews (c : Prop) [Decidable c] (x : State) : (if c then x.viewsDown j else x).die d = x.die d := by
    split
    · exact x.viewsDown_die j d
    · rfl
  rw [hviews]
  by_cases hj : d = j
  · subst hj
    rw [if_neg (by unfold Die.settled at h; grind), State.modDie_die, if_pos rfl]
    refine ⟨rfl, ?_⟩
    unfold Die.settled
    dsimp only
    grind
  · have hkeep (c : Prop) [Decidable c] (x : State) : (if c then x.exchAnew j else x).die d = x.die d := by
      split
      · exact x.exchAnew_die_ne hj
      · rfl
    rw [hkeep, State.modDie_die_ne _ hj]
    exact ⟨rfl, h⟩

theorem State.refreshUp_links {s : State} {d : Nat} (h : (s.die d).settled (s.hasPath d)) : (s.refreshUp.die d).links = (s.die d).links := by
  have hinv := State.forEach_inv (fun t => (t.die d).links = (s.die d).links ∧ (t.die d).settled (s.hasPath d)) s.judge
    (fun t n ht => by
      obtain ⟨hlinks, hsettled⟩ := ht
      obtain ⟨hl, hs⟩ := State.judge_links hsettled n
      exact ⟨hl.trans hlinks, hs⟩) ((List.range s.nDies).drop 1) s ⟨rfl, h⟩
  rw [State.refreshUp_eq]
  exact hinv.1

/-! ## TB_SKEW (R63, R344) -/

theorem State.startFills_link (s : State) (d j l : Nat) : (s.startFills d).link j l = s.link j l := by
  unfold State.startFills
  split
  · refine (State.forEach_keep (fun t => t.link j l) (fun t n => t.modChan n _) (fun t n => rfl) _ _).trans ?_
    split
    · exact s.modDie_link d j l fun _ => rfl
    · rfl
  · rfl

/-- The die with the TB_SKEW `v` taken. -/
def Die.takesSkew (u : Die) (v : Int) : Die :=
  { u with skew := v, skewTarget := v, skewValid := true, reparent := false, cutOff := false, rerun := false }

@[simp] theorem Die.takesSkew_tbLock (u : Die) (v : Int) : (u.takesSkew v).tbLock = u.tbLock := rfl
@[simp] theorem Die.takesSkew_shtHist (u : Die) (v : Int) : (u.takesSkew v).shtHist = u.shtHist := rfl

/-- A die without a parent link that faces a fitted die takes no TB_SKEW. -/
theorem State.takeSkew_cases (s : State) (d : Nat) : s.takeSkew d = s ∨ ∃ v, s.takeSkew d = s.modDie d fun u => u.takesSkew v := by
  unfold State.takeSkew
  split
  · exact .inl rfl
  · split
    · exact .inl rfl
    · exact .inr ⟨_, rfl⟩

theorem State.takeSkew_child {s : State} {d l x : Nat} (hp : s.parentPort d = some l) (hx : s.neighbour d l = some x) :
    s.takeSkew d = s.modDie d fun u => u.takesSkew ((s.link d l).mean + (s.die x).skew) := by
  unfold State.takeSkew
  rw [hp]
  dsimp only
  rw [hx]
  rfl

@[simp] theorem State.takeSkew_link (s : State) (d j l : Nat) : (s.takeSkew d).link j l = s.link j l := by
  rcases s.takeSkew_cases d with e | ⟨v, e⟩ <;> rw [e]
  exact s.modDie_link d j l fun _ => rfl

theorem State.takeSkew_die_ne (s : State) {d j : Nat} (h : j ≠ d) : (s.takeSkew d).die j = s.die j := by
  rcases s.takeSkew_cases d with e | ⟨v, e⟩ <;> rw [e]
  exact s.modDie_die_ne h _

theorem State.takeSkew_part (s : State) (d : Nat) : (s.takeSkew d).part = s.part := by
  rcases s.takeSkew_cases d with e | ⟨v, e⟩ <;> rw [e]
  rfl

theorem State.pathBack_cases (s : State) (d l : Nat) : s.pathBack d l = s ∨ s.pathBack d l = s.takeSkew d := by
  unfold State.pathBack
  split
  · exact .inr rfl
  · exact .inl rfl

@[simp] theorem State.pathBack_link (s : State) (d m j l : Nat) : (s.pathBack d m).link j l = s.link j l := by
  rcases s.pathBack_cases d m with e | e <;> simp [e]

theorem State.pathBack_die_ne (s : State) {d j : Nat} (h : j ≠ d) (m : Nat) : (s.pathBack d m).die j = s.die j := by
  rcases s.pathBack_cases d m with e | e <;> rw [e]
  exact s.takeSkew_die_ne h

theorem State.pathBack_part (s : State) (d m : Nat) : (s.pathBack d m).part = s.part := by
  rcases s.pathBack_cases d m with e | e <;> rw [e]
  exact s.takeSkew_part d

/-- A die whose exchanges on the parent link run anew takes TB_SKEW at their end, and its ports stay (R63). -/
theorem State.retaken_link {s : State} {d : Nat} (h : (s.die d).rerun = true) (l : Nat) :
    (((s.takeSkew d).refreshUp).startFills d).link d l = s.link d l := by
  have hsettled : ((s.takeSkew d).die d).settled ((s.takeSkew d).hasPath d) := by
    rcases s.takeSkew_cases d with e | ⟨v, e⟩
    · rw [e]
      exact .inl h
    · refine .inr ?_
      rw [e, State.modDie_die, if_pos rfl]
      rfl
  rw [State.startFills_link, ← s.takeSkew_link d d l]
  exact congrArg (fun q : List LinkPort => q.getD l {}) (State.refreshUp_links hsettled)

/-! ## Exchanges (R343, R344) -/

/-- The port after an exchange of offset `delta`. -/
def LinkPort.exchanged (p : LinkPort) (delta : Rat) : LinkPort :=
  { p with exch := lastN 64 (p.exch ++ [delta]), exchCnt := p.exchCnt + 1,
           skew := if p.state = .up then meanExch (lastN 64 (p.exch ++ [delta])) else p.skew }

/-- Both ports after an exchange, before the die counts on. -/
def State.exchangeMade (s : State) (d l x : Nat) (delta : Rat) : State :=
  (s.modLink d l fun p => p.exchanged delta).modLink x (backPort l) fun q => { q with exchCnt := q.exchCnt + 1 }

/-- An exchange on the parent link loads the coarse counter (R103). -/
def State.exchangeLoads (s : State) (d l x : Nat) (delta : Rat) : State :=
  if (s.link d l).parent && (s.die x).mclkOk then
    (s.exchangeMade d l x delta).modDie d fun u => { u with mclkOk := true, mclk := (s.die x).mclk }
  else s.exchangeMade d l x delta

section
variable {s : State} {d l x : Nat} (hx : s.neighbour d l = some x)
include hx

theorem State.exchangeMade_die (delta : Rat) : (s.exchangeMade d l x delta).die d = (s.modLink d l fun p => p.exchanged delta).die d :=
  State.modLink_die_ne _ (State.neighbour_ne hx) _ _

theorem State.exchangeLoads_rerun (delta : Rat) : ((s.exchangeLoads d l x delta).die d).rerun = (s.die d).rerun := by
  have hmade : ((s.exchangeMade d l x delta).die d).rerun = (s.die d).rerun :=
    (congrArg Die.rerun (State.exchangeMade_die hx delta)).trans (s.modLink_leaves Die.rerun (fun _ _ => rfl) d l d _)
  unfold State.exchangeLoads
  split
  · refine Eq.trans ?_ hmade
    exact State.modDie_leaves Die.rerun _ d d fun _ => rfl
  · exact hmade

theorem State.exchangeLoads_link (hl : l < (s.die d).links.length) (delta : Rat) :
    (s.exchangeLoads d l x delta).link d l = (s.link d l).exchanged delta := by
  have hmade : (s.exchangeMade d l x delta).link d l = (s.link d l).exchanged delta :=
    (State.link_of_die (State.exchangeMade_die hx delta) l).trans (State.modLink_link_same hl _)
  unfold State.exchangeLoads
  split
  · refine Eq.trans ?_ hmade
    exact State.modDie_link _ d d l fun _ => rfl
  · exact hmade

theorem State.exchange_link (hl : l < (s.die d).links.length) (hst : (s.link d l).state = .align ∨ (s.link d l).state = .up)
    (t1 t2 t3 t4 : Nat) : (s.exchange d l t1 t2 t3 t4).link d l =
      (s.link d l).exchanged (((wrapDiff (2 ^ 64) t2 t1 - wrapDiff (2 ^ 64) t4 t3 - tget 0 s.fused.asym (4 * d + l) : Int) : Rat) / 2) := by
  generalize hdelta : (((wrapDiff (2 ^ 64) t2 t1 - wrapDiff (2 ^ 64) t4 t3 - tget 0 s.fused.asym (4 * d + l) : Int) : Rat) / 2) = delta
  have heq : s.exchange d l t1 t2 t3 t4 =
      if (s.die d).rerun && (s.link d l).parent && decide ((s.link d l).state = .up) &&
          decide (32 ≤ ((s.exchangeLoads d l x delta).link d l).exch.length) then
        (((s.exchangeLoads d l x delta).takeSkew d).refreshUp).startFills d
      else s.exchangeLoads d l x delta := by
    unfold State.exchange
    rw [hx, ← hdelta]
    exact if_pos hst
  rw [heq]
  split
  next hrerun =>
    rw [State.retaken_link ((State.exchangeLoads_rerun hx delta).trans (by simp_all)), State.exchangeLoads_link hx hl]
  next => exact State.exchangeLoads_link hx hl delta

end

/-! ## The end of ALIGN (R344, R346) -/

/-- The port as ALIGN ends on it. -/
def LinkPort.aligns (p : LinkPort) : LinkPort := { p.resend with state := .up, skew := p.mean }

/-- The port is UP and its die has taken TB_SKEW, where it is due (R344, R63). -/
def State.alignTakes (s : State) (d l : Nat) : State :=
  if (s.link d l).parent && decide (d ≠ 0) && !(s.die d).cutOff then (s.modLink d l LinkPort.aligns).takeSkew d
  else (s.modLink d l LinkPort.aligns).pathBack d l

theorem State.alignTakes_part (s : State) (d l : Nat) : (s.alignTakes d l).part = s.part := by
  unfold State.alignTakes
  split
  · exact State.takeSkew_part _ d
  · exact State.pathBack_part _ d l

theorem State.alignTakes_link {s : State} {d l : Nat} (hl : l < (s.die d).links.length) :
    (s.alignTakes d l).link d l = (s.link d l).aligns := by
  unfold State.alignTakes
  split
  · rw [State.takeSkew_link, State.modLink_link_same hl]
  · rw [State.pathBack_link, State.modLink_link_same hl]

/-- Which port faces the clock parent is read of the ports alone. -/
theorem State.parentPort_of_parents {s t : State} {d : Nat} (h : ∀ i, (t.link d i).parent = (s.link d i).parent) : t.parentPort d = s.parentPort d := by
  unfold State.parentPort
  simp only [h]

theorem State.parent_of_parentPort {s : State} {d l : Nat} (h : s.parentPort d = some l) : (s.link d l).parent = true :=
  List.find?_some (p := fun i => (s.link d i).parent) h

section
variable {s : State} {d l x : Nat} (hx : s.neighbour d l = some x)
include hx

theorem State.alignTakes_child (hl : l < (s.die d).links.length) (hp : s.parentPort d = some l) (hd : d ≠ 0) (hcut : (s.die d).cutOff = false) :
    ((s.alignTakes d l).die d).skewValid = true ∧ ((s.alignTakes d l).die d).skew = (s.link d l).mean + (s.die x).skew := by
  have hp1 : (s.modLink d l LinkPort.aligns).parentPort d = some l := by
    refine (State.parentPort_of_parents fun i => ?_).trans hp
    exact s.modLink_leavesPort LinkPort.parent (fun _ => by rfl) d l d i
  unfold State.alignTakes
  rw [if_pos (by simp [State.parent_of_parentPort hp, hd, hcut]), State.takeSkew_child hp1 hx, State.modDie_die, if_pos rfl,
    State.modLink_link_same hl, s.modLink_die_ne (State.neighbour_ne hx).symm]
  exact ⟨rfl, rfl⟩

variable (hst : (s.link d l).state = .align) (hcnt : 32 ≤ (s.link d l).exchCnt)
    (hchild : (s.link d l).parent = true → d ≠ 0 → 32 ≤ (s.link d l).exch.length)
include hst hcnt hchild

theorem State.linkAligned_steady :
    (s.linkAligned d l).steady = ((s.alignTakes d l).pathBack x (backPort l)).steady := by
  have hdone : s.alignDone d l = ((((s.alignTakes d l).pathBack x (backPort l)).refreshUp).sendWaiting).startFills d := by
    have hx2 := (State.neighbour_of_part (s.alignTakes_part d l) d l).trans hx
    have hready : (s.link d l).state = .align ∧ 32 ≤ (s.link d l).exchCnt ∧
        (((s.link d l).parent && decide (d ≠ 0)) = true → 32 ≤ (s.link d l).exch.length) := by
      refine ⟨hst, hcnt, fun h => ?_⟩
      obtain ⟨hp, hd⟩ := Bool.and_eq_true_iff.mp h
      exact hchild hp (of_decide_eq_true hd)
    unfold State.alignDone
    dsimp only
    rw [if_pos hready]
    split
    next y hy =>
      obtain rfl : y = x := Option.some.inj (hy.symm.trans hx2)
      rfl
    next hy => exact absurd (hx2.symm.trans hy) (by simp)
  unfold State.linkAligned
  rw [hdone]
  simp

theorem State.linkAligned_link (hl : l < (s.die d).links.length) :
    ((s.linkAligned d l).link d l).state = .up ∧ ((s.linkAligned d l).link d l).skew = (s.link d l).mean := by
  have hsteady := congrFun (State.linkAligned_steady hx hst hcnt hchild) d
  rw [State.state_of_steady hsteady, State.readPort_of_steady hsteady LinkPort.skew fun _ => rfl, State.pathBack_link,
    State.alignTakes_link hl]
  exact ⟨rfl, rfl⟩

theorem State.linkAligned_die :
    ((s.linkAligned d l).die d).skewValid = ((s.alignTakes d l).die d).skewValid ∧
      ((s.linkAligned d l).die d).skew = ((s.alignTakes d l).die d).skew := by
  have hsteady := congrFun (State.linkAligned_steady hx hst hcnt hchild) d
  rw [State.read_of_steady hsteady Die.skewValid fun _ => rfl, State.read_of_steady hsteady Die.skew fun _ => rfl,
    State.pathBack_die_ne _ (State.neighbour_ne hx)]
  exact ⟨rfl, rfl⟩

end

/-! ## Training (R346) -/

/-- The port as its training starts. -/
def LinkPort.trains (p : LinkPort) : LinkPort := { p with state := .training, exch := [], exchCnt := 0, crcRun := 0 }

theorem State.trainStart_ready {s : State} {d l x : Nat} (hx : s.neighbour d l = some x) (hen : s.tb.tbEn = true)
    (hst : (s.link d l).state = .down) (hretry : (s.link d l).retryWait = false) (hd : (s.die d).tbLock = true)
    (hpeer : (s.die x).tbLock = true) : s.trainStart d l = s.modLink d l LinkPort.trains := by
  unfold State.trainStart
  rw [hx]
  exact if_pos (by simp [hen, hst, hretry, hd, hpeer])

theorem State.trainStart_cases (s : State) (d l : Nat) : s.trainStart d l = s ∨ s.trainStart d l = s.modLink d l LinkPort.trains := by
  unfold State.trainStart
  split
  · exact .inl rfl
  · dsimp only
    split
    · exact .inr rfl
    · exact .inl rfl

/-! ## A port goes to DOWN and trains anew (R346) -/

/-- The port as it goes to DOWN. -/
def LinkPort.falls (p : LinkPort) : LinkPort := { p with state := .down, exch := [], exchCnt := 0, skew := 0, crcRun := 0 }

theorem State.portDown_cases (s : State) (d l : Nat) : s.portDown d l = (s.modLink d l LinkPort.falls).refreshUp ∨
    s.portDown d l = ((s.modLink d l LinkPort.falls).modDie d fun u => { u with reparent := true }).refreshUp := by
  unfold State.portDown
  dsimp only
  split
  · split
    · exact .inr rfl
    · exact .inl rfl
  · exact .inl rfl

theorem State.portDown_steady (s : State) (d l : Nat) : (s.portDown d l).steady = (s.modLink d l LinkPort.falls).steady ∨
    (s.portDown d l).steady = ((s.modLink d l LinkPort.falls).modDie d fun u => { u with reparent := true }).steady := by
  rcases s.portDown_cases d l with e | e
  · exact .inl (by rw [e, State.refreshUp_steady])
  · exact .inr (by rw [e, State.refreshUp_steady])

theorem State.steady_of_die {s t : State} {j : Nat} (h : t.die j = s.die j) : t.steady j = s.steady j := congrArg Die.steady h

theorem State.portDown_steady_ne (s : State) {d j : Nat} (h : j ≠ d) (l : Nat) : (s.portDown d l).steady j = s.steady j := by
  have hfall := State.steady_of_die (s.modLink_die_ne h l LinkPort.falls)
  rcases s.portDown_steady d l with e | e
  · rw [e, hfall]
  · rw [e, State.steady_of_die (State.modDie_die_ne _ h _), hfall]

theorem State.portDown_shtHist (s : State) (d l : Nat) : ((s.portDown d l).die d).shtHist = (s.die d).shtHist := by
  have hfall := s.modLink_leaves Die.shtHist (fun _ _ => rfl) d l d LinkPort.falls
  rcases s.portDown_steady d l with e | e
  · rw [State.shtHist_of_steady (congrFun e d), hfall]
  · rw [State.shtHist_of_steady (congrFun e d), State.modDie_leaves Die.shtHist _ d d fun _ => by rfl, hfall]

section
variable {s : State} {d l : Nat} (hl : l < (s.die d).links.length)
include hl

theorem State.portDown_state : ((s.portDown d l).link d l).state = .down := by
  have hfall : ((s.modLink d l LinkPort.falls).link d l).state = .down := by rw [State.modLink_link_same hl]; rfl
  rcases s.portDown_steady d l with e | e
  · rw [State.state_of_steady (congrFun e d), hfall]
  · rw [State.state_of_steady (congrFun e d), State.modDie_link _ d d l fun _ => by rfl, hfall]

theorem State.portDown_exch : ((s.portDown d l).link d l).exch = [] := by
  have hfall : ((s.modLink d l LinkPort.falls).link d l).exch = [] := by rw [State.modLink_link_same hl]; rfl
  rcases s.portDown_cases d l with e | e
  · rw [e, State.refreshUp_exch_nil hfall]
  · rw [e, State.refreshUp_exch_nil]
    rw [State.modDie_link _ d d l fun _ => by rfl, hfall]

/-- The port trains at once, or waits in DOWN. -/
theorem State.retrain_port : let t := (s.portDown d l).trainStart d l
    ((t.link d l).state = .down ∨ (t.link d l).state = .training) ∧ (t.link d l).exch = [] := by
  dsimp only
  rcases (s.portDown d l).trainStart_cases d l with e | e
  · rw [e]
    exact ⟨.inl (State.portDown_state hl), State.portDown_exch hl⟩
  · rw [e]
    rcases (s.portDown d l).modLink_link_cases d l d l LinkPort.trains with e | e
    · rw [e]
      exact ⟨.inl (State.portDown_state hl), State.portDown_exch hl⟩
    · rw [e]
      exact ⟨.inr rfl, rfl⟩

end

theorem State.trainStart_steady_ne (s : State) {d j : Nat} (h : j ≠ d) (l : Nat) : (s.trainStart d l).steady j = s.steady j := by
  rcases s.trainStart_cases d l with e | e <;> rw [e]
  exact State.steady_of_die (s.modLink_die_ne h l _)

theorem State.trainStart_shtHist (s : State) (d l : Nat) : ((s.trainStart d l).die d).shtHist = (s.die d).shtHist := by
  rcases s.trainStart_cases d l with e | e <;> rw [e]
  exact s.modLink_leaves Die.shtHist (fun _ _ => rfl) d l d _

/-! ## A link leaves UP (R346 to R348) -/

/-- The port as it goes to RESYNC. -/
def LinkPort.resyncs (p : LinkPort) : LinkPort := { p with state := .resync, crcRun := 0, lane := [] }

theorem State.wordsLost_die {s : State} {d l x : Nat} (hx : s.neighbour d l = some x) : (s.wordsLost d l).die d = s.die d := by
  unfold State.wordsLost
  rw [hx]
  dsimp only
  split
  · exact s.modLink_die_ne (State.neighbour_ne hx) _ _
  · rfl

/-- DOWN_H is set and the words on the lane are lost. -/
def State.upLost (s : State) (d l : Nat) : State := (s.shtHist d 0).wordsLost d l

theorem State.upLost_steady (s : State) (d l : Nat) : (s.upLost d l).steady = (s.shtHist d 0).steady := State.wordsLost_steady _ d l

theorem State.upLost_width (s : State) (d l j : Nat) : ((s.upLost d l).die j).links.length = (s.die j).links.length :=
  (State.width_of_steady (congrFun (s.upLost_steady d l) j)).trans (s.modDie_leaves (fun u => u.links.length) d j fun _ => by rfl)

theorem State.linkLeaves_resync {s : State} {d l : Nat} (hup : (s.link d l).state = .up) (hn : s.part.diesLog2 ≠ 1) :
    s.linkLeaves d l = (s.upLost d l).modLink d l LinkPort.resyncs := by
  unfold State.linkLeaves
  dsimp only
  rw [if_pos hup, if_neg hn]
  rfl

/-- On a TS8820 both sides flush, and the port trains anew (R347). -/
theorem State.linkLeaves_flush {s : State} {d l : Nat} (hup : (s.link d l).state = .up) (hn : s.part.diesLog2 = 1) :
    s.linkLeaves d l = (((s.upLost d l).flushLink d l).portDown d l).trainStart d l := by
  unfold State.linkLeaves
  dsimp only
  rw [if_pos hup, if_pos hn]
  rfl

theorem State.linkLeaves_not_up {s : State} {d l : Nat} (h : (s.link d l).state ≠ .up) : s.linkLeaves d l = s := if_neg h

theorem State.linkLeaves_steady_ne (s : State) {d j : Nat} (h : j ≠ d) (l : Nat) : (s.linkLeaves d l).steady j = s.steady j := by
  have hlost : (s.upLost d l).steady j = s.steady j := (congrFun (s.upLost_steady d l) j).trans (State.steady_of_die (s.modDie_die_ne h _))
  by_cases hup : (s.link d l).state = .up
  · by_cases hn : s.part.diesLog2 = 1
    · rw [State.linkLeaves_flush hup hn, State.trainStart_steady_ne _ h, State.portDown_steady_ne _ h, State.flushLink_steady, hlost]
    · rw [State.linkLeaves_resync hup hn, State.steady_of_die (State.modLink_die_ne _ h l _), hlost]
  · rw [State.linkLeaves_not_up hup]

section
variable {s : State} {d l x : Nat} (hup : (s.link d l).state = .up)
include hup

theorem State.linkLeaves_bit : bit ((s.linkLeaves d l).die d).shtHist 0 = true := by
  have hlost : bit ((s.upLost d l).die d).shtHist 0 = true := by
    rw [State.shtHist_of_steady (congrFun (s.upLost_steady d l) d), s.shtHist_bit d (by decide)]
  by_cases hn : s.part.diesLog2 = 1
  · rw [State.linkLeaves_flush hup hn, State.trainStart_shtHist, State.portDown_shtHist,
      State.shtHist_of_steady (congrFun ((s.upLost d l).flushLink_steady d l) d), hlost]
  · rw [State.linkLeaves_resync hup hn, State.modLink_leaves Die.shtHist (fun _ _ => rfl)]
    exact hlost

variable (hl : l < (s.die d).links.length)
include hl

theorem State.linkLeaves_resync_link (hx : s.neighbour d l = some x) (hn : s.part.diesLog2 ≠ 1) :
    (s.linkLeaves d l).link d l = (s.link d l).resyncs := by
  have hlost : (s.upLost d l).link d l = s.link d l :=
    (State.link_of_die (State.wordsLost_die (s := s.shtHist d 0) hx) l).trans (s.shtHist_link d 0 d l)
  rw [State.linkLeaves_resync hup hn, State.modLink_link_same (by rw [s.upLost_width]; exact hl), hlost]

theorem State.linkLeaves_flush_state (hn : s.part.diesLog2 = 1) :
    ((s.linkLeaves d l).link d l).state = .down ∨ ((s.linkLeaves d l).link d l).state = .training := by
  have hwidth : l < (((s.upLost d l).flushLink d l).die d).links.length := by
    rw [State.width_of_steady (congrFun (State.flushLink_steady _ d l) d), s.upLost_width]
    exact hl
  rw [State.linkLeaves_flush hup hn]
  exact (State.retrain_port hwidth).1

end

/-! ## The rows -/

/-- Settles O28: each event is the operation of its row, whose outcome on the port the lemmas above state. -/
theorem linkEventsComplete : Obligations.LinkEventsComplete := by
  unfold Obligations.LinkEventsComplete
  intro s d l x hx hd hl p
  refine ⟨fun hst => ?done, fun hst => ?timeout, fun hst hretry hen hlock hpeer => ?retry, fun hst hcnt hchild => ?aligned, fun hst => ?reset,
    fun _ => rfl, fun hst hpeer => ?resync, fun _ hpeer => ?alone, fun hst => ?late, fun t1 t2 t3 t4 hst => ?exchange⟩
  case done =>
    refine ⟨_, congrArg fin (if_pos (State.linkIn_of hx hst)), ?_⟩
    rw [State.after_link, State.modLink_link_same hl]
  case timeout =>
    refine ⟨_, congrArg fin (if_pos (State.linkIn_of hx hst)), ?_, ?_⟩
    · rw [State.after_link, State.shtHist_link, State.modLink_link_same hl]
    · rw [State.after_die_same]
      exact State.shtHist_bit _ d (by decide)
  case retry =>
    have hguard : (s.linkIn d l .down && (s.link d l).retryWait) = true := by rw [State.linkIn_of hx hst]; exact hretry
    have hport := State.modLink_link_same hl fun p => { p with retryWait := false }
    have hlocks (j : Nat) := s.modLink_leaves Die.tbLock (fun _ _ => rfl) d l j fun p => { p with retryWait := false }
    have htrain : (s.modLink d l fun p => { p with retryWait := false }).trainStart d l =
        (s.modLink d l fun p => { p with retryWait := false }).modLink d l LinkPort.trains :=
      State.trainStart_ready (x := x) hx hen (by rw [hport]; exact hst) (by rw [hport]) (by rw [hlocks, hlock]) (by rw [hlocks, hpeer])
    refine ⟨_, congrArg fin ((if_pos hguard).trans htrain), ?_⟩
    rw [State.after_link, State.modLink_link_same (by rw [State.modLink_width]; exact hl), hport]
    exact ⟨rfl, rfl⟩
  case aligned =>
    obtain ⟨hstate, hskew⟩ := State.linkAligned_link hx hst hcnt hchild hl
    refine ⟨_, rfl, by rw [State.after_link, hstate], by rw [State.after_link, hskew], fun hp hd0 hcut => ?_⟩
    obtain ⟨hvalid, hmean⟩ := State.linkAligned_die hx hst hcnt hchild
    rw [State.after_die_same, hvalid, hmean]
    exact State.alignTakes_child hx hl hp hd0 hcut
  case reset =>
    refine ⟨_, rfl, ?_, fun hn => ?_, fun hn => ?_⟩
    · rw [State.after_die_same]
      exact State.linkLeaves_bit hst
    · rw [State.after_link]
      exact State.linkLeaves_resync_link hst hl hx hn
    · rw [State.after_link]
      exact State.linkLeaves_flush_state hst hl hn
  case resync =>
    refine ⟨_, congrArg fin (if_pos (by rw [State.linkIn_of hx hst, hpeer]; rfl)), ?_, ?_⟩
    · rw [State.after_link]
      exact (State.modDie_link _ d d l fun _ => by rfl).trans (State.modLink_link_same hl _)
    · rw [State.after_die_same, State.modDie_die, if_pos rfl]
      exact ⟨rfl, bit_satFlag_of (bit_setb_same _ (by decide)) 7 _⟩
  case alone => exact congrArg fin (if_neg (by rw [hpeer, Bool.and_false]; decide))
  case late =>
    refine ⟨_, congrArg fin (if_pos (State.linkIn_of hx hst)), ?_⟩
    rw [State.after_link]
    exact State.retrain_port hl
  case exchange =>
    have hport := State.exchange_link hx hl hst t1 t2 t3 t4
    refine ⟨_, rfl, ?_⟩
    rw [State.after_link, hport]
    exact ⟨rfl, rfl, rfl, rfl⟩

end Sys2Proof.Machine
end

section
/-! SUPPORT. Frames on the lanes, TB_SKEW, the re-parenting and the slot plan (R31, R55, R337, R339, R344, R345). -/

namespace Sys2Proof.Machine
open Sys2Proof

/-! ## A frame passes from its lane to its die (R339) -/

theorem mem_enqueue (f : Frame) (fs : List Frame) : f ∈ enqueue f fs := by
  cases fs <;> simp [enqueue]

section
variable {s : State} {d l x : Nat} (hx : s.neighbour d l = some x)
include hx

/-- The work of the sender's side leaves the die that receives. -/
theorem State.frameSent_die (f : Frame) : (s.frameSent d l f).die d = s.die d := by
  have hne := State.neighbour_ne hx
  unfold State.frameSent
  rw [hx]
  dsimp only
  split
  · split
    · rw [State.modDie_die_ne _ hne, s.modLink_die_ne hne]
    · exact s.modLink_die_ne hne _ _
  · rfl

theorem State.frameSent_neighbour (f : Frame) : (s.frameSent d l f).neighbour d l = some x := by
  obtain ⟨hpart, -⟩ := s.frameSent_keep d l f
  rw [State.neighbour_of_part hpart, hx]

end

/-- An acknowledged frame ends the run of failures at the die that received it (R339). -/
theorem State.frameAck_die (s : State) (d l : Nat) (f : Frame) :
    (s.frameAck d l f).die d = (s.modLink d l fun p => { p with crcRun := 0 }).die d := by
  unfold State.frameAck
  dsimp only
  split
  next y hy =>
    have hne : d ≠ y := State.neighbour_ne hy
    exact State.modLink_die_ne _ hne _ _
  next => rfl

/-- A word in time stands on the lane of each other port whose slots hold its stream (R31, R337). -/
def State.copiesWord (s : State) (d l i k : Nat) : State :=
  s.forEach ((List.range 4).filter fun j => decide (j ≠ l) && (s.link d j).slots.contains i) fun t j =>
    t.modLink d j fun p => p.send (.word i k)

/-- The die takes a word in time when its plan brings it the stream (R31, R337). -/
theorem State.wordArrives_in_time {s : State} {k : Nat} (hk : s.tb.k = k) (d l i : Nat) : s.wordArrives d l i k =
    (s.copiesWord d l i k).modDie d fun u =>
      { u with arrived := if u.arrived.contains i || !u.planned.contains i then u.arrived else u.arrived ++ [i] } := if_pos hk

/-- The receiver's side of a frame that passed its check (R339). -/
theorem State.framePassed_die {s : State} {d l x : Nat} (hx : s.neighbour d l = some x) (f : Frame) :
    ((s.frameSent d l f).frameAck d l f).die d = (s.modLink d l fun p => { p with crcRun := 0 }).die d := by
  rw [State.frameAck_die]
  unfold State.modLink
  rw [State.modDie_die, State.modDie_die, State.frameSent_die hx]

theorem State.copiesWord_port (s : State) (d l i k j m : Nat) : ((s.copiesWord d l i k).link j m).steady = (s.link j m).steady :=
  s.forEach_modLink_leavesPort LinkPort.steady (f := fun _ p => p.send (.word i k)) (fun _ _ => rfl) d j m _

theorem State.copiesWord_planned (s : State) (d l i k j : Nat) : ((s.copiesWord d l i k).die j).planned = (s.die j).planned :=
  s.forEach_modLink_leaves Die.planned (fun _ _ => rfl) d j _ _

theorem State.copiesWord_lane {s : State} {d l i j : Nat} (hj : j < (s.die d).links.length) (h4 : j < 4) (hjl : j ≠ l)
    (hslot : (s.link d j).slots.contains i = true) (k : Nat) : .word i k ∈ ((s.copiesWord d l i k).link d j).lane := by
  have hmem : j ∈ (List.range 4).filter fun j => decide (j ≠ l) && (s.link d j).slots.contains i :=
    List.mem_filter.mpr ⟨List.mem_range.mpr h4, by rw [hslot]; simpa using hjl⟩
  unfold State.copiesWord
  rw [State.forEach_modLink (fun _ p => p.send (.word i k)) (List.nodup_range.filter _) hj, if_pos hmem]
  exact mem_enqueue _ _

theorem State.wordArrives_taken {s : State} {d i k : Nat} (hk : s.tb.k = k) (hplan : (s.die d).planned.contains i = true) (l : Nat) :
    ((s.wordArrives d l i k).die d).arrived.contains i = true := by
  rw [State.wordArrives_in_time hk, State.modDie_die, if_pos rfl]
  dsimp only
  rw [s.copiesWord_planned, hplan]
  split
  next h => simpa using h
  next => simp

theorem State.wordArrives_copied {s : State} {d l i j k : Nat} (hk : s.tb.k = k) (hj : j < (s.die d).links.length) (h4 : j < 4) (hjl : j ≠ l)
    (hslot : (s.link d j).slots.contains i = true) : .word i k ∈ ((s.wordArrives d l i k).link d j).lane := by
  rw [State.wordArrives_in_time hk, State.modDie_link _ d d j fun _ => by rfl]
  exact State.copiesWord_lane hj h4 hjl hslot k

theorem State.wordArrives_port (s : State) (d l i k j m : Nat) : ((s.wordArrives d l i k).link j m).steady = (s.link j m).steady := by
  by_cases hk : s.tb.k = k
  · rw [State.wordArrives_in_time hk, State.modDie_link _ d j m fun _ => by rfl, s.copiesWord_port]
  · unfold State.wordArrives
    rw [if_neg hk]
    split
    · exact congrArg LinkPort.steady (s.modDie_link d j m fun _ => by rfl)
    · rfl

/-- The work of a frame that carries no write leaves what is steady of every port (R303, R334, R337, R340). -/
theorem State.frameWork_port {f : Frame} (h : ∀ a w, f ≠ .write a w) (s : State) (d l j m : Nat) :
    ((s.frameWork d l f).link j m).steady = (s.link j m).steady := by
  have hroute (c : Prop) [Decidable c] (t : State) (ht : t.dies = s.dies) :
      ((if c then t else s.post d f).link j m).steady = (s.link j m).steady := by
    split
    · exact State.link_of_steady (congrFun (State.steady_of_dies ht) j) m
    · exact State.link_of_steady (congrFun (s.post_steady d f) j) m
  cases f with
  | word i k => exact s.wordArrives_port d l i k j m
  | records rs => exact State.link_of_steady (congrFun (s.recordsArrive_steady d rs) j) m
  | marker => rfl
  | write a w => exact absurd rfl (h a w)
  | rate _ _ | read _ | request _ _ | image _ => exact hroute _ (s.frameAt d _) rfl

/-! ## A frame that fails its check (R339) -/

/-- The failure counts at the die that received the frame. -/
def State.crcCounted (s : State) (d : Nat) : State :=
  s.modDie d fun u => { u with crcCnt := satInc (s.die d).crcCnt, shtHist := satFlag u.shtHist 7 (satInc (s.die d).crcCnt) }

/-- The failure counts at the die and on its port, and the lane of the neighbour `x` goes on. -/
def State.frameDiscarded (s : State) (d l x : Nat) : State :=
  ((s.crcCounted d).modLink d l fun p => { p with crcRun := (s.link d l).crcRun + 1 }).modLink x (backPort l) fun p =>
    { p with lane := p.lane.drop 1 }

theorem State.crcCounted_die (s : State) (d : Nat) : ((s.crcCounted d).die d).crcCnt = satInc (s.die d).crcCnt ∧
    ((s.crcCounted d).die d).arrived = (s.die d).arrived ∧ ((s.crcCounted d).die d).links = (s.die d).links := by
  unfold State.crcCounted
  rw [State.modDie_die, if_pos rfl]
  exact ⟨rfl, rfl, rfl⟩

section
variable {s : State} {d l x : Nat} (hx : s.neighbour d l = some x)
include hx

theorem State.frameBad_eq : s.frameBad d l =
    if 16 ≤ (s.link d l).crcRun + 1 then (s.frameDiscarded d l x).linkBreaks d l else s.frameDiscarded d l x := by
  unfold State.frameBad
  simp only [State.modLink_neighbour, State.modDie_neighbour, hx]
  rfl

theorem State.frameDiscarded_die : (s.frameDiscarded d l x).die d =
    ((s.crcCounted d).modLink d l fun p => { p with crcRun := (s.link d l).crcRun + 1 }).die d :=
  State.modLink_die_ne _ (State.neighbour_ne hx) _ _

theorem State.frameDiscarded_counts : ((s.frameDiscarded d l x).die d).crcCnt = satInc (s.die d).crcCnt ∧
    ((s.frameDiscarded d l x).die d).arrived = (s.die d).arrived ∧
    ((s.frameDiscarded d l x).die d).links.length = (s.die d).links.length := by
  obtain ⟨hcrc, harrived, hlinks⟩ := s.crcCounted_die d
  rw [State.frameDiscarded_die hx, State.modLink_leaves Die.crcCnt (fun _ _ => rfl), State.modLink_leaves Die.arrived (fun _ _ => rfl),
    State.modLink_width]
  exact ⟨hcrc, harrived, congrArg List.length hlinks⟩

theorem State.frameDiscarded_link (hl : l < (s.die d).links.length) :
    (s.frameDiscarded d l x).link d l = { s.link d l with crcRun := (s.link d l).crcRun + 1 } := by
  obtain ⟨-, -, hlinks⟩ := s.crcCounted_die d
  rw [State.link_of_die (State.frameDiscarded_die hx), State.modLink_link_same (by rw [hlinks]; exact hl)]
  unfold State.link
  rw [hlinks]

/-- A port that breaks its link does not stay UP: the reset signal to the other side changes the other side alone (R339, R347). -/
theorem State.linkBreaks_state (hl : l < (s.die d).links.length) (hup : (s.link d l).state = .up) :
    ((s.linkBreaks d l).link d l).state ≠ .up := by
  have hleaves : ((s.linkLeaves d l).link d l).state ≠ .up := by
    by_cases hn : s.part.diesLog2 = 1
    · rcases State.linkLeaves_flush_state hup hl hn with e | e <;> simp [e]
    · rw [State.linkLeaves_resync_link hup hl hx hn]
      simp [LinkPort.resyncs]
  unfold State.linkBreaks
  dsimp only
  split
  next y hy =>
    rw [State.state_of_steady (State.linkLeaves_steady_ne _ (State.neighbour_ne hy) _)]
    exact hleaves
  next => exact hleaves

end

/-! ## The mean of TB_SKEW (R344) -/

theorem State.skewUpdate_die {s : State} {d l x : Nat} (hx : s.neighbour d l = some x) (hp : s.parentPort d = some l)
    (hup : (s.link d l).state = .up) (hexch : (s.link d l).exch ≠ []) (hvalid : (s.die d).skewValid = true) (hcut : (s.die d).cutOff = false)
    (hrestart : s.tb.restart = false) (hd : d ≠ 0) :
    ((s.skewUpdate d).die d).skewTarget = ratRound (meanQ (lastN 64 (s.link d l).exch) + ((s.die x).skew : Rat)) ∧
      ((s.skewUpdate d).die d).skew = (s.die d).skew := by
  unfold State.skewUpdate
  rw [hp]
  dsimp only
  rw [hx]
  dsimp only
  rw [if_pos ⟨hup, hexch, hvalid, by rw [hrestart]; rfl, by rw [hcut]; rfl, hd⟩, State.modDie_die, if_pos rfl]
  exact ⟨rfl, rfl⟩

/-! ## The end of a re-parenting (R345) -/

/-- Die `d` has port `l` alone as the port of its clock parent, and its TBPLL locks to it. -/
def State.reparented (s : State) (d l : Nat) : State :=
  (s.forEach (List.range 4) fun t i => t.modLink d i fun p => { p with parent := decide (i = l) }).modDie d fun u =>
    { u with tbLock := true, shtHist := setb u.shtHist 4, happened := u.happened ++ [{ sub := 2, data := l }] }

section
variable {s : State} {d l x : Nat} (hx : s.neighbour d l = some x)
include hx

theorem State.reparentDone_eq (hrep : (s.die d).reparent = true) (hnew : s.newParent d = some l) (hexch : (s.link d l).exch ≠ [])
    (hcut : (s.die d).cutOff = false) : s.reparentDone d = ((s.reparented d l).takeSkew d).refreshUp := by
  obtain ⟨e, es, he⟩ := List.exists_cons_of_ne_nil hexch
  unfold State.reparentDone
  rw [if_pos hrep, hnew]
  dsimp only
  rw [hx, he]
  dsimp only
  rw [hcut]
  rfl

theorem State.reparented_die : ((s.reparented d l).die d).tbLock = true ∧ bit ((s.reparented d l).die d).shtHist 4 = true ∧
    (s.reparented d l).die x = s.die x := by
  refine ⟨?_, ?_, ?_⟩
  · unfold State.reparented
    rw [State.modDie_die, if_pos rfl]
  · unfold State.reparented
    rw [State.modDie_die, if_pos rfl]
    exact bit_setb_same _ (by decide)
  · have hne := (State.neighbour_ne hx).symm
    unfold State.reparented
    rw [State.modDie_die_ne _ hne]
    exact State.forEach_keep (fun t => t.die x) (fun t i => t.modLink d i fun p => { p with parent := decide (i = l) })
      (fun t i => t.modLink_die_ne hne i _) _ s

end

theorem State.reparented_neighbour {s : State} {d l x : Nat} (hx : s.neighbour d l = some x) : (s.reparented d l).neighbour d l = some x := by
  have hpart : (s.reparented d l).part = s.part := by
    unfold State.reparented
    simp
  rw [State.neighbour_of_part hpart, hx]

theorem State.reparented_link {s : State} {d i : Nat} (hi : i < (s.die d).links.length) (h4 : i < 4) (l : Nat) :
    (s.reparented d l).link d i = { s.link d i with parent := decide (i = l) } := by
  unfold State.reparented
  rw [State.modDie_link _ d d i fun _ => by rfl,
    State.forEach_modLink (fun i p => { p with parent := decide (i = l) }) List.nodup_range hi, if_pos (List.mem_range.mpr h4)]

theorem State.reparented_parentPort {s : State} {d l : Nat} (hl : l < (s.die d).links.length) (h4 : l < 4) :
    (s.reparented d l).parentPort d = some l := by
  unfold State.parentPort
  refine List.find?_range_eq_some.mpr ⟨?_, List.mem_range.mpr h4, fun i hi => ?_⟩
  · rw [State.reparented_link hl h4]
    exact decide_eq_true rfl
  · rw [State.reparented_link (by omega) (by omega)]
    simp [Nat.ne_of_lt hi]

theorem State.reparentDone_outcome {s : State} {d l x : Nat} (hx : s.neighbour d l = some x) (hl : l < (s.die d).links.length)
    (hrep : (s.die d).reparent = true) (hnew : s.newParent d = some l) (hexch : (s.link d l).exch ≠ []) (hcut : (s.die d).cutOff = false) :
    ((s.reparentDone d).die d).reparent = false ∧ ((s.reparentDone d).die d).tbLock = true ∧
      ((s.reparentDone d).die d).skew = (s.link d l).mean + (s.die x).skew ∧ bit ((s.reparentDone d).die d).shtHist 4 = true ∧
      ((s.reparentDone d).link d l).parent = true := by
  have h4 := State.neighbour_lt_four hx
  obtain ⟨hlock, hbit, hpeer⟩ := State.reparented_die hx
  have hport := State.reparented_link hl h4 l
  have hmean : ((s.reparented d l).link d l).mean = (s.link d l).mean := by rw [hport]; rfl
  have htaken : ((s.reparented d l).takeSkew d).die d = ((s.reparented d l).die d).takesSkew ((s.link d l).mean + (s.die x).skew) := by
    rw [State.takeSkew_child (State.reparented_parentPort hl h4) (State.reparented_neighbour hx), State.modDie_die, if_pos rfl, hmean, hpeer]
  have hsteady : (s.reparentDone d).steady d = ((s.reparented d l).takeSkew d).steady d := by
    rw [State.reparentDone_eq hx hrep hnew hexch hcut, State.refreshUp_steady]
  rw [State.read_of_steady hsteady Die.reparent fun _ => rfl, State.read_of_steady hsteady Die.tbLock fun _ => rfl,
    State.read_of_steady hsteady Die.skew fun _ => rfl, State.shtHist_of_steady hsteady,
    State.readPort_of_steady hsteady LinkPort.parent fun _ => rfl, State.takeSkew_link, htaken, hport, Die.takesSkew_tbLock,
    Die.takesSkew_shtHist]
  exact ⟨rfl, hlock, rfl, hbit, decide_eq_true rfl⟩

/-! ## The slot plan (R55, R337) -/

/-- What one turn of a loop brings about holds at its end when every turn keeps it. -/
theorem State.forEach_reaches (P : State → Prop) (f : State → Nat → State) (hkeep : ∀ t n, P t → P (f t n)) {a : Nat} (hset : ∀ t, P (f t a))
    {ns : List Nat} (ha : a ∈ ns) (s : State) : P (s.forEach ns f) := by
  induction ns generalizing s with
  | nil => cases ha
  | cons n ns ih =>
    rcases List.mem_cons.mp ha with rfl | hmem
    · exact State.forEach_inv P f hkeep ns _ (hset s)
    · exact ih hmem _

theorem eraseDups_nodup (l : List Nat) : l.eraseDups.Nodup := by
  match l with
  | [] => exact List.nodup_nil
  | a :: as =>
    rw [List.eraseDups_cons]
    exact List.nodup_cons.mpr ⟨by simp [List.mem_eraseDups], eraseDups_nodup _⟩
termination_by l.length
decreasing_by exact Nat.lt_succ_of_le (List.length_filter_le _ _)

/-- The streams that the new plan brings to die `d`. -/
def State.planNeed (s : State) (d : Nat) : List Nat := ((s.streamsOf d).filter (s.planTakes d)).eraseDups

/-- The streams that the new plan sends out of port `l` of die `d`. -/
def State.planSlots (s : State) (d l : Nat) : List Nat :=
  (((((List.range s.nDies).flatMap s.planNeed).eraseDups.map fun i => (i, s.planPorts s.planNeed i)).filter fun q => q.2.contains (d, l)).map (·.1))

theorem State.planSlots_nodup (s : State) (d l : Nat) : (s.planSlots d l).Nodup := by
  have hstreams : (((List.range s.nDies).flatMap s.planNeed).eraseDups.map fun i => (i, s.planPorts s.planNeed i)).map (·.1) =
      ((List.range s.nDies).flatMap s.planNeed).eraseDups := by
    rw [List.map_map]
    exact List.map_id _
  have hsub := (List.filter_sublist (p := fun q : Nat × List (Nat × Nat) => q.2.contains (d, l))
    (l := ((List.range s.nDies).flatMap s.planNeed).eraseDups.map fun i => (i, s.planPorts s.planNeed i))).map (·.1)
  rw [hstreams] at hsub
  exact hsub.nodup (eraseDups_nodup _)

/-- Die `d` adopts the plan that is made in the state `s`. -/
def State.adoptsAt (s t : State) (d : Nat) : State :=
  (t.modDie d fun u => { u with planned := s.planNeed d }).forEach (List.range 4) fun x l =>
    x.modLink d l fun p => { p with slots := s.planSlots d l }

theorem State.adoptPlan_eq (s : State) : s.adoptPlan = s.forEach (List.range s.nDies) s.adoptsAt := rfl

theorem State.adoptsAt_planned (s t : State) (d j : Nat) :
    ((s.adoptsAt t d).die j).planned = if j = d then s.planNeed d else (t.die j).planned := by
  unfold State.adoptsAt
  rw [State.forEach_modLink_leaves Die.planned (fun _ _ => rfl), State.modDie_die]
  split <;> rfl

theorem State.adoptPlan_planned {s : State} {d : Nat} (hd : s.fitted d = true) : (s.adoptPlan.die d).planned = s.planNeed d := by
  rw [State.adoptPlan_eq]
  refine State.forEach_reaches (fun t => (t.die d).planned = s.planNeed d) s.adoptsAt (fun t n ht => ?_) (fun t => ?_)
    (List.mem_range.mpr (of_decide_eq_true hd)) s
  · rw [State.adoptsAt_planned]
    split
    next h => rw [h]
    next => exact ht
  · rw [State.adoptsAt_planned, if_pos rfl]

/-- A port that takes slots without a repetition has none, nor has a port that is not there. -/
theorem State.modLink_slots (s : State) (d l : Nat) {f : LinkPort → LinkPort} (h : ∀ p, (f p).slots.Nodup) :
    ((s.modLink d l f).link d l).slots.Nodup := by
  by_cases hl : l < (s.die d).links.length
  · rw [State.modLink_link_same hl]
    exact h _
  · unfold State.link
    rw [List.getD_eq_default _ _ (by rw [State.modLink_width]; omega)]
    exact List.nodup_nil

theorem State.modLink_slots_keep {s : State} {d l : Nat} (hs : (s.link d l).slots.Nodup) (j m : Nat) {f : LinkPort → LinkPort}
    (h : ∀ p, (f p).slots.Nodup) : ((s.modLink j m f).link d l).slots.Nodup := by
  rcases s.modLink_link_cases j m d l f with e | e <;> rw [e]
  · exact hs
  · exact h _

theorem State.adoptPlan_slots {s : State} {d l : Nat} (hd : s.fitted d = true) (h4 : l < 4) : (s.adoptPlan.link d l).slots.Nodup := by
  rw [State.adoptPlan_eq]
  refine State.forEach_reaches (fun t => (t.link d l).slots.Nodup) s.adoptsAt (fun t n ht => ?_) (fun t => ?_)
    (List.mem_range.mpr (of_decide_eq_true hd)) s
  · refine State.forEach_inv (fun t => (t.link d l).slots.Nodup) _ (fun x i hs => State.modLink_slots_keep hs n i fun _ => s.planSlots_nodup n i)
      _ _ ?_
    rw [State.modDie_link _ n d l fun _ => by rfl]
    exact ht
  · exact State.forEach_reaches (fun t => (t.link d l).slots.Nodup) _ (fun x i hs => State.modLink_slots_keep hs d i fun _ => s.planSlots_nodup d i)
      (fun x => x.modLink_slots d l fun _ => s.planSlots_nodup d l) (List.mem_range.mpr h4) _

/-! ## The rows -/

section
variable {s : State} {d l x : Nat} (hx : s.neighbour d l = some x) (hup : (s.link d l).state = .up) {f : Frame} (hnext : s.frameNext d l f = true)
include hx hup hnext

theorem exec_frameReceive (ok : Bool) : exec (.shuttleFrameReceive d l ok f) s =
    fin (if ok then ((s.frameSent d l f).frameAck d l f).frameWork d l f else (s.frameSent d l f).frameBad d l) :=
  congrArg fin (if_pos (by rw [State.linkIn_of hx hup, hnext]; rfl))

end

/-- Settles O29: each event is the operation of its row, whose outcome on the die and its ports the lemmas above state. That FRAME_RETRANSMIT
takes the first unacknowledged frame not on the lane, and that a stream crosses a link at most once, are the model's choice (log entry 32). -/
theorem frameEventsComplete : Obligations.FrameEventsComplete := by
  unfold Obligations.FrameEventsComplete
  intro s d l x hx hd hl p
  have h4 := State.neighbour_lt_four hx
  refine ⟨fun f hup hnext => ?good, fun f hup hnext hrun => ?bad, fun f hup hnext hrun => ?sixteenth, fun f hfind hup => ?again,
    fun hp hup hexch hvalid hcut hrestart hd0 => ?skew, fun hrep hnew hexch hcut => ?reparent, ?plan⟩
  case good =>
    refine ⟨_, exec_frameReceive hx hup hnext true, fun hw => ?_, fun i k hf hk => ?_⟩
    · have hrun := congrArg LinkPort.crcRun (State.frameWork_port hw ((s.frameSent d l f).frameAck d l f) d l d l)
      rw [State.link_of_die (State.framePassed_die hx f), State.modLink_link_same hl] at hrun
      rw [State.after_link]
      exact hrun
    · subst hf
      have hword : ((s.frameSent d l (.word i k)).frameAck d l (.word i k)).frameWork d l (.word i k) =
          (s.frameAck d l (.word i k)).wordArrives d l i k := by
        rw [State.frameSent_word hnext]
        rfl
      have hdie := s.frameAck_die d l (.word i k)
      obtain ⟨-, -, htb⟩ := s.frameAck_words d l d (.word i k)
      have hk' : (s.frameAck d l (.word i k)).tb.k = k := by rw [htb, hk]
      rw [if_pos rfl, hword, State.after_die_same]
      refine ⟨fun hplan => State.wordArrives_taken hk' ?_ l, fun j hj hj4 hjl hslot => ?_⟩
      · rw [hdie, s.modLink_leaves Die.planned fun _ _ => rfl]
        exact hplan
      · rw [State.after_link]
        refine State.wordArrives_copied hk' (by rw [hdie, State.modLink_width]; exact hj) hj4 hjl ?_
        rw [State.link_of_die hdie, s.modLink_link_other hjl]
        exact hslot
  case bad =>
    have hx1 := State.frameSent_neighbour hx f
    have hdie := State.frameSent_die hx f
    obtain ⟨hcrc, harrived, -⟩ := State.frameDiscarded_counts hx1
    have hport := State.frameDiscarded_link hx1 (by rw [hdie]; exact hl)
    rw [State.link_of_die hdie] at hport
    have hbad : (s.frameSent d l f).frameBad d l = (s.frameSent d l f).frameDiscarded d l x := by
      rw [State.frameBad_eq hx1, State.link_of_die hdie]
      exact if_neg (Nat.not_le.mpr (Nat.succ_lt_succ hrun))
    refine ⟨_, (exec_frameReceive hx hup hnext false).trans (congrArg fin hbad), ?_⟩
    rw [State.after_link, State.after_die_same, hport, hcrc, harrived, hdie]
    exact ⟨rfl, hup, rfl, rfl⟩
  case sixteenth =>
    have hx1 := State.frameSent_neighbour hx f
    have hdie := State.frameSent_die hx f
    obtain ⟨-, -, hwidth⟩ := State.frameDiscarded_counts hx1
    have hport := State.frameDiscarded_link hx1 (by rw [hdie]; exact hl)
    have hbad : (s.frameSent d l f).frameBad d l = ((s.frameSent d l f).frameDiscarded d l x).linkBreaks d l := by
      rw [State.frameBad_eq hx1, State.link_of_die hdie]
      exact if_pos (Nat.succ_le_succ hrun)
    refine ⟨_, (exec_frameReceive hx hup hnext false).trans (congrArg fin hbad), ?_⟩
    rw [State.after_link]
    refine State.linkBreaks_state (x := x) hx1 (by rw [hwidth, hdie]; exact hl) ?_
    rw [hport, State.link_of_die hdie]
    exact hup
  case again =>
    have hsent : s.retransmit d l = s.modLink d l fun q => { q with lane := enqueue f q.lane } := by
      unfold State.retransmit
      rw [hfind]
      exact if_pos hup
    refine ⟨_, congrArg fin hsent, ?_⟩
    rw [State.after_link, State.modLink_link_same hl]
  case skew =>
    obtain ⟨htarget, hskew⟩ := State.skewUpdate_die hx hp hup hexch hvalid hcut hrestart hd0
    exact ⟨_, rfl, by rw [State.after_die_same, htarget], by rw [State.after_die_same, hskew]⟩
  case reparent =>
    have hdone := State.reparentDone_outcome hx hl hrep hnew hexch hcut
    refine ⟨_, rfl, ?_⟩
    rw [State.after_die_same, State.after_link]
    exact hdone
  case plan =>
    refine ⟨_, rfl, ?_, fun _ => ?_⟩
    · rw [State.after_die_same, State.adoptPlan_planned hd]
      rfl
    · rw [State.after_link]
      exact State.adoptPlan_slots hd h4

end Sys2Proof.Machine
end

section
/-! SUPPORT. The instruction words of the stitch engines: the number that an instruction's fields spell is its word, and decoding reads it
back (R360). -/

namespace Sys2Proof.Machine
open Sys2Proof

/-! ## Fields as numbers -/

theorem toNat_append_add {n m : Nat} (x : BitVec n) (y : BitVec m) : (x ++ y).toNat = x.toNat * 2 ^ m + y.toNat := by
  rw [BitVec.toNat_append, ← Nat.shiftLeft_add_eq_or_of_lt y.isLt, Nat.shiftLeft_eq]

theorem toNat_bits (w : Word) (lo n : Nat) : (bits w lo n).toNat = w.toNat / 2 ^ lo % 2 ^ n := by
  rw [bits, BitVec.extractLsb'_toNat, Nat.shiftRight_eq_div_pow]

theorem bits_eq_iff {w : Word} {lo n : Nat} {v : BitVec n} : bits w lo n = v ↔ w.toNat / 2 ^ lo % 2 ^ n = v.toNat := by
  rw [← BitVec.toNat_inj, toNat_bits]

theorem bits_low_eq_iff {w : Word} {n : Nat} {v : BitVec n} : bits w 0 n = v ↔ w.toNat % 2 ^ n = v.toNat := by
  rw [bits_eq_iff, Nat.pow_zero, Nat.div_one]

theorem bits_eq_zero_iff {w : Word} {lo n : Nat} : bits w lo n = 0 ↔ w.toNat / 2 ^ lo % 2 ^ n = 0 := bits_eq_iff

/-! ## The word of an instruction -/

/-- What an operand spells at bits [23:21] and [15:0] of its word (R360). -/
def SOperand.code (o : SOperand) : Nat := o.i.toNat * 2 ^ 23 + o.mode.toNat * 2 ^ 21 + o.low.toNat

/-- The table of R360 in numbers: each field of an instruction at the weight of its lowest bit. -/
def SInstr.code : SInstr → Nat
  | .halt => 0
  | .waitEvent gd m => 0x01 * 2 ^ 27 + gd.toNat * 2 ^ 24 + m.toNat
  | .waitTime u n => 0x02 * 2 ^ 27 + u.toNat * 2 ^ 25 + n.toNat
  | .setField g w lo wd => 0x03 * 2 ^ 27 + g.toNat * 2 ^ 24 + w.toNat * 2 ^ 16 + lo.toNat * 2 ^ 11 + wd.toNat * 2 ^ 6
  | .clrField w lo wd => 0x04 * 2 ^ 27 + w.toNat * 2 ^ 16 + lo.toNat * 2 ^ 11 + wd.toNat * 2 ^ 6
  | .read g w lo wd => 0x05 * 2 ^ 27 + g.toNat * 2 ^ 24 + w.toNat * 2 ^ 16 + lo.toNat * 2 ^ 11 + wd.toNat * 2 ^ 6
  | .cmp ga o => 0x06 * 2 ^ 27 + ga.toNat * 2 ^ 24 + o.code
  | .branch c t => 0x07 * 2 ^ 27 + c.toNat * 2 ^ 24 + t.toNat
  | .add gd l ga o => 0x08 * 2 ^ 27 + gd.toNat * 2 ^ 24 + b2n l * 2 ^ 20 + ga.toNat * 2 ^ 16 + o.code
  | .loop g t => 0x09 * 2 ^ 27 + g.toNat * 2 ^ 24 + t.toNat
  | .emitDb b => 0x0A * 2 ^ 27 + b.toNat
  | .emitRec t => 0x0A * 2 ^ 27 + 2 ^ 24 + t.toNat * 2 ^ 16

theorem SInstr.toNat_encode (i : SInstr) : i.encode.toNat = i.code := by
  cases i with
  | halt => rfl
  | add gd l ga o =>
    unfold SInstr.encode SInstr.code SOperand.code
    rw [toNat_append_add]
    simp only [toNat_append_add]
    cases l <;> simp [b2n] <;> omega
  | cmp ga o =>
    unfold SInstr.encode SInstr.code SOperand.code
    rw [toNat_append_add]
    simp only [toNat_append_add]
    simp
    omega
  | _ =>
    unfold SInstr.encode SInstr.code
    rw [toNat_append_add]
    simp only [toNat_append_add]
    simp <;> omega

/-! ## Operands (R361) -/

theorem SOperand.low_reg (m : BitVec 2) (g : BitVec 3) : (SOperand.reg m g).low.toNat = g.toNat := by
  unfold SOperand.low
  rw [toNat_append_add]
  simp

theorem SOperand.used_iff (o : SOperand) : o.used = true ↔ o.mode.toNat ≠ 3 := by
  cases o <;> simp [SOperand.used, SOperand.mode, ← BitVec.toNat_inj]

/-- A word's operand is the one that its bits [23:21] and [15:0] spell. -/
theorem operandOf_eq_some_iff {w : Word} {o : SOperand} :
    operandOf w = some o ↔ o.used = true ∧ w.toNat / 2 ^ 21 % 2 ^ 3 * 2 ^ 21 + w.toNat % 2 ^ 16 = o.code := by
  rw [SOperand.used_iff, operandOf, SOperand.code]
  cases o with
  | imm m v => split_ifs <;> simp [bits_eq_iff, SOperand.i, SOperand.mode, SOperand.low] at * <;> omega
  | reg m g =>
    rw [SOperand.low_reg]
    split_ifs <;> simp [bits_eq_iff, SOperand.i, SOperand.mode] at * <;> omega

/-! ## Decode -/

theorem b2n_bits_one (w : Word) (lo : Nat) : b2n (decide (bits w lo 1 = 1)) = w.toNat / 2 ^ lo % 2 := by
  have hone : bits w lo 1 = 1 ↔ w.toNat / 2 ^ lo % 2 = 1 := bits_eq_iff
  simp only [b2n, decide_eq_true_eq, hone]
  split <;> omega

theorem decodeStitch_eq_some {w : Word} {i : SInstr} (h : decodeStitch w = some i) : i.used = true ∧ w.toNat = i.code := by
  unfold decodeStitch at h
  split at h <;> rename_i hop <;> rw [toNat_bits] at hop
  -- CMP and ADD, whose operand is decoded on its own
  case h_7 =>
    split_ifs at h with hzero
    obtain ⟨o, ho, rfl⟩ := Option.map_eq_some_iff.mp h
    obtain ⟨hused, hcode⟩ := operandOf_eq_some_iff.mp ho
    rw [bits_eq_zero_iff] at hzero
    refine ⟨hused, ?_⟩
    rw [SInstr.code, toNat_bits]
    omega
  case h_9 =>
    split_ifs at h with hzero
    obtain ⟨o, ho, rfl⟩ := Option.map_eq_some_iff.mp h
    obtain ⟨hused, hcode⟩ := operandOf_eq_some_iff.mp ho
    rw [bits_eq_zero_iff] at hzero
    refine ⟨hused, ?_⟩
    rw [SInstr.code, toNat_bits, toNat_bits, b2n_bits_one]
    omega
  -- an opcode above 0x0A
  case h_12 => cases h
  all_goals split_ifs at h
  all_goals
    injection h with h
    subst h
    simp [SInstr.used, SInstr.code, toNat_bits, bits_eq_iff] at *
    omega

/-- The opcode and the fields of SET_FIELD, CLR_FIELD and READ. -/
theorem bits_of_fieldWord {w : Word} {op : Nat} {g : BitVec 3} {a : BitVec 8} {lo wd : BitVec 5}
    (h : w.toNat = op * 2 ^ 27 + g.toNat * 2 ^ 24 + a.toNat * 2 ^ 16 + lo.toNat * 2 ^ 11 + wd.toNat * 2 ^ 6) :
    (bits w 27 5).toNat = op ∧ bits w 24 3 = g ∧ bits w 16 8 = a ∧ bits w 11 5 = lo ∧ bits w 6 5 = wd ∧ bits w 0 6 = 0 := by
  refine ⟨?_, bits_eq_iff.mpr (by omega), bits_eq_iff.mpr (by omega), bits_eq_iff.mpr (by omega), bits_eq_iff.mpr (by omega),
    bits_low_eq_iff.mpr (by simp; omega)⟩
  rw [toNat_bits]
  omega

/-- The opcode and the fields of BRANCH and LOOP. -/
theorem bits_of_targetWord {w : Word} {op : Nat} {g : BitVec 3} {t : BitVec 8}
    (h : w.toNat = op * 2 ^ 27 + g.toNat * 2 ^ 24 + t.toNat) :
    (bits w 27 5).toNat = op ∧ bits w 24 3 = g ∧ bits w 8 16 = 0 ∧ bits w 0 8 = t := by
  refine ⟨?_, bits_eq_iff.mpr (by omega), bits_eq_zero_iff.mpr (by omega), bits_low_eq_iff.mpr (by omega)⟩
  rw [toNat_bits]
  omega

theorem decodeStitch_encode (i : SInstr) (hi : i.used = true) : decodeStitch i.encode = some i := by
  have h := i.toNat_encode
  generalize i.encode = w at h
  cases i with
  | halt =>
    have hw : w = 0 := BitVec.eq_of_toNat_eq h
    rw [hw]
    rfl
  | waitEvent gd m =>
    simp only [SInstr.code] at h
    have hop : (bits w 27 5).toNat = 1 := by rw [toNat_bits]; omega
    have hgd : bits w 24 3 = gd := bits_eq_iff.mpr (by omega)
    have hzero : bits w 16 8 = 0 := bits_eq_zero_iff.mpr (by omega)
    have hm : bits w 0 16 = m := bits_low_eq_iff.mpr (by omega)
    simp [decodeStitch, hop, hgd, hzero, hm]
  | waitTime u n =>
    simp only [SInstr.code] at h
    have hused : ¬ u = 3#2 := of_decide_eq_true hi
    have hop : (bits w 27 5).toNat = 2 := by rw [toNat_bits]; omega
    have hu : bits w 25 2 = u := bits_eq_iff.mpr (by omega)
    have hzero : bits w 24 1 = 0 := bits_eq_zero_iff.mpr (by omega)
    have hn : bits w 0 24 = n := bits_low_eq_iff.mpr (by omega)
    simp [decodeStitch, hop, hu, hzero, hn, hused]
  | setField g a lo wd =>
    simp only [SInstr.code] at h
    obtain ⟨hop, hg, ha, hlo, hwd, hzero⟩ := bits_of_fieldWord h
    simp [decodeStitch, hop, hg, ha, hlo, hwd, hzero]
  | clrField a lo wd =>
    simp only [SInstr.code] at h
    obtain ⟨hop, hg, ha, hlo, hwd, hzero⟩ := bits_of_fieldWord (w := w) (op := 4) (g := 0) (a := a) (lo := lo) (wd := wd) (by simp; omega)
    simp [decodeStitch, hop, hg, ha, hlo, hwd, hzero]
  | read g a lo wd =>
    simp only [SInstr.code] at h
    obtain ⟨hop, hg, ha, hlo, hwd, hzero⟩ := bits_of_fieldWord h
    simp [decodeStitch, hop, hg, ha, hlo, hwd, hzero]
  | cmp ga o =>
    simp only [SInstr.code, SOperand.code] at h
    have hop : (bits w 27 5).toNat = 6 := by rw [toNat_bits]; omega
    have hga : bits w 24 3 = ga := bits_eq_iff.mpr (by omega)
    have hzero : bits w 16 5 = 0 := bits_eq_zero_iff.mpr (by omega)
    have ho : operandOf w = some o := operandOf_eq_some_iff.mpr ⟨hi, by rw [SOperand.code]; omega⟩
    simp [decodeStitch, hop, hga, hzero, ho]
  | branch c t =>
    have hused : ¬ c = 7#3 := of_decide_eq_true hi
    simp only [SInstr.code] at h
    obtain ⟨hop, hc, hzero, ht⟩ := bits_of_targetWord h
    simp [decodeStitch, hop, hc, hzero, ht, hused]
  | add gd l ga o =>
    simp only [SInstr.code, SOperand.code] at h
    have hl : b2n l < 2 := by cases l <;> decide
    have hop : (bits w 27 5).toNat = 8 := by rw [toNat_bits]; omega
    have hgd : bits w 24 3 = gd := bits_eq_iff.mpr (by omega)
    have hzero : bits w 19 1 = 0 := bits_eq_zero_iff.mpr (by omega)
    have hga : bits w 16 3 = ga := bits_eq_iff.mpr (by omega)
    have hbit : b2n (decide (bits w 20 1 = 1)) = b2n l := by rw [b2n_bits_one]; omega
    have hl' : decide (bits w 20 1 = 1#1) = l := by cases l <;> simpa [b2n] using hbit
    have ho : operandOf w = some o := operandOf_eq_some_iff.mpr ⟨hi, by rw [SOperand.code]; omega⟩
    simp [decodeStitch, hop, hgd, hzero, hga, hl', ho]
  | loop g t =>
    simp only [SInstr.code] at h
    obtain ⟨hop, hg, hzero, ht⟩ := bits_of_targetWord h
    simp [decodeStitch, hop, hg, hzero, ht]
  | emitDb b =>
    simp only [SInstr.code] at h
    have hop : (bits w 27 5).toNat = 10 := by rw [toNat_bits]; omega
    have hkind : bits w 24 3 = 0 := bits_eq_zero_iff.mpr (by omega)
    have hmid : bits w 5 11 = 0 := bits_eq_zero_iff.mpr (by omega)
    have htag : bits w 16 8 = 0 := bits_eq_zero_iff.mpr (by omega)
    have hb : bits w 0 5 = b := bits_low_eq_iff.mpr (by omega)
    simp [decodeStitch, hop, hkind, hmid, htag, hb]
  | emitRec t =>
    simp only [SInstr.code] at h
    have hop : (bits w 27 5).toNat = 10 := by rw [toNat_bits]; omega
    have hkind : bits w 24 3 = 1 := bits_eq_iff.mpr (by simp; omega)
    have hmid : bits w 5 11 = 0 := bits_eq_zero_iff.mpr (by omega)
    have hlow : bits w 0 5 = 0 := bits_low_eq_iff.mpr (by simp; omega)
    have ht : bits w 16 8 = t := bits_eq_iff.mpr (by omega)
    simp [decodeStitch, hop, hkind, hmid, hlow, ht]

/-- Settles O44: the number that an instruction's fields spell is its word (R360), and decoding takes the fields apart again. -/
theorem stitchWordsRoundTrip : Obligations.StitchWordsRoundTrip := by
  unfold Obligations.StitchWordsRoundTrip
  refine ⟨decodeStitch_encode, fun w i h => ?_⟩
  obtain ⟨hused, hcode⟩ := decodeStitch_eq_some h
  exact ⟨hused, BitVec.eq_of_toNat_eq (i.toNat_encode.trans hcode.symm)⟩

/-- Settles O45: the words written out are evaluated. -/
theorem stitchDecodesTableWords : Obligations.StitchDecodesTableWords := by
  unfold Obligations.StitchDecodesTableWords
  decide
end Sys2Proof.Machine
end

section
/-! SUPPORT. One instruction of a stitch engine (R358, R359, R361, R363, R364, R367). -/

namespace Sys2Proof.Machine
open Sys2Proof

/-! ## The fetch (R358, R367) -/

/-- An engine that runs faults at a word with bad parity and at a word that spells no instruction. -/
theorem Stitch.fetch_fault {u : Stitch} (hruns : u.runs = true) (h : u.badParity.contains u.pc = true ∨ decodeStitch (u.prog.getD u.pc 0) = none) :
    u.fetch = .fault := by
  unfold Stitch.fetch
  rw [if_pos hruns]
  split
  · rfl
  · rename_i hparity
    rw [h.resolve_left hparity]

/-- What a fetch fault leaves of the engine: the invocation is over, and its registers and its program stay. -/
theorem Stitch.overrunEnd_fault (u : Stitch) :
    (u.overrunEnd true).busy = false ∧ (u.overrunEnd true).enable = false ∧ bit (u.overrunEnd true).hist 1 = true ∧ (u.overrunEnd true).wq = [] ∧
      (u.overrunEnd true).g = u.g ∧ (u.overrunEnd true).loc = u.loc ∧ (u.overrunEnd true).prog = u.prog ∧
      (u.overrunEnd true).runCnt = satInc u.runCnt :=
  ⟨rfl, rfl, bit_setb_same _ (by decide), rfl, rfl, rfl, rfl, rfl⟩

/-! ## How the command of an instruction ends -/

section
variable {s : State} {e : Nat} {f : SInstr → Option State}

theorem State.stitchStep_instr {i : SInstr} (he : s.hasStitch e = true) (hf : (s.stitch e).fetch = .instr i) : s.stitchStep e f = (f i).getD s := by
  unfold State.stitchStep
  rw [if_pos he, hf]

theorem State.stitchStep_fault (he : s.hasStitch e = true) (hf : (s.stitch e).fetch = .fault) :
    s.stitchStep e f = s.setStitch e ((s.stitch e).overrunEnd true) := by
  unfold State.stitchStep
  rw [if_pos he, hf]

theorem fin_stitchStep_fault (he : s.hasStitch e = true) (hf : (s.stitch e).fetch = .fault) :
    fin ((s.stitchStep e f).commitPoll e) = .next ((s.setStitch e ((s.stitch e).overrunEnd true)).ran e) :=
  congrArg (fun t => fin (State.commitPoll t e)) (State.stitchStep_fault he hf)

end

theorem next_ran {t t' : State} {e : Nat} (h : t = t') : (.next (t.ran e) : Host.Outcome State Fault Refusal) = .next (t'.ran e) :=
  congrArg (fun x => Host.Outcome.next (State.ran x e)) h

/-! ## What single instructions leave (R356, R359, R361) -/

/-- The engine after a halt with the queue empty: the invocation has ended without overrun, and a CROSSING program's is noted (R369). -/
theorem State.stitchHalted_stitch (s : State) (e : Nat) :
    (s.stitchHalted e).stitch e = { (s.stitch e).over with
      overrun := false
      crossDone := if classOf e = 1 ∧ (s.stitch e).point = 0 then ((s.stitch e).ctx.drop 6).take 2 else (s.stitch e).crossDone } := by
  unfold State.stitchHalted
  dsimp only
  split <;> simp

/-- CMP sets the flags of the difference of its operands. -/
theorem Stitch.setFlags_cmp (u : Stitch) (a b : Word) :
    u.setFlags (aluCmp a b) = { u with
      fz := decide (a = b), fn := (a - b).msb, fc := decide (b.toNat ≤ a.toNat), fv := decide (a.msb ≠ b.msb) && decide ((a - b).msb ≠ a.msb) } := by
  have hz : a - b = 0 ↔ a = b := sub_eq_zero
  simp only [Stitch.setFlags, aluCmp, hz]

/-- CLR_FIELD writes a field of zeros. -/
theorem zero_field (lo wd : Nat) : (0 : Word) <<< lo &&& fieldMask lo wd = 0 := by simp

theorem or_zero_field (x : Word) (lo wd : Nat) : x ||| (0 : Word) <<< lo &&& fieldMask lo wd = x := by
  rw [zero_field]
  exact BitVec.or_zero

section
variable {s : State} {e w : Nat}

/-- A field write to a unit word joins the queue. -/
theorem State.fieldWrite_unit (hw : w < 0x40) (hq : (s.stitch e).wq.length < 8) (lo wd : Nat) (v : Word) :
    s.fieldWrite e w lo wd v = s.setStitch e { (s.stitch e).next 1 with
      wq := (s.stitch e).wq ++ [{ word := w, mask := fieldMask lo wd, val := (v <<< lo) &&& fieldMask lo wd }] } := by
  unfold State.fieldWrite
  dsimp only
  rw [if_pos hw, if_pos hq]

/-- A field write to a unit word stalls on a full queue. -/
theorem State.fieldWrite_full (hw : w < 0x40) (hq : 8 ≤ (s.stitch e).wq.length) (lo wd : Nat) (v : Word) : s.fieldWrite e w lo wd v = s := by
  unfold State.fieldWrite
  dsimp only
  rw [if_pos hw, if_neg (Nat.not_lt.mpr hq)]

theorem State.fieldWrite_local (hlo : 0x60 ≤ w) (hhi : w < 0x80) (lo wd : Nat) (v : Word) :
    s.fieldWrite e w lo wd v = s.setStitch e { (s.stitch e).next 1 with
      loc := (s.stitch e).loc.set (w - 0x60) (((s.stitch e).loc.getD (w - 0x60) 0 &&& ~~~ fieldMask lo wd) ||| ((v <<< lo) &&& fieldMask lo wd)) } := by
  unfold State.fieldWrite
  dsimp only
  rw [if_neg (by omega), if_pos ⟨hlo, hhi⟩]

/-- A context word, or a word outside the view, takes no write. -/
theorem State.fieldWrite_none (hw : 0x40 ≤ w) (hrange : w < 0x60 ∨ 0x80 ≤ w) (lo wd : Nat) (v : Word) :
    s.fieldWrite e w lo wd v = s.setStitch e ((s.stitch e).next 1) := by
  unfold State.fieldWrite
  dsimp only
  rw [if_neg (by omega), if_neg (by omega)]

end

/-! ## Each instruction at its word (R359, R361, R363) -/

section
variable {s : State} {e : Nat} (he : s.hasStitch e = true)
include he

theorem State.opHalt_eq (hf : (s.stitch e).fetch = .instr .halt) :
    s.opHalt e =
      if (s.stitch e).wq.isEmpty then (s.setStitch e { s.stitch e with steps := (s.stitch e).steps + 1, draining := true }).stitchHalted e
      else s.setStitch e { s.stitch e with steps := (s.stitch e).steps + 1, draining := true } :=
  State.stitchStep_instr he hf

theorem State.opWaitEvent_eq {gd : BitVec 3} {m : BitVec 16} (hf : (s.stitch e).fetch = .instr (.waitEvent gd m)) :
    s.opWaitEvent e = s.setStitch e (((s.stitch e).next 1).waitEvent gd.toNat m.toNat) := State.stitchStep_instr he hf

theorem State.opWaitTime_eq {t : BitVec 2} {n : BitVec 24} (hf : (s.stitch e).fetch = .instr (.waitTime t n)) :
    s.opWaitTime e = s.setStitch e (if n = 0 then (s.stitch e).next 1
      else { (s.stitch e).next 1 with wait := .time t.toNat (if t = 1 then s.tb.k + n.toNat else n.toNat) }) := State.stitchStep_instr he hf

theorem State.opSetField_eq {g : BitVec 3} {w : BitVec 8} {lo wd : BitVec 5} (hf : (s.stitch e).fetch = .instr (.setField g w lo wd)) :
    s.opSetField e = s.fieldWrite e w.toNat lo.toNat wd.toNat ((s.stitch e).reg g) := State.stitchStep_instr he hf

theorem State.opClrField_eq {w : BitVec 8} {lo wd : BitVec 5} (hf : (s.stitch e).fetch = .instr (.clrField w lo wd)) :
    s.opClrField e = s.fieldWrite e w.toNat lo.toNat wd.toNat 0 := State.stitchStep_instr he hf

theorem State.opRead_eq {g : BitVec 3} {w : BitVec 8} {lo wd : BitVec 5} (hf : (s.stitch e).fetch = .instr (.read g w lo wd)) :
    s.opRead e = (if w.toNat < 0x40 then s.unitSteps else (1, s)).2.setStitch e
      (((s.stitch e).next (if w.toNat < 0x40 then s.unitSteps else (1, s)).1).setReg g
        ((s.viewWord e w.toNat >>> lo.toNat) &&& fieldMask 0 wd.toNat)) := State.stitchStep_instr he hf

theorem State.opCmp_eq {g : BitVec 3} {o : SOperand} (hf : (s.stitch e).fetch = .instr (.cmp g o)) :
    s.opCmp e = s.setStitch e (((s.stitch e).next 1).setFlags (aluCmp ((s.stitch e).reg g) ((s.stitch e).operand o))) := State.stitchStep_instr he hf

theorem State.opBranch_eq {c : BitVec 3} {t : BitVec 8} (hf : (s.stitch e).fetch = .instr (.branch c t)) :
    s.opBranch e = s.setStitch e (if condHolds (s.stitch e).fz (s.stitch e).fn (s.stitch e).fc (s.stitch e).fv c.toNat
      then { (s.stitch e).next 1 with pc := t.toNat } else (s.stitch e).next 1) := State.stitchStep_instr he hf

theorem State.opAdd_eq {gd : BitVec 3} {l : Bool} {ga : BitVec 3} {o : SOperand} (hf : (s.stitch e).fetch = .instr (.add gd l ga o)) :
    s.opAdd e =
      let a := aluAdd (if l then 0 else (s.stitch e).reg ga) ((s.stitch e).operand o)
      s.setStitch e ((((s.stitch e).next 1).setReg gd a.res).setFlags a) := State.stitchStep_instr he hf

theorem State.opLoop_eq {g : BitVec 3} {t : BitVec 8} (hf : (s.stitch e).fetch = .instr (.loop g t)) :
    s.opLoop e =
      let v := ((s.stitch e).next 1).setReg g ((s.stitch e).reg g - 1)
      s.setStitch e (if (s.stitch e).reg g - 1 = 0 then v else { v with pc := t.toNat }) := State.stitchStep_instr he hf

theorem State.opEmit_doorbell {b : BitVec 5} (hf : (s.stitch e).fetch = .instr (.emitDb b)) :
    s.opEmit e =
      let v := (s.stitch e).next 1
      if 16 ≤ (s.stitch e).emit0 then s.setStitch e { v with hist := setb v.hist 4 }
      else (s.setStitch e { v with emit0 := (s.stitch e).emit0 + 1 }).modMbx (s.stitch e).dbChan fun m => { m with c2hDb := setb m.c2hDb b.toNat } :=
  State.stitchStep_instr he hf

theorem State.opEmit_record {t : BitVec 8} (hf : (s.stitch e).fetch = .instr (.emitRec t)) :
    s.opEmit e =
      let v := (s.stitch e).next 1
      if 16 ≤ (s.stitch e).emit1 then s.setStitch e { v with hist := setb v.hist 4 }
      else (s.setStitch e { v with emit1 := (s.stitch e).emit1 + 1, seq := ((s.stitch e).seq + 1) % 256 }).pushExport (dieOfStitch e)
        [(s.stitch e).record e t.toNat] :=
  State.stitchStep_instr he hf

end

/-- Settles O46: each of the eleven commands is a step of the engine, and a step at a faulty word is the fetch fault. -/
theorem stitchFetchFaults : Obligations.StitchFetchFaults := by
  unfold Obligations.StitchFetchFaults
  intro s e i he hruns hword hi
  have hfetch := Stitch.fetch_fault hruns hword
  refine ⟨(s.stitch e).overrunEnd true, ?_, (s.stitch e).overrunEnd_fault⟩
  simp only [List.mem_cons, List.not_mem_nil, or_false] at hi
  rcases hi with rfl | rfl | rfl | rfl | rfl | rfl | rfl | rfl | rfl | rfl | rfl <;> exact fin_stitchStep_fault he hfetch

/-! ## EMIT (R363, R364) -/

@[simp] theorem State.pushExport_stitch (s : State) (d : Nat) (rs : List (BitVec 128)) (j : Nat) : (s.pushExport d rs).stitch j = s.stitch j := by
  unfold State.pushExport
  dsimp only
  split
  · rfl
  · split <;> rfl

/-- Die 0's own records go to its intake. -/
theorem State.pushExport_intake (s : State) (rs : List (BitVec 128)) : ((s.pushExport 0 rs).die 0).intake = (s.die 0).intake ++ rs := by
  unfold State.pushExport
  rw [if_pos rfl, State.modDie_die, if_pos rfl]

/-- Settles O48: below the limit EMIT performs its effect and counts it, at the limit it sets EMIT_LIM_H alone. -/
theorem emitLimitPerInvocation : Obligations.EmitLimitPerInvocation := by
  unfold Obligations.EmitLimitPerInvocation
  intro s e he u
  refine ⟨fun b h => ⟨fun hlim => ?doorbell, fun hlim => ?doorbellLimit⟩, fun x h => ⟨fun hlim => ?record, fun hlim => ?recordLimit⟩⟩
  case doorbell =>
    refine ⟨_, next_ran ((State.opEmit_doorbell he h).trans (if_neg (Nat.not_le.mpr hlim))), ?_⟩
    rw [State.modMbx_stitch_same, State.setStitch_stitch, if_pos rfl, State.modMbx_mbx, if_pos rfl]
    exact ⟨rfl, bit_setb_same _ b.isLt, rfl⟩
  case doorbellLimit =>
    exact ⟨_, next_ran ((State.opEmit_doorbell he h).trans (if_pos hlim)), bit_setb_same _ (by decide), rfl⟩
  case record =>
    refine ⟨_, next_ran ((State.opEmit_record he h).trans (if_neg (Nat.not_le.mpr hlim))), ?_⟩
    rw [State.pushExport_stitch, State.setStitch_stitch, if_pos rfl]
    refine ⟨rfl, rfl, fun hdie => ?_⟩
    rw [hdie, State.pushExport_intake]
    rfl
  case recordLimit =>
    exact ⟨_, next_ran ((State.opEmit_record he h).trans (if_pos hlim)), bit_setb_same _ (by decide), rfl⟩

/-- Settles O18: at the word of its instruction each command is that instruction's effect (R359, R361, R363). -/
theorem stitchInstructionsComplete : Obligations.StitchInstructionsComplete := by
  unfold Obligations.StitchInstructionsComplete
  intro s e he u v
  refine ⟨?drain, ?halt, ?waitEvent, ?eventPending, ?waitTime, ?setUnit, ?setFull, ?setLocal, ?clrUnit, ?clrLocal, ?setNone, ?clrNone, ?clrFull,
    ?read, ?cmp, ?branch, ?add, ?loop, ?emitDb, ?emitRec, ?emitDbLimit, ?emitRecLimit⟩
  case drain =>
    intro h hq
    exact next_ran ((State.opHalt_eq he h).trans (if_neg (by simpa using hq)))
  case halt =>
    intro h hq
    refine ⟨_, next_ran ((State.opHalt_eq he h).trans (if_pos (by simpa using hq))), ?_⟩
    rw [State.stitchHalted_stitch, State.setStitch_stitch, if_pos rfl]
    exact ⟨rfl, rfl, rfl, rfl, rfl⟩
  case waitEvent => exact fun gd m h hm => next_ran ((State.opWaitEvent_eq he h).trans (congrArg (s.setStitch e) (if_pos hm)))
  case eventPending => exact fun gd m h hm => next_ran ((State.opWaitEvent_eq he h).trans (congrArg (s.setStitch e) (if_neg hm)))
  case waitTime => exact fun x n h => next_ran (State.opWaitTime_eq he h)
  case setUnit => exact fun g w lo wd h hw hq => next_ran ((State.opSetField_eq he h).trans (State.fieldWrite_unit hw hq _ _ _))
  case setFull => exact fun g w lo wd h hw hq => next_ran ((State.opSetField_eq he h).trans (State.fieldWrite_full hw hq _ _ _))
  case setLocal => exact fun g w lo wd h hlo hhi => next_ran ((State.opSetField_eq he h).trans (State.fieldWrite_local hlo hhi _ _ _))
  case setNone => exact fun g w lo wd h hw hrange => next_ran ((State.opSetField_eq he h).trans (State.fieldWrite_none hw hrange _ _ _))
  case clrUnit =>
    intro w lo wd h hw hq
    refine next_ran ((State.opClrField_eq he h).trans ((State.fieldWrite_unit hw hq _ _ _).trans ?_))
    rw [zero_field]
  case clrFull => exact fun w lo wd h hw hq => next_ran ((State.opClrField_eq he h).trans (State.fieldWrite_full hw hq _ _ _))
  case clrLocal =>
    intro w lo wd h hlo hhi
    refine next_ran ((State.opClrField_eq he h).trans ((State.fieldWrite_local hlo hhi _ _ _).trans ?_))
    rw [or_zero_field]
  case clrNone => exact fun w lo wd h hw hrange => next_ran ((State.opClrField_eq he h).trans (State.fieldWrite_none hw hrange _ _ _))
  case read =>
    intro g w lo wd h far
    refine next_ran ((State.opRead_eq he h).trans ?_)
    by_cases hw : w.toNat < 0x40
    · simp only [far, hw, if_true, decide_true]
      rfl
    · simp only [far, hw, if_false, decide_false]
      rfl
  case cmp => exact fun g o h => next_ran ((State.opCmp_eq he h).trans (congrArg (s.setStitch e) (v.setFlags_cmp _ _)))
  case branch => exact fun c x h => next_ran (State.opBranch_eq he h)
  case add => exact fun gd l ga o h => next_ran (State.opAdd_eq he h)
  case loop =>
    intro g x h
    refine next_ran ((State.opLoop_eq he h).trans (congrArg (s.setStitch e) ?_))
    split <;> rfl
  case emitDb => exact fun b h hlim => next_ran ((State.opEmit_doorbell he h).trans (if_neg (Nat.not_le.mpr hlim)))
  case emitRec => exact fun x h hlim => next_ran ((State.opEmit_record he h).trans (if_neg (Nat.not_le.mpr hlim)))
  case emitDbLimit => exact fun b h hlim => next_ran ((State.opEmit_doorbell he h).trans (if_pos hlim))
  case emitRecLimit => exact fun x h hlim => next_ran ((State.opEmit_record he h).trans (if_pos hlim))

end Sys2Proof.Machine
end

section
/-! SUPPORT. The frame of the stitch instructions (R358, R361, R363): a step changes its own engine, HALT the pending switch of its DPLL,
EMIT what goes out. -/

namespace Sys2Proof.Machine
open Sys2Proof

/-! ## A step of one engine -/

/-- Engine `e` alone has changed from `s` to `t`, and the commits that wait for it are those that waited. -/
def State.Steps (e : Nat) (s t : State) : Prop := UnitKind.stitches.Only e s t ∧ (t.stitch e).commitBy = (s.stitch e).commitBy

theorem State.steps_refl (e : Nat) (s : State) : s.Steps e s := ⟨UnitKind.stitches.only_refl e s, rfl⟩

theorem State.steps_setStitch {s : State} {e : Nat} {u : Stitch} (h : u.commitBy = (s.stitch e).commitBy) : s.Steps e (s.setStitch e u) :=
  ⟨s.setStitch_only e u, by rw [State.setStitch_stitch, if_pos rfl, h]⟩

/-- A poll that finds no commit waiting changes nothing but its engine. -/
theorem State.commitPoll_only {s : State} {e : Nat} (h : (s.stitch e).commitBy = []) : UnitKind.stitches.Only e s (s.commitPoll e) := by
  unfold State.commitPoll
  dsimp only
  split
  · exact UnitKind.stitches.only_refl e s
  · rw [h]
    exact s.setStitch_only e _

/-- A step does nothing, is a fetch fault, or is the effect of the instruction it looks for. -/
theorem State.stitchStep_induct {s : State} {e : Nat} {f : SInstr → Option State} (P : State → Prop) (hidle : P s)
    (hfault : P (s.setStitch e ((s.stitch e).overrunEnd true))) (hinstr : ∀ i t, f i = some t → P t) : P (s.stitchStep e f) := by
  unfold State.stitchStep
  split
  · split
    · exact hidle
    · exact hfault
    · rename_i i _
      cases h : f i with
      | none => exact hidle
      | some t => exact hinstr i t h
  · exact hidle

theorem State.stitchStep_steps {s : State} {e : Nat} {f : SInstr → Option State} (h : ∀ i t, f i = some t → s.Steps e t) :
    s.Steps e (s.stitchStep e f) :=
  State.stitchStep_induct (s.Steps e) (s.steps_refl e) (State.steps_setStitch rfl) h

/-! ## The instructions that change their engine alone (R361) -/

section
variable (s : State) (e : Nat)

theorem Stitch.waitEvent_commitBy (u : Stitch) (gd mask : Nat) : (u.waitEvent gd mask).commitBy = u.commitBy := by
  unfold Stitch.waitEvent
  dsimp only
  split <;> rfl

theorem State.fieldWrite_steps (w lo wd : Nat) (v : Word) : s.Steps e (s.fieldWrite e w lo wd v) := by
  unfold State.fieldWrite
  dsimp only
  split
  · split
    · exact State.steps_setStitch rfl
    · exact s.steps_refl e
  · split
    · exact State.steps_setStitch rfl
    · exact State.steps_setStitch rfl

theorem State.opWaitEvent_steps : s.Steps e (s.opWaitEvent e) := by
  refine State.stitchStep_steps fun i t h => ?_
  split at h <;> cases h
  exact State.steps_setStitch (Stitch.waitEvent_commitBy _ _ _)

theorem State.opWaitTime_steps : s.Steps e (s.opWaitTime e) := by
  refine State.stitchStep_steps fun i t h => ?_
  split at h <;> cases h
  refine State.steps_setStitch ?_
  split <;> rfl

theorem State.opSetField_steps : s.Steps e (s.opSetField e) := by
  refine State.stitchStep_steps fun i t h => ?_
  split at h <;> cases h
  exact s.fieldWrite_steps e _ _ _ _

theorem State.opClrField_steps : s.Steps e (s.opClrField e) := by
  refine State.stitchStep_steps fun i t h => ?_
  split at h <;> cases h
  exact s.fieldWrite_steps e _ _ _ _

theorem State.opCmp_steps : s.Steps e (s.opCmp e) := by
  refine State.stitchStep_steps fun i t h => ?_
  split at h <;> cases h
  exact State.steps_setStitch rfl

theorem State.opBranch_steps : s.Steps e (s.opBranch e) := by
  refine State.stitchStep_steps fun i t h => ?_
  split at h <;> cases h
  refine State.steps_setStitch ?_
  split <;> rfl

theorem State.opAdd_steps : s.Steps e (s.opAdd e) := by
  refine State.stitchStep_steps fun i t h => ?_
  split at h <;> cases h
  exact State.steps_setStitch rfl

theorem State.opLoop_steps : s.Steps e (s.opLoop e) := by
  refine State.stitchStep_steps fun i t h => ?_
  split at h <;> cases h
  refine State.steps_setStitch ?_
  split <;> rfl

/-- READ of a unit word first draws the steps of its access. -/
theorem State.opRead_steps : s.Steps e (s.opRead e) ∨ s.draw.2.Steps e (s.opRead e) := by
  refine State.stitchStep_induct (fun t => s.Steps e t ∨ s.draw.2.Steps e t) (.inl (s.steps_refl e)) (.inl (State.steps_setStitch rfl))
    fun i t h => ?_
  split at h <;> cases h
  split
  · exact .inr (State.steps_setStitch rfl)
  · exact .inl (State.steps_setStitch rfl)

end

/-! ## HALT and EMIT -/

/-- What HALT of engine `e` may change from `s` to `t`: the engine, and the pending switch of its DPLL. -/
def State.Halts (e : Nat) (s t : State) : Prop :=
  (∃ l m, t = { s with stitches := l, dplls := m }) ∧ (∀ j, j ≠ e → t.stitch j = s.stitch j) ∧
    ∀ k, (t.dpll k).steer = (s.dpll k).steer ∧ (t.dpll k).state = (s.dpll k).state ∧ (k ≠ 8 * dieOfStitch e + e % 28 → t.dpll k = s.dpll k)

/-- What EMIT of engine `e` may change from `s` to `t`: the engine, the doorbells, the buffered exports of its die and the marks of dropped
records. -/
def State.Emits (e : Nat) (s t : State) : Prop :=
  (∃ l h ds b, t = { s with stitches := l, host := h, dies := ds, tb := b }) ∧ (∀ j, j ≠ e → t.stitch j = s.stitch j) ∧
    (∀ d, d ≠ dieOfStitch e → t.die d = s.die d) ∧ t.tb.tbEn = s.tb.tbEn ∧ t.tb.k = s.tb.k

section
variable {s t : State} {e : Nat}

theorem UnitKind.Only.halts (h : UnitKind.stitches.Only e s t) : s.Halts e t := by
  obtain ⟨ht, hunit⟩ := h
  obtain ⟨l, rfl⟩ : ∃ l, t = { s with stitches := l } := ⟨_, ht⟩
  exact ⟨⟨l, s.dplls, rfl⟩, hunit, fun k => ⟨rfl, rfl, fun _ => rfl⟩⟩

theorem UnitKind.Only.emits (h : UnitKind.stitches.Only e s t) : s.Emits e t := by
  obtain ⟨ht, hunit⟩ := h
  obtain ⟨l, rfl⟩ : ∃ l, t = { s with stitches := l } := ⟨_, ht⟩
  exact ⟨⟨l, s.host, s.dies, s.tb, rfl⟩, hunit, fun _ _ => rfl, rfl, rfl⟩

/-- A later change of the engine alone leaves a HALT's frame. -/
theorem State.Halts.trans_only {r : State} (h : s.Halts e t) (hr : UnitKind.stitches.Only e t r) : s.Halts e r := by
  obtain ⟨⟨l, m, rfl⟩, hunit, hdpll⟩ := h
  obtain ⟨hr, hunit'⟩ := hr
  obtain ⟨l', rfl⟩ : ∃ l', r = { s with stitches := l', dplls := m } := ⟨_, hr⟩
  exact ⟨⟨l', m, rfl⟩, fun j hj => (hunit' j hj).trans (hunit j hj), hdpll⟩

theorem State.Emits.trans_only {r : State} (h : s.Emits e t) (hr : UnitKind.stitches.Only e t r) : s.Emits e r := by
  obtain ⟨⟨l, x, ds, b, rfl⟩, hunit, hrest⟩ := h
  obtain ⟨hr, hunit'⟩ := hr
  obtain ⟨l', rfl⟩ : ∃ l', r = { s with stitches := l', host := x, dies := ds, tb := b } := ⟨_, hr⟩
  exact ⟨⟨l', x, ds, b, rfl⟩, fun j hj => (hunit' j hj).trans (hunit j hj), hrest⟩

/-- The release of the pending switch of the engine's DPLL. -/
theorem State.Halts.modDpll (h : s.Halts e t) {g : DpllUnit → DpllUnit} (hg : ∀ v, (g v).steer = v.steer ∧ (g v).state = v.state) :
    s.Halts e (t.modDpll (8 * dieOfStitch e + e % 28) g) := by
  obtain ⟨⟨l, m, rfl⟩, hunit, hdpll⟩ := h
  refine ⟨⟨l, _, rfl⟩, hunit, fun k => ?_⟩
  obtain ⟨hsteer, hstate, hother⟩ := hdpll k
  rw [State.modDpll_dpll]
  split
  · rename_i hk
    subst hk
    exact ⟨(hg _).1.trans hsteer, (hg _).2.trans hstate, fun hne => absurd rfl hne⟩
  · exact ⟨hsteer, hstate, hother⟩

theorem State.stitchHalted_halts (h : UnitKind.stitches.Only e s t) : s.Halts e (t.stitchHalted e) := by
  have hhalt (u : Stitch) : s.Halts e (t.setStitch e u) := (h.trans (t.setStitch_only e u)).halts
  unfold State.stitchHalted
  dsimp only
  split
  · exact (hhalt _).modDpll fun v => ⟨rfl, rfl⟩
  · exact hhalt _

/-- A doorbell rung. -/
theorem State.Emits.modMbx (h : s.Emits e t) (c : Nat) (g : Mbx → Mbx) : s.Emits e (t.modMbx c g) := by
  obtain ⟨⟨l, x, ds, b, rfl⟩, hrest⟩ := h
  exact ⟨⟨l, _, ds, b, rfl⟩, hrest⟩

theorem State.Emits.modDie (h : s.Emits e t) (f : Die → Die) : s.Emits e (t.modDie (dieOfStitch e) f) := by
  obtain ⟨⟨l, x, ds, b, rfl⟩, hunit, hdies, hrest⟩ := h
  refine ⟨⟨l, x, _, b, rfl⟩, hunit, fun d hd => ?_, hrest⟩
  rw [State.modDie_die, if_neg hd]
  exact hdies d hd

/-- Marks of the timebase. -/
theorem State.Emits.setTb (h : s.Emits e t) {b : Timebase} (hen : b.tbEn = t.tb.tbEn) (hk : b.k = t.tb.k) : s.Emits e { t with tb := b } := by
  obtain ⟨⟨l, x, ds, b', rfl⟩, hunit, hdies, hen', hk'⟩ := h
  exact ⟨⟨l, x, ds, b, rfl⟩, hunit, hdies, hen.trans hen', hk.trans hk'⟩

/-- Records of the engine's die. -/
theorem State.Emits.pushExport (h : s.Emits e t) (rs : List (BitVec 128)) : s.Emits e (t.pushExport (dieOfStitch e) rs) := by
  unfold State.pushExport
  dsimp only
  split
  · rename_i h0
    rw [← h0]
    exact h.modDie _
  · split
    · exact h.modDie _
    · exact (h.modDie _).setTb rfl rfl

end

section
variable (s : State) (e : Nat)

theorem State.opHalt_halts : s.Halts e (s.opHalt e) ∧ ((s.opHalt e).stitch e).commitBy = (s.stitch e).commitBy := by
  refine State.stitchStep_induct (fun t => s.Halts e t ∧ (t.stitch e).commitBy = (s.stitch e).commitBy) ⟨(s.steps_refl e).1.halts, rfl⟩ ?_
    fun i t h => ?_
  · obtain ⟨honly, hcommit⟩ := State.steps_setStitch (s := s) (e := e) (u := (s.stitch e).overrunEnd true) rfl
    exact ⟨honly.halts, hcommit⟩
  · split at h <;> cases h
    have hdrain := s.setStitch_only e { s.stitch e with steps := (s.stitch e).steps + 1, draining := true }
    split
    · exact ⟨State.stitchHalted_halts hdrain, by rw [State.stitchHalted_stitch, State.setStitch_stitch, if_pos rfl]; rfl⟩
    · exact ⟨hdrain.halts, by rw [State.setStitch_stitch, if_pos rfl]⟩

theorem State.opEmit_emits : s.Emits e (s.opEmit e) ∧ ((s.opEmit e).stitch e).commitBy = (s.stitch e).commitBy := by
  have hset (u : Stitch) (h : u.commitBy = (s.stitch e).commitBy) :
      s.Emits e (s.setStitch e u) ∧ ((s.setStitch e u).stitch e).commitBy = (s.stitch e).commitBy :=
    ⟨(s.setStitch_only e u).emits, (State.steps_setStitch h).2⟩
  refine State.stitchStep_induct (fun t => s.Emits e t ∧ (t.stitch e).commitBy = (s.stitch e).commitBy) ⟨(s.steps_refl e).1.emits, rfl⟩
    (hset _ rfl) fun i t h => ?_
  split at h <;> cases h
  · split
    · exact hset _ rfl
    · obtain ⟨hemit, hcommit⟩ := hset { (s.stitch e).next 1 with emit0 := (s.stitch e).emit0 + 1 } rfl
      exact ⟨hemit.modMbx _ _, hcommit⟩
  · split
    · exact hset _ rfl
    · obtain ⟨hemit, hcommit⟩ := hset { (s.stitch e).next 1 with emit1 := (s.stitch e).emit1 + 1, seq := ((s.stitch e).seq + 1) % 256 } rfl
      exact ⟨hemit.pushExport _, by rw [State.pushExport_stitch]; exact hcommit⟩

end

/-- The frame of a step of an engine that no commit waits for, from `s` but for the free values drawn. -/
theorem State.Steps.frame {s t x : State} {e n : Nat} (hidle : (s.stitch e).commitBy = []) (hx : State.Steps e { s with fresh := n } x)
    (ht : fin (x.commitPoll e) = .next t) :
    ∃ u : State, t = u.after ∧ u = { s with stitches := u.stitches, fresh := u.fresh } ∧ (∀ j, j ≠ e → u.stitch j = s.stitch j) ∧ u.fresh = n := by
  obtain ⟨honly, hcommit⟩ := hx
  obtain ⟨hu, hunit⟩ := honly.trans (State.commitPoll_only (hcommit.trans hidle))
  obtain ⟨l, hl⟩ : ∃ l, x.commitPoll e = { s with stitches := l, fresh := n } := ⟨_, hu⟩
  exact ⟨x.commitPoll e, fin_next ht, by rw [hl], hunit, by rw [hl]⟩

/-- Settles O47: each instruction has its frame, and a poll that finds no commit waiting adds nothing to it. -/
theorem stitchInstructionsFrame : Obligations.StitchInstructionsFrame := by
  unfold Obligations.StitchInstructionsFrame
  intro s t e i hidle
  have hquiet {x : State} (h : (x.stitch e).commitBy = (s.stitch e).commitBy) : UnitKind.stitches.Only e x (x.commitPoll e) :=
    State.commitPoll_only (h.trans hidle)
  refine ⟨fun hi h => ?ofEngine, fun h => ?halt, fun h => ?emit⟩
  case ofEngine =>
    have hown {x : State} (hx : s.Steps e x) (ht : fin (x.commitPoll e) = .next t) :
        ∃ u : State, t = u.after ∧ u = { s with stitches := u.stitches, fresh := u.fresh } ∧ (∀ j, j ≠ e → u.stitch j = s.stitch j) ∧
          (i ≠ .read e → u.fresh = s.fresh) := by
      obtain ⟨u, hafter, hu, hunit, hfresh⟩ := State.Steps.frame hidle hx ht
      exact ⟨u, hafter, hu, hunit, fun _ => hfresh⟩
    simp only [List.mem_cons, List.not_mem_nil, or_false] at hi
    rcases hi with rfl | rfl | rfl | rfl | rfl | rfl | rfl | rfl | rfl
    · exact hown (s.opWaitEvent_steps e) h
    · exact hown (s.opWaitTime_steps e) h
    · exact hown (s.opSetField_steps e) h
    · exact hown (s.opClrField_steps e) h
    · obtain hstep | hstep := s.opRead_steps e
      · exact hown hstep h
      · obtain ⟨u, hafter, hu, hunit, -⟩ := State.Steps.frame hidle hstep h
        exact ⟨u, hafter, hu, hunit, fun hne => absurd rfl hne⟩
    · exact hown (s.opCmp_steps e) h
    · exact hown (s.opBranch_steps e) h
    · exact hown (s.opAdd_steps e) h
    · exact hown (s.opLoop_steps e) h
  case halt =>
    obtain ⟨hhalt, hcommit⟩ := s.opHalt_halts e
    obtain ⟨⟨l, m, hu⟩, hunit, hdpll⟩ := hhalt.trans_only (hquiet hcommit)
    exact ⟨(s.opHalt e).commitPoll e, fin_next h, by rw [hu], hunit, hdpll⟩
  case emit =>
    obtain ⟨hemit, hcommit⟩ := s.opEmit_emits e
    obtain ⟨⟨l, x, ds, b, hu⟩, hrest⟩ := hemit.trans_only (hquiet hcommit)
    exact ⟨(s.opEmit e).commitPoll e, fin_next h, by rw [hu], hrest⟩

end Sys2Proof.Machine
end

section
/-! SUPPORT. The events of a stitch engine (R357, R359, R361, R365 to R367, R369). -/

namespace Sys2Proof.Machine
open Sys2Proof

/-! ## An invocation starts, and waits end (R361, R365, R366) -/

section
variable {s : State} {e : Nat}

theorem State.stitchInvoke_start (he : s.hasStitch e = true) {t : Nat × List Word} {ts : List (Nat × List Word)}
    (htrig : (s.stitch e).trig = t :: ts) (hbusy : (s.stitch e).busy = false) (hfirst : (s.stitch e).commitBy.all (·.first) = true)
    (hready : (s.stitch e).ready t.1 = true) :
    s.stitchInvoke e = s.setStitch e { s.stitch e with
      trig := ts, commitBy := (s.stitch e).commitBy.map fun w => { w with first := false }, busy := true, point := t.1,
      pc := (s.stitch e).entries.getD t.1 0, ctx := ctxWords t.2, fz := false, fn := false, fc := false, fv := false, steps := 0, emit0 := 0,
      emit1 := 0, events := 0, wait := .none, draining := false, wq := [] } := by
  unfold State.stitchInvoke
  dsimp only
  rw [htrig]
  exact if_pos (by simp [he, hbusy, hfirst, hready])

theorem State.stitchResume_event (he : s.hasStitch e = true) (hbusy : (s.stitch e).busy = true) {gd m : Nat}
    (hwait : (s.stitch e).wait = .event gd m) (hm : (s.stitch e).events &&& m ≠ 0) :
    s.stitchResume e = s.setStitch e { s.stitch e with
      wait := .none, g := (s.stitch e).g.set gd (cw ((s.stitch e).events &&& m)), events := (s.stitch e).events - ((s.stitch e).events &&& m) } := by
  unfold State.stitchResume Stitch.waitEvent
  simp [he, hbusy, hwait, hm]

theorem State.stitchResume_time (he : s.hasStitch e = true) (hbusy : (s.stitch e).busy = true) {x n : Nat}
    (hwait : (s.stitch e).wait = .time x n) (hn : x = 1 → n ≤ s.tb.k) :
    s.stitchResume e = s.setStitch e { s.stitch e with wait := .none } := by
  have hdue : ¬ (x = 1 ∧ s.tb.k < n) := fun h => absurd (hn h.1) (Nat.not_le.mpr h.2)
  unfold State.stitchResume
  simp [he, hbusy, hwait, hdue]

/-! ## An overrun (R367) -/

theorem State.stitchOverrun_due (hbusy : (s.stitch e).busy = true) (hsteps : 4096 ≤ (s.stitch e).steps) :
    s.stitchOverrun e = s.setStitch e ((s.stitch e).overrunEnd false) := by
  unfold State.stitchOverrun
  simp [hbusy, hsteps]

/-- What an overrun leaves: the invocation counts with its 4 096 steps, and the queued writes are gone. -/
theorem Stitch.overrunEnd_overrun {u : Stitch} (h : 4096 ≤ u.steps) :
    u.overrunEnd false = { u with
      busy := false, overrun := true, wq := [], wait := .none, draining := false, events := 0, runCnt := satInc u.runCnt,
      maxStep := max u.maxStep 4096, hist := setb (satFlag u.hist 6 (satInc u.runCnt)) 0, happened := u.happened ++ [{ sub := 0, data := u.point }] } := by
  unfold Stitch.overrunEnd Stitch.over
  simp [Nat.min_eq_left h]

/-! ## A queued write reaches its unit (R357, R359) -/

theorem State.stitchUnitWrite_cons {q : UnitWrite} {qs : List UnitWrite} (hq : (s.stitch e).wq = q :: qs) :
    s.stitchUnitWrite e =
      if 4096 ≤ (s.stitch e).steps + (s.stallSteps e).1 then
        (s.stallSteps e).2.setStitch e ({ s.stitch e with steps := 4096 }.overrunEnd false)
      else
        let s1 := ((s.stallSteps e).2.setStitch e { s.stitch e with wq := qs, steps := (s.stitch e).steps + (s.stallSteps e).1 }).applyUnitWrite e q
        if (s.stitch e).draining && qs.isEmpty then s1.stitchHalted e else s1 := by
  unfold State.stitchUnitWrite
  dsimp only
  rw [hq]

end

/-- Settles O19: each event is one branch of its operation. A unit access, or a stall for it, spends the steps that the engine's draw gives
(log entry 6). -/
theorem stitchEventsComplete : Obligations.StitchEventsComplete := by
  unfold Obligations.StitchEventsComplete
  intro s e he u
  refine ⟨?invoke, ?event, ?time, ?overrun, ?stalled, ?unitWrite, ?apply⟩
  case invoke =>
    intro pt ws ts htrig _ hbusy hfirst hen hload hentry
    have hready : u.ready pt = true := by
      unfold Stitch.ready
      rw [hen, hload, decide_eq_true hentry]
      rfl
    exact next_ran (State.stitchInvoke_start he htrig hbusy hfirst hready)
  case event => exact fun gd m hbusy hwait hm => next_ran (State.stitchResume_event he hbusy hwait hm)
  case time => exact fun x n hbusy hwait hn => next_ran (State.stitchResume_time he hbusy hwait hn)
  case overrun =>
    intro hbusy hsteps
    exact next_ran ((State.stitchOverrun_due hbusy hsteps).trans (congrArg (s.setStitch e) (Stitch.overrunEnd_overrun hsteps)))
  case stalled =>
    intro q qs hq hawaits hsteps
    have hstall : s.stallSteps e = (1 + s.draw.1.toNat % 16, s.draw.2) := if_pos hawaits
    refine next_ran ((State.stitchUnitWrite_cons hq).trans ?_)
    have hover : 4096 ≤ u.steps + (1 + s.draw.1.toNat % 16) := by omega
    rw [hstall]
    exact (if_pos hover).trans (congrArg (s.draw.2.setStitch e) (Stitch.overrunEnd_overrun (Nat.le_refl _)))
  case unitWrite =>
    intro q qs hq n hsteps a b x h
    have hstall : s.stallSteps e = (n, if u.awaits then s.draw.2 else s) := by
      unfold State.stallSteps
      change (if u.awaits then _ else _) = (if u.awaits then _ else _, _)
      split <;> rfl
    have hwrite : s.stitchUnitWrite e = if u.draining && qs.isEmpty then b.stitchHalted e else b := by
      rw [State.stitchUnitWrite_cons hq, hstall]
      exact if_neg (Nat.not_le.mpr hsteps)
    have hended (hdrain : u.draining = true) (hlast : qs = []) : s.stitchUnitWrite e = b.stitchHalted e := by
      rw [hwrite, hdrain, hlast]
      rfl
    refine ⟨fun hgo => ?_, fun hdrain hlast hpoint => ?_, fun hdrain hlast hclass hpoint => ?_⟩
    · have hgo' : ¬ (u.draining && qs.isEmpty) = true := by
        obtain hgo | hgo := hgo <;> simp [hgo]
      exact next_ran (hwrite.trans (if_neg hgo'))
    · have hpoint' : ¬ (classOf e = 0 ∧ x.point = 0) := fun h0 => hpoint.elim (· h0.1) (· h0.2)
      exact next_ran ((hended hdrain hlast).trans (if_neg hpoint'))
    · exact next_ran ((hended hdrain hlast).trans (if_pos ⟨hclass, hpoint⟩))
  case apply =>
    intro a q
    unfold State.applyUnitWrite
    refine ⟨fun hnone => ?_, fun d off hreg => ?_⟩
    · rw [hnone]
    · rw [hreg]

end Sys2Proof.Machine
end

section
/-! SUPPORT. The commands of the stitch engines (R375, R378, R380, R382). -/

namespace Sys2Proof.Machine
open Sys2Proof

/-- An engine of a die that is up passes the checks that name it; a secure channel passes that of R380. -/
theorem firstErr_stitchChecks {s : State} {c e : Nat} {sec : Bool} (hd : s.dieUp (dieOfStitch e) = true) (hc : sec = true → c < 4)
    (l : List (Bool × Nat)) : firstErr (stitchChecks s c e sec ++ l) = firstErr l := by
  have hfit : s.hasStitch e = true := (Bool.and_eq_true_iff.mp hd).1
  have hsec : (sec && notSec c) = false := by
    cases sec with
    | false => rfl
    | true => simp [notSec, hc rfl]
  simp [stitchChecks, hfit, hd, hsec]

section
variable {s : State} {c : Nat} {p : List Byte} (he : uAt p 0 2 < 224) (hd : s.dieUp (dieOfStitch (uAt p 0 2)) = true)
include he hd

theorem stitchLoadReply_ok (hc : c < 4) (hg : uAt p 2 1 < 8) (hr : uAt p 3 5 = 0) :
    stitchLoadReply c p s = okReply (s.modStitch (uAt p 0 2) fun u => { u with
      staging := (stagedWords u.staging).take (32 * uAt p 2 1) ++ wordsAt p 8 32 ++ (stagedWords u.staging).drop (32 * uAt p 2 1 + 32) }) := by
  refine guarded_pass s _ ?_
  rw [firstErr_stitchChecks hd fun _ => hc]
  simp [rsv, hr, Nat.not_le.mpr he, Nat.not_le.mpr hg]

/-- A commit of a program that verifies, for an engine that is idle or that has to become so first. -/
theorem stitchCommitReply_ok (hc : c < 4) (h1 : 1 ≤ uAt p 2 2) (h256 : uAt p 2 2 ≤ 256)
    (hpass : commitFail (stagedWords (s.stitch (uAt p 0 2)).staging) (classOf (uAt p 0 2)) (uAt p 2 2) ((List.range 4).map fun i => uAt p (4 + i) 1)
      (BitVec.ofNat 32 (uAt p 8 4)) = none) :
    stitchCommitReply c p s =
      let e := uAt p 0 2
      let u := s.stitch e
      let entries := (List.range 4).map fun i => uAt p (4 + i) 1
      if u.engaged then s.commitWaits e (u.waitFor c (stagedWords u.staging) entries (BitVec.ofNat 32 (uAt p 12 4)) false)
      else okWith (leBytes 2 e ++ leBytes 2 0xFFFF) (s.setStitch e (u.install (stagedWords u.staging) entries (BitVec.ofNat 32 (uAt p 12 4)) false)) := by
  have hlen : (decide (uAt p 2 2 = 0) || decide (256 < uAt p 2 2)) = false := by
    have h0 : uAt p 2 2 ≠ 0 := by omega
    simp [h0, Nat.not_lt.mpr h256]
  unfold stitchCommitReply
  dsimp only
  rw [firstErr_stitchChecks hd fun _ => hc, hpass, hlen]
  simp [Nat.not_le.mpr he]

theorem stitchDefaultReply_ok (hc : c < 4) (hr : uAt p 2 2 = 0) :
    stitchDefaultReply c p s =
      let e := uAt p 0 2
      let u := s.stitch e
      if u.engaged then s.commitWaits e (u.waitFor c ((defaultOf (classOf e)).1.map SInstr.encode) (defaultOf (classOf e)).2 0 true)
      else okReply (s.installDefault e) := by
  unfold stitchDefaultReply
  dsimp only
  rw [firstErr_stitchChecks hd fun _ => hc]
  simp [rsv, hr, Nat.not_le.mpr he]

theorem stitchRunReply_ok (hcls : classOf (uAt p 0 2) ≠ 0) (hready : (s.stitch (uAt p 0 2)).ready (hostPoint (uAt p 0 2)) = true)
    (hr : uAt p 2 2 = 0) (hfree : ((s.stitch (uAt p 0 2)).trig.any fun t => decide (t.1 = hostPoint (uAt p 0 2))) = false) :
    stitchRunReply c p s = okReply (s.trigger (uAt p 0 2) (hostPoint (uAt p 0 2)) (wordsAt p 4 4)) := by
  refine guarded_pass s _ ?_
  rw [firstErr_stitchChecks hd fun h => absurd h Bool.false_ne_true, hready, hfree]
  simp [rsv, hr, hcls, Nat.not_le.mpr he]

end

/-- Settles O7: each command is ready and its checks pass; a commit or a default for an engaged engine waits for it, behind those that wait. -/
theorem stitchCommandsComplete : Obligations.StitchCommandsComplete := by
  unfold Obligations.StitchCommandsComplete
  intro s c m p e up
  refine ⟨fun h hc hup hg hr => ?load, fun h hc hup => ?commit, fun h hc hup hr => ?default, fun h hup hcls hready hr hfree => ?run⟩
  case load => exact State.runCmd_acks h (stitchLoadReply_ok hup.1 hup.2 hc hg hr)
  case commit =>
    intro entries prog h1 h256 hpass
    have hreply := stitchCommitReply_ok hup.1 hup.2 hc h1 h256 hpass
    split
    · rename_i hengaged
      exact State.runCmd_waits h (hreply.trans (if_pos hengaged))
    · rename_i hidle
      exact State.runCmd_acks h (hreply.trans (if_neg hidle))
  case default =>
    have hreply := stitchDefaultReply_ok hup.1 hup.2 hc hr
    split
    · rename_i hengaged
      exact State.runCmd_waits h (hreply.trans (if_pos hengaged))
    · rename_i hidle
      exact State.runCmd_acks h (hreply.trans (if_neg hidle))
  case run => exact State.runCmd_acks h (stitchRunReply_ok hup.1 hup.2 hcls hready hr hfree)

end Sys2Proof.Machine
end

section
/-! SUPPORT. Writes of STITCH_CTRL, of the mailboxes and of ABORT_REQ that reach their register (R362, R378, R401, R402, R405). -/

namespace Sys2Proof.Machine
open Sys2Proof

/-! ## STITCH_CTRL (R362, R378) -/

/-- From 0x70000 to 0x70380 stand the registers of the stitch engines. -/
theorem State.writeHigh_stitch {off : Nat} (hlo : 0x70000 ≤ off) (hhi : off < 0x70380) (s : State) (port d : Nat) (w : Word) (b : Bool) :
    s.writeHigh port d off w b = s.writeStitch (28 * d + (off - 0x70000) / 0x20) (off % 0x20) w := by
  have habove (k : Nat) (hk : k ≤ 0x70000) : ¬ off < k := by omega
  unfold State.writeHigh
  simp [habove, hhi]

/-- A write of STITCH_CTRL of an engine the part has, over a live path. -/
theorem State.landStitch_live {s : State} {p : Path} {e : Nat} (hl : s.pathLive p = true) (he : s.hasStitch e = true) (w : Word) :
    s.landStitch p e w = (s.modStitch e fun u => u.writeCtrl w).fixPar (dieOfStitch e) (offStitch e) := by
  have hrange : 0x70000 ≤ offStitch e ∧ offStitch e < 0x70380 := by unfold offStitch; omega
  obtain ⟨hlo, hhi⟩ := hrange
  have hidx : 28 * dieOfStitch e + (offStitch e - 0x70000) / 0x20 = e := by unfold offStitch dieOfStitch; omega
  have hreg : offStitch e % 0x20 = 0 := by unfold offStitch; omega
  unfold State.landStitch
  rw [if_pos he, State.land_live hl he (State.violates_false (by omega) (by omega) (by omega) (by omega) true),
    State.writeBase_high he (by omega) (by omega), State.writeHigh_stitch hlo hhi, hidx, hreg]
  rfl

theorem fld_putDbChan (b s : Bool) (d : Nat) : fld (putb 0 b ||| putb 1 s ||| put 4 3 d) 4 3 = d % 8 := by
  refine fld_eq_mod _ 4 3 _ fun i hi => ?_
  have h0 : ¬ 0 = 4 + i := by omega
  have h1 : ¬ 1 = 4 + i := by omega
  have hin : 4 + i < 32 := by omega
  simp [bit_putb, bit_put, h0, h1, hin, hi]

/-- A write of STITCH_CTRL that carries DB_CHAN as it reads. -/
theorem Stitch.writeCtrl_fields (u : Stitch) (en sig : Bool) :
    u.writeCtrl (putb 0 en ||| putb 1 sig ||| put 4 3 u.dbChan) =
      if sig then ({ u with enable := en, dbChan := u.dbChan % 8 } : Stitch).event 15 else { u with enable := en, dbChan := u.dbChan % 8 } := by
  have h0 : bit (putb 0 en ||| putb 1 sig ||| put 4 3 u.dbChan) 0 = en := by simp [bit_putb, bit_put]
  have h1 : bit (putb 0 en ||| putb 1 sig ||| put 4 3 u.dbChan) 1 = sig := by simp [bit_putb, bit_put]
  unfold Stitch.writeCtrl
  rw [h0, h1, fld_putDbChan]

/-! ## The mailboxes (R401, R402) -/

/-- From 0x80000 to 0x84000 stand the registers of the mailboxes, on die 0. -/
theorem State.writeHigh_mbx {off : Nat} (hlo : 0x80000 ≤ off) (hhi : off < 0x84000) (s : State) (port : Nat) (w : Word) (b : Bool) :
    s.writeHigh port 0 off w b = s.writeMbx port ((off - 0x80000) / 0x800) (off % 0x800) w := by
  have habove (k : Nat) (hk : k ≤ 0x80000) : ¬ off < k := by omega
  unfold State.writeHigh
  simp [habove, hhi]

/-- A write of register `r` of a mailbox channel over a live path that violates nothing. -/
theorem State.landMbx_live {s : State} {p : Path} {c r : Nat} (hl : s.pathLive p = true) (hc : c < 8) (hr : r < 0x800)
    (hv : s.violates p 0 (0x80000 + 0x800 * c + r) true = false) (w : Word) :
    s.landMbx p c r w = (s.writeMbx ((portIdx p).getD 0) c r w).fixPar 0 (0x80000 + 0x800 * c + r) := by
  have hidx : (0x80000 + 0x800 * c + r - 0x80000) / 0x800 = c := by omega
  have hreg : (0x80000 + 0x800 * c + r) % 0x800 = r := by omega
  unfold State.landMbx
  rw [if_pos hc, State.land_live hl s.fitted_zero hv, State.writeBase_high s.fitted_zero (by omega) (by omega),
    State.writeHigh_mbx (by omega) (by omega), hidx, hreg]

/-- Doorbell bit 0 written 1 while it is clear posts the message; while it is set the write posts nothing. -/
theorem Mbx.writeDb_one (m : Mbx) (port : Nat) :
    m.writeDb port (m.h2cDb ||| 1) = if bit m.h2cDb 0 then { m with h2cDb := m.h2cDb ||| 1 }
      else { m with h2cDb := m.h2cDb ||| 1, h2cFull := true, port := port } := by
  have hone : bit (m.h2cDb ||| 1) 0 = true := by simp [bit]
  unfold Mbx.writeDb
  rw [hone]
  cases bit m.h2cDb 0 <;> rfl

theorem Mbx.clearC2h_one (m : Mbx) : m.clearC2h 1 = { m with c2hDb := m.c2hDb &&& ~~~1#32, c2hFull := false } := by
  have hone : bit 1 0 = true := by decide
  unfold Mbx.clearC2h
  rw [w1c_word, hone, Bool.not_true, Bool.and_false]
  rfl

theorem State.writeMbx_buf (s : State) (port c : Nat) {i : Nat} (hi : i < 64) (w : Word) :
    s.writeMbx port c (4 * i) w = s.modMbx c fun m => m.writeBuf i w := by
  have hend : 4 * i < 0x100 := by omega
  have hword : 4 * i % 4 = 0 := by omega
  have hidx : 4 * i / 4 = i := by omega
  unfold State.writeMbx
  rw [if_pos hend, if_pos hword, hidx]

/-! ## ABORT_REQ (R405) -/

/-- A write of ABORT_REQ over a live path. -/
theorem State.land_abortReq {s : State} {p : Path} (hl : s.pathLive p = true) (w : Word) :
    s.land p 0 0x84000 w = (s.writeAbort (pathCode p) (s.secureBy p) w).fixPar 0 0x84000 := by
  rw [State.land_live hl s.fitted_zero (State.violates_above (by decide) true)]
  rfl

theorem State.writeAbort_busy {s : State} (h : s.host.abort.result = 1) (path : Nat) (secure : Bool) (w : Word) :
    s.writeAbort path secure w = s.modAbort fun a => { a with reqIgn := true } := if_pos h

/-- A request that nothing rejects is in progress. -/
theorem State.writeAbort_accepted {s : State} {secure : Bool} {w : Word} {d : Nat} (hfree : s.host.abort.result ≠ 1)
    (hdie : abortDie (fld w 12 4) (fld w 0 12) = some d) (hfit : s.fitted d = true) (hup : d = 0 ∨ s.dieUp d = true)
    (hring : fld w 12 4 = 3 → s.part.featX = true) (hsec : secure = true ∨ fld w 12 4 = 5 ∧ 4 ≤ fld w 0 12) (path : Nat) :
    s.writeAbort path secure w = s.draw.2.modAbort fun a => { a with
      req := fld w 0 16, func := fld w 0 16, path := path, mts := s.mts, total := satInc a.total, stage := 1, clean := false, result := 1,
      log := ({ mts := s.mts, cls := fld w 12 4, idx := fld w 0 12, result := 1, path := path, cleanUs := s.draw.1.toNat % 2 ^ 32,
                totalUs := s.draw.1.toNat / 2 ^ 32 } :: a.log).take 8 } := by
  have habsent : (!s.fitted d || (decide (fld w 12 4 = 3) && !s.part.featX)) = false := by simpa [hfit] using hring
  have hdenied : (!secure && !(decide (fld w 12 4 = 5) && decide (4 ≤ fld w 0 12))) = false := by
    obtain hsec | ⟨hcls, hidx⟩ := hsec
    · simp [hsec]
    · simp [hcls, hidx]
  have hdown : ¬ (d ≠ 0 ∧ (!s.dieUp d) = true) := by
    obtain hzero | hup := hup
    · simp [hzero]
    · simp [hup]
  unfold State.writeAbort
  dsimp only
  rw [if_neg hfree, hdie]
  dsimp only
  rw [habsent, hdenied, if_neg Bool.false_ne_true, if_neg Bool.false_ne_true, if_neg hdown]
  rfl

/-- Settles O15: a live path carries each write to its register, and the register decides the rest. -/
theorem engineAndMailboxWritesComplete : Obligations.EngineAndMailboxWritesComplete := by
  unfold Obligations.EngineAndMailboxWritesComplete
  intro s p hl
  refine ⟨fun e he => ⟨fun b => ?enable, ?signal⟩, fun c hc => ⟨fun hv hclear => ?doorbell, fun hv hset => ?again, fun hv => ?clear,
    fun i w hi hv => ?buffer⟩, fun w hbusy => ?ignored, fun w d hfree hdie hfit hup hring hsec => ?accepted⟩
  case enable =>
    have hword : putb 0 b ||| put 4 3 (s.stitch e).dbChan = putb 0 b ||| putb 1 false ||| put 4 3 (s.stitch e).dbChan := by simp [putb]
    refine congrArg fin ?_
    rw [hword, State.landStitch_live hl he, State.modStitch_eq, Stitch.writeCtrl_fields]
    rfl
  case signal =>
    refine congrArg fin ((State.landStitch_live hl he _).trans ?_)
    have hctrl := (s.stitch e).writeCtrl_fields (s.stitch e).enable true
    exact congrArg (fun u => (s.setStitch e u).fixPar (dieOfStitch e) (offStitch e)) hctrl
  case doorbell =>
    refine congrArg fin ((State.landMbx_live hl hc (by decide) hv _).trans ?_)
    have hpost := (s.mbx c).writeDb_one ((portIdx p).getD 0)
    rw [hclear, if_neg Bool.false_ne_true] at hpost
    exact congrArg (fun m => (s.setMbx c m).fixPar 0 (0x80000 + 0x800 * c + 0x204)) hpost
  case again =>
    refine congrArg fin ((State.landMbx_live hl hc (by decide) hv _).trans ?_)
    exact congrArg (fun m => (s.setMbx c m).fixPar 0 (0x80000 + 0x800 * c + 0x204)) ((Mbx.writeDb_one _ _).trans (if_pos hset))
  case clear =>
    refine congrArg fin ((State.landMbx_live hl hc (by decide) hv _).trans ?_)
    exact congrArg (fun m => (s.setMbx c m).fixPar 0 (0x80000 + 0x800 * c + 0x20C)) (s.mbx c).clearC2h_one
  case buffer =>
    refine congrArg fin ((if_pos hi).trans ((State.landMbx_live hl hc (by omega) hv _).trans ?_))
    exact congrArg (State.fixPar · 0 (0x80000 + 0x800 * c + 4 * i)) (s.writeMbx_buf _ c hi w)
  case ignored =>
    exact congrArg fin ((State.land_abortReq hl w).trans (congrArg (State.fixPar · 0 0x84000) (State.writeAbort_busy hbusy _ _ _)))
  case accepted =>
    exact congrArg fin ((State.land_abortReq hl w).trans (congrArg (State.fixPar · 0 0x84000)
      (State.writeAbort_accepted hfree hdie hfit hup hring hsec _)))

end Sys2Proof.Machine
end

section
/-! SUPPORT. The stages of an abort (R376, R405 to R407, R411, R446). -/

namespace Sys2Proof.Machine
open Sys2Proof

/-! ## The semaphores that a forced CP leaves (R407) -/

theorem State.semAbort_eq (s : State) (d : Nat) : ∃ h, s.semAbort d = { s with host := h, fresh := s.fresh + 1 } := by
  refine State.forEach_inv (fun t => ∃ h, t = { s with host := h, fresh := s.fresh + 1 }) _ ?_ _ _ ⟨s.host, rfl⟩
  rintro t n ⟨h, rfl⟩
  split
  · exact ⟨_, rfl⟩
  · exact ⟨h, rfl⟩

theorem State.semAbort_tb (s : State) (d : Nat) : (s.semAbort d).tb = s.tb := by
  obtain ⟨h, hs⟩ := s.semAbort_eq d
  rw [hs]

/-- A semaphore stays with its owner, or the CP of die `d` leaves it. -/
theorem State.semAbort_owner (s : State) (d n : Nat) :
    (s.semAbort d).semOwner n = s.semOwner n ∨ s.semOwner n = 8 + d ∧ (s.semAbort d).semOwner n = 0 := by
  refine State.forEach_inv (fun t => t.semOwner n = s.semOwner n ∨ s.semOwner n = 8 + d ∧ t.semOwner n = 0) _ ?_ _ _ (.inl rfl)
  intro t j ht
  split
  · rename_i hheld
    change tget 0 (tset 0 t.host.sem j 0) n = _ ∨ _ ∧ tget 0 (tset 0 t.host.sem j 0) n = 0
    rw [tget_tset]
    split
    · rename_i hn
      exact .inr ⟨hn ▸ hheld.1, rfl⟩
    · exact ht
  · exact ht

/-! ## What each class of function is forced to (R405, R407) -/

/-- A ring that an abort disables is empty, and HIST shows the abort. -/
theorem State.ringOff_abort {s : State} {i : Nat} (h : (s.ring i).enable = true) :
    ((s.ringOff i true true).ring i).enable = false ∧ ((s.ringOff i true true).ring i).q = [] ∧
      ((s.ringOff i true true).ring i).unreported = 0 ∧ bit ((s.ringOff i true true).ring i).hist 3 = true := by
  have hon : ¬ (!(s.ring i).enable) = true := by simp [h]
  unfold State.ringOff
  rw [if_neg hon]
  dsimp only
  rw [State.modRing_ring, if_pos rfl]
  exact ⟨rfl, rfl, rfl, bit_setb_same _ (by decide)⟩

theorem State.refreshAuth_mbx (s : State) (c : Nat) : s.refreshAuth.mbx c = s.mbx c := rfl

theorem State.endSession_masks (s : State) (c : Nat) :
    ((s.endSession c).mbx c).h2cMask = (s.mbx c).h2cMask ∧ ((s.endSession c).mbx c).c2hMask = (s.mbx c).c2hMask := by
  unfold State.endSession
  split
  · rw [State.refreshAuth_mbx, State.modMbx_mbx, if_pos rfl]
    exact ⟨rfl, rfl⟩
  · exact ⟨rfl, rfl⟩

theorem State.rehomeFlash_mbx (s : State) (f : HostSide → Option (Nat × Nat × Nat × List Byte × Nat)) (c : Nat) :
    (s.modHost fun h => { h with flashOp := f h }).mbx c = s.mbx c := rfl

/-- A forced session leaves the masks of its channel alone: what hangs on the session elsewhere is not in the mailbox. -/
theorem State.abortSession_mbx (s : State) (c : Nat) : (s.abortSession c).mbx c = { h2cMask := (s.mbx c).h2cMask, c2hMask := (s.mbx c).c2hMask } := by
  obtain ⟨hh2c, hc2h⟩ := s.endSession_masks c
  have hcleared : ((s.endSession c).modMbx c Mbx.cleared).mbx c = { h2cMask := (s.mbx c).h2cMask, c2hMask := (s.mbx c).c2hMask } := by
    rw [State.modMbx_mbx, if_pos rfl, Mbx.cleared, hh2c, hc2h]
  unfold State.abortSession
  extract_lets s1 s2 s3 s4 s5
  replace hcleared : s2.mbx c = _ := hcleared
  clear_value s2
  refine (State.rehomeFlash_mbx s5 _ c).trans ?_
  calc s5.mbx c
    _ = s4.mbx c := State.forEach_keep (State.mbx · c) _ (fun t n => t.modOpll_mbx_same n _ c) _ s4
    _ = s3.mbx c := State.forEach_keep (State.mbx · c) _ (fun t n => t.modStitch_mbx_same n _ c) _ s3
    _ = (s2.dropFrames (isRequestOf c)).mbx c := State.forEach_keep (State.mbx · c) _ (fun t n => t.modDx_mbx_same n _ c) _ _
    _ = s2.mbx c := State.dropFrames_mbx _ _ c
    _ = _ := hcleared

/-- A function of none of the classes 1 to 4 is a session. -/
theorem State.abortForce_session {cls : Nat} (h1 : cls ≠ 1) (h2 : cls ≠ 2) (h3 : cls ≠ 3) (h4 : cls ≠ 4) (s : State) (i : Nat) :
    s.abortForce cls i = s.abortSession i := by
  unfold State.abortForce
  split
  · exact absurd rfl h1
  · exact absurd rfl h2
  · exact absurd rfl h3
  · exact absurd rfl h4
  · rfl

/-- An abort forces a DPLL at boundary `k`, and its pending switch goes. -/
theorem State.abortForce_dpll {s : State} {k : Nat} (hk : s.tb.k = k) (i : Nat) :
    s.abortForce 1 i = s.modDpll i fun u =>
      let z := { u with integ := 0, bo := 0, res := 0 }
      let v := if u.enable then z.toFreerun k 9 u.bo else z
      { v with frozen := true, gate := { v.gate with passed := 0 }, sel := { v.sel with pend := none } } := by
  subst hk
  rfl

/-- An abort of an engine in its before-switch hook ends the hook with the verdict NONE. -/
theorem State.abortForce_stitch (s : State) (i : Nat) :
    s.abortForce 4 i =
      (((if classOf i = 0 ∧ (s.stitch i).busy = true ∧ (s.stitch i).point = 0 then
          s.modDpll (8 * dieOfStitch i + i % 28) DpllUnit.hookAborted else s).modStitch i Stitch.aborted).commitPoll i) := by
  unfold State.abortForce
  dsimp only
  simp only [Bool.and_eq_true, decide_eq_true_eq, and_assoc]

/-- Settles O37: each stage is one branch of its event, and the force is one branch for each class of function. -/
theorem abortEventsComplete : Obligations.AbortEventsComplete := by
  unfold Obligations.AbortEventsComplete
  intro s a i d y hook forced line ended
  have hforced : y.abortForce (a.func / 4096) i = forced := by
    dsimp only [forced]
    split
    case h_1 hcls => rw [hcls]; exact State.abortForce_dpll (s.semAbort_tb d ▸ rfl) i
    case h_2 hcls => rw [hcls]; rfl
    case h_3 hcls => rw [hcls]; rfl
    case h_4 hcls => rw [hcls]; exact y.abortForce_stitch i
    case h_5 h1 h2 h3 h4 => exact State.abortForce_session h1 h2 h3 h4 y i
  refine ⟨fun hst => ?arrive, fun hst hmode => ?cleanup, fun n _ => s.semAbort_owner d n, fun hst => ?force, State.ringOff_abort,
    s.abortSession_mbx i, fun hst hres hup => ?completion, fun hst hres => ?unconfirmed⟩
  case arrive => exact congrArg fin (if_pos hst)
  case cleanup => exact congrArg fin (if_pos ⟨hst, hmode⟩)
  case force => exact congrArg fin ((if_pos hst).trans (congrArg (State.modAbort · _) hforced))
  case completion => exact congrArg fin ((if_pos hst).trans (if_pos ⟨hres, hup⟩))
  case unconfirmed =>
    have hended : (if a.stage = 4 then s else y.abortForce (a.func / 4096) i) = if a.stage = 4 then s else forced := by rw [hforced]
    exact congrArg fin ((if_pos ⟨hres, hst⟩).trans
      (congrArg (fun t : State => t.draw.2.modAbort fun x => ended 4 (if x.clean then t.draw.1.toNat % 501 else 500) 0xFFFFFFFF x) hended))

end Sys2Proof.Machine
end

section
/-! SUPPORT. The store, the margin plan, the scrubber and sleep (R477, R502 to R505, R516, R529, R547). -/

namespace Sys2Proof.Machine
open Sys2Proof

/-! ## What one page write keeps of the store (R499 to R506) -/

theorem NvDie.undone_keeps (n : NvDie) : n.undone.hist = n.hist ∧ n.undone.writeCnt = n.writeCnt := by
  unfold NvDie.undone
  split <;> exact ⟨rfl, rfl⟩

theorem NvDie.undone_none {n : NvDie} (h : n.undo = none) : n.undone = n := by
  unfold NvDie.undone
  rw [h]

theorem NvDie.mark_keeps (n : NvDie) (w : NvWork) : (n.mark w).hist = n.hist ∧ (n.mark w).writeCnt = n.writeCnt := by
  unfold NvDie.mark
  split <;> exact ⟨rfl, rfl⟩

theorem NvDie.program_keeps (n : NvDie) (w : NvWork) (mask : Nat) : (n.program w mask).hist = n.hist ∧ (n.program w mask).writeCnt = n.writeCnt := by
  unfold NvDie.program
  split
  · exact ⟨rfl, rfl⟩
  · exact ⟨rfl, rfl⟩
  · dsimp only
    split
    · exact ⟨rfl, rfl⟩
    · unfold NvDie.setCopy
      split <;> exact ⟨rfl, rfl⟩
  · exact ⟨rfl, rfl⟩

theorem NvDie.countPage_keeps (n : NvDie) (w : NvWork) : (n.countPage w).writeCnt = satInc n.writeCnt ∧ (n.countPage w).cells = n.cells := by
  unfold NvDie.countPage
  dsimp only
  split <;> exact ⟨rfl, rfl⟩

/-- A page that is written and counted. -/
theorem NvDie.written_writeCnt (n : NvDie) (w : NvWork) (mask : Nat) : (((n.mark w).program w mask).countPage w).writeCnt = satInc n.writeCnt := by
  rw [(NvDie.countPage_keeps _ w).1, (NvDie.program_keeps _ w mask).2, (n.mark_keeps w).2]

/-- The supply levels of a page write do not choose the copy that a save overwrites. -/
theorem NvDie.resolve_levels (n : NvDie) (aon chold : Nat) (w : NvWork) : { n with aonMv := aon, choldMv := chold }.resolve w = n.resolve w := by
  cases w <;> rfl

/-! ## The end of a page write -/

theorem State.modNv_nv (s : State) (d : Nat) (f : NvDie → NvDie) : ((s.modNv d f).dx d).nv = f (s.dx d).nv := by
  unfold State.modNv
  rw [State.modDx_dx, if_pos rfl]

theorem State.pageEnd_failed (s : State) (d : Nat) (n : NvDie) (j : NvJob) (w : NvWork) (js : List NvJob) {ret : Nat} (h : ret ≠ retOK) :
    ((s.pageEnd d n j w js ret).dx d).nv = { n.undone with queue := dropChan j.chan js } := by
  unfold State.pageEnd
  rw [if_pos h, State.jobAnswer_dx, State.modNv_nv]

theorem State.pageEnd_more (s : State) (d : Nat) (n : NvDie) (j : NvJob) {w w2 : NvWork} (js : List NvJob) (h : w.rest = some w2) :
    ((s.pageEnd d n j w js retOK).dx d).nv = { n with queue := { j with work := w2 } :: js } := by
  unfold State.pageEnd
  dsimp only
  rw [if_neg (not_not_intro rfl : ¬ retOK ≠ retOK), h]
  exact s.modNv_nv d _

theorem State.jobFin_none (s : State) (d : Nat) (chan : Option Nat) : s.jobFin d chan .none = s := rfl

theorem State.pageEnd_last (s : State) (d : Nat) (n : NvDie) {j : NvJob} {w : NvWork} (js : List NvJob) (h : w.rest = none) (hfin : j.fin = .none) :
    ((s.pageEnd d n j w js retOK).dx d).nv = NvDie.readAll { n with queue := js, journal := none } := by
  unfold State.pageEnd
  dsimp only
  rw [if_neg (not_not_intro rfl : ¬ retOK ≠ retOK), h, hfin, State.jobFin_none]
  dsimp only
  rw [if_neg (by decide : ¬ NvFin.isFlash .none = true), State.jobAnswer_dx, State.modNv_nv, State.modNv_nv]

/-- After a page that was written, whatever remains of its job: the count and the cells of the store are those of the write. -/
theorem State.pageEnd_ok_keeps (s : State) (d : Nat) (n : NvDie) {j : NvJob} (w : NvWork) (js : List NvJob) (hfin : j.fin = .none) :
    ((s.pageEnd d n j w js retOK).dx d).nv.writeCnt = n.writeCnt ∧ ((s.pageEnd d n j w js retOK).dx d).nv.cells = n.cells := by
  cases hrest : w.rest with
  | none => rw [s.pageEnd_last d n js hrest hfin]; exact ⟨rfl, rfl⟩
  | some w2 => rw [s.pageEnd_more d n j js hrest]; exact ⟨rfl, rfl⟩

/-! ## NV_PAGE_WRITE (R502 to R505) -/

theorem State.exec_nvPageWrite (s : State) (d aon chold good : Nat) :
    ∃ t, exec (.nvPageWrite d aon chold good) s = .next t ∧ (t.dx d).nv = ((s.nvPage d aon chold good).dx d).nv := by
  refine ⟨_, rfl, ?_⟩
  rw [State.after_dx_nv]
  split
  · rw [State.modDie_dx_same]
  · rfl

section
variable {s : State} {d aon chold : Nat} {j : NvJob} {js : List NvJob}

/-- A write at a supply that is too low is counted; it ends as BUSY unless belay or the ROM keeps it. -/
theorem State.nvPage_low (hq : (s.dx d).nv.queue = j :: js) (hpow : s.nvPowered d = true) (hlow : (aonOk aon && choldOk chold) = false) (good : Nat) :
    ((s.nvPage d aon chold good).dx d).nv =
      let n := (s.dx d).nv
      let v := { n with aonMv := aon, choldMv := chold, rejCnt := satInc n.rejCnt, hist := satFlag (setb n.hist 1) 7 (satInc n.rejCnt) }
      if (decide (s.belay.phase = 2) && !j.work.isSeed) || j.ofRom then v else { v.undone with queue := dropChan j.chan js } := by
  unfold State.nvPage
  dsimp only
  rw [hq]
  dsimp only
  rw [if_neg (by simp [hpow]), if_pos (by simp [hlow])]
  split
  · rw [State.modNv_nv]
  · rw [State.pageEnd_failed _ _ _ _ _ _ (by decide)]

/-- A write whose page verifies at once is the page programmed and counted. -/
theorem State.nvPage_ok (hq : (s.dx d).nv.queue = j :: js) (hpow : s.nvPowered d = true) (haon : aonOk aon = true) (hchold : choldOk chold = true) :
    ∃ t : State, s.nvPage d aon chold 0 =
      let n := { (s.dx d).nv with aonMv := aon, choldMv := chold }
      let w := (s.dx d).nv.resolve j.work
      t.pageEnd d (((n.mark w).program w allNew).countPage w) j w js retOK := by
  unfold State.nvPage
  dsimp only
  rw [hq]
  dsimp only
  rw [if_neg (by simp [hpow]), if_neg (by simp [haon, hchold]), if_pos (by decide), if_pos rfl, NvDie.resolve_levels]
  exact ⟨_, rfl⟩

/-- A write that no page takes ends as a failure of the store. -/
theorem State.nvPage_bad (hq : (s.dx d).nv.queue = j :: js) (hpow : s.nvPowered d = true) (haon : aonOk aon = true) (hchold : choldOk chold = true)
    (hrom : j.ofRom = false) :
    ∃ (t : State) (mask : Nat), s.nvPage d aon chold 3 =
      let n := { (s.dx d).nv with aonMv := aon, choldMv := chold }
      let w := (s.dx d).nv.resolve j.work
      t.pageEnd d ({ n.mark w with hist := setb (n.mark w).hist 2 }.program w mask) j w js retNv := by
  unfold State.nvPage
  dsimp only
  rw [hq]
  dsimp only
  rw [if_neg (by simp [hpow]), if_neg (by simp [haon, hchold]), if_neg (by decide : ¬ 3 = 0), if_neg (by decide : ¬ 3 ≤ 1),
    if_neg (fun h => absurd h.1 (by decide)), if_neg (by simp [hrom] : ¬ j.ofRom = true),
    NvDie.resolve_levels]
  exact ⟨_, _, rfl⟩

end

/-! ## MARGIN_SCAN and MARGIN_PLAN_EVAL (R516, R547) -/

theorem State.marginScan_outcome {s : State} {d page : Nat} (hpow : s.nvPowered d = true) (hpage : page < 4032) (hq : (s.dx d).nv.queue = [])
    (weak : Bool) :
    ((s.marginScan d page weak).dx d).age.scanPage = page ∧
      ((s.marginScan d page weak).dx d).nv.queue = if weak then [{ work := .refresh page }] else [] := by
  unfold State.marginScan
  dsimp only
  rw [if_pos (by simp [hpow, hpage, hq]), State.modDx_dx, if_pos rfl]
  exact ⟨rfl, by rw [hq, List.nil_append]⟩

theorem State.queueSave_dx_keeps (s : State) (d id : Nat) (void : Bool) (body : RecBody) (chan : Option Nat) (fin : NvFin) :
    ((s.queueSave d id void body chan fin).dx d).age = (s.dx d).age ∧ ((s.queueSave d id void body chan fin).dx d).plan = (s.dx d).plan := by
  unfold State.queueSave State.modNv
  dsimp only
  rw [State.modDx_dx, if_pos rfl]
  exact ⟨rfl, rfl⟩

/-- An evaluation that is due keeps a plan that is stored and unchanged, and stores any other as the next version. -/
theorem State.planEval_outcome {s : State} {d : Nat} (hd : s.fitted d = true) (hmode : (s.dx d).mode = 2) (hlead : s.leadLive = true)
    (hdue : (s.dx d).age.evalDue = true) (wear : Nat) :
    let x := s.dx d
    let q := x.plan.tighten (x.age.rulePlan wear)
    ((s.planEval d wear).dx d).age.wear = wear ∧ ((s.planEval d wear).dx d).age.evalAt = some x.age.opMs ∧
      ((s.planEval d wear).dx d).plan = if x.plan.stored = true ∧ q = x.plan then x.plan else
        { q with stored := true, version := x.plan.version + 1, evalHours := x.age.hours, evalMts := s.mts } := by
  unfold State.planEval
  dsimp only
  rw [if_neg (by simp [hd, hmode, hlead, hdue])]
  simp only [Bool.and_eq_true, decide_eq_true_eq]
  split
  · rw [State.modDx_dx, if_pos rfl]
    exact ⟨rfl, rfl, rfl⟩
  · rw [(State.queueSave_dx_keeps _ d 4 false _ none .none).1, (State.queueSave_dx_keeps _ d 4 false _ none .none).2, State.modDx_dx, if_pos rfl,
      State.modDx_dx, if_pos rfl]
    exact ⟨rfl, rfl, rfl⟩

/-! ## CONFIG_SCRUB (R358, R367, R477) -/

/-- The program windows hold no configuration word. -/
theorem parWord_progAt {d off e a : Nat} (h : progAt off = some (e, a)) : parWord d off = false := by
  have hwin : 0x78000 ≤ off ∧ off < 0x7F000 := by
    by_contra hout
    rw [progAt, if_neg hout] at h
    cases h
  obtain ⟨hlo, hhi⟩ := hwin
  have hrw : rwMask off = 0 := by
    unfold rwMask
    repeat rw [if_neg (by omega)]
    rw [if_pos (by omega)]
  have hcmd : cmdWord off = false := by
    simp only [cmdWord, Bool.or_eq_false_iff, Bool.and_eq_false_iff, decide_eq_false_iff_not]
    omega
  rw [parWord, hrw, hcmd]
  simp

theorem State.upset_other {off : Nat} (h : progAt off = none) (s : State) (d : Nat) : s.upset d [off] = s := by
  unfold State.upset
  rw [List.foldl_cons, List.foldl_nil, h]

theorem State.upset_program {s : State} {d off e a : Nat} (h : progAt off = some (e, a)) (hload : (s.stitch (28 * d + e)).loaded = true)
    (hnew : (s.stitch (28 * d + e)).badParity.contains a = false) :
    s.upset d [off] = s.modStitch (28 * d + e) fun u => { u with badParity := u.badParity ++ [a] } := by
  unfold State.upset State.modStitch
  rw [List.foldl_cons, List.foldl_nil, h]
  dsimp only
  rw [if_pos (by rw [hload, hnew]; rfl)]

/-- A configuration word that was good is found bad: the scrubber counts it, logs the first, and its row falls due. -/
theorem State.scrub_config {s : State} {d off : Nat} (hd : s.fitted d = true) (hpar : parWord d off = true) (hnew : (s.dx d).bad.contains off = false) :
    let x := s.dx d
    s.scrub d [off] = s.modDx d fun y => { y with
      bad := x.bad ++ [off], parDue := x.bad ++ [off], parCnt := satAdd x.parCnt 1, parFaults := y.parFaults ++ [off],
      parStat := satFlag (setb y.parStat 0) 1 (satAdd x.parCnt 1), parLog := if bit y.parStat 0 then y.parLog else off } := by
  have hfresh : ([off].filter fun o => parWord d o && !(s.dx d).bad.contains o).eraseDups = [off] := by
    simp only [List.filter_cons, hpar, hnew]
    rfl
  have hprog : progAt off = none := by
    cases hp : progAt off with
    | none => rfl
    | some p => exact absurd hpar (by rw [parWord_progAt (e := p.1) (a := p.2) hp]; decide)
  have halign : off % 4 = 0 := by
    simp only [parWord, Bool.and_eq_true, decide_eq_true_eq] at hpar
    exact hpar.1.1
  have hword : ([off].filter fun o => decide (o % 4 = 0)) = [off] := List.filter_eq_self.mpr (by simp [halign])
  unfold State.scrub
  dsimp only
  rw [hfresh, hword, State.upset_other hprog, if_neg (by simp [hd]), if_neg (by simp)]
  rfl

/-- A word of an installed program that has gone wrong is left to the fetch. -/
theorem State.scrub_program {s : State} {d off e a : Nat} (hd : s.fitted d = true) (halign : off % 4 = 0) (hprog : progAt off = some (e, a))
    (hbad : (s.dx d).bad = []) (hload : (s.stitch (28 * d + e)).loaded = true) (hnew : (s.stitch (28 * d + e)).badParity.contains a = false) :
    s.scrub d [off] = s.modStitch (28 * d + e) fun u => { u with badParity := u.badParity ++ [a] } := by
  have hfresh : ([off].filter fun o => parWord d o && !(s.dx d).bad.contains o).eraseDups = [] := by
    rw [List.filter_eq_nil_iff.mpr (by simp [parWord_progAt hprog])]
    rfl
  have hword : ([off].filter fun o => decide (o % 4 = 0)) = [off] := List.filter_eq_self.mpr (by simp [halign])
  unfold State.scrub
  dsimp only
  rw [hfresh, hword, State.upset_program hprog hload hnew, hbad, if_neg (by simp [hd])]
  rfl

/-- Settles O38: each event is one outcome of its operation on the die. -/
theorem storeEventsComplete : Obligations.StoreEventsComplete := by
  unfold Obligations.StoreEventsComplete
  intro s d n x
  refine ⟨fun j js aon chold good hq hpow hlow => ?low, fun j js aon chold hq hfin hpow haon hchold => ?good,
    fun j js aon chold hq hrom hpow haon hchold => ?bad, fun page weak hpow hpage hq => ?scan, fun wear hd hmode hlead hdue => ?plan,
    fun off hd hpar hnew => congrArg fin (State.scrub_config hd hpar hnew),
    fun off e a hd halign hprog hbad hload hnew => congrArg fin (State.scrub_program hd halign hprog hbad hload hnew),
    fun u hd hu hidle hawake => congrArg fin (if_pos ?sleep)⟩
  case low =>
    obtain ⟨t, ht, hnv⟩ := s.exec_nvPageWrite d aon chold good
    rw [State.nvPage_low hq hpow hlow] at hnv
    dsimp only at hnv
    have hbit : bit (satFlag (setb n.hist 1) 7 (satInc n.rejCnt)) 1 = true := bit_satFlag_of (bit_setb_same _ (by decide)) _ _
    refine ⟨t, ht, ?_⟩
    rw [hnv]
    split
    next hkept =>
      refine ⟨rfl, hbit, rfl, fun _ => rfl, fun hphase hrom => ?_⟩
      simp [hphase, hrom] at hkept
    next =>
      refine ⟨NvDie.undone_rejCnt _, ?_, (NvDie.undone_keeps _).2, fun hundo => ?_, fun _ _ => rfl⟩
      · dsimp only
        rw [(NvDie.undone_keeps _).1]
        exact hbit
      · dsimp only
        rw [NvDie.undone_none (by exact hundo)]
  case good =>
    obtain ⟨t, ht, hnv⟩ := s.exec_nvPageWrite d aon chold 0
    obtain ⟨t0, hpage⟩ := State.nvPage_ok hq hpow haon hchold
    rw [hpage] at hnv
    dsimp only at hnv
    refine ⟨t, ht, ?_, fun hrest => ?_, fun w hrest => ?_, fun a b hwork => ?_⟩
    · rw [hnv, (State.pageEnd_ok_keeps _ _ _ _ _ hfin).1, NvDie.written_writeCnt]
    · rw [hnv, State.pageEnd_last _ _ _ _ hrest hfin]
      rfl
    · rw [hnv, State.pageEnd_more _ _ _ _ _ hrest]
    · rw [hnv, (State.pageEnd_ok_keeps _ _ _ _ _ hfin).2, (NvDie.countPage_keeps _ _).2, hwork]
      rfl
  case bad =>
    obtain ⟨t, ht, hnv⟩ := s.exec_nvPageWrite d aon chold 3
    obtain ⟨t0, mask, hpage⟩ := State.nvPage_bad hq hpow haon hchold hrom
    rw [hpage] at hnv
    dsimp only at hnv
    rw [State.pageEnd_failed _ _ _ _ _ _ (by decide)] at hnv
    refine ⟨t, ht, ?_, ?_, by rw [hnv]⟩
    · rw [hnv]
      dsimp only
      rw [(NvDie.undone_keeps _).2, (NvDie.program_keeps _ _ _).2]
      exact (NvDie.mark_keeps _ _).2
    · rw [hnv]
      dsimp only
      rw [(NvDie.undone_keeps _).1, (NvDie.program_keeps _ _ _).1]
      exact bit_setb_same _ (by decide)
  case scan =>
    obtain ⟨hscan, hqueue⟩ := State.marginScan_outcome hpow hpage hq weak
    exact ⟨_, rfl, by rw [State.after_dx_age, hscan], by rw [State.after_dx_nv, hqueue]⟩
  case plan =>
    obtain ⟨hwear, hat, hplan⟩ := State.planEval_outcome hd hmode hlead hdue wear
    refine ⟨_, rfl, by rw [State.after_dx_age, hwear], by rw [State.after_dx_age, hat], fun hst hsame => ?_, fun hother => ?_⟩
    · rw [State.after_dx_plan, hplan, if_pos ⟨hst, hsame⟩]
    · rw [State.after_dx_plan, hplan, if_neg]
      rintro ⟨hst, hsame⟩
      rcases hother with hnot | hne
      · exact absurd hst (by rw [hnot]; decide)
      · exact hne hsame
  case sleep => simp only [hd, hu, hidle, hawake, x, decide_true, Bool.not_false, Bool.and_self]

end Sys2Proof.Machine
end

section
/-! SUPPORT. When a Unest command runs, and how its response reaches the host (R401, R402, R404, R427). -/

namespace Sys2Proof.Machine
open Sys2Proof

/-! ## A Unest command that its channel does not hold (R401, R404) -/

/-- A Unest command runs its body on the message of its channel; FW_FLASH waits while another flash operation runs (R410). -/
theorem exec_of_opcodeOf {i : Instr} {c op : Nat} (h : opcodeOf i = some (c, op)) (s : State) :
    (∃ body, exec i s = fin (s.runCmd c op body)) ∨ exec i s = fin s := by
  cases i with
  | fwFlash =>
    cases h
    by_cases hop : s.host.flashOp.isSome
    · exact .inr (congrArg fin (if_pos hop))
    · exact .inl ⟨_, congrArg fin (if_neg hop)⟩
  | nop | getCaps | getVersion | reset | getAbortStatus | eventSubscribe | eventRead | logGet | logClear | sessionOpen | sessionAuth
  | sessionClose | portKeyProgram | channelPolicy | tbSetMaster | inputConfig | inputSetMonitors | inputGetStatus | inputClear | tdcGetPicot
  | tdcSaveSeed | tdcCoreReset | dpllConfig | dpllSetLoop | dpllGetLoop | dpllSetSteer | dpllPhaseAdjust | dpllGetStatus | dpllGetCandidates
  | dpllSetCandidates | dpllSetSelection | dpllGetSwitchLog | cairnSetMember | cairnSetConfig | cairnGetModel | cairnSave | cairnForget
  | dpllSetHoldover | dpllGetHoldover | opllConfig | opllSetFreq | opllAlign | outputConfig | outputRun | tdConfig | tdGetConfig | tdSetTime
  | tdGetTime | tdSetTod | stitchLoad | stitchCommit | stitchDefault | stitchRun | bootLoad | bootStart | bootConfirm | bootProfileSet
  | dmaRingConfig | dmaGetStatus | irqRoute | nvRead | nvWrite | nvLogin | nvSetPassword | nvGetStatus | belayConfig | belayEnter
  | powerGetStatus | marginGetPlan | ageingGetStatus =>
    cases h
    exact .inl ⟨_, rfl⟩
  | _ => cases h

/-- A command runs only on an executable message of its channel with its opcode. -/
theorem State.runCmd_unasked {s : State} {c op : Nat} (h : ¬ s.Takes c op) (body : Nat → List Byte → State → Reply) : s.runCmd c op body = s := by
  unfold State.runCmd
  split
  next => rfl
  next m hm =>
    refine if_neg ?_
    rintro ⟨hop, hheld, hfwd, hserves⟩
    exact h ⟨m, hm, hop, hheld, hfwd, hserves⟩

/-- Settles O49: the body of a Unest command runs only on the message that its channel holds for it, and nothing runs beside it. That a row on
a channel without its message has no effect is the model's choice (log entry 50). -/
theorem unaskedCommandsDoNothing : Obligations.UnaskedCommandsDoNothing := by
  unfold Obligations.UnaskedCommandsDoNothing
  intro s i c op hop hnot
  obtain ⟨body, hexec⟩ | hexec := exec_of_opcodeOf hop s
  · rw [hexec, State.runCmd_unasked hnot]
    rfl
  · exact hexec

/-! ## The response (R401, R402, R427) -/

theorem State.posted_mbx_same (s : State) (c : Nat) : (s.posted c).mbx c = (s.mbx c).maskNow := by
  rw [State.posted_eq, State.modMbx_mbx, if_pos rfl]
  rfl

/-- The response as it stands in C2H_BUF: its header, then its bytes (R427). -/
def responseBytes (ret op seq : Nat) (b : List Byte) : List Byte := leBytes 2 ret ++ leBytes 2 op ++ leBytes 2 seq ++ leBytes 2 b.length ++ b

theorem State.respond_mbx_free {s : State} {c : Nat} (h : (s.mbx c).c2hFull = false) (ret op seq : Nat) (b : List Byte) :
    (s.respond c ret op seq b).mbx c = ((s.mbx c).post ret seq (responseBytes ret op seq b)).maskNow := by
  unfold State.respond
  dsimp only
  rw [if_neg (by rw [h]; exact Bool.false_ne_true), State.posted_mbx_same, State.modMbx_mbx, if_pos rfl]
  rfl

theorem State.respond_mbx_full {s : State} {c : Nat} (h : (s.mbx c).c2hFull = true) (ret op seq : Nat) (b : List Byte) :
    (s.respond c ret op seq b).mbx c = { s.mbx c with held := (s.mbx c).held ++ [(ret, seq, responseBytes ret op seq b)] } := by
  unfold State.respond
  dsimp only
  rw [if_pos h, State.modMbx_mbx, if_pos rfl]
  rfl

/-- A response leaves the message of its channel as it is. -/
theorem State.respond_msg (s : State) (c ret op seq : Nat) (b : List Byte) : ((s.respond c ret op seq b).mbx c).msg = (s.mbx c).msg := by
  cases h : (s.mbx c).c2hFull with
  | false => rw [State.respond_mbx_free h]; rfl
  | true => rw [State.respond_mbx_full h]

/-- The channel of an answered command is as the response leaves it: without a message, nothing that follows the command touches it. -/
theorem State.answered_mbx (s : State) (c : Nat) (m : Msg) (ret : Nat) (b : List Byte) :
    (s.answered c m ret b).mbx c = ((s.modMbx c fun x => { x with msg := none }).respond c ret m.op m.seq b).mbx c := by
  refine State.after_mbx fun m' hm' => ?_
  rw [State.respond_msg, State.modMbx_mbx, if_pos rfl] at hm'
  cases hm'

/-- Settles O52: the response is posted or held, by C2H_FULL. -/
theorem answersReachTheHost : Obligations.AnswersReachTheHost := by
  unfold Obligations.AnswersReachTheHost
  intro s c ret m b t r
  have hmbx : (s.modMbx c fun x => { x with msg := none }).mbx c = { s.mbx c with msg := none } := by rw [State.modMbx_mbx, if_pos rfl]
  refine ⟨?_, fun hfree => ?_, fun hfull => ?_⟩
  · change ((s.answered c m ret b).mbx c).msg = none
    rw [State.answered_mbx, State.respond_msg, hmbx]
  · change ((s.answered c m ret b).mbx c).c2h.take r.length = r ∧ _
    rw [State.answered_mbx, State.respond_mbx_free (by rw [hmbx]; exact hfree), hmbx]
    exact ⟨List.take_left, rfl, rfl, bit_setb_same _ (by decide), rfl⟩
  · change ((s.answered c m ret b).mbx c).held = _ ∧ _
    rw [State.answered_mbx, State.respond_mbx_full (by rw [hmbx]; exact hfull), hmbx]
    exact ⟨rfl, rfl, rfl⟩

end Sys2Proof.Machine
end

section
/-! SUPPORT. The flash through the operations that the Keep files leave it out of (R410): the writes of registers by their address, and the
resets. -/

namespace Sys2Proof.Machine
open Sys2Proof

variable (s : State)

/-! ## TB_CTRL (R41, R585) -/

@[simp] theorem State.tbOff_flash : s.tbOff.host.flash = s.host.flash := by
  unfold State.tbOff
  dsimp only
  simp

@[simp] theorem State.writeTbCtrl_flash (w : Word) : (s.writeTbCtrl w).host.flash = s.host.flash := by
  unfold State.writeTbCtrl
  simp

@[simp] theorem tbSetMasterReply_flash (c : Nat) (p : List Byte) : (tbSetMasterReply c p s).s.host.flash = s.host.flash := by
  unfold tbSetMasterReply
  exact guarded_view (fun t => t.host.flash) (by simp)

/-! ## Registers reached by their address (R340, R467 to R474) -/

@[simp] theorem State.writeLow_flash (d off : Nat) (w : Word) : (s.writeLow d off w).host.flash = s.host.flash := by
  unfold State.writeLow
  repeat' split
  all_goals simp

@[simp] theorem State.wrReg_flash (port d off : Nat) (w : Word) (b : Bool) : (s.wrReg port d off w b).host.flash = s.host.flash := by
  unfold State.wrReg
  simp

@[simp] theorem State.applyUnitWrite_flash (e : Nat) (q : UnitWrite) : (s.applyUnitWrite e q).host.flash = s.host.flash := by
  unfold State.applyUnitWrite
  split <;> simp

@[simp] theorem State.stitchUnitWrite_flash (e : Nat) : (s.stitchUnitWrite e).host.flash = s.host.flash := by
  unfold State.stitchUnitWrite
  dsimp only
  repeat' split
  all_goals simp

@[simp] theorem State.writeBase_flash (p : Path) (d off : Nat) (w : Word) : (s.writeBase p d off w).host.flash = s.host.flash := by
  unfold State.writeBase
  simp

@[simp] theorem State.writeView_flash (p : Path) (d view off : Nat) (w : Word) : (s.writeView p d view off w).host.flash = s.host.flash := by
  unfold State.writeView
  simp

@[simp] theorem State.land_flash (p : Path) (d off : Nat) (w : Word) : (s.land p d off w).host.flash = s.host.flash := by
  unfold State.land
  simp

@[simp] theorem State.local_flash (i : Nat) (a : Access) : (s.local i a).host.flash = s.host.flash := by
  unfold State.local
  simp

@[simp] theorem State.route_flash (i : Nat) (a : Access) : (s.route i a).host.flash = s.host.flash := by
  unfold State.route
  simp

@[simp] theorem State.indData_flash (i : Nat) (p : Path) (b : Bool) (w : Word) : (s.indData i p b w).host.flash = s.host.flash := by
  unfold State.indData
  simp

@[simp] theorem State.indAccess_flash (i : Nat) (a : Access) : (s.indAccess i a).host.flash = s.host.flash := by
  unfold State.indAccess
  dsimp only
  repeat' split
  all_goals simp

@[simp] theorem State.startAccess_flash (i : Nat) (a : Access) : (s.startAccess i a).host.flash = s.host.flash := by
  unfold State.startAccess
  simp

@[simp] theorem State.drainPort_flash (i n : Nat) : (s.drainPort i n).host.flash = s.host.flash := by
  induction n generalizing s with
  | zero => rfl
  | succ n ih =>
    unfold State.drainPort
    dsimp only
    split
    · simp [ih]
    · rfl

@[simp] theorem State.freePort_flash (i : Nat) : (s.freePort i).host.flash = s.host.flash := by
  unfold State.freePort
  simp

@[simp] theorem State.enter_flash (a : Access) : (s.enter a).host.flash = s.host.flash := by
  unfold State.enter
  split <;> simp

@[simp] theorem State.access_flash (p : Path) (a : Nat) (b : Bool) (w : Word) : (s.access p a b w).host.flash = s.host.flash := by
  unfold State.access
  repeat' split
  all_goals simp

@[simp] theorem State.deliver_flash (d : Nat) (f : Frame) : (State.deliver d s f).host.flash = s.host.flash := by
  unfold State.deliver
  split <;> simp

@[simp] theorem State.deliverWrites_flash (d : Nat) : (s.deliverWrites d).host.flash = s.host.flash := by
  unfold State.deliverWrites
  simp

@[simp] theorem State.remoteDone_flash (i : Nat) : (s.remoteDone i).host.flash = s.host.flash := by
  unfold State.remoteDone
  split <;> simp

@[simp] theorem State.lateEnd_flash (i : Nat) : (s.lateEnd i).host.flash = s.host.flash := by
  unfold State.lateEnd
  split <;> simp

@[simp] theorem State.slowAdmit_flash (i : Nat) : (s.slowAdmit i).host.flash = s.host.flash := by
  unfold State.slowAdmit
  split <;> simp

@[simp] theorem State.slowDrain_flash : s.slowDrain.host.flash = s.host.flash := by
  unfold State.slowDrain
  split <;> simp

@[simp] theorem State.frameAt_flash (d : Nat) (f : Frame) : (s.frameAt d f).host.flash = s.host.flash := by
  unfold State.frameAt
  split <;> simp

@[simp] theorem State.frameWork_flash (d l : Nat) (f : Frame) : (s.frameWork d l f).host.flash = s.host.flash := by
  unfold State.frameWork
  repeat' split
  all_goals simp

/-! ## Resets, the boot ROM and belay (R389, R527, R528, R533): the flash lies outside the part -/

@[simp] theorem State.resetPart_flash (cause : Nat) (warm : Bool) : (s.resetPart cause warm).host.flash = s.host.flash := rfl

@[simp] theorem State.powerOn_flash (cut : List (Nat × Nat)) : (s.powerOn cut).host.flash = s.host.flash := by
  unfold State.powerOn
  simp

@[simp] theorem State.resetDue_flash : s.resetDue.host.flash = s.host.flash := by
  unfold State.resetDue
  split <;> simp

@[simp] theorem State.belayDown_flash : s.belayDown.host.flash = s.host.flash := by
  unfold State.belayDown
  dsimp only
  split <;> rfl

@[simp] theorem State.profileTb_flash : s.profileTb.host.flash = s.host.flash := by
  unfold State.profileTb
  repeat' split
  all_goals simp

@[simp] theorem State.romStart_flash (strap : Nat) : (s.romStart strap).host.flash = s.host.flash := by
  unfold State.romStart
  dsimp only
  repeat' split
  all_goals simp

/-! ## A command on a channel -/

/-- A Unest command leaves the flash alone when its body does, whatever it answers. -/
theorem State.runCmd_flash {s : State} {c op : Nat} {body : Nat → List Byte → State → Reply}
    (hb : ∀ p, (body c p s).s.host.flash = s.host.flash) : (s.runCmd c op body).host.flash = s.host.flash := by
  have hpol (m : Msg) : (policed m.ro op s (body c m.payload s)).s.host.flash = s.host.flash := by
    rcases policed_s m.ro op s (body c m.payload s) with h | h
    · rw [h]
    · rw [h, hb]
  unfold State.runCmd
  split
  · rfl
  · dsimp only
    repeat' split
    all_goals simp [hpol]

/-- What follows every command leaves the flash alone, so a command does when its own effect does. -/
theorem fin_flash {s t u : State} (h : fin u = .next t) (hu : u.host.flash = s.host.flash) : t.host.flash = s.host.flash := by
  rw [fin_next h, State.after_host_flash, hu]

/-- No command but the end of a flash operation changes the flash. -/
theorem exec_flash {i : Instr} {s t : State} (hi : ∀ ok, i ≠ .flashOperationDone ok) (h : exec i s = .next t) : t.host.flash = s.host.flash := by
  cases i with
  | flashOperationDone ok => exact absurd rfl (hi ok)
  -- the Unest commands
  | nop | getCaps | getVersion | reset | getAbortStatus | eventSubscribe | eventRead | logGet | logClear | sessionOpen | sessionAuth
  | sessionClose | portKeyProgram | channelPolicy | tbSetMaster | inputConfig | inputSetMonitors | inputGetStatus | inputClear | tdcGetPicot
  | tdcSaveSeed | tdcCoreReset | dpllConfig | dpllSetLoop | dpllGetLoop | dpllSetSteer | dpllPhaseAdjust | dpllGetStatus | dpllGetCandidates
  | dpllSetCandidates | dpllSetSelection | dpllGetSwitchLog | cairnSetMember | cairnSetConfig | cairnGetModel | cairnSave | cairnForget
  | dpllSetHoldover | dpllGetHoldover | opllConfig | opllSetFreq | opllAlign | outputConfig | outputRun | tdConfig | tdGetConfig | tdSetTime
  | tdGetTime | tdSetTod | stitchLoad | stitchCommit | stitchDefault | stitchRun | bootLoad | bootStart | bootConfirm | bootProfileSet
  | dmaRingConfig | dmaGetStatus | irqRoute | nvRead | nvWrite | nvLogin | nvSetPassword | nvGetStatus | belayConfig | belayEnter
  | powerGetStatus | marginGetPlan | ageingGetStatus =>
    exact fin_flash h (State.runCmd_flash fun p => by simp)
  | fwFlash c =>
    refine fin_flash h ?_
    split
    · rfl
    · exact State.runCmd_flash fun p => by simp
  -- the register writes of one unit, which land at an address when the unit is present
  | inputEnable | inputDisable | forceDisqWrite | rankPriorityWrite => exact fin_flash h (by unfold State.landInput; simp)
  | dpllEnable | dpllDisable | forceFreerun | forceHoldover | forceAutomatic | selRetblkClear | selHookVerdictWrite =>
    exact fin_flash h (by unfold State.landDpll; simp)
  | opllEnable | opllDisable => exact fin_flash h (by unfold State.landOpll; simp)
  | outputEnable | outputDisable | outRunStart | outRunStop | outPhaseWrite => exact fin_flash h (by unfold State.landOut; simp)
  | tdEnable | tdDisable | tdOfsCommit => exact fin_flash h (by unfold State.landTd; simp)
  | stitchEnableWrite | stitchSignal => exact fin_flash h (by unfold State.landStitch; simp)
  | mbxH2cDoorbell | mbxC2hClear | h2cBufWrite => exact fin_flash h (by unfold State.landMbx; simp)
  | semReadAcquire p n =>
    refine fin_flash h ?_
    split
    · dsimp only
      split <;> simp
    · rfl
  | lateAccess p | remoteAccessComplete p =>
    refine fin_flash h ?_
    split
    · simp
    · rfl
  -- the other register writes, the stitch instructions and the events
  | _ => exact fin_flash h (by simp)

/-- Settles O43: the flash itself is unchanged, so every byte of it reads as before. That no reset and no power cycle changes a byte is the
model's choice (log entry 15), and that the flash changes whole and only at the end of its operation (log entry 40). -/
theorem flashChangesOnlyAtOperationEnd : Obligations.FlashChangesOnlyAtOperationEnd := by
  unfold Obligations.FlashChangesOnlyAtOperationEnd
  intro i s t hi h a
  rw [exec_flash hi h]

end Sys2Proof.Machine
end

section
/-! SUPPORT. The commands of boot and the flash (R393, R409, R410, R416, R417, R420). -/

namespace Sys2Proof.Machine
open Sys2Proof

variable {s : State} {c : Nat} {p : List Byte}

/-! ## BOOT_LOAD (R416) -/

/-- The bytes that a load at offset OFF adds to: none at offset 0, else those of the image so far (R416). -/
def State.loaded (s : State) (p : List Byte) : List Byte :=
  if uAt p 4 4 = 0 then [] else if uAt p 0 1 = 1 then s.host.boot.leadBuf else s.host.boot.unitBuf

/-- A load that stays below the length of a header is kept, and nothing is judged yet. -/
theorem bootLoadReply_header (hc : bootDenied c = false) (himg : uAt p 0 1 = 2 ∨ uAt p 0 1 = 1 ∧ s.host.boot.download = true)
    (hr : uAt p 1 1 = 0) (hoff : (s.loaded p).length = uAt p 4 4) (h1 : 1 ≤ (p.drop 8).length) (h192 : (p.drop 8).length ≤ 192)
    (htop : (s.loaded p).length + (p.drop 8).length < 1024) :
    bootLoadReply c p s = okReply (if uAt p 0 1 = 1 then s.modBoot fun x => { x with leadBuf := s.loaded p ++ p.drop 8 }
      else (s.modBoot fun x => { x with unitBuf := s.loaded p ++ p.drop 8 }).streamChunk (uAt p 4 4) (p.drop 8).length false) := by
  unfold bootLoadReply
  dsimp only
  rw [show (if uAt p 4 4 = 0 then [] else if uAt p 0 1 = 1 then s.host.boot.leadBuf else s.host.boot.unitBuf) = s.loaded p from rfl]
  generalize s.loaded p = base at hoff htop ⊢
  generalize p.drop 8 = data at h1 h192 htop ⊢
  have hsome : data ≠ [] := List.ne_nil_of_length_pos h1
  have hshort : ¬ 1024 ≤ base.length + data.length := by omega
  rcases himg with himg | ⟨himg, hdl⟩
  · simp [hc, himg, rsv, hr, hsome, Nat.not_lt.mpr h192, ← hoff, hshort]
  · simp [hc, himg, hdl, rsv, hr, hsome, Nat.not_lt.mpr h192, ← hoff, hshort]

/-! ## BOOT_START (R393, R417) -/

/-- A channel whose doorbell is masked. -/
def Mbx.masked (m : Mbx) : Mbx := { m with h2cMask := m.h2cMask ||| bm 0 }

/-- The effect of BOOT_START on a good pair: the images are those in force, and every channel is masked until firmware opens it. -/
def State.startPair (s : State) (l u : Manifest) : State :=
  (s.modBoot fun x => { x with lead := some l, unit := some u, srcHost := true, step := 2, trial := false, fallback := false,
                               untested := !(l.tested.contains u.fw || u.tested.contains l.fw) }).forEach (List.range 8)
    fun x c => x.modMbx c Mbx.masked

/-- A good pair starts; a part of one die reads no unit body. -/
theorem bootStartReply_good {l u : Manifest} (hc : bootDenied c = false) (hdl : s.host.boot.download = true) (hr : uAt p 0 4 = 0)
    (hlead : 1024 ≤ s.host.boot.leadBuf.length) (hleadLen : s.host.boot.leadBuf.length = 1024 + uAt s.host.boot.leadBuf 16 4)
    (hunit : 1024 ≤ s.host.boot.unitBuf.length) (hunitLen : s.nDies = 1 ∨ s.host.boot.unitBuf.length = 1024 + uAt s.host.boot.unitBuf 16 4)
    (hpair : s.pairCheck (s.host.boot.leadBuf.take 1024) (s.host.boot.unitBuf.take 1024) = .good l u)
    (hbody : bodyOk (s.host.boot.leadBuf.take 1024) (s.host.boot.leadBuf.drop 1024) = true)
    (hunitBody : s.nDies = 1 ∨ bodyOk (s.host.boot.unitBuf.take 1024) (s.host.boot.unitBuf.drop 1024) = true) :
    bootStartReply c p s = okReply (s.startPair l u) := by
  have hwhole : (decide (1024 ≤ s.host.boot.leadBuf.length) && decide (s.host.boot.leadBuf.length = 1024 + uAt s.host.boot.leadBuf 16 4)) = true := by
    simp [hlead, ← hleadLen]
  have hunitWhole : (if decide (s.nDies = 1) = true then decide (1024 ≤ s.host.boot.unitBuf.length)
      else decide (1024 ≤ s.host.boot.unitBuf.length) && decide (s.host.boot.unitBuf.length = 1024 + uAt s.host.boot.unitBuf 16 4)) = true := by
    rcases hunitLen with hone | hlen
    · simp [hone, hunit]
    · simp [hunit, ← hlen]
  have hunitHash : (!decide (s.nDies = 1) && !bodyOk (s.host.boot.unitBuf.take 1024) (s.host.boot.unitBuf.drop 1024)) = false := by
    rcases hunitBody with hone | hok
    · simp [hone]
    · simp [hok]
  unfold bootStartReply
  dsimp only
  simp only [hwhole, hunitWhole, hpair, hbody, hunitHash]
  simp only [hc, hdl, rsv, hr, firstErr_pass, decide_true, Bool.not_true, firstErr_nil]
  rfl

theorem State.startPair_boot (s : State) (l u : Manifest) :
    (s.startPair l u).host.boot.lead = some l ∧ (s.startPair l u).host.boot.unit = some u ∧ (s.startPair l u).host.boot.srcHost = true := by
  have hloop : (s.startPair l u).host.boot = _ :=
    State.forEach_keep (fun t => t.host.boot) (fun x c => x.modMbx c Mbx.masked) (fun _ _ => rfl) (List.range 8) (s.modBoot _)
  rw [hloop]
  exact ⟨rfl, rfl, rfl⟩

theorem State.startPair_masked (s : State) (l u : Manifest) {j : Nat} (hj : j < 8) : bit ((s.startPair l u).mbx j).h2cMask 0 = true := by
  have hset (m : Mbx) : bit m.masked.h2cMask 0 = true := bit_setb_same _ (by decide)
  refine State.forEach_reaches (fun t => bit (t.mbx j).h2cMask 0 = true) (fun x c => x.modMbx c Mbx.masked) (fun t n ht => ?_) (fun t => ?_)
    (List.mem_range.mpr hj) _
  · rw [State.modMbx_mbx]
    split
    · exact hset _
    · exact ht
  · rw [State.modMbx_mbx, if_pos rfl]
    exact hset _

/-! ## FW_FLASH (R410, R421) -/

section
variable (hc : bootDenied c = false) (hslot : uAt p 1 1 ≤ 1) (hrun : s.host.boot.srcHost = true ∨ uAt p 1 1 ≠ s.host.boot.slot)
  (htop : uAt p 4 4 + uAt p 2 2 ≤ slotSize)
include hc hslot hrun htop

theorem fwFlashReply_read (hop : uAt p 0 1 = 2) (h1 : 1 ≤ uAt p 2 2) (h192 : uAt p 2 2 ≤ 192) :
    fwFlashReply c p s = okWith (s.flashBytes (slotSize * uAt p 1 1 + uAt p 4 4) (uAt p 2 2)) s := by
  have hidle : (!s.host.boot.srcHost && decide (uAt p 1 1 = s.host.boot.slot)) = false := by
    rcases hrun with h | h <;> simp [h]
  have hin : ¬ slotSize ≤ uAt p 4 4 := by omega
  have hsome : uAt p 2 2 ≠ 0 := by omega
  unfold fwFlashReply
  dsimp only
  rw [hidle]
  refine (guarded_pass s _ ?_).trans (if_pos hop)
  simp [hc, hop, hsome, hin, Nat.not_lt.mpr hslot, Nat.not_lt.mpr h192, Nat.not_lt.mpr htop]

/-- An erase or a program waits: for the save of the record that says UNKNOWN, or for the flash where it says so already. -/
theorem fwFlashReply_change (hop : uAt p 0 1 ≤ 1)
    (hlen : if uAt p 0 1 = 0 then uAt p 2 2 = 0 ∧ uAt p 4 4 % 65536 = 0 else 1 ≤ uAt p 2 2 ∧ uAt p 2 2 ≤ 192)
    (hin : uAt p 4 4 < slotSize) (hsave : s.savingNow 0 = false) :
    fwFlashReply c p s = { ret := retOK, wait := true, s := (
      if s.bootNext.state (uAt p 1 1) = 0
        then s.modHost fun h => { h with flashOp := some (uAt p 0 1, uAt p 1 1, uAt p 4 4, p.drop 8, c) }
        else s.saveBoot (s.bootNext.set (uAt p 1 1) 0 0) (some c) (.flash (uAt p 0 1) (uAt p 1 1) (uAt p 4 4) (p.drop 8))) } := by
  have hidle : (!s.host.boot.srcHost && decide (uAt p 1 1 = s.host.boot.slot)) = false := by
    rcases hrun with h | h <;> simp [h]
  have hsize : (if uAt p 0 1 = 0 then decide (uAt p 2 2 ≠ 0) || decide (uAt p 4 4 % 65536 ≠ 0)
      else decide (uAt p 2 2 = 0) || decide (192 < uAt p 2 2)) = false := by
    split at hlen
    next h0 => simp [h0, hlen]
    next h0 => simp [h0, Nat.not_lt.mpr hlen.2, Nat.ne_of_gt hlen.1]
  have hread : uAt p 0 1 ≠ 2 := by omega
  have hknown : ¬ 2 < uAt p 0 1 := by omega
  unfold fwFlashReply
  dsimp only
  rw [hidle, hsize]
  refine (guarded_pass s _ ?_).trans (if_neg hread)
  simp [hc, hread, hknown, hsave, Nat.not_lt.mpr hslot, Nat.not_lt.mpr htop, Nat.not_le.mpr hin]

end

/-! ## BOOT_CONFIRM and BOOT_PROFILE_SET (R409, R420) -/

theorem bootConfirmReply_waits (hc : bootDenied c = false) (hsrc : s.host.boot.srcHost = false) (hact : uAt p 0 1 ≤ 1) (hr : uAt p 1 3 = 0)
    (hsave : s.savingNow 0 = false) :
    bootConfirmReply c p s = { ret := retOK, wait := true, s := (
      if uAt p 0 1 = 0 then s.saveBoot (s.bootNext.set s.host.boot.slot 2 0) (some c) .confirm
      else s.saveBoot { s.bootNext.set (1 - s.host.boot.slot) 1 3 with pref := 1 - s.host.boot.slot } (some c) .none) } := by
  unfold bootConfirmReply
  simp [rsv, hc, hsrc, hr, hsave, Nat.not_lt.mpr hact]

section
variable (hc : bootDenied c = false) (hd : uAt p 0 1 < 8) (hup : s.dieUp (uAt p 0 1) = true) (hfl : uAt p 3 1 < 4) (hkind : uAt p 1 1 ≤ 4)
  (hlead : uAt p 1 1 = 0 → uAt p 0 1 = 0) (hopll : uAt p 1 1 = 1 → uAt p 2 1 < 4) (hout : uAt p 1 1 = 2 → uAt p 2 1 < 16)
  (hidx : uAt p 1 1 ≠ 1 → uAt p 1 1 ≠ 2 → uAt p 2 1 = 0) (hrun : uAt p 1 1 ≠ 2 → (uAt p 3 1).testBit 1 = false) (hr : uAt p 4 4 = 0)
  (hblk : (uAt p 3 1).testBit 0 = true ∨ 3 ≤ uAt p 1 1 → s.blockBad (uAt p 0 1) (uAt p 1 1) (uAt p 2 1) ((p.drop 8).take 32) = false)
  (habs : (uAt p 3 1).testBit 0 = true → s.blockAbsent (uAt p 1 1) ((p.drop 8).take 32) = false)
  (hsave : 3 ≤ uAt p 1 1 → s.savingNow (uAt p 0 1) = false)
include hc hd hup hfl hkind hlead hopll hout hidx hrun hr hblk habs hsave

/-- The last two kinds save and clear the profile, the others edit an entry of the staging copy. -/
theorem bootProfileSetReply_ok :
    bootProfileSetReply c p s =
      if uAt p 1 1 = 3 then
        { ret := retOK, wait := true, s := s.queueSave (uAt p 0 1) 5 false (.profile (s.dx (uAt p 0 1)).staging) (some c) .none }
      else if uAt p 1 1 = 4 then { ret := retOK, wait := true, s := s.queueSave (uAt p 0 1) 5 true .none (some c) .none }
      else okReply (s.modDx (uAt p 0 1) fun x =>
        { x with staging := x.staging.edit (uAt p 1 1) (uAt p 2 1) ((uAt p 3 1).testBit 0) ((uAt p 3 1).testBit 1) ((p.drop 8).take 32) }) := by
  have hfit : s.fitted (uAt p 0 1) = true := (Bool.and_eq_true_iff.mp hup).1
  have habsent : ((uAt p 3 1).testBit 0 && s.blockAbsent (uAt p 1 1) ((p.drop 8).take 32)) = false := by
    cases h : (uAt p 3 1).testBit 0 with
    | false => rfl
    | true => exact habs h
  have hblock : (((uAt p 3 1).testBit 0 || decide (3 ≤ uAt p 1 1)) && s.blockBad (uAt p 0 1) (uAt p 1 1) (uAt p 2 1) ((p.drop 8).take 32)) = false := by
    by_cases h : (uAt p 3 1).testBit 0 = true ∨ 3 ≤ uAt p 1 1
    · rw [hblk h, Bool.and_false]
    · simp only [not_or] at h
      simp [h]
  have hbusy : (decide (3 ≤ uAt p 1 1) && s.savingNow (uAt p 0 1)) = false := by
    by_cases h : 3 ≤ uAt p 1 1
    · simp [hsave h]
    · simp [h]
  have hunit : (decide (uAt p 1 1 = 1) && decide (4 ≤ uAt p 2 1)) = false ∧ (decide (uAt p 1 1 = 2) && decide (16 ≤ uAt p 2 1)) = false ∧
      (decide (uAt p 1 1 ≠ 1) && decide (uAt p 1 1 ≠ 2) && decide (uAt p 2 1 ≠ 0)) = false ∧
      (decide (uAt p 1 1 = 0) && decide (uAt p 0 1 ≠ 0)) = false := by
    simp only [Bool.and_eq_false_iff, decide_eq_false_iff_not]
    omega
  have hflag : (decide (uAt p 1 1 ≠ 2) && (uAt p 3 1).testBit 1) = false := by
    by_cases h : uAt p 1 1 = 2
    · simp [h]
    · rw [hrun h, Bool.and_false]
  obtain ⟨hu1, hu2, hu3, hu4⟩ := hunit
  unfold bootProfileSetReply
  dsimp only
  rw [habsent, hblock, hbusy, hu1, hu2, hu3, hu4, hflag]
  simp [dieAbsent, dieDown, hc, hup, hfit, rsv, hr, Nat.not_le.mpr hd, Nat.not_lt.mpr hkind, Nat.not_le.mpr hfl]

end

/-- Settles O8: each command is ready and its checks pass, so it acknowledges with its effect, or waits for its page writes or for the flash.
That FW_FLASH first saves UNKNOWN for the slot is the model's choice (log entry 40). -/
theorem bootCommandsComplete : Obligations.BootCommandsComplete := by
  unfold Obligations.BootCommandsComplete
  intro s c m p
  refine ⟨fun h hc himg hr => ?load, fun l u h hc hdl hr hlead hleadLen hunit hunitLen hpair hbody hunitBody => ?start,
    fun h hc hop hread hslot hrun h1 h192 htop => ?read, fun h hc hop hchange hslot hrun hlen htop hin hsave => ?change,
    fun h hc hsrc hact hr hsave => ?confirm, fun h hc hd hup hfl => ?profile⟩
  case load =>
    intro old hoff h1 h192 htop
    exact State.runCmd_acks h (bootLoadReply_header hc himg hr hoff h1 h192 htop)
  case start =>
    obtain ⟨hl, hu, hhost⟩ := s.startPair_boot l u
    exact ⟨_, State.runCmd_acks h (bootStartReply_good hc hdl hr hlead hleadLen hunit hunitLen hpair hbody hunitBody), hl, hu, hhost,
      fun j hj => s.startPair_masked l u hj⟩
  case read => exact (congrArg fin (if_neg (by simp [hop]))).trans (State.runCmd_acks h (fwFlashReply_read hc hslot hrun htop hread h1 h192))
  case change =>
    exact (congrArg fin (if_neg (by simp [hop]))).trans (State.runCmd_waits h (fwFlashReply_change hc hslot hrun htop hchange hlen hin hsave))
  case confirm =>
    refine (State.runCmd_waits h (bootConfirmReply_waits hc hsrc hact hr hsave)).trans ?_
    refine congrArg Host.Outcome.next ?_
    split <;> rfl
  case profile =>
    intro d kind idx present blk hkind hlead hopll hout hidx hrun hr hblk habs hsave
    have hreply := bootProfileSetReply_ok hc hd hup hfl hkind hlead hopll hout hidx hrun hr hblk habs hsave
    split
    next h3 => exact State.runCmd_waits h (hreply.trans (if_pos h3))
    next h3 =>
      split
      next h4 => exact State.runCmd_waits h (hreply.trans ((if_neg h3).trans (if_pos h4)))
      next h4 => exact State.runCmd_acks h (hreply.trans ((if_neg h3).trans (if_neg h4)))

end Sys2Proof.Machine
end

section
/-! SUPPORT. What the fabric, the units and the logs leave of boot: the boot state, and of every die the mode of its CP, the start of its ROM
and the image it holds (R386 to R394). -/

namespace Sys2Proof.Machine
open Sys2Proof

/-- What boot turns on: the boot state, and of each die the mode of its CP, the start of its ROM and the image it holds. -/
def State.bootView (s : State) : Boot × (Nat → Nat × Bool × Bool) :=
  (s.host.boot, fun j => ((s.dx j).mode, (s.dx j).rom, (s.dx j).gotImage))

section
variable {s t : State} (h : t.bootView = s.bootView)
include h

theorem State.boot_of_bootView : t.host.boot = s.host.boot := congrArg Prod.fst h
theorem State.mode_of_bootView (d : Nat) : (t.dx d).mode = (s.dx d).mode := congrArg (fun v => (v.2 d).1) h
theorem State.rom_of_bootView (d : Nat) : (t.dx d).rom = (s.dx d).rom := congrArg (fun v => (v.2 d).2.1) h
theorem State.gotImage_of_bootView (d : Nat) : (t.dx d).gotImage = (s.dx d).gotImage := congrArg (fun v => (v.2 d).2.2) h

end

variable (s : State)

@[simp] theorem ite_bootView (c : Prop) [Decidable c] (a b : State) : (if c then a else b).bootView = if c then a.bootView else b.bootView := by
  split <;> rfl
@[simp] theorem State.forEach_bootView (ns : List Nat) (f : State → Nat → State) (h : ∀ t n, (f t n).bootView = t.bootView) :
    (s.forEach ns f).bootView = s.bootView := State.forEach_keep State.bootView f h ns s
@[simp] theorem foldl_bootView {α : Type} (l : List α) (f : State → α → State) (h : ∀ t a, (f t a).bootView = t.bootView) :
    (l.foldl f s).bootView = s.bootView := by
  induction l generalizing s with
  | nil => rfl
  | cons a l ih => rw [List.foldl_cons, ih, h]

theorem State.modDx_bootView (d : Nat) {f : DieX → DieX} (h : ∀ x, (f x).mode = x.mode ∧ (f x).rom = x.rom ∧ (f x).gotImage = x.gotImage) :
    (s.modDx d f).bootView = s.bootView := by
  obtain ⟨hmode, hrom, himage⟩ := h (s.dx d)
  refine Prod.ext rfl (funext fun j => ?_)
  unfold State.bootView
  dsimp only
  rw [State.modDx_dx]
  split
  next hj => rw [hj, hmode, hrom, himage]
  next => rfl

theorem State.modHost_bootView {f : HostSide → HostSide} (h : ∀ x, (f x).boot = x.boot) : (s.modHost f).bootView = s.bootView :=
  Prod.ext (h s.host) rfl

@[simp] theorem State.modDie_bootView (d : Nat) (f : Die → Die) : (s.modDie d f).bootView = s.bootView := (rfl)
@[simp] theorem State.modLink_bootView (d l : Nat) (f : LinkPort → LinkPort) : (s.modLink d l f).bootView = s.bootView := (rfl)
@[simp] theorem State.modChan_bootView (n : Nat) (f : TdcChan → TdcChan) : (s.modChan n f).bootView = s.bootView := (rfl)
@[simp] theorem State.modInput_bootView (n : Nat) (f : InputUnit → InputUnit) : (s.modInput n f).bootView = s.bootView := (rfl)
@[simp] theorem State.modTd_bootView (n : Nat) (f : TdUnit → TdUnit) : (s.modTd n f).bootView = s.bootView := (rfl)
@[simp] theorem State.modDpll_bootView (n : Nat) (f : DpllUnit → DpllUnit) : (s.modDpll n f).bootView = s.bootView := (rfl)
@[simp] theorem State.modEv_bootView (n : Nat) (f : EvUnit → EvUnit) : (s.modEv n f).bootView = s.bootView := (rfl)
@[simp] theorem State.setCrossing_bootView (n : Nat) (u : Crossing) : (s.setCrossing n u).bootView = s.bootView := (rfl)

/-! ## The fabric (R62, R334, R347, R348) -/

@[simp] theorem State.post_bootView (d : Nat) (f : Frame) : (s.post d f).bootView = s.bootView := by
  obtain ⟨x, e⟩ := s.post_eq d f
  rw [e]
  rfl

@[simp] theorem State.recordLost_bootView (r : BitVec 128) : (s.recordLost r).bootView = s.bootView := (rfl)

/-- Lost frames touch the ports, the dies' buffers and the requests on their way. -/
@[simp] theorem State.lose_bootView (fs : List Frame) : (s.lose fs).bootView = s.bootView := by
  unfold State.lose
  refine foldl_bootView s fs _ fun t f => ?_
  split
  · rfl
  · rfl
  · split
    · exact t.post_bootView 0 _
    · exact t.modDx_bootView _ fun _ => ⟨rfl, rfl, rfl⟩
  · exact foldl_bootView t _ _ State.recordLost_bootView
  · rfl

@[simp] theorem State.flushLink_bootView (d l : Nat) : (s.flushLink d l).bootView = s.bootView := by
  unfold State.flushLink
  split
  · rfl
  · simp

@[simp] theorem State.exchAnew_bootView (d : Nat) : (s.exchAnew d).bootView = s.bootView := by
  unfold State.exchAnew
  split <;> rfl

@[simp] theorem State.viewsDown_bootView (d : Nat) : (s.viewsDown d).bootView = s.bootView := by
  unfold State.viewsDown
  simp

@[simp] theorem State.refreshUp_bootView : s.refreshUp.bootView = s.bootView := by
  unfold State.refreshUp
  simp

@[simp] theorem State.allLinksDown_bootView : s.allLinksDown.bootView = s.bootView := by
  unfold State.allLinksDown
  simp

/-! ## TB_CTRL (R38, R41, R42, R585) -/

@[simp] theorem State.pairEdge_bootView (e x : Nat) : (s.pairEdge e x).bootView = s.bootView := by
  unfold State.pairEdge
  dsimp only
  repeat' split
  all_goals rfl

@[simp] theorem State.pairAll_bootView : s.pairAll.bootView = s.bootView := by
  unfold State.pairAll State.pairRun
  simp

@[simp] theorem State.predictorsOff_bootView (d : Nat) : (s.predictorsOff d).bootView = s.bootView := by
  unfold State.predictorsOff
  simp

@[simp] theorem State.linksUnseen_bootView : s.linksUnseen.bootView = s.bootView := (rfl)

@[simp] theorem State.tbOff_bootView : s.tbOff.bootView = s.bootView := by
  unfold State.tbOff
  simp
  rfl

@[simp] theorem State.setMaster_bootView (m : Bool) (f : Nat) : (s.setMaster m f).bootView = s.bootView := by
  unfold State.setMaster State.oneModel
  dsimp only
  repeat' split
  all_goals rfl

@[simp] theorem State.writeTbCtrl_bootView (w : Word) : (s.writeTbCtrl w).bootView = s.bootView := by
  unfold State.writeTbCtrl
  dsimp only
  split
  · split
    · rfl
    · exact State.tbOff_bootView _
  · split <;> exact s.setMaster_bootView _ _

/-! ## Firmware's start, the saves and the logs (R372, R403, R453, R515) -/

@[simp] theorem State.startEngines_bootView (d : Nat) : (s.startEngines d).bootView = s.bootView :=
  State.forEach_bootView s _ _ fun _ _ => rfl

@[simp] theorem State.planKnown_bootView (d : Nat) : (s.planKnown d).bootView = s.bootView := (rfl)

@[simp] theorem State.queueSave_bootView (d id : Nat) (void : Bool) (body : RecBody) (chan : Option Nat) (fin : NvFin) :
    (s.queueSave d id void body chan fin).bootView = s.bootView :=
  s.modDx_bootView d fun _ => ⟨rfl, rfl, rfl⟩

@[simp] theorem State.saveBoot_bootView (r : BootRec) (chan : Option Nat) (fin : NvFin) : (s.saveBoot r chan fin).bootView = s.bootView :=
  s.queueSave_bootView 0 6 false (.boot r) chan fin

@[simp] theorem State.openChannels_bootView : s.openChannels.bootView = s.bootView :=
  State.forEach_bootView s _ _ fun _ _ => rfl

@[simp] theorem State.happen_bootView (e : EventEntry) : (s.happen e).bootView = s.bootView := by
  have hlog : ((s.forEach (List.range 8) fun x c => x.modMbx c fun m => m.event e).modHost fun h => h.logRam
      { up := s.host.boot.uptime, sev := sevOf e.cls e.sub e.data, die := dieOfEvent e.cls e.sub e.unit, owner := s.ownerFor e, ev := e }).bootView =
      s.bootView := by
    rw [State.modHost_bootView _ fun h => HostSide.logRam_boot h _]
    exact State.forEach_bootView s _ _ fun _ _ => rfl
  unfold State.happen
  dsimp only
  split
  · rw [State.queueSave_bootView, State.modHost_bootView _ fun h => HostSide.logNv_boot h _, hlog]
  · exact hlog

end Sys2Proof.Machine
end

section
/-! SUPPORT. Boot, from the ROM's start to the open mailboxes, and the end of a flash operation (R386 to R403, R410). -/

namespace Sys2Proof.Machine
open Sys2Proof

variable (s : State)

/-! ## The ROM's own modes (R386, R395) -/

theorem State.enterSafe_boot : s.enterSafe.host.boot = { s.host.boot.noImage with safe := true, download := false, major := 1, minor := 0, step := 0 } :=
  State.boot_of_bootView (State.openChannels_bootView _)

theorem State.enterSafe_mode : (s.enterSafe.dx 0).mode = 1 := by
  unfold State.enterSafe
  rw [State.mode_of_bootView (State.openChannels_bootView _), State.modDx_dx, if_pos rfl]

theorem State.enterSafe_rom (d : Nat) : (s.enterSafe.dx d).rom = (s.dx d).rom := by
  unfold State.enterSafe
  rw [State.rom_of_bootView (State.openChannels_bootView _), State.modDx_dx]
  split
  next h => rw [h]; rfl
  next => rfl

theorem State.enterDownload_boot : s.enterDownload.host.boot =
    { s.host.boot.noImage with download := true, safe := false, major := 1, minor := 0, step := 0, leadBuf := [], unitBuf := [] } :=
  State.boot_of_bootView (State.openChannels_bootView _)

theorem State.enterDownload_rom (d : Nat) : (s.enterDownload.dx d).rom = (s.dx d).rom :=
  State.rom_of_bootView (State.openChannels_bootView _) d

/-! ## The ROM's search for a slot (R388, R392) -/

/-- `P` outlives every move of the search: a save of the boot record, the verdict on a slot, a mode of the ROM and the choice of a pair. -/
structure SearchKeeps (P : State → Prop) : Prop where
  save : ∀ t r, P t → P (t.saveBoot r none .none)
  judge : ∀ t (f : Boot → Nat) (g : Boot → List Nat), P t → P (t.modBoot fun x => { x with failCause := f x, tried := g x })
  safe : ∀ t, P t → P t.enterSafe
  download : ∀ t, P t → P t.enterDownload
  choose : ∀ t slot trial l u pref, P t → P (t.modBoot fun x => x.choose slot trial l u pref)

variable {s}

theorem SearchKeeps.noSlot {P : State → Prop} (h : SearchKeeps P) (hs : P s) : P s.noSlot := by
  unfold State.noSlot
  dsimp only
  split
  · exact h.download _ (h.judge s _ Boot.tried hs)
  · exact h.safe _ (h.judge s _ Boot.tried hs)

theorem SearchKeeps.trySlots {P : State → Prop} (h : SearchKeeps P) (pref : Nat) (bs : List Nat) (hs : P s) : P (s.trySlots pref bs) := by
  induction bs generalizing s with
  | nil => exact h.noSlot hs
  | cons b bs ih =>
    unfold State.trySlots
    dsimp only
    split
    · exact ih hs
    split
    · exact ih (h.save s _ hs)
    split
    · exact h.safe _ (h.judge s (fun _ => 7) Boot.tried hs)
    · exact ih (h.judge s _ _ hs)
    · refine h.choose _ _ _ _ _ _ ?_
      split
      · exact h.save s _ hs
      · exact hs

theorem SearchKeeps.bootSlots {P : State → Prop} (h : SearchKeeps P) (hs : P s) : P s.bootSlots := h.trySlots _ _ hs

theorem searchKeeps_rom : SearchKeeps fun t => (t.dx 0).rom = true where
  save t r ht := (State.rom_of_bootView (t.saveBoot_bootView r none .none) 0).trans ht
  judge _ _ _ ht := ht
  safe t ht := (t.enterSafe_rom 0).trans ht
  download t ht := (t.enterDownload_rom 0).trans ht
  choose _ _ _ _ _ _ ht := ht

theorem searchKeeps_ovrValid : SearchKeeps fun t => t.host.boot.ovrValid = false where
  save t r ht := (congrArg Boot.ovrValid (State.boot_of_bootView (t.saveBoot_bootView r none .none))).trans ht
  judge _ _ _ ht := ht
  safe t ht := (congrArg Boot.ovrValid t.enterSafe_boot).trans ht
  download t ht := (congrArg Boot.ovrValid t.enterDownload_boot).trans ht
  choose _ _ _ _ _ _ ht := ht

/-- No image of the slots runs before its body is checked. -/
theorem searchKeeps_step : SearchKeeps fun t => t.host.boot.step ≤ 1 where
  save t r ht := (congrArg Boot.step (State.boot_of_bootView (t.saveBoot_bootView r none .none))).trans_le ht
  judge _ _ _ ht := ht
  safe t _ := (congrArg Boot.step t.enterSafe_boot).trans_le (Nat.zero_le 1)
  download t _ := (congrArg Boot.step t.enterDownload_boot).trans_le (Nat.zero_le 1)
  choose _ _ _ _ _ _ _ := le_refl 1

/-! ## BOOT_ROM_START (R386, R389, R397, R540) -/

theorem State.romRead_rom (s : State) (d : Nat) : ((s.romRead d).dx d).rom = true := by
  unfold State.romRead
  dsimp only
  rw [State.modDie_dx_same, State.modDx_dx, if_pos rfl]

/-- The ROM of die 0 has read its record and its profile, and its source is chosen. -/
def State.romChecked (s : State) (src : Nat) : State :=
  ((s.romRead 0).modBoot fun x => { x with ovrValid := false, src := src, tried := [], failCause := 0 }).profileTb

theorem State.profileTb_rom (s : State) (d : Nat) : (s.profileTb.dx d).rom = (s.dx d).rom := by
  unfold State.profileTb
  split
  · split
    · rfl
    · exact State.rom_of_bootView (s.writeTbCtrl_bootView _) d
  · rfl

theorem State.profileTb_ovrValid (s : State) : s.profileTb.host.boot.ovrValid = s.host.boot.ovrValid := by
  unfold State.profileTb
  split
  · split
    · rfl
    · rw [State.boot_of_bootView (s.writeTbCtrl_bootView _)]
  · rfl

theorem State.romChecked_rom (s : State) (src : Nat) : ((s.romChecked src).dx 0).rom = true :=
  (State.profileTb_rom _ 0).trans (s.romRead_rom 0)

theorem State.romChecked_ovrValid (s : State) (src : Nat) : (s.romChecked src).host.boot.ovrValid = false := State.profileTb_ovrValid _

theorem State.romStart_boot (hsys : (s.die 0).sysLock = true) (hrom : (s.dx 0).rom = false) (hphase : s.belay.phase ≠ 3) (strap : Nat) :
    s.romStart strap =
      let src := if s.host.boot.ovrValid then s.host.boot.ovrSrc else strap % 4
      if src = 3 then (s.romChecked src).enterSafe else if src = 1 then (s.romChecked src).enterDownload else (s.romChecked src).bootSlots := by
  unfold State.romStart
  rw [if_pos (by rw [hsys, hrom]; rfl), if_neg hphase]
  rfl

/-- The exit from belay takes TB_EN from the retention store (R540). -/
theorem State.romStart_exit (hsys : (s.die 0).sysLock = true) (hrom : (s.dx 0).rom = false) (hphase : s.belay.phase = 3) (strap : Nat) :
    s.romStart strap = State.bootAgain { s.romRead 0 with
      tb := { (s.romRead 0).tb with tbEn := s.belay.tbEn && !oscBad (s.romRead 0).tb.oscFreq } } := by
  unfold State.romStart
  rw [if_pos (by rw [hsys, hrom]; rfl), if_pos hphase]

theorem State.bootAgain_rom (h : (s.dx 0).rom = true) : (s.bootAgain.dx 0).rom = true := by
  unfold State.bootAgain
  dsimp only
  split
  · rw [State.modBelay_dx_same, State.enterSafe_rom, h]
  split
  · rw [State.modBelay_dx_same, State.enterDownload_rom, h]
  split
  · rw [State.modBoot_dx_same, h]
  · rw [State.enterSafe_rom, State.modBoot_dx_same, h]
  · refine searchKeeps_rom.bootSlots ?_
    rw [State.modBoot_dx_same, h]

/-! ## The unit image (R389, R394) -/

theorem mem_range_drop_one {d n : Nat} (h0 : d ≠ 0) (hn : d < n) : d ∈ (List.range n).drop 1 := by
  rw [List.range_eq_range', List.drop_range']
  simp
  omega

theorem State.streamUnit_boot (s : State) (b : Bool) : (s.streamUnit b).host.boot = s.host.boot := by
  refine State.forEach_keep (fun t => t.host.boot) _ (fun t d => ?_) _ s
  split <;> rfl

/-- A follower whose ROM waits holds the image once it has been sent over a route that is up. -/
theorem State.streamUnit_gotImage {d : Nat} (h0 : d ≠ 0) (hfit : s.fitted d = true) (hroute : s.routeUp 0 d = true) (hmode : (s.dx d).mode = 0)
    (hrom : (s.dx d).rom = true) (b : Bool) : ((s.streamUnit b).dx d).gotImage = true := by
  refine State.forEach_reaches (fun t => (t.dx d).gotImage = true) _ (fun t n ht => ?_) (fun t => ?_)
    (mem_range_drop_one h0 (of_decide_eq_true hfit)) s
  · split
    · rw [State.modDx_dx]
      split
      · rfl
      · exact ht
    · exact ht
  · rw [if_pos (by simp [hroute, hmode, hrom]), State.modDx_dx, if_pos rfl]

/-- A follower that has come up too late for an image that came from the host. -/
theorem State.unitStreamed_noImage (hlead : (s.dx 0).mode ≠ 3) (hstep : 3 ≤ s.host.boot.step) (hsrc : s.host.boot.srcHost = true) {d : Nat}
    (h0 : d ≠ 0) (hfit : s.fitted d = true) (hpath : s.hasPath d = true) (hmode : (s.dx d).mode = 0) (hrom : (s.dx d).rom = true)
    (himage : (s.dx d).gotImage = false) : s.unitStreamed.host.boot.folNoimg.testBit d = true := by
  unfold State.unitStreamed
  dsimp only
  rw [if_neg hlead, if_neg (by omega), if_neg (by simp [hsrc]), if_pos hstep]
  refine State.forEach_reaches (fun t => t.host.boot.folNoimg.testBit d = true) _ (fun t n ht => ?_) (fun t => ?_)
    (mem_range_drop_one h0 (of_decide_eq_true hfit)) s
  · split
    · exact (Nat.testBit_or _ _ _).trans (by rw [ht, Bool.true_or])
    · exact ht
  · rw [if_pos (by simp [hpath, hmode, hrom, himage])]
    exact (Nat.testBit_or _ _ _).trans (by rw [Nat.testBit_two_pow_self, Bool.or_true])

theorem State.unitStreamed_sends (hlead : (s.dx 0).mode ≠ 3) (hstep : s.host.boot.step = 1 ∨ 3 ≤ s.host.boot.step ∧ s.host.boot.srcHost = false) :
    s.unitStreamed.host.boot.step = (if s.host.boot.step = 1 then 2 else s.host.boot.step) ∧ s.unitStreamed.xs = (s.streamUnit false).xs := by
  unfold State.unitStreamed
  dsimp only
  rw [if_neg hlead]
  by_cases h1 : s.host.boot.step = 1
  · rw [if_pos h1, if_pos h1]
    exact ⟨rfl, rfl⟩
  · obtain ⟨h3, hsrc⟩ := hstep.resolve_left h1
    rw [if_neg h1, if_neg h1, if_pos ⟨h3, by rw [hsrc]; rfl⟩, State.streamUnit_boot]
    exact ⟨rfl, rfl⟩

/-! ## FOLLOWER_IMAGE_START (R391, R393) -/

/-- The checks of the ROM of a follower that holds a unit image. -/
def State.followerOk (s : State) (d : Nat) : Bool :=
  let i := s.unitImage (s.dx d).gotHost
  decide (s.manCheck d 2 i.1 = 0) && bodyOk i.1 i.2

/-- Die `d` runs the firmware of the image it holds, before its engines start. -/
def State.followerRuns (s : State) (d : Nat) : State :=
  (((s.modDx d fun y => { y with mode := 2, gotImage := false, bootedOnce := true }).modDie d fun u => { u with booted := true }).modBoot fun b =>
    { b with folSafe := clrBit b.folSafe d, folNoimg := clrBit b.folNoimg d }).planKnown d

/-- Die `d` enters safe mode. -/
def State.followerSafe (s : State) (d : Nat) : State :=
  (s.modDx d fun y => { y with mode := 1, gotImage := false }).modBoot fun b => { b with folSafe := b.folSafe ||| 2 ^ d }

theorem State.followerStart_eq {d : Nat} (h0 : d ≠ 0) (hfit : s.fitted d = true) (himage : (s.dx d).gotImage = true) (hmode : (s.dx d).mode = 0) :
    s.followerStart d = if s.followerOk d then ((s.followerRuns d).startEngines d).refreshUp else s.followerSafe d := by
  unfold State.followerStart
  dsimp only
  rw [if_neg (by simp [h0, hfit, himage, hmode])]
  rfl

theorem State.startEngines_die (s : State) (d j : Nat) : (s.startEngines d).die j = s.die j :=
  State.forEach_keep (fun t => t.die j) (fun x e => x.installDefault e) (fun _ _ => rfl) _ s

theorem State.followerRuns_dx (s : State) (d : Nat) : (s.followerRuns d).dx d = { s.dx d with mode := 2, gotImage := false, bootedOnce := true } := by
  unfold State.followerRuns State.planKnown
  rw [State.modHost_dx_same, State.modBoot_dx_same, State.modDie_dx_same, State.modDx_dx, if_pos rfl]

theorem State.followerRuns_booted (s : State) (d : Nat) : ((s.followerRuns d).die d).booted = true := by
  unfold State.followerRuns State.planKnown
  rw [State.modHost_die_same, State.modBoot_die_same, State.modDie_die, if_pos rfl]

theorem State.followerSafe_dx (s : State) (d : Nat) : (s.followerSafe d).dx d = { s.dx d with mode := 1, gotImage := false } := by
  unfold State.followerSafe
  rw [State.modBoot_dx_same, State.modDx_dx, if_pos rfl]

theorem State.followerSafe_folSafe (s : State) (d : Nat) : (s.followerSafe d).host.boot.folSafe.testBit d = true :=
  (Nat.testBit_or _ _ _).trans (by rw [Nat.testBit_two_pow_self, Bool.or_true])

/-- The firmware of a follower whose checks pass runs on a booted die. -/
theorem State.followerStart_good {d : Nat} (h0 : d ≠ 0) (hfit : s.fitted d = true) (himage : (s.dx d).gotImage = true) (hmode : (s.dx d).mode = 0)
    (hok : s.followerOk d = true) :
    ((s.followerStart d).dx d).mode = 2 ∧ ((s.followerStart d).dx d).gotImage = false ∧ ((s.followerStart d).die d).booted = true := by
  have hview : ((s.followerRuns d).startEngines d).refreshUp.bootView = (s.followerRuns d).bootView := by
    rw [State.refreshUp_bootView, State.startEngines_bootView]
  rw [State.followerStart_eq h0 hfit himage hmode, if_pos hok, State.mode_of_bootView hview, State.gotImage_of_bootView hview, State.followerRuns_dx]
  refine ⟨rfl, rfl, ?_⟩
  rw [State.read_of_steady (congrFun (State.refreshUp_steady _) d) Die.booted fun _ => rfl, State.startEngines_die, State.followerRuns_booted]

/-- A follower whose checks fail enters safe mode and says so. -/
theorem State.followerStart_bad {d : Nat} (h0 : d ≠ 0) (hfit : s.fitted d = true) (himage : (s.dx d).gotImage = true) (hmode : (s.dx d).mode = 0)
    (hok : s.followerOk d = false) :
    ((s.followerStart d).dx d).mode = 1 ∧ ((s.followerStart d).dx d).gotImage = false ∧
      (s.followerStart d).host.boot.folSafe.testBit d = true := by
  rw [State.followerStart_eq h0 hfit himage hmode, if_neg (by rw [hok]; exact Bool.false_ne_true), State.followerSafe_dx]
  exact ⟨rfl, rfl, s.followerSafe_folSafe d⟩

end Sys2Proof.Machine
end

section
/-! SUPPORT. The firmware's start, the open mailboxes and the end of a flash operation (R394 to R396, R400, R403, R410). -/

namespace Sys2Proof.Machine
open Sys2Proof

variable {s : State}

/-! ## LEAD_IMAGE_START (R394, R395) -/

/-- The lead firmware runs with the API of its manifests, before its engines start. -/
def State.leadRuns (s : State) : State :=
  let b := s.host.boot
  (s.modBoot fun x => { x with step := 3, safe := false, download := false, major := manField b.lead (·.major),
                               minor := min (manField b.lead (·.minor)) (manField b.unit (·.minor)), uptime := 0 }).modDx 0 fun y =>
    { y with mode := 2, bootedOnce := true }

/-- The body failed: the ROM has tried the slot and searches again. -/
def State.leadFails (s : State) : State :=
  s.modBoot fun x => { x.noImage with failCause := 5, tried := x.tried ++ [s.host.boot.slot], step := 0 }

theorem State.leadStart_eq (hstep : s.host.boot.step = 2) (hmode : (s.dx 0).mode ≠ 3) (hsaves : s.bootSaves = false) :
    s.leadStart = if bodyOk s.leadImage.1 s.leadImage.2 then s.leadRuns.startEngines 0 else s.leadFails.bootSlots := by
  unfold State.leadStart
  dsimp only
  rw [if_neg (by simp [hstep, hmode, hsaves])]
  rfl

theorem State.leadStart_idle (h : (s.dx 0).mode = 3 ∨ s.bootSaves = true) : s.leadStart = s := if_pos (Or.inr h)

theorem State.leadRuns_mode (s : State) : (s.leadRuns.dx 0).mode = 2 := by
  unfold State.leadRuns
  rw [State.modDx_dx, if_pos rfl]

theorem State.leadFails_search (s : State) : s.leadFails.bootSlots.host.boot.step ≤ 1 := searchKeeps_step.bootSlots (Nat.zero_le 1)

/-! ## MAILBOX_OPEN (R400, R403) -/

/-- What a command's admission turns on: the open sessions, the read-only ones, and of each channel its session, its message and its mask. -/
def State.gates (s : State) : Nat × Nat × (Nat → Option Session × Option Msg × Word) :=
  (s.host.sessions, s.host.roMask, fun c => ((s.mbx c).sess, (s.mbx c).msg, (s.mbx c).h2cMask))

section
variable {t : State} (h : t.gates = s.gates)
include h

theorem State.sessions_of_gates : t.host.sessions = s.host.sessions := congrArg Prod.fst h
theorem State.roMask_of_gates : t.host.roMask = s.host.roMask := congrArg (fun v => v.2.1) h
theorem State.sess_of_gates (c : Nat) : (t.mbx c).sess = (s.mbx c).sess := congrArg (fun v => (v.2.2 c).1) h
theorem State.msg_of_gates (c : Nat) : (t.mbx c).msg = (s.mbx c).msg := congrArg (fun v => (v.2.2 c).2.1) h
theorem State.mask_of_gates (c : Nat) : (t.mbx c).h2cMask = (s.mbx c).h2cMask := congrArg (fun v => (v.2.2 c).2.2) h

end

/-- A channel as a firmware's start leaves it: without session, event and message. -/
def Mbx.reset (m : Mbx) : Mbx := { m with sess := none, queue := [], lost := 0, msg := none, held := [] }

/-- Every channel is reset. -/
def State.channelsReset (s : State) : State := s.forEach (List.range 8) fun x c => x.modMbx c Mbx.reset

/-- Firmware takes its non-volatile log from the record and has everything else anew. -/
def State.firmwareAnew (s : State) : State :=
  s.modHost fun h =>
    { h with ramLog := [], ramSeq := 0, nvLog := s.nvLogRec.1, nvSeq := s.nvLogRec.2, scan := [], cause := [], sessions := 0, roMask := 0,
             abort := { h.abort with log := [], total := 0 }, boot := { h.boot with step := 4 }, spiAuth := false, i2cAuth := false }

/-- Firmware has set up its state and opened the channels, and the reset's cause is not yet logged. -/
def State.firmwareUp (s : State) : State :=
  (s.channelsReset.firmwareAnew.forEach (List.range 8) State.planKnown).openChannels.modBelay fun b => if b.phase = 3 then { b with phase := 0 } else b

theorem State.mailboxOpen_eq (hstep : s.host.boot.step = 3) (hmode : (s.dx 0).mode = 2) : ∃ e, s.mailboxOpen = s.firmwareUp.happen e := by
  unfold State.mailboxOpen
  rw [if_neg (by simp [hstep, hmode])]
  exact ⟨_, rfl⟩

theorem State.modMbx_gates (s : State) (c : Nat) {f : Mbx → Mbx}
    (h : ∀ m, (f m).sess = m.sess ∧ (f m).msg = m.msg ∧ (f m).h2cMask = m.h2cMask) : (s.modMbx c f).gates = s.gates := by
  obtain ⟨hsess, hmsg, hmask⟩ := h (s.mbx c)
  refine Prod.ext rfl (Prod.ext rfl (funext fun j => ?_))
  unfold State.gates
  dsimp only
  rw [State.modMbx_mbx]
  split
  next hj => rw [hj, hsess, hmsg, hmask]
  next => rfl

theorem State.modHost_gates (s : State) {f : HostSide → HostSide}
    (h : ∀ x, (f x).mbx = x.mbx ∧ (f x).sessions = x.sessions ∧ (f x).roMask = x.roMask) : (s.modHost f).gates = s.gates := by
  obtain ⟨hmbx, hsessions, hro⟩ := h s.host
  have hchan (c : Nat) : (s.modHost f).mbx c = s.mbx c := congrArg (fun l => tget ({} : Mbx) l c) hmbx
  exact Prod.ext hsessions (Prod.ext hro (funext fun c => congrArg (fun m : Mbx => (m.sess, m.msg, m.h2cMask)) (hchan c)))

theorem State.logRam_gates (s : State) (l : LogEntry) : (s.modHost fun h => h.logRam l).gates = s.gates :=
  s.modHost_gates fun h => by simp only [HostSide.logRam, and_self]

theorem State.logNv_gates (s : State) (l : LogEntry) : (s.modHost fun h => h.logNv l).gates = s.gates :=
  s.modHost_gates fun h => by simp only [HostSide.logNv, and_self]

theorem State.queueSave_gates (s : State) (d id : Nat) (void : Bool) (body : RecBody) (chan : Option Nat) (fin : NvFin) :
    (s.queueSave d id void body chan fin).gates = s.gates := rfl

theorem Mbx.event_gates (m : Mbx) (e : EventEntry) :
    (m.event e).sess = m.sess ∧ (m.event e).msg = m.msg ∧ (m.event e).h2cMask = m.h2cMask := by
  unfold Mbx.event
  dsimp only
  generalize (decide (e.cls = 15) || _) = sub
  cases sub
  case false => exact ⟨rfl, rfl, rfl⟩
  case true =>
    rw [if_pos rfl]
    split <;> exact ⟨rfl, rfl, rfl⟩

theorem State.happen_gates (s : State) (e : EventEntry) : (s.happen e).gates = s.gates := by
  have hevent : (s.forEach (List.range 8) fun x c => x.modMbx c fun m => m.event e).gates = s.gates :=
    State.forEach_keep State.gates (fun x c => x.modMbx c fun m => m.event e) (fun t c => t.modMbx_gates c fun m => m.event_gates e) _ s
  unfold State.happen
  dsimp only
  split
  · rw [State.queueSave_gates, State.logNv_gates, State.logRam_gates, hevent]
  · rw [State.logRam_gates, hevent]

/-- A channel without session and message. -/
def Mbx.Idle (m : Mbx) : Prop := m.sess = none ∧ m.msg = none

theorem State.channelsReset_idle (s : State) {c : Nat} (hc : c < 8) : (s.channelsReset.mbx c).Idle := by
  refine State.forEach_reaches (fun t => (t.mbx c).Idle) (fun x c => x.modMbx c Mbx.reset) (fun t n ht => ?_) (fun t => ?_) (List.mem_range.mpr hc) s
  · rw [State.modMbx_mbx]
    split
    · exact ⟨rfl, rfl⟩
    · exact ht
  · rw [State.modMbx_mbx, if_pos rfl]
    exact ⟨rfl, rfl⟩

theorem State.firmwareAnew_mbx (s : State) (c : Nat) : s.firmwareAnew.mbx c = s.mbx c := rfl

theorem State.firmwareAnew_host (s : State) :
    s.firmwareAnew.host.boot.step = 4 ∧ s.firmwareAnew.host.sessions = 0 ∧ s.firmwareAnew.host.roMask = 0 := ⟨rfl, rfl, rfl⟩

theorem State.plansKnown_mbx (s : State) (ns : List Nat) (c : Nat) : (s.forEach ns State.planKnown).mbx c = s.mbx c :=
  State.forEach_keep (fun t => t.mbx c) State.planKnown (fun _ _ => rfl) ns s

theorem State.openChannels_idle {c : Nat} (h : (s.mbx c).Idle) : (s.openChannels.mbx c).Idle := by
  refine State.forEach_inv (fun t => (t.mbx c).Idle) (fun x c => x.modMbx c fun m => { m with h2cMask := m.h2cMask &&& ~~~ bm 0 })
    (fun t n ht => ?_) _ s h
  rw [State.modMbx_mbx]
  split
  next hj => rw [← hj]; exact ht
  next => exact ht

theorem State.openChannels_unmasked (s : State) {c : Nat} (hc : c < 8) : bit (s.openChannels.mbx c).h2cMask 0 = false := by
  have hopen (m : Mbx) : bit (m.h2cMask &&& ~~~ bm 0) 0 = false := by simp [bit_clear, bit_bm]
  refine State.forEach_reaches (fun t => bit (t.mbx c).h2cMask 0 = false)
    (fun x c => x.modMbx c fun m => { m with h2cMask := m.h2cMask &&& ~~~ bm 0 }) (fun t n ht => ?_) (fun t => ?_) (List.mem_range.mpr hc) s
  · rw [State.modMbx_mbx]
    split
    · exact hopen _
    · exact ht
  · rw [State.modMbx_mbx, if_pos rfl]
    exact hopen _

theorem State.firmwareUp_idle (s : State) {c : Nat} (hc : c < 8) : (s.firmwareUp.mbx c).Idle := by
  unfold State.firmwareUp
  rw [State.modBelay_mbx_same]
  refine State.openChannels_idle ?_
  rw [State.plansKnown_mbx, State.firmwareAnew_mbx]
  exact s.channelsReset_idle hc

theorem State.firmwareUp_unmasked (s : State) {c : Nat} (hc : c < 8) : bit (s.firmwareUp.mbx c).h2cMask 0 = false := by
  unfold State.firmwareUp
  rw [State.modBelay_mbx_same]
  exact State.openChannels_unmasked _ hc

theorem State.plansKnown_sessions (s : State) (ns : List Nat) : (s.forEach ns State.planKnown).host.sessions = s.host.sessions :=
  State.forEach_keep (fun t => t.host.sessions) State.planKnown (fun _ _ => rfl) ns s

theorem State.plansKnown_roMask (s : State) (ns : List Nat) : (s.forEach ns State.planKnown).host.roMask = s.host.roMask :=
  State.forEach_keep (fun t => t.host.roMask) State.planKnown (fun _ _ => rfl) ns s

theorem State.openChannels_sessions (s : State) : s.openChannels.host.sessions = s.host.sessions :=
  State.forEach_keep (fun t => t.host.sessions) (fun x c => x.modMbx c fun m => { m with h2cMask := m.h2cMask &&& ~~~ bm 0 }) (fun _ _ => rfl) _ s

theorem State.openChannels_roMask (s : State) : s.openChannels.host.roMask = s.host.roMask :=
  State.forEach_keep (fun t => t.host.roMask) (fun x c => x.modMbx c fun m => { m with h2cMask := m.h2cMask &&& ~~~ bm 0 }) (fun _ _ => rfl) _ s

/-- Firmware has no session and no read-only session, and boot has come to its last step. -/
theorem State.firmwareUp_host (s : State) :
    s.firmwareUp.host.boot.step = 4 ∧ s.firmwareUp.host.sessions = 0 ∧ s.firmwareUp.host.roMask = 0 := by
  have hview (t : State) : (t.forEach (List.range 8) State.planKnown).openChannels.bootView = t.bootView := by
    rw [State.openChannels_bootView]
    exact State.forEach_bootView t _ State.planKnown fun u n => u.planKnown_bootView n
  unfold State.firmwareUp
  rw [State.modBelay_host, State.boot_of_bootView (hview _), State.openChannels_sessions, State.plansKnown_sessions, State.openChannels_roMask,
    State.plansKnown_roMask]
  exact s.channelsReset.firmwareAnew_host

/-! ## What follows a command leaves the read-only sessions alone while no channel holds a message (R288, R402) -/

theorem State.alignAck_none (s : State) {c : Nat} (h : (s.mbx c).msg = none) : s.alignAck c = s := by
  unfold State.alignAck
  rw [h]

theorem State.forEach_alignAck_none {ns : List Nat} (h : ∀ c ∈ ns, (s.mbx c).msg = none) : s.forEach ns State.alignAck = s := by
  unfold State.forEach
  induction ns with
  | nil => rfl
  | cons c ns ih =>
    rw [List.foldl_cons, s.alignAck_none (h c List.mem_cons_self)]
    exact ih fun j hj => h j (List.mem_cons_of_mem c hj)

theorem HostSide.sendVec_roMask (h : HostSide) (v : Nat) : (h.sendVec v).roMask = h.roMask := by
  unfold HostSide.sendVec
  split
  · rfl
  · split <;> rfl

theorem HostSide.sendVecs_roMask (h : HostSide) (vs : Nat) : (h.sendVecs vs).roMask = h.roMask := by
  unfold HostSide.sendVecs
  generalize List.range 32 = l
  induction l generalizing h with
  | nil => rfl
  | cons v l ih =>
    rw [List.foldl_cons, ih]
    split
    · exact HostSide.sendVec_roMask _ _
    · rfl

theorem State.settle_roMask (s : State) : s.settle.host.roMask = s.host.roMask := by
  unfold State.settle
  split
  · exact HostSide.sendVecs_roMask s.host _
  · rfl

theorem State.after_roMask (h : ∀ c, c < 8 → (s.mbx c).msg = none) : s.after.host.roMask = s.host.roMask := by
  unfold State.after
  rw [State.settle_roMask, State.forEach_keep (fun t => t.host.roMask) State.wakeDie (fun t n => by rw [State.wakeDie_host]),
    State.forEach_alignAck_none fun c hc => h c (List.mem_range.mp hc)]

/-- Firmware has opened the mailboxes: boot is over, and every channel is open and idle. -/
theorem State.mailboxOpen_opens (hstep : s.host.boot.step = 3) (hmode : (s.dx 0).mode = 2) :
    let t := s.mailboxOpen.after
    t.host.boot.step = 4 ∧ t.host.sessions = 0 ∧ t.host.roMask = 0 ∧
      ∀ c, c < 8 → (t.mbx c).sess = none ∧ (t.mbx c).msg = none ∧ bit (t.mbx c).h2cMask 0 = false := by
  obtain ⟨e, he⟩ := State.mailboxOpen_eq hstep hmode
  have hgates : s.mailboxOpen.gates = s.firmwareUp.gates := by rw [he, State.happen_gates]
  have hboot : s.mailboxOpen.host.boot = s.firmwareUp.host.boot := by rw [he, State.boot_of_bootView (State.happen_bootView _ e)]
  have hidle {c : Nat} (hc : c < 8) : (s.mailboxOpen.mbx c).msg = none := (State.msg_of_gates hgates c).trans (s.firmwareUp_idle hc).2
  have hunheld {c : Nat} (hc : c < 8) : s.mailboxOpen.Unheld c := fun m hm => by rw [hidle hc] at hm; cases hm
  obtain ⟨hfour, hsessions, hro⟩ := s.firmwareUp_host
  refine ⟨?_, ?_, ?_, fun c hc => ?_⟩
  · rw [State.after_host_boot, hboot, hfour]
  · rw [State.after_host_sessions, State.sessions_of_gates hgates, hsessions]
  · rw [State.after_roMask fun c hc => hidle hc, State.roMask_of_gates hgates, hro]
  · rw [State.after_mbx (hunheld hc), State.sess_of_gates hgates, State.mask_of_gates hgates]
    exact ⟨(s.firmwareUp_idle hc).1, hidle hc, s.firmwareUp_unmasked hc⟩

/-! ## FLASH_OPERATION_DONE (R410) -/

theorem State.flashDone_erased {slot off c : Nat} {data : List Byte} (h : s.host.flashOp = some (0, slot, off, data, c)) :
    s.flashDone true = (s.modHost fun h => { h with flashOp := none, flash := flashErase h.flash (slotSize * slot + off) }).finish c retOK [] := by
  unfold State.flashDone
  rw [h]
  rfl

theorem State.flashDone_notErased {slot off c : Nat} {data : List Byte} (h : s.host.flashOp = some (0, slot, off, data, c)) :
    s.flashDone false = (s.modHost fun h => { h with flashOp := none }).finish c retImage [] := by
  unfold State.flashDone
  rw [h]
  rfl

theorem State.flashDone_programmed {slot off c : Nat} {data : List Byte} (h : s.host.flashOp = some (1, slot, off, data, c)) :
    s.flashDone true =
      let a := slotSize * slot + off
      let t := s.modHost fun h => { h with flashOp := none, flash := flashPut h.flash a data (2 ^ data.length - 1) }
      t.finish c (if t.flashBytes a data.length = data then retOK else retImage) [] := by
  unfold State.flashDone
  rw [h]
  rfl

/-- No operation runs after one has ended, whatever it left of the bytes. -/
theorem State.flashDone_notProgrammed {slot off c : Nat} {data : List Byte} (h : s.host.flashOp = some (1, slot, off, data, c)) :
    (s.flashDone false).host.flashOp = none := by
  unfold State.flashDone
  rw [h]
  dsimp only
  rw [if_neg one_ne_zero, if_neg Bool.false_ne_true, ← HostSide.quiet_flashOp, State.finish_quiet]
  rfl

/-! ## BOOT_ROM_START (R386, R387, R540) -/

/-- An ordinary boot takes the override or the straps, and the two sources without a slot go to the ROM's own modes. -/
theorem State.romStart_outcome (hsys : (s.die 0).sysLock = true) (hrom : (s.dx 0).rom = false) (hphase : s.belay.phase ≠ 3) (strap : Nat) :
    let src := if s.host.boot.ovrValid then s.host.boot.ovrSrc else strap % 4
    let t := s.romStart strap
    (t.dx 0).rom = true ∧ t.host.boot.ovrValid = false ∧ (src = 3 → t.host.boot.safe = true ∧ (t.dx 0).mode = 1) ∧
      (src = 1 → t.host.boot.download = true) := by
  dsimp only
  rw [State.romStart_boot hsys hrom hphase]
  dsimp only
  generalize (if s.host.boot.ovrValid then s.host.boot.ovrSrc else strap % 4) = src
  by_cases h3 : src = 3
  · rw [if_pos h3, State.enterSafe_rom, State.romChecked_rom, State.enterSafe_boot, State.enterSafe_mode]
    exact ⟨rfl, s.romChecked_ovrValid src, fun _ => ⟨rfl, rfl⟩, fun h1 => by omega⟩
  rw [if_neg h3]
  by_cases h1 : src = 1
  · rw [if_pos h1, State.enterDownload_rom, State.romChecked_rom, State.enterDownload_boot]
    exact ⟨rfl, s.romChecked_ovrValid src, fun h => absurd h h3, fun _ => rfl⟩
  · rw [if_neg h1]
    exact ⟨searchKeeps_rom.bootSlots (s.romChecked_rom src), searchKeeps_ovrValid.bootSlots (s.romChecked_ovrValid src),
      fun h => absurd h h3, fun h => absurd h h1⟩

theorem State.romRead_tb (s : State) (d : Nat) : (s.romRead d).tb = s.tb := by
  unfold State.romRead
  dsimp only
  split <;> rfl

/-- The exit from belay has read the ROM's record and runs with the retained TB_EN. -/
theorem State.romStart_exit_outcome (hsys : (s.die 0).sysLock = true) (hrom : (s.dx 0).rom = false) (hphase : s.belay.phase = 3) (strap : Nat) :
    ((s.romStart strap).dx 0).rom = true ∧ (s.romStart strap).tb.tbEn = (s.belay.tbEn && !oscBad s.tb.oscFreq) := by
  rw [State.romStart_exit hsys hrom hphase, State.romRead_tb]
  constructor
  · exact State.bootAgain_rom (s.romRead_rom 0)
  · simp

/-! ## The boot events -/

/-- Settles O34. Some of its clauses rest on choices of the model: FOL_NOIMG is set at UNIT_IMAGE_STREAMED, and a flash program
clears bits only (log entry 40); the exit from belay restores TB_EN as R540 says, under R42's refusal of a reserved OSC_FREQ (log entry 31). -/
theorem bootEventsComplete : Obligations.BootEventsComplete := by
  unfold Obligations.BootEventsComplete
  intro s
  dsimp only
  refine ⟨?romStart, ?belayExit, ?unitSent, ?unitKept, ?follower, ?leadGood, ?leadBad, ?leadIdle, ?mailboxOpen, ?erased, ?notErased, ?programmed,
    ?notProgrammed⟩
  case romStart =>
    intro strap hsys hrom hphase
    obtain ⟨hstart, hovr, hsafe, hdownload⟩ := State.romStart_outcome hsys hrom hphase strap
    refine ⟨_, rfl, ?_⟩
    rw [State.after_dx_rom, State.after_host_boot, State.after_dx_mode]
    exact ⟨hstart, hovr, hsafe, hdownload⟩
  case belayExit =>
    intro strap hsys hrom hphase
    obtain ⟨hstart, hen⟩ := State.romStart_exit_outcome hsys hrom hphase strap
    refine ⟨_, rfl, ?_⟩
    rw [State.after_dx_rom, State.after_tb]
    exact ⟨hstart, hen⟩
  case unitSent =>
    intro hlead hstep
    obtain ⟨hnext, hxs⟩ := State.unitStreamed_sends hlead hstep
    refine ⟨_, rfl, by rw [State.after_host_boot, hnext], fun d h0 hfit hroute hmode hrom => ?_⟩
    have hdx : s.unitStreamed.dx d = (s.streamUnit false).dx d := by unfold State.dx; rw [hxs]
    rw [State.after_dx_gotImage, hdx, State.streamUnit_gotImage h0 hfit hroute hmode hrom]
  case unitKept =>
    intro hlead hstep hsrc
    refine ⟨_, rfl, fun d h0 hfit hpath hmode hrom himage => ?_⟩
    rw [State.after_host_boot, State.unitStreamed_noImage hlead hstep hsrc h0 hfit hpath hmode hrom himage]
  case follower =>
    intro d h0 hfit himage hmode
    refine ⟨_, rfl, ?_⟩
    rw [State.after_dx_mode, State.after_dx_gotImage, State.after_die_same, State.after_host_boot]
    rw [show (decide (s.manCheck d 2 (s.unitImage (s.dx d).gotHost).1 = 0) &&
      bodyOk (s.unitImage (s.dx d).gotHost).1 (s.unitImage (s.dx d).gotHost).2) = s.followerOk d from rfl]
    cases hok : s.followerOk d with
    | true =>
      obtain ⟨hruns, hused, hbooted⟩ := State.followerStart_good h0 hfit himage hmode hok
      exact ⟨hruns, hused, fun _ => hbooted, nofun⟩
    | false =>
      obtain ⟨hruns, hused, hsafe⟩ := State.followerStart_bad h0 hfit himage hmode hok
      exact ⟨hruns, hused, nofun, fun _ => hsafe⟩
  case leadGood =>
    intro hstep hmode hsaves hok
    refine ⟨_, rfl, ?_⟩
    rw [State.after_dx_mode, State.after_host_boot, State.leadStart_eq hstep hmode hsaves, if_pos hok,
      State.mode_of_bootView (State.startEngines_bootView _ 0), State.boot_of_bootView (State.startEngines_bootView _ 0), State.leadRuns_mode]
    exact ⟨rfl, rfl, rfl, rfl, rfl⟩
  case leadBad =>
    intro hstep hmode hsaves hbad
    refine ⟨_, rfl, ?_⟩
    rw [State.after_host_boot, State.leadStart_eq hstep hmode hsaves, if_neg (by rw [hbad]; exact Bool.false_ne_true)]
    exact s.leadFails_search
  case leadIdle => exact fun h => congrArg fin (State.leadStart_idle h)
  case mailboxOpen => exact fun hstep hmode => ⟨_, rfl, State.mailboxOpen_opens hstep hmode⟩
  case erased => exact fun _ _ _ _ h => congrArg fin (State.flashDone_erased h)
  case notErased => exact fun _ _ _ _ h => congrArg fin (State.flashDone_notErased h)
  case programmed => exact fun _ _ _ _ h => congrArg fin (State.flashDone_programmed h)
  case notProgrammed =>
    intro slot off data c h
    refine ⟨_, rfl, ?_⟩
    rw [State.after_host_flashOp, State.flashDone_notProgrammed h]

end Sys2Proof.Machine
end

section
/-! SUPPORT. How a Unest command ends: its body answers OK, or refuses and changes nothing; a read-only channel refuses before that (R437, R451). -/

namespace Sys2Proof.Machine
open Sys2Proof

/-! ## Refusals of a body (R437) -/

/-- Unless it answers RET_OK, the body has changed nothing and does not wait; an ERR_ABSENT carries no bytes. -/
def Reply.Sound (s : State) (r : Reply) : Prop := r.ret = retOK ∨ r.s = s ∧ r.wait = false ∧ (r.ret = retAbsent → r.bytes = [])

/-- An ERR_ABSENT carries no bytes, and the body has changed nothing. -/
def Reply.AbsentFirst (s : State) (r : Reply) : Prop := r.ret = retAbsent → r.s = s ∧ r.wait = false ∧ r.bytes = []

theorem Reply.sound_ok {s : State} {r : Reply} (h : r.ret = retOK) : r.Sound s := .inl h

theorem Reply.sound_error (s : State) (ret : Nat) : Reply.Sound s { ret := ret, s := s } := .inr ⟨rfl, rfl, fun _ => rfl⟩

theorem Reply.Sound.absentFirst {s : State} {r : Reply} (h : r.Sound s) : r.AbsentFirst s := by
  intro habs
  obtain hok | ⟨hs, hwait, hbytes⟩ := h
  · exact absurd (hok.symm.trans habs) (by decide)
  · exact ⟨hs, hwait, hbytes habs⟩

/-- A code other than ERR_ABSENT. -/
theorem Reply.absentFirst_of_ne {s : State} {r : Reply} (h : r.ret ≠ retAbsent) : r.AbsentFirst s := fun habs => absurd habs h

theorem Reply.Sound.ite {s : State} {b : Prop} [Decidable b] {q r : Reply} (hq : q.Sound s) (hr : r.Sound s) : (if b then q else r).Sound s := by
  split
  · exact hq
  · exact hr

theorem Reply.AbsentFirst.ite {s : State} {b : Prop} [Decidable b] {q r : Reply} (hq : q.AbsentFirst s) (hr : r.AbsentFirst s) :
    (if b then q else r).AbsentFirst s := by
  split
  · exact hq
  · exact hr

/-- Checks before an effect that answers RET_OK. -/
theorem guarded_sound {s : State} {l : List (Bool × Nat)} {ok : Reply} (h : ok.ret = retOK) : (guarded s l ok).Sound s := by
  unfold guarded
  split
  · exact Reply.sound_error s _
  · exact Reply.sound_ok h

/-! ## The bodies that do more than check and take effect -/

section
variable (c : Nat) (p : List Byte) (s : State)

theorem opllAlignReply_sound : (opllAlignReply c p s).Sound s := by
  refine guarded_sound ?_
  split
  · split <;> rfl
  · rfl

theorem fwFlashReply_sound : (fwFlashReply c p s).Sound s := by
  refine guarded_sound ?_
  split <;> rfl

theorem stitchCommitReply_sound : (stitchCommitReply c p s).Sound s := by
  unfold stitchCommitReply
  dsimp only
  split
  · exact .inr ⟨rfl, rfl, fun habs => if_neg fun hbad => absurd (hbad.symm.trans habs) (by decide)⟩
  · refine Reply.sound_ok ?_
    split <;> rfl

theorem stitchDefaultReply_sound : (stitchDefaultReply c p s).Sound s := by
  unfold stitchDefaultReply
  dsimp only
  split
  · exact Reply.sound_error s _
  · refine Reply.sound_ok ?_
    split <;> rfl

theorem tdcSaveSeedReply_sound : (tdcSaveSeedReply c p s).Sound s := by
  unfold tdcSaveSeedReply
  dsimp only
  split
  · exact Reply.sound_error s _
  · exact Reply.sound_ok rfl

theorem cairnSaveReply_sound : (cairnSaveReply c p s).Sound s := by
  unfold cairnSaveReply
  dsimp only
  split
  · exact Reply.sound_error s _
  · refine Reply.sound_ok ?_
    split <;> rfl

theorem logClearReply_sound : (logClearReply c p s).Sound s := by
  unfold logClearReply
  dsimp only
  split
  · exact Reply.sound_error s _
  · refine Reply.sound_ok ?_
    split <;> rfl

theorem bootConfirmReply_sound : (bootConfirmReply c p s).Sound s := by
  unfold bootConfirmReply
  dsimp only
  split
  · exact Reply.sound_error s _
  · exact Reply.sound_ok rfl

theorem bootProfileSetReply_sound : (bootProfileSetReply c p s).Sound s := by
  unfold bootProfileSetReply
  dsimp only
  split
  · exact Reply.sound_error s _
  · refine Reply.sound_ok ?_
    split
    · rfl
    · split <;> rfl

theorem nvWriteReply_sound : (nvWriteReply c p s).Sound s := by
  unfold nvWriteReply
  dsimp only
  split
  · exact Reply.sound_error s _
  · exact Reply.sound_ok rfl

theorem nvSetPasswordReply_sound : (nvSetPasswordReply c p s).Sound s := by
  unfold nvSetPasswordReply
  dsimp only
  split
  · exact Reply.sound_error s _
  · refine Reply.sound_ok ?_
    split <;> rfl

/-! ## The bodies whose failures leave a mark (R391, R433, R450, R511) -/

theorem sessionAuthReply_absentFirst : (sessionAuthReply c p s).AbsentFirst s := by
  unfold sessionAuthReply
  dsimp only
  split
  · exact (Reply.sound_error s _).absentFirst
  · split
    · exact (Reply.sound_error s _).absentFirst
    · split
      · exact (Reply.sound_ok rfl).absentFirst
      · exact Reply.absentFirst_of_ne (by decide : retAuth ≠ retAbsent)

theorem portKeyProgramReply_absentFirst : (portKeyProgramReply c p s).AbsentFirst s := by
  unfold portKeyProgramReply
  dsimp only
  split
  · exact (Reply.sound_error s _).absentFirst
  · split
    · exact Reply.absentFirst_of_ne (by decide : retNv ≠ retAbsent)
    · exact (Reply.sound_ok rfl).absentFirst

theorem imageFail_absentFirst (cause : Nat) : (s.imageFail cause).AbsentFirst s := Reply.absentFirst_of_ne (by decide : retImage ≠ retAbsent)

theorem bootLoadReply_absentFirst : (bootLoadReply c p s).AbsentFirst s := by
  unfold bootLoadReply
  dsimp only
  split
  · exact (Reply.sound_error s _).absentFirst
  · exact Reply.AbsentFirst.ite (imageFail_absentFirst s _) (Reply.sound_ok rfl).absentFirst

theorem bootStartReply_absentFirst : (bootStartReply c p s).AbsentFirst s := by
  unfold bootStartReply
  dsimp only
  split
  · exact (Reply.sound_error s _).absentFirst
  · refine Reply.AbsentFirst.ite (imageFail_absentFirst s _) ?_
    split
    · exact imageFail_absentFirst s _
    · exact imageFail_absentFirst s _
    · exact Reply.AbsentFirst.ite (imageFail_absentFirst s _) (Reply.sound_ok rfl).absentFirst

theorem nvLoginReply_absentFirst : (nvLoginReply c p s).AbsentFirst s := by
  unfold nvLoginReply
  dsimp only
  split
  · exact (Reply.sound_error s _).absentFirst
  · split
    · exact Reply.absentFirst_of_ne (by decide : retDenied ≠ retAbsent)
    · exact (guarded_sound rfl).absentFirst

end

/-! ## Every command -/

/-- The commands whose failures may leave a mark (R391, R433, R450, R511). -/
abbrev markingOps : List Nat := [0x000B, 0x000D, 0x0A01, 0x0A02, 0x0C03]

/-- How the body of the command with opcode `op` refuses in state `s`. -/
def Refuses (s : State) (c op : Nat) (body : Nat → List Byte → State → Reply) : Prop :=
  ∀ p, (body c p s).AbsentFirst s ∧ (op ∉ markingOps → (body c p s).Sound s)

theorem Refuses.of_sound {s : State} {c op : Nat} {body : Nat → List Byte → State → Reply} (h : ∀ p, (body c p s).Sound s) : Refuses s c op body :=
  fun p => ⟨(h p).absentFirst, fun _ => h p⟩

theorem Refuses.of_marking {s : State} {c op : Nat} {body : Nat → List Byte → State → Reply} (ho : op ∈ markingOps)
    (h : ∀ p, (body c p s).AbsentFirst s) : Refuses s c op body :=
  fun p => ⟨h p, fun hno => absurd ho hno⟩

/-- A Unest command runs its body, which refuses as R437 says; FW_FLASH waits while another flash operation runs (R410). -/
theorem exec_body {i : Instr} {c op : Nat} {s : State} (h : opcodeOf i = some (c, op)) (hflash : s.host.flashOp = none) :
    ∃ body, exec i s = fin (s.runCmd c op body) ∧ Refuses s c op body := by
  cases i with
  | nop | getCaps | getVersion =>
    cases h
    exact ⟨_, rfl, .of_sound fun _ => Reply.sound_ok rfl⟩
  | reset | getAbortStatus | eventSubscribe | eventRead | logGet | sessionOpen | sessionClose | channelPolicy | tbSetMaster | inputConfig
  | inputSetMonitors | inputGetStatus | inputClear | tdcGetPicot | tdcCoreReset | dpllConfig | dpllSetLoop | dpllGetLoop | dpllSetSteer
  | dpllPhaseAdjust | dpllGetStatus | dpllGetCandidates | dpllSetCandidates | dpllSetSelection | dpllGetSwitchLog | cairnSetMember
  | cairnSetConfig | cairnGetModel | cairnForget | dpllSetHoldover | dpllGetHoldover | opllConfig | opllSetFreq | outputConfig | outputRun
  | tdConfig | tdGetConfig | tdSetTime | tdGetTime | tdSetTod | stitchLoad | stitchRun | dmaRingConfig | dmaGetStatus | irqRoute | nvRead
  | nvGetStatus | belayConfig | belayEnter | powerGetStatus | marginGetPlan | ageingGetStatus =>
    cases h
    exact ⟨_, rfl, .of_sound fun _ => guarded_sound rfl⟩
  | opllAlign => cases h; exact ⟨_, rfl, .of_sound fun p => opllAlignReply_sound c p s⟩
  | stitchCommit => cases h; exact ⟨_, rfl, .of_sound fun p => stitchCommitReply_sound c p s⟩
  | stitchDefault => cases h; exact ⟨_, rfl, .of_sound fun p => stitchDefaultReply_sound c p s⟩
  | tdcSaveSeed => cases h; exact ⟨_, rfl, .of_sound fun p => tdcSaveSeedReply_sound c p s⟩
  | cairnSave => cases h; exact ⟨_, rfl, .of_sound fun p => cairnSaveReply_sound c p s⟩
  | logClear => cases h; exact ⟨_, rfl, .of_sound fun p => logClearReply_sound c p s⟩
  | bootConfirm => cases h; exact ⟨_, rfl, .of_sound fun p => bootConfirmReply_sound c p s⟩
  | bootProfileSet => cases h; exact ⟨_, rfl, .of_sound fun p => bootProfileSetReply_sound c p s⟩
  | nvWrite => cases h; exact ⟨_, rfl, .of_sound fun p => nvWriteReply_sound c p s⟩
  | nvSetPassword => cases h; exact ⟨_, rfl, .of_sound fun p => nvSetPasswordReply_sound c p s⟩
  | fwFlash =>
    cases h
    exact ⟨_, congrArg fin (if_neg (by simp [hflash])), .of_sound fun p => fwFlashReply_sound c p s⟩
  | sessionAuth => cases h; exact ⟨_, rfl, .of_marking (by decide) fun p => sessionAuthReply_absentFirst c p s⟩
  | portKeyProgram => cases h; exact ⟨_, rfl, .of_marking (by decide) fun p => portKeyProgramReply_absentFirst c p s⟩
  | bootLoad => cases h; exact ⟨_, rfl, .of_marking (by decide) fun p => bootLoadReply_absentFirst c p s⟩
  | bootStart => cases h; exact ⟨_, rfl, .of_marking (by decide) fun p => bootStartReply_absentFirst c p s⟩
  | nvLogin => cases h; exact ⟨_, rfl, .of_marking (by decide) fun p => nvLoginReply_absentFirst c p s⟩
  | _ => cases h

/-! ## How the command ends -/

section
variable {s : State} {c op : Nat} {m : Msg} {body : Nat → List Byte → State → Reply} {r : Reply}
  (hmsg : (s.mbx c).msg = some m) (hop : m.op = op) (hheld : m.held = false) (hfwd : m.fwd = none) (hserves : s.Serves c)
  (hr : policed m.ro op s (body c m.payload s) = r)
include hmsg hop hheld hfwd hserves hr

/-- A command that its channel can execute, on a channel that may be read-only. -/
theorem State.runCmd_policed : s.runCmd c op body =
    (let s1 := if r.ret = retOK then r.s.noted c m else if op = 0x0C03 ∧ r.bytes ≠ [] then r.s.blame c op m.payload else r.s
     if r.wait then s1.modMbx c fun x => { x with msg := some { m with held := true } }
     else (s1.modMbx c fun x => { x with msg := none }).respond c r.ret m.op m.seq r.bytes) := by
  subst hop hr
  obtain ⟨hlead, hcp, hturn⟩ := hserves
  unfold State.runCmd State.noted
  rw [hmsg]
  exact if_pos ⟨rfl, hheld, hfwd, hlead, hcp, hturn⟩

/-- A policed command that answers RET_OK acknowledges at once, or later. -/
theorem State.runCmd_policed_ok (hret : r.ret = retOK) :
    fin (s.runCmd c op body) = .next (if r.wait then r.s.waits c m else r.s.acked c m r.bytes) := by
  rw [State.runCmd_policed hmsg hop hheld hfwd hserves hr]
  dsimp only
  rw [if_pos hret]
  split
  · rfl
  · rw [hret]
    rfl

/-- A policed command that refuses and has changed nothing is answered with its code. -/
theorem State.runCmd_policed_error (hret : r.ret ≠ retOK) (hs : r.s = s) (hwait : r.wait = false) (hbytes : op ≠ 0x0C03 ∨ r.bytes = []) :
    fin (s.runCmd c op body) = .next (s.answered c m r.ret r.bytes) := by
  have hmark : ¬(op = 0x0C03 ∧ r.bytes ≠ []) := fun ⟨hlogin, hsome⟩ => hbytes.elim (· hlogin) hsome
  rw [State.runCmd_policed hmsg hop hheld hfwd hserves hr]
  dsimp only
  rw [if_neg hret, if_neg hmark, hwait, hs]
  rfl

end

theorem policed_absent {ro : Bool} {op : Nat} {s : State} {r : Reply} (h : r.ret = retAbsent) : policed ro op s r = r := by
  unfold policed
  simp [h]

/-- On a read-only channel every code but ERR_ABSENT of a command of kind C becomes ERR_DENIED. -/
theorem policed_denies {op : Nat} {s : State} {r : Reply} (hc : changes op = true) (h : r.ret ≠ retAbsent) :
    policed true op s r = { ret := retDenied, s := s } :=
  if_pos (by rw [Bool.true_and, Bool.and_eq_true]; exact ⟨hc, decide_eq_true h⟩)

theorem policed_sound {op : Nat} {s : State} {r : Reply} (ro : Bool) (h : r.Sound s) : (policed ro op s r).Sound s :=
  Reply.Sound.ite (Reply.sound_error s _) h

/-- Settles O50: the body refuses as R437 says, and the read-only policy before it changes nothing either. -/
theorem refusedCommandsChangeNothing : Obligations.RefusedCommandsChangeNothing := by
  unfold Obligations.RefusedCommandsChangeNothing
  intro s t i c op m hop hmark hflash hmsg hmop hheld hfwd hserves hexec
  obtain ⟨body, hbody, hrefuses⟩ := exec_body hop hflash
  have hsound := policed_sound (op := op) m.ro ((hrefuses m.payload).2 hmark)
  generalize hr : policed m.ro op s (body c m.payload s) = r at hsound
  by_cases hret : r.ret = retOK
  · have hend := State.runCmd_policed_ok hmsg hmop hheld hfwd hserves hr hret
    rw [← hbody, hexec, Host.Outcome.next.injEq] at hend
    by_cases hwait : r.wait = true
    · exact .inr (.inl ⟨r.s, hend.trans (if_pos hwait)⟩)
    · exact .inl ⟨r.s, r.bytes, hend.trans (if_neg hwait)⟩
  · obtain hok | ⟨hs, hwait, -⟩ := hsound
    · exact absurd hok hret
    · have hlogin : op ≠ 0x0C03 := fun h => hmark (by simp [h])
      have hend := State.runCmd_policed_error hmsg hmop hheld hfwd hserves hr hret hs hwait (.inl hlogin)
      rw [← hbody, hexec, Host.Outcome.next.injEq] at hend
      exact .inr (.inr ⟨r.ret, r.bytes, hret, hend⟩)

/-- Settles O51: a refusal of the policy is ERR_DENIED; the ERR_ABSENT that passes it carries no bytes and has changed nothing. -/
theorem readOnlyChannelsRefuseChanges : Obligations.ReadOnlyChannelsRefuseChanges := by
  unfold Obligations.ReadOnlyChannelsRefuseChanges
  intro s i c op m hop hchanges hflash hmsg hmop hheld hfwd hro hserves
  obtain ⟨body, hbody, hrefuses⟩ := exec_body hop hflash
  rw [hbody]
  by_cases habs : (body c m.payload s).ret = retAbsent
  · obtain ⟨hs, hwait, hbytes⟩ := (hrefuses m.payload).1 habs
    have hend := State.runCmd_policed_error hmsg hmop hheld hfwd hserves (policed_absent habs) (by rw [habs]; decide) hs hwait (.inr hbytes)
    rw [habs, hbytes] at hend
    exact .inr hend
  · have hdenied : policed m.ro op s (body c m.payload s) = { ret := retDenied, s := s } := by rw [hro]; exact policed_denies hchanges habs
    have hend := State.runCmd_policed_error hmsg hmop hheld hfwd hserves hdenied (by decide : retDenied ≠ retOK) rfl rfl (.inr rfl)
    exact .inl hend

end Sys2Proof.Machine
end

section
/-! SUPPORT. The reset of one die, unit by unit, and the lock of a SYSPLL (R389, R445, R507, R528). -/

namespace Sys2Proof.Machine
open Sys2Proof

/-! ## The traffic of the links and the answers to commands leave the stores alone (R346 to R348, R404) -/

/-- The stores of the dies. -/
def State.stores (s : State) : Nat → NvDie := fun j => (s.dx j).nv

section
variable (s : State)

@[simp] theorem ite_stores (c : Prop) [Decidable c] (a b : State) : (if c then a else b).stores = if c then a.stores else b.stores := by
  split <;> rfl

theorem foldl_stores {α : Type} (l : List α) (f : State → α → State) (h : ∀ t a, (f t a).stores = t.stores) : (l.foldl f s).stores = s.stores := by
  induction l generalizing s with
  | nil => rfl
  | cons a l ih => rw [List.foldl_cons, ih, h]

@[simp] theorem State.forEach_stores (ns : List Nat) (f : State → Nat → State) (h : ∀ t n, (f t n).stores = t.stores) :
    (s.forEach ns f).stores = s.stores := State.forEach_keep State.stores f h ns s

@[simp] theorem State.modDie_stores (d : Nat) (f : Die → Die) : (s.modDie d f).stores = s.stores := (rfl)
@[simp] theorem State.modLink_stores (d l : Nat) (f : LinkPort → LinkPort) : (s.modLink d l f).stores = s.stores := (rfl)
@[simp] theorem State.modMbx_stores (c : Nat) (f : Mbx → Mbx) : (s.modMbx c f).stores = s.stores := (rfl)

theorem State.modDx_stores (d : Nat) {f : DieX → DieX} (h : ∀ x, (f x).nv = x.nv) : (s.modDx d f).stores = s.stores := by
  funext j
  unfold State.stores
  rw [State.modDx_dx]
  split
  next hj => rw [h, hj]
  next => rfl

theorem State.lose_stores (fs : List Frame) : (s.lose fs).stores = s.stores := by
  unfold State.lose
  refine foldl_stores s fs _ fun t f => ?_
  split
  · rfl
  · rfl
  · split
    · exact funext fun j => congrArg DieX.nv (t.post_dx 0 _ j)
    · exact t.modDx_stores _ fun _ => rfl
  · exact foldl_stores t _ _ fun _ _ => rfl
  · rfl

@[simp] theorem State.exchAnew_stores (d : Nat) : (s.exchAnew d).stores = s.stores := by
  unfold State.exchAnew
  split <;> rfl

@[simp] theorem State.viewsDown_stores (d : Nat) : (s.viewsDown d).stores = s.stores := by
  unfold State.viewsDown
  refine s.forEach_stores _ _ fun t n => ?_
  split <;> rfl

@[simp] theorem State.refreshUp_stores : s.refreshUp.stores = s.stores := by
  unfold State.refreshUp
  simp

@[simp] theorem State.flushLink_stores (d l : Nat) : (s.flushLink d l).stores = s.stores := by
  unfold State.flushLink
  split
  · rfl
  · exact State.lose_stores _ _

@[simp] theorem State.wordsLost_stores (d l : Nat) : (s.wordsLost d l).stores = s.stores := by
  unfold State.wordsLost
  dsimp only
  split
  · rfl
  · split <;> rfl

@[simp] theorem State.portDown_stores (d l : Nat) : (s.portDown d l).stores = s.stores := by
  rcases s.portDown_cases d l with e | e <;> rw [e, State.refreshUp_stores] <;> rfl

@[simp] theorem State.trainStart_stores (d l : Nat) : (s.trainStart d l).stores = s.stores := by
  rcases s.trainStart_cases d l with e | e <;> rw [e]
  rfl

@[simp] theorem State.linkLeaves_stores (d l : Nat) : (s.linkLeaves d l).stores = s.stores := by
  unfold State.linkLeaves State.shtHist
  simp

theorem State.linksLost_stores (d : Nat) : (s.linksLost d).stores = s.stores := by
  unfold State.linksLost
  dsimp only
  rw [State.refreshUp_stores, State.lose_stores, State.modDie_stores]
  refine s.forEach_stores _ _ fun t l => ?_
  split
  · exact t.linkLeaves_stores _ _
  · rfl

@[simp] theorem State.finish_stores (c ret : Nat) (b : List Byte) : (s.finish c ret b).stores = s.stores := by
  obtain ⟨h, e⟩ := s.finish_eq c ret b
  rw [e]
  rfl

theorem State.jobLost_stores (d : Nat) (j : NvJob) : (s.jobLost d j).stores = s.stores := by
  unfold State.jobLost State.jobAnswer
  split
  · rfl
  · split
    · rfl
    · simp

theorem State.servedBy_stores (d : Nat) : (s.servedBy d).stores = s.stores := by
  unfold State.servedBy
  refine s.forEach_stores _ _ fun t c => ?_
  split
  · split <;> rfl
  · rfl

/-! ## The reset of one die (R445, R528) -/

/-- The clock lanes of a die that resets are in the dies alone. -/
theorem State.clocksAnew_eq (d : Nat) : ∃ x, s.clocksAnew d = { s with dies := x } := by
  unfold State.clocksAnew
  refine State.forEach_inv (fun t => ∃ x, t = { s with dies := x }) _ ?_ _ s ⟨s.dies, rfl⟩
  rintro t l ⟨x, rfl⟩
  dsimp only
  split <;> exact ⟨_, rfl⟩

theorem State.clocksAnew_leaves {β : Type} (g : Die → β) (h : ∀ u q, g { u with links := q } = g u) (d j : Nat) :
    g ((s.clocksAnew d).die j) = g (s.die j) := by
  unfold State.clocksAnew
  refine State.forEach_keep (fun t => g (t.die j)) _ (fun t l => ?_) _ s
  split
  · rfl
  · dsimp only
    rw [State.modLink_leaves g h, State.modLink_leaves g h]

/-- Die `d` has lost its links, its page writes and the commands that it served. -/
def State.dieLost (s : State) (d : Nat) : State :=
  ((s.dx d).nv.queue.foldl (fun t j => t.jobLost d j) ((s.modNv d fun n => { n with queue := [] }).linksLost d)).servedBy d

theorem State.dieLost_nv (d : Nat) : ((s.dieLost d).dx d).nv = { (s.dx d).nv with queue := [] } := by
  have hstores : (s.dieLost d).stores = (s.modNv d fun n => { n with queue := [] }).stores := by
    unfold State.dieLost
    rw [State.servedBy_stores, foldl_stores _ _ _ fun t j => t.jobLost_stores d j, State.linksLost_stores]
  exact (congrFun hstores d).trans (s.modNv_nv d _)

/-- The units of die `d` at their reset values. -/
def State.unitsReset (s : State) (d : Nat) : State :=
  { s with inputs := tdrop {} (24 * d) (24 * d + 24) (tdrop {} (192 + 16 * d) (208 + 16 * d) s.inputs),
           chans := tdrop {} (48 * d) (48 * d + 48) s.chans, dplls := tdrop {} (8 * d) (8 * d + 8) s.dplls,
           oscs := tdrop {} (2 * d) (2 * d + 2) s.oscs,
           oplls := tdrop {} (4 * d) (4 * d + 4) s.oplls, outs := tdrop {} (16 * d) (16 * d + 16) s.outs,
           tds := tdrop {} (16 * d) (16 * d + 16) s.tds, evs := tdrop {} (16 * d) (16 * d + 16) s.evs,
           stitches := tdrop {} (28 * d) (28 * d + 28) s.stitches, crossings := tdrop {} (256 * d) (256 * d + 256) s.crossings }

/-- Die `d` with its units at their reset values, and of its own state what a reset keeps (R528). -/
def State.dieAnew (s : State) (d : Nat) : State :=
  (((s.dieLost d).unitsReset d).modDx d fun x =>
    { x.kept true with bootedOnce := x.bootedOnce, fwdQ := x.fwdQ.filter fun c => (s.dieLost d).onWay fun f => decide (f = .request c d) }).modDie d
      fun u => { intake := u.intake, inbound := u.inbound, mclk := u.mclk, mclkOk := u.mclkOk }

theorem State.resetDie_eq (d : Nat) : s.resetDie d = ((s.dieAnew d).clocksAnew d).modBoot fun b => { b with folSafe := clrBit b.folSafe d } := rfl

theorem State.clocksAnew_dx (d j : Nat) : (s.clocksAnew d).dx j = s.dx j := by
  obtain ⟨x, e⟩ := s.clocksAnew_eq d
  rw [e]
  rfl

/-- What does not look at the dies, their CPs and the host side reads the units at their reset values. -/
theorem State.resetDie_view {β : Type} (g : State → β) (h : ∀ u x y z, g { u with dies := x, xs := y, host := z } = g u) (d : Nat) :
    g (s.resetDie d) = g ((s.dieLost d).unitsReset d) := by
  have hclocks (u : State) (f : Boot → Boot) : g ((u.clocksAnew d).modBoot f) = g u := by
    obtain ⟨x, e⟩ := u.clocksAnew_eq d
    rw [e]
    exact h u x _ _
  have hanew (u : State) (f : DieX → DieX) (k : Die → Die) : g ((u.modDx d f).modDie d k) = g u := h u _ _ _
  rw [State.resetDie_eq, hclocks]
  unfold State.dieAnew
  rw [hanew]

theorem State.resetDie_dx (d : Nat) : ((s.resetDie d).dx d).mode = 0 ∧ ((s.resetDie d).dx d).nv = (s.dx d).nv.kept true := by
  have hunits (u : State) : (u.unitsReset d).dx d = u.dx d := rfl
  rw [State.resetDie_eq, State.modBoot_dx_same, State.clocksAnew_dx]
  unfold State.dieAnew
  rw [State.modDie_dx_same, State.modDx_dx, if_pos rfl, hunits]
  refine ⟨rfl, ?_⟩
  change (((s.dieLost d).dx d).nv).kept true = _
  rw [s.dieLost_nv d]
  rfl

theorem State.resetDie_die (d : Nat) : ((s.resetDie d).die d).booted = false ∧ ((s.resetDie d).die d).sysLock = false := by
  rw [State.resetDie_eq, State.modBoot_die_same, State.clocksAnew_leaves _ Die.booted fun _ _ => rfl,
    State.clocksAnew_leaves _ Die.sysLock fun _ _ => rfl]
  unfold State.dieAnew
  rw [State.modDie_die, if_pos rfl]
  exact ⟨rfl, rfl⟩

end

/-! ## The lock of a SYSPLL (R389, R507) -/

/-- What the ROM of follower `d` reads from its store. -/
theorem State.romRead_follower {s : State} {d : Nat} (hd : d ≠ 0) :
    s.romRead d =
      (let n := (s.dx d).nv.bootCheck.readAll
       ((s.modNv d fun _ => n).modDx d fun x => { x with
          rom := true, staging := (match n.record 5 with | .profile p => p | _ => {}), plan := (match n.record 4 with | .plan p => p | _ => {}) }).modDie d
        fun x => { x with seedRec := n.seed, seedAtBoot := !n.seed.segW.isEmpty }) := by
  unfold State.romRead
  dsimp only
  rw [if_neg hd, State.modNv_nv]
  rfl

/-- Settles O33: every reset is its operation, the reset of one die lets each unit of its window read its reset value, and a follower's ROM
reads its store at the lock. -/
theorem resetEventsComplete : Obligations.ResetEventsComplete := by
  unfold Obligations.ResetEventsComplete
  intro s b o kept cold warm
  refine ⟨rfl, fun d mask => rfl, rfl, fun x hx => ⟨fun h0 => ?whole, fun h0 => ?die⟩, fun hnone => ?idle, fun d => ?units, fun d hfit hlock hphase => ?lock⟩
  case whole =>
    refine congrArg fin ?_
    unfold State.resetDue
    rw [hx]
    exact if_pos h0
  case die =>
    refine congrArg fin ?_
    unfold State.resetDue
    rw [hx]
    exact if_neg h0
  case idle =>
    refine congrArg fin ?_
    unfold State.resetDue
    rw [hnone]
  case units =>
    intro n t
    obtain ⟨hmode, hnv⟩ := s.resetDie_dx d
    obtain ⟨hbooted, hsys⟩ := s.resetDie_die d
    have hview {β : Type} (g : State → β) (hg : ∀ u x y z, g { u with dies := x, xs := y, host := z } = g u) :
        g t = g ((s.dieLost d).unitsReset d) := s.resetDie_view g hg d
    generalize s.dieLost d = u at hview
    exact ⟨fun h1 h2 => (hview (State.input · n) fun _ _ _ _ => rfl).trans (tget_tdrop _ _ _ _ _ ⟨h1, h2⟩),
      fun h1 h2 => (hview (State.dpll · n) fun _ _ _ _ => rfl).trans (tget_tdrop _ _ _ _ _ ⟨h1, h2⟩),
      fun h1 h2 => (hview (State.osc · n) fun _ _ _ _ => rfl).trans (tget_tdrop _ _ _ _ _ ⟨h1, h2⟩),
      fun h1 h2 => (hview (State.opll · n) fun _ _ _ _ => rfl).trans (tget_tdrop _ _ _ _ _ ⟨h1, h2⟩),
      fun h1 h2 => ⟨(hview (State.out · n) fun _ _ _ _ => rfl).trans (tget_tdrop _ _ _ _ _ ⟨h1, h2⟩),
        (hview (State.td · n) fun _ _ _ _ => rfl).trans (tget_tdrop _ _ _ _ _ ⟨h1, h2⟩),
        (hview (State.ev · n) fun _ _ _ _ => rfl).trans (tget_tdrop _ _ _ _ _ ⟨h1, h2⟩)⟩,
      fun h1 h2 => (hview (State.stitch · n) fun _ _ _ _ => rfl).trans (tget_tdrop _ _ _ _ _ ⟨h1, h2⟩),
      fun h1 h2 => (hview (State.chan · n) fun _ _ _ _ => rfl).trans (tget_tdrop _ _ _ _ _ ⟨h1, h2⟩),
      fun _ => ⟨hmode, congrArg NvDie.queue hnv, (congrArg NvDie.locked hnv).trans rfl, hbooted, hsys⟩⟩
  case lock =>
    intro t
    have hdue : (s.fitted d && !(s.die d).sysLock && decide (s.belay.phase ≠ 2)) = true := by simp [hfit, hlock, hphase]
    refine ⟨fun hrun => ?_, fun hd hrom => ?_⟩
    · refine congrArg fin ?_
      unfold State.sysLocked
      rw [if_pos hdue]
      exact if_pos hrun
    · refine congrArg fin ?_
      unfold State.sysLocked
      rw [if_pos hdue]
      dsimp only
      rw [if_neg (by simp [hd, hrom]), State.romRead_follower hd]
      rfl

end Sys2Proof.Machine
end

section
/-! SUPPORT. Belay: entry, capture, power-down, wake-ups, pulses and exit (R530 to R541). -/

namespace Sys2Proof.Machine
open Sys2Proof

/-- What holds of the unlisted value and of every rewritten value holds of what a rewritten table reads. -/
theorem tget_tmapk_of {α : Type} [DecidableEq α] {d : α} {f : Nat → α → α} {P : α → Prop} (hd : P d) (hf : ∀ k v, P (f k v)) (k : Nat) (t : Tbl α) :
    P (tget d (tmapk d f t) k) := by
  induction t with
  | nil => exact hd
  | cons e t ih =>
    obtain ⟨a, v⟩ := e
    unfold tmapk
    split
    · exact ih
    · unfold tget
      split
      · exact hf a v
      · exact ih

/-! ## Entry: rings, semaphores and sessions lie on the host side, or in the dies (R431, R480, R498, R532) -/

/-- The state but for its host side and its dies. -/
def State.offHost (s : State) : State := { s with host := {}, dies := [] }

section
variable (s : State)

theorem State.forEach_offHost (ns : List Nat) (f : State → Nat → State) (h : ∀ t n, (f t n).offHost = t.offHost) :
    (s.forEach ns f).offHost = s.offHost := State.forEach_keep State.offHost f h ns s

theorem State.admitOne_offHost : s.admitOne.offHost = s.offHost := by
  unfold State.admitOne
  split
  · rfl
  · split
    · rfl
    · dsimp only
      split <;> rfl

theorem State.ringOff_offHost (i : Nat) (abort block : Bool) : (s.ringOff i abort block).offHost = s.offHost := by
  unfold State.ringOff
  split
  · rfl
  · exact (s.forEach_offHost _ _ fun t _ => t.admitOne_offHost)

theorem State.endSession_offHost (c : Nat) : (s.endSession c).offHost = s.offHost := by
  unfold State.endSession
  split <;> rfl

/-- The host side stops: rings, semaphores and sessions (R431, R480, R498). -/
def State.hostStops : State := (s.ringsOff true).semFree.forEach (List.range 8) State.endSession

theorem State.hostStops_offHost : s.hostStops.offHost = s.offHost := by
  have hsem (t : State) : t.semFree.offHost = t.offHost := rfl
  have hrings : (s.ringsOff true).offHost = s.offHost := s.forEach_offHost _ _ fun t i => t.ringOff_offHost i false true
  unfold State.hostStops
  rw [State.forEach_offHost _ _ _ State.endSession_offHost, hsem, hrings]

/-- A domain without a pending offset, a commit or a time write (R532). -/
def TdUnit.dropped (u : TdUnit) : TdUnit := { u with pendOfs := none, commit := false, timeWrite := [] }

/-- The domains take no offsets and no time writes (R532). -/
def State.offersDropped (s : State) : State := { s with tds := tmapk {} (fun _ u => u.dropped) s.tds }

/-- The units of state `t` stop: the domains, and all outputs but the belay outputs of `s` (R532). -/
def State.unitsStop (t : State) : State :=
  t.offersDropped.forEach (t.offersDropped.all 16) fun x m => if (s.belayOuts.take 2).contains m then x else x.stopOut m true

/-- What entry notes, over the notes `b` of the belay before it (R530 to R532). -/
def State.belayEntry (cmd : Bool) (b : Belay) : Belay :=
  { b with phase := 1, cmd := cmd, armed := none, trigK := s.tb.k, entryK := none, outs := s.belayOuts.take 2, sawLow := b.mainFail, rose := false,
           duration := if cmd then b.duration else 0, hist := setbIf (setb b.hist 0) 4 (decide (2 < s.belayOuts.length)), tbEn := s.tb.tbEn,
           carried := [], retained := [], live := [], count := 0, sumSd := 0, masterLost := false, inc := [], pulses := [], cross := [], edges := [],
           gen := [], loadDue := false }

theorem State.unitsStop_offOutputs (t : State) : (s.unitsStop t).offOutputs = t.offersDropped.offOutputs := by
  unfold State.unitsStop
  refine State.forEach_offOutputs _ _ _ fun x m => ?_
  split
  · rfl
  · exact x.stopOut_offOutputs m true

theorem State.belayBegin_eq (cmd : Bool) : s.belayBegin cmd = (s.unitsStop s.hostStops).modBelay (s.belayEntry cmd) := rfl

/-- What the host side and the outputs do not touch, entry leaves to the domains. -/
theorem State.unitsStop_view {β : Type} (g : State → β) (hhost : ∀ x : State, g x.offersDropped.offHost = g x.offersDropped)
    (houts : ∀ x : State, g x.offOutputs = g x) : g (s.unitsStop s.hostStops) = g s.offersDropped := by
  have hdrop (x : State) : x.offersDropped.offHost = x.offHost.offersDropped := rfl
  rw [← houts, s.unitsStop_offOutputs, houts, ← hhost, hdrop, s.hostStops_offHost, ← hdrop, hhost]

/-- Entry keeps the timebase and notes the belay over the notes before it. -/
theorem State.belayBegin_tb (cmd : Bool) : (s.belayBegin cmd).tb = s.tb := by
  rw [State.belayBegin_eq, State.modBelay_tb, s.unitsStop_view State.tb (fun _ => rfl) fun _ => rfl]
  rfl

theorem State.belayBegin_belay (cmd : Bool) : (s.belayBegin cmd).belay = s.belayEntry cmd s.belay := by
  rw [State.belayBegin_eq, State.modBelay_belay, s.unitsStop_view State.belay (fun _ => rfl) fun _ => rfl]
  rfl

theorem State.belayBegin_td (cmd : Bool) (n : Nat) : ((s.belayBegin cmd).td n).pendOfs = none ∧ ((s.belayBegin cmd).td n).timeWrite = [] := by
  have htds : (s.belayBegin cmd).tds = s.offersDropped.tds := by
    rw [State.belayBegin_eq, State.modBelay_tds, s.unitsStop_view State.tds (fun _ => rfl) fun _ => rfl]
  unfold State.td
  rw [htds]
  exact tget_tmapk_of (P := fun u : TdUnit => u.pendOfs = none ∧ u.timeWrite = []) ⟨rfl, rfl⟩ (fun _ _ => ⟨rfl, rfl⟩) n s.tds

end

/-! ## Capture (R532) -/

/-- AUTO_SAVE: the qualified models that have learned since their last save are saved (R532). -/
def State.modelsSaved (s : State) : State :=
  s.forEach (s.all 2) fun x o => if (x.model o).state = .qualified ∧ (x.model o).unsaved then x.saveModel o none else x

theorem State.modelsSaved_keeps (s : State) : s.modelsSaved.belay = s.belay ∧ s.modelsSaved.dplls = s.dplls := by
  have hkeep {β : Type} (g : State → β) (hg : ∀ x o, g (State.saveModel x o none) = g x) : g s.modelsSaved = g s := by
    refine State.forEach_keep g _ (fun x o => ?_) _ s
    split
    · exact hg x o
    · rfl
  exact ⟨hkeep State.belay fun _ _ => rfl, hkeep State.dplls fun _ _ => rfl⟩

/-- BELAY_CAPTURE when it is due (R532). -/
theorem State.belayCapture_outcome {s : State} (hphase : s.belay.phase = 1) (hentry : s.belay.entryK = none) (hres : s.tb.restart = false)
    (hrun : s.running = true → s.belay.trigK + 4 ≤ s.tb.k) :
    s.belayCapture.belay.entryK = some s.tb.k ∧ s.belayCapture.belay.entryMts = s.mts ∧ s.belayCapture.belay.y = s.cairn.y ∧
      s.belayCapture.belay.phase = 1 ∧ ∀ n, (s.belayCapture.dpll n).sel.pend = none := by
  have hdue : ¬(s.belay.phase ≠ 1 ∨ s.belay.entryK.isSome = true ∨ s.tb.restart = true ∨ s.running = true ∧ s.tb.k < s.belay.trigK + 4) := by
    simp only [hphase, hentry, hres]
    rintro (h | h | h | ⟨hr, hlt⟩)
    · exact h rfl
    · cases h
    · cases h
    · exact absurd (hrun hr) (Nat.not_le.mpr hlt)
  obtain ⟨u, hu, hk, hmts, hy, hph, hdplls⟩ : ∃ u : State, s.belayCapture = (if s.belay.autoSave then u.modelsSaved else u) ∧
      u.belay.entryK = some s.tb.k ∧ u.belay.entryMts = s.mts ∧ u.belay.y = s.cairn.y ∧ u.belay.phase = s.belay.phase ∧
      u.dplls = tmapk {} (fun _ v => { v with sel := { v.sel with pend := none } }) s.dplls := ⟨_, if_neg hdue, rfl, rfl, rfl, rfl, rfl⟩
  have hkeep : s.belayCapture.belay = u.belay ∧ s.belayCapture.dplls = u.dplls := by
    rw [hu]
    split
    · exact u.modelsSaved_keeps
    · exact ⟨rfl, rfl⟩
  obtain ⟨hb, hd⟩ := hkeep
  rw [hb]
  refine ⟨hk, hmts, hy, hph.trans hphase, fun n => ?_⟩
  unfold State.dpll
  rw [hd, hdplls]
  exact tget_tmapk_of (P := fun v : DpllUnit => v.sel.pend = none) rfl (fun _ _ => rfl) n s.dplls

/-! ## Power-down, wake-ups, pulses and exit (R533 to R540) -/

/-- BELAY_POWER_DOWN when the outputs rest and the saves have ended (R532, R533). -/
theorem State.belayDown_outcome {s : State} (hphase : s.belay.phase = 1) (hentry : s.belay.entryK.isSome = true) (hrest : s.outsRest = true)
    (hsaves : s.savesEnd = true) :
    s.belayDown.belay.phase = 2 ∧ s.belayDown.belay.cnt = satInc s.belay.cnt ∧ s.belayDown.tb.tbEn = false ∧ s.belayDown.tb.k = s.tb.k ∧
      s.belayDown.chans = [] := by
  have hdue : ¬(s.belay.phase ≠ 1 ∨ s.belay.entryK.isNone = true ∨ (!s.outsRest) = true ∨ (!s.savesEnd) = true) := by
    obtain ⟨k, hk⟩ := Option.isSome_iff_exists.mp hentry
    simp [hphase, hk, hrest, hsaves]
  unfold State.belayDown
  dsimp only
  rw [if_neg hdue]
  exact ⟨rfl, rfl, rfl, rfl, rfl⟩

/-- The always-on count of belay goes on by the cycles carried; PHASE stands (R534). -/
theorem State.carry_belay (s : State) (n : Nat) (next : Rat) (fix : Bool) :
    (s.carry n next fix).belay.count = s.belay.count + n ∧ (s.carry n next fix).belay.phase = s.belay.phase := by
  have hports (t : State) (k : Nat) : (t.portSeconds k).belay = t.belay := by
    refine State.forEach_keep State.belay _ (fun _ _ => ?_) _ t
    rfl
  have hmodels (t : State) (ns : List Nat) (k : Nat) : (t.forEach ns fun x o => x.modModel o fun q => q.older k).belay = t.belay := by
    refine State.forEach_keep State.belay _ (fun _ _ => ?_) ns t
    rfl
  unfold State.carry
  dsimp only
  rw [hports, hmodels]
  exact ⟨rfl, rfl⟩

/-- BELAY_WAKE once WAKE_S has passed (R535, R536). -/
theorem State.belayWake_outcome {s : State} {n : Nat} (hphase : s.belay.phase = 2) (hdue : (s.belay.wakeS : Rat) ≤ s.cycSec n) (temp : Option Int) :
    (s.belayWake n temp).belay.count = s.belay.count + n ∧ (s.belayWake n temp).belay.temp = temp.getD s.belay.temp ∧
      (s.belayWake n temp).belay.phase = 2 := by
  obtain ⟨hcount, hph⟩ := s.carry_belay n s.belay.dy false
  have hwake : ¬(s.belay.phase ≠ 2 ∨ s.cycSec n < (s.belay.wakeS : Rat)) := by simp [hphase, hdue]
  unfold State.belayWake
  dsimp only
  rw [if_neg hwake]
  generalize s.carry n s.belay.dy false = u at hcount hph ⊢
  exact ⟨hcount, rfl, hph.trans hphase⟩

/-- BELAY_OUTPUT_PULSE of an output that the generator drives (R537). -/
theorem State.belayPulse_outcome {s : State} {m : Nat} (hgen : s.belay.gen.contains m = true) (hrun : (s.out m).state = .running)
    (hmaster : s.belay.masterLost = false) :
    ((s.belayPulse m).out m).pulses = (s.out m).pulses + 1 ∧
      tget 0 (s.belayPulse m).belay.cross m = tget 0 s.belay.cross m + tget 0 s.belay.inc m := by
  unfold State.belayPulse
  dsimp only
  rw [if_pos (by simp only [hgen, hrun, hmaster]; rfl), State.modOut_out, if_pos rfl]
  refine ⟨rfl, ?_⟩
  rw [State.modOut_belay, State.modBelay_belay]
  dsimp only
  rw [tget_tset, if_pos rfl]

/-- BELAY_EXIT once the exit criterion is met (R539, R540). -/
theorem State.belayExit_outcome {s : State} {n : Nat} (hphase : s.belay.phase = 2) (hmet : s.exitMet n = true) :
    (s.belayExit n).belay.phase = 3 ∧ (s.belayExit n).belay.rstCause = 3 ∧ (s.belayExit n).belay.count = s.belay.count + n := by
  obtain ⟨hcount, -⟩ := s.carry_belay n s.belay.dy false
  have hdue : ¬(s.belay.phase ≠ 2 ∨ (!s.exitMet n) = true) := by simp [hphase, hmet]
  unfold State.belayExit
  dsimp only
  rw [if_neg hdue]
  generalize s.carry n s.belay.dy false = u at hcount ⊢
  exact ⟨rfl, rfl, hcount⟩

/-! ## The triggers (R531, R543) -/

/-- MAIN_FAILn is low. -/
def Belay.mainLow (b : Belay) : Belay := { b with mainFail := true, sawLow := b.sawLow || decide (b.phase ≠ 0), rose := false }

theorem State.belayTrigger_pin {s : State} (hphase : s.belay.phase = 0) (hen : s.belay.mainfailEn = true) :
    s.belayTrigger true = (s.modBelay Belay.mainLow).belayBegin false :=
  if_pos (by rw [hen, hphase]; rfl)

theorem State.belayTrigger_masked {s : State} (hen : s.belay.mainfailEn = false) : s.belayTrigger true = s.modBelay Belay.mainLow := by
  have hpin : (s.belay.mainfailEn && decide (s.belay.phase = 0)) = false := by rw [hen]; rfl
  have hagain : (s.modBelay Belay.mainLow).belayAgain = s.modBelay Belay.mainLow := by
    unfold State.belayAgain
    refine if_neg ?_
    simp [Belay.mainLow, hen]
  exact (if_neg (by rw [hpin]; exact Bool.false_ne_true)).trans hagain

theorem State.belayTrigger_command {s : State} {c : Nat} (harmed : s.belay.armed = some c) :
    s.belayTrigger false = if decide (s.belay.phase = 0) && (s.mbx c).held.isEmpty then s.belayBegin true else s := by
  unfold State.belayTrigger
  dsimp only
  rw [if_neg Bool.false_ne_true, harmed]

/-- Settles O35: each event is the operation of its row, taken in the branch that the conditions of its clause open. That entry drops the
offsets and the time writes of the domains, that it waits for a held answer, that the capture comes four boundaries or more after the trigger, and
that the power-down waits for the saves are the model's choice (log entry 41). -/
theorem belayEventsComplete : Obligations.BelayEventsComplete := by
  unfold Obligations.BelayEventsComplete
  intro s b
  refine ⟨fun hphase hen => ?pin, fun c hphase harmed hheld => ?command, fun c harmed hheld => ?held, fun hen => ?masked, rfl,
    fun hphase hentry hres hrun => ?capture, fun hphase hentry hrest hsaves => ?down, fun cnt temp hphase hdue => ?wake,
    fun m hgen hrun hmaster => ?pulse, fun cnt hphase hmet => ?exit⟩
  case pin =>
    have hbelay := (s.modBelay Belay.mainLow).belayBegin_belay false
    have htb := (s.modBelay Belay.mainLow).belayBegin_tb false
    refine ⟨_, congrArg fin (State.belayTrigger_pin hphase hen), ?_⟩
    rw [State.after_belay, State.after_tb, hbelay, htb]
    exact ⟨rfl, rfl, rfl, rfl, bit_setbIf_of (bit_setb_same _ (by decide)) _ _, rfl⟩
  case command =>
    have htrigger : s.belayTrigger false = s.belayBegin true := by
      rw [State.belayTrigger_command harmed, if_pos (by rw [show s.belay.phase = 0 from hphase, hheld]; rfl)]
    refine ⟨_, congrArg fin htrigger, ?_⟩
    rw [State.after_belay, State.belayBegin_belay]
    refine ⟨rfl, rfl, rfl, rfl, fun n => ?_⟩
    rw [State.after_td_same]
    exact s.belayBegin_td true n
  case held =>
    refine congrArg fin ((State.belayTrigger_command harmed).trans (if_neg ?_))
    simp [hheld]
  case masked => exact congrArg fin (State.belayTrigger_masked hen)
  case capture =>
    obtain ⟨hk, hmts, hy, hph, hpend⟩ := State.belayCapture_outcome hphase hentry hres hrun
    refine ⟨_, rfl, ?_⟩
    rw [State.after_belay]
    exact ⟨hk, hmts, hy, hph, fun n => by rw [State.after_dpll_same]; exact hpend n⟩
  case down =>
    refine ⟨_, rfl, ?_⟩
    rw [State.after_belay, State.after_tb, State.after_chans]
    exact State.belayDown_outcome hphase hentry hrest hsaves
  case wake =>
    refine ⟨_, rfl, ?_⟩
    rw [State.after_belay]
    exact State.belayWake_outcome hphase hdue temp
  case pulse =>
    refine ⟨_, rfl, ?_⟩
    rw [State.after_belay, State.after_out_same]
    exact State.belayPulse_outcome hgen hrun hmaster
  case exit =>
    refine ⟨_, rfl, ?_⟩
    rw [State.after_belay]
    exact State.belayExit_outcome hphase hmet

end Sys2Proof.Machine
end

section
/-! SUPPORT. One step of the queue, and a record that finds its ring full (R486). -/

namespace Sys2Proof.Machine
open Sys2Proof

/-- Settles O39: the step takes the queue apart. That a machine with nothing waiting idles is the model's choice (log entry 1). -/
theorem stepRunsFrontCommand : Obligations.StepRunsFrontCommand := by
  unfold Obligations.StepRunsFrontCommand
  refine ⟨fun s c cs h => ?_, fun s h => ?_⟩
  · unfold step
    rw [h]
  · unfold step
    rw [h]

/-! ## A full ring (R485, R486) -/

/-- A full ring counts the record as dropped and keeps its entries and pointers. -/
theorem Ring.take_full {q : Ring} (h : q.entries ≤ q.unread) (r : BitVec 128) (mts : Nat) :
    q.take r mts = { q.dropN 1 4 with hist := setb (q.dropN 1 4).hist 1 } := by
  have hput : q.put r 1 4 = { q.dropN 1 4 with hist := setb (q.dropN 1 4).hist 1 } := if_pos h
  unfold Ring.take
  rw [hput]
  exact if_pos rfl

theorem State.modHost_ring (s : State) {f : HostSide → HostSide} (h : ∀ x, (f x).rings = x.rings) (i : Nat) : (s.modHost f).ring i = s.ring i :=
  congrArg (fun t => tget ({} : Ring) t i) (h s.host)

/-- Settles O58: the ring whose turn it is takes the record off its queue and, being full, drops it (R486). -/
theorem fullRingDropsRecord : Obligations.FullRingDropsRecord := by
  unfold Obligations.FullRingDropsRecord
  intro s i r rs hturn u hq hfull
  have hring : ((s.recordWrite i).ring i) = ({ u with q := rs } : Ring).take r s.mts := by
    rw [State.recordWrite_turn hturn hq, State.modHost_ring, State.modRing_ring, if_pos rfl]
    exact fun _ => rfl
  refine ⟨_, rfl, ?_⟩
  rw [State.after_ring, hring, Ring.take_full (q := { u with q := rs }) hfull]
  exact ⟨rfl, bit_setb_same _ (by decide), rfl, rfl, rfl, rfl⟩

end Sys2Proof.Machine
end

section
/-! SUPPORT. The housekeeping and session commands (R442 to R451, R454, R455, R458, R459). -/

namespace Sys2Proof.Machine
open Sys2Proof

/-! ## RESET (R445) -/

section
variable {s : State} {c : Nat} {p : List Byte} (hc : c < 4) (h1 : 1 ≤ uAt p 2 2) (h1000 : uAt p 2 2 ≤ 1000)
include hc h1 h1000

theorem resetReply_package (hsc : uAt p 0 1 = 0) (hd : uAt p 1 1 = 0) :
    resetReply c p s = okReply (s.modHost fun h => { h with resetReq := insReset (0, h.boot.uptime + uAt p 2 2, c, s.ownerOf c) h.resetReq }) := by
  have hms : uAt p 2 2 ≠ 0 := by omega
  have hchecks : resetReply c p s = okReply (s.modHost fun h =>
      { h with resetReq := insReset (uAt p 1 1, h.boot.uptime + uAt p 2 2, c, s.ownerOf c) h.resetReq }) := by
    refine guarded_pass s _ ?_
    simp [notSec, hsc, hd, hms, Nat.not_le.mpr hc, Nat.not_lt.mpr h1000]
  rw [hchecks, hd]

theorem resetReply_die (hsc : uAt p 0 1 = 1) (hd : 1 ≤ uAt p 1 1) (hd8 : uAt p 1 1 < 8) (hfit : s.fitted (uAt p 1 1) = true)
    (hup : s.dieUp (uAt p 1 1) = true ∨ (s.dx (uAt p 1 1)).bootedOnce = true) :
    resetReply c p s = okReply (s.modHost fun h =>
      { h with resetReq := insReset (uAt p 1 1, h.boot.uptime + uAt p 2 2, c, s.ownerOf c) h.resetReq }) := by
  have hms : uAt p 2 2 ≠ 0 := by omega
  have hd0 : uAt p 1 1 ≠ 0 := by omega
  have hready : (!s.dieUp (uAt p 1 1) && !(s.dx (uAt p 1 1)).bootedOnce) = false := by
    rcases hup with h | h <;> simp [h]
  refine guarded_pass s _ ?_
  simp [notSec, dieAbsent, hsc, hd0, hfit, hms, Nat.not_le.mpr hc, Nat.not_lt.mpr h1000, Nat.not_le.mpr hd8, Bool.and_assoc, hready]

end

/-! ## What is read (R446, R455, R458) -/

theorem getAbortStatusReply_ok {s : State} {p : List Byte} (hr : uAt p 0 4 = 0) (hrom : s.host.boot.rom = false) (c : Nat) :
    getAbortStatusReply c p s = okWith (leBytes 1 s.host.abort.result ++ leBytes 1 s.host.abort.log.length ++ leBytes 2 s.host.abort.func ++
      leBytes 4 s.host.abort.total ++ s.host.abort.log.flatMap AbortLog.bytes) s := by
  unfold getAbortStatusReply
  dsimp only
  rw [hrom]
  refine guarded_pass s _ ?_
  simp [rsv, hr]

theorem eventReadReply_ok {s : State} {p : List Byte} (h1 : 1 ≤ uAt p 0 1) (h15 : uAt p 0 1 ≤ 15) (hr : uAt p 1 3 = 0) (c : Nat) :
    let n := uAt p 0 1
    let q := (s.mbx c).queue
    eventReadReply c p s = okWith (leBytes 1 (q.take n).length ++ leBytes 1 (q.drop n).length ++ leBytes 2 (s.mbx c).lost ++ zeros 4 ++
      (q.take n).flatMap EventEntry.bytes) (s.modMbx c fun x => { x with queue := q.drop n, lost := 0 }) := by
  have h0 : uAt p 0 1 ≠ 0 := by omega
  refine guarded_pass s _ ?_
  simp [rsv, hr, h0, Nat.not_lt.mpr h15]

/-- The second byte of what follows a byte is the first of the rest. -/
theorem getD_one_leBytes (a b : Nat) (l : List Byte) : (leBytes 1 a ++ leBytes 1 b ++ l).getD 1 0 = BitVec.ofNat 8 (b % 256) := rfl

/-- LOG_GET answers bytes of which the second is SOURCE (R458). -/
theorem logGetReply_source {s : State} {p : List Byte} (hsrc : uAt p 0 1 ≤ 1) (hsev : uAt p 1 1 ≤ 4) (h1 : 1 ≤ uAt p 2 1) (h7 : uAt p 2 1 ≤ 7)
    (hr : uAt p 3 1 = 0) (c : Nat) : ∃ b, logGetReply c p s = okWith b s ∧ b.getD 1 0 = BitVec.ofNat 8 (uAt p 0 1) := by
  have h0 : uAt p 2 1 ≠ 0 := by omega
  have hmod : uAt p 0 1 % 256 = uAt p 0 1 := Nat.mod_eq_of_lt (by omega)
  have hpass : firstErr [(decide (1 < uAt p 0 1) || decide (4 < uAt p 1 1) || decide (uAt p 2 1 = 0) || decide (7 < uAt p 2 1) || !rsv p 3 1,
      retBadParam)] = none := by
    simp [rsv, hr, h0, Nat.not_lt.mpr hsrc, Nat.not_lt.mpr hsev, Nat.not_lt.mpr h7]
  unfold logGetReply
  dsimp only
  rw [guarded_pass s _ hpass]
  refine ⟨_, rfl, ?_⟩
  cases (if uAt p 0 1 = 0 then s.host.ramLog else s.host.nvLog) with
  | nil =>
    simp only [List.append_assoc]
    rw [← List.append_assoc, getD_one_leBytes, hmod]
  | cons o os =>
    simp only [List.append_assoc]
    rw [← List.append_assoc, getD_one_leBytes, hmod]

/-! ## What is set (R451, R454, R459) -/

theorem eventSubscribeReply_ok {s : State} {p : List Byte} (h0 : (uAt p 0 2).testBit 0 = false) (h15 : (uAt p 0 2).testBit 15 = false)
    (hf : uAt p 2 1 ≤ 1) (hr : uAt p 3 1 = 0) (c : Nat) :
    eventSubscribeReply c p s = okWith (leBytes 2 (uAt p 0 2 + 32768) ++ zeros 2) (s.modMbx c fun x =>
      { x with maskDue := some (uAt p 0 2), queue := if uAt p 2 1 = 1 then [] else x.queue, lost := if uAt p 2 1 = 1 then 0 else x.lost }) := by
  refine (guarded_pass s _ ?_).trans ?_
  · simp only [h0, h15, rsv, hr, Nat.not_lt.mpr hf]
    rfl
  · refine congrArg (fun f => okWith _ (s.modMbx c f)) (funext fun x => ?_)
    split <;> rfl

theorem channelPolicyReply_ok {s : State} {c : Nat} {p : List Byte} (hc : c < 4) (hm : uAt p 0 1 < 16) (hr : uAt p 1 3 = 0) :
    channelPolicyReply c p s = okReply (s.modMbx c fun x => { x with roDue := some (uAt p 0 1) }) := by
  refine guarded_pass s _ ?_
  simp [notSec, rsv, hr, Nat.not_le.mpr hc, Nat.not_le.mpr hm]

theorem logClearReply_ok {s : State} {c : Nat} {p : List Byte} (hc : c < 4) (h1 : 1 ≤ uAt p 0 1) (h3 : uAt p 0 1 ≤ 3) (hr : uAt p 1 3 = 0) :
    logClearReply c p s =
      if uAt p 0 1 = 1 then okReply (s.modHost fun h => { h with ramLog := [] })
      else { ret := retOK, wait := true,
             s := s.queueSave 0 7 false (.log [] s.host.nvSeq) (some c) (.clearLog ((uAt p 0 1).testBit 0) s.host.nvSeq) } := by
  have h0 : uAt p 0 1 ≠ 0 := by omega
  have hpass : firstErr [(notSec c, retDenied), (decide (uAt p 0 1 = 0) || decide (3 < uAt p 0 1) || !rsv p 1 3, retBadParam)] = none := by
    simp [notSec, rsv, hr, h0, Nat.not_le.mpr hc, Nat.not_lt.mpr h3]
  unfold logClearReply
  dsimp only
  rw [hpass]

/-- Settles O1: each command is ready and its checks pass, so it acknowledges with its effect; LOG_CLEAR of the store waits for its save. -/
theorem housekeepingCommandsComplete : Obligations.HousekeepingCommandsComplete := by
  unfold Obligations.HousekeepingCommandsComplete
  intro s c m p
  refine ⟨fun h => State.runCmd_acks h rfl, fun h => State.runCmd_acks h rfl, fun h => State.runCmd_acks h rfl,
    fun h hc hsc hd h1 h1000 => ?package, fun h hc hsc hd hd8 hfit hup h1 h1000 => ?die, fun h hr hrom => ?abort,
    fun h h0 h15 hf hr => ?subscribe, fun h h1 h15 hr => ?read, fun h hsrc hsev h1 h7 hr => ?log, fun h hc hm hr => ?clearRam,
    fun h hc hm hr => ?clearStore, fun h hc hm hr => ?policy⟩
  case package => exact State.runCmd_acks h (resetReply_package hc h1 h1000 hsc hd)
  case die => exact State.runCmd_acks h (resetReply_die hc h1 h1000 hsc hd hd8 hfit hup)
  case abort => exact State.runCmd_acks h (getAbortStatusReply_ok hr hrom c)
  case subscribe => exact State.runCmd_acks h (eventSubscribeReply_ok h0 h15 hf hr c)
  case read => exact State.runCmd_acks h (eventReadReply_ok h1 h15 hr c)
  case log =>
    obtain ⟨b, hb, hsource⟩ := logGetReply_source hsrc hsev h1 h7 hr c
    exact ⟨b, State.runCmd_acks h hb, hsource⟩
  case clearRam => exact State.runCmd_acks h ((logClearReply_ok hc (by omega) (by omega) hr).trans (if_pos hm))
  case clearStore => exact State.runCmd_waits h ((logClearReply_ok hc (by omega) (by omega) hr).trans (if_neg (by omega)))
  case policy => exact State.runCmd_acks h (channelPolicyReply_ok hc hm hr)

end Sys2Proof.Machine
end

section
/-! SUPPORT. The session commands (R447 to R450). -/

namespace Sys2Proof.Machine
open Sys2Proof

theorem State.portOf_msg {s : State} {c : Nat} {m : Msg} (hm : (s.mbx c).msg = some m) : s.portOf c = m.port := by
  unfold State.portOf
  rw [hm]

theorem State.endSession_none {s : State} {c : Nat} (h : (s.mbx c).sess = none) : s.endSession c = s := by
  unfold State.endSession
  rw [h]
  rfl

/-- SESSION_OPEN without authentication on a channel that has no session (R447). -/
theorem sessionOpenReply_new {s : State} {c : Nat} {p : List Byte} (hnone : (s.mbx c).sess = none) (hf : uAt p 0 1 = 0) (hr : uAt p 1 1 = 0)
    (hfirst : uAt p 2 2 ≠ 0xFFFF) :
    let id := (s.host.sessions + 1) % 2 ^ 32
    let q : Session := { port := s.portOf c, owner := uAt p 4 4, id := id, nextSeq := uAt p 2 2, nonce := none }
    sessionOpenReply c p s = okWith (leBytes 1 c ++ leBytes 1 (s.portOf c) ++ leBytes 1 (b2n (s.dx 0).otp.portKey) ++ zeros 1 ++ leBytes 4 id ++ zeros 32)
      ((s.modMbx c fun x => { x with sess := some q }).modHost fun h => { h with sessions := id }) := by
  have hauth : (uAt p 0 1).testBit 0 = false := by rw [hf]; rfl
  intro id q
  unfold sessionOpenReply
  dsimp only
  rw [hauth, State.endSession_none hnone]
  refine guarded_pass s _ ?_
  simp [hf, rsv, hr, hfirst, hnone]

/-- SESSION_AUTH with the right MAC (R448). -/
theorem sessionAuthReply_right {s : State} {c : Nat} {p : List Byte} {q : Session} (hq : (s.mbx c).sess = some q)
    (hlock : (s.port (s.portOf c)).authLocked = false) (hid : uAt p 0 4 = q.id) (hnonce : q.nonce.isSome = true)
    (hmac : (s.dx 0).otp.macOk (q.nonce.getD []) c q.port q.id ((p.drop 4).take 32) = true) :
    sessionAuthReply c p s = okReply ((s.modMbx c fun x => { x with sess := some { q with nonce := none, authed := true } }).modPort (s.portOf c)
      fun t => { t with authFails := 0 }).refreshAuth := by
  have hpass : firstErr [((s.port (s.portOf c)).authLocked, retDenied), (decide (uAt p 0 4 ≠ q.id) || q.nonce.isNone, retBadParam)] = none := by
    simp [hlock, hid, Option.isNone_eq_false_iff.mpr hnonce]
  unfold sessionAuthReply
  dsimp only
  rw [hq]
  dsimp only
  rw [hpass]
  exact if_pos hmac

theorem sessionCloseReply_ok {s : State} {p : List Byte} (hr : uAt p 0 4 = 0) (c : Nat) : sessionCloseReply c p s = okReply (s.endSession c) := by
  refine guarded_pass s _ ?_
  simp [rsv, hr]

/-- PORT_KEY_PROGRAM where no key stands: the draw says whether the write passes its read-back (R450, log entry 33). -/
theorem portKeyProgramReply_drawn {s : State} {c : Nat} {p : List Byte} (hc : c < 4) (hkey : (s.dx 0).otp.portKey = false)
    (hmagic : uAt p 0 4 = 0x4B590001) (hzero : (p.drop 4).take 32 ≠ zeros 32)
    (hconf : ((s.dx 0).nv.queue.any fun j => decide (j.fin = .confirm)) = false) :
    portKeyProgramReply c p s =
      if s.draw.1.getLsbD 0 then
        { ret := retNv, s := s.draw.2.modDx 0 fun x => { x with otp := { x.otp with portKey := true, portPart := true } } }
      else okReply (s.draw.2.modDx 0 fun x => { x with otp := { x.otp with portKey := true, key := (p.drop 4).take 32 } }) := by
  have hpass : firstErr [(notSec c || (s.dx 0).otp.portKey, retDenied),
      (decide (uAt p 0 4 ≠ 0x4B590001) || decide ((p.drop 4).take 32 = zeros 32), retBadParam),
      ((s.dx 0).nv.queue.any fun j => decide (j.fin = .confirm), retBusy)] = none := by
    rw [hconf]
    simp [notSec, hkey, hmagic, hzero, Nat.not_le.mpr hc]
  unfold portKeyProgramReply
  dsimp only
  rw [hpass]

/-- Settles O2: each command is ready and its checks pass, so it acknowledges with its effect; the draw that fails a port key answers ERR_NV
(log entry 33). -/
theorem sessionCommandsComplete : Obligations.SessionCommandsComplete := by
  unfold Obligations.SessionCommandsComplete
  intro s c m p
  refine ⟨fun h hnone hf hr hfirst => ?new, fun q h hq hlock hid hnonce hmac => ?right, fun h hr => ?close,
    fun h hc hkey hmagic hzero hconf => ?key⟩
  case new =>
    have hopen := sessionOpenReply_new hnone hf hr hfirst
    rw [State.portOf_msg h.1] at hopen
    exact State.runCmd_acks h hopen
  case right =>
    have hport := State.portOf_msg h.1
    have hok := sessionAuthReply_right hq (hport.symm ▸ hlock) hid hnonce hmac
    rw [hport] at hok
    exact State.runCmd_acks h hok
  case close => exact State.runCmd_acks h (sessionCloseReply_ok hr c)
  case key =>
    have hdrawn := portKeyProgramReply_drawn hc hkey hmagic hzero hconf
    by_cases hfails : s.draw.1.getLsbD 0 = true
    · rw [if_pos hfails] at hdrawn ⊢
      exact State.runCmd_refused h hdrawn (by decide) (.inl (by decide))
    · rw [if_neg hfails] at hdrawn ⊢
      exact State.runCmd_acks h hdrawn

end Sys2Proof.Machine
end

section
/-! SUPPORT. The commands of the DMA engine and the interrupt routes (R494 to R496). -/

namespace Sys2Proof.Machine
open Sys2Proof

/-- A payload of DMA_RING_CONFIG that enables a ring of `s`: the ring is disabled, and every field lies in its range (R494). -/
structure RingEnabling (s : State) (p : List Byte) : Prop where
  ring : uAt p 0 1 < 16
  disabled : (s.ring (uAt p 0 1)).enable = false
  enable : uAt p 1 1 = 1
  sizeMin : 12 ≤ uAt p 2 1
  sizeMax : uAt p 2 1 ≤ 24
  source : uAt p 3 1 = 1 ∧ uAt p 6 1 ≤ 127 ∨ uAt p 3 1 = 2 ∧ uAt p 6 1 ≤ 223
  weightMin : 1 ≤ uAt p 4 1
  weightMax : uAt p 4 1 ≤ 15
  types : uAt p 5 1 ≤ uAt p 6 1
  base : uAt p 8 8 % 4096 = 0
  writeBack : uAt p 16 8 % 16 = 0
  threshMin : 1 ≤ uAt p 24 2
  threshMax : uAt p 24 2 ≤ min (2 ^ uAt p 2 1 / 16 / 2) 65535
  timer : 1 ≤ uAt p 26 2
  reserved : uAt p 7 1 = 0 ∧ uAt p 28 4 = 0

/-- DMA_RING_CONFIG that enables a ring (R494, log entry 44). -/
theorem dmaRingConfigReply_on {s : State} {c : Nat} {p : List Byte} (hc : c < 4) (hx : s.part.featX = true) (hlink : s.host.linkUp = true)
    (hbme : s.host.bme = true) (hp : RingEnabling s p) :
    dmaRingConfigReply c p s = okReply (s.admitAll.modRing (uAt p 0 1) fun q =>
      ({ q with enable := true, size := uAt p 2 1, source := uAt p 3 1, weight := uAt p 4 1, base := uAt p 8 8, wb := uAt p 16 8,
                lo := uAt p 5 1, hi := uAt p 6 1, thresh := uAt p 24 2, timer := uAt p 26 2, wr := 0, rd := 0, drop := 0,
                written := 0, mem := [], q := [] } : Ring).writeBack s.mts) := by
  obtain ⟨h16, hoff, hen, hsz, hsz2, hsrc, hwt, hwt2, hlo, hbase, hwb, hth, hth2, htm, hr7, hr28⟩ := hp
  have hsource : (decide (uAt p 3 1 ≠ 1) && decide (uAt p 3 1 ≠ 2)) = false := by
    rcases hsrc with h | h <;> simp [h.1]
  have htop : uAt p 6 1 ≤ if uAt p 3 1 = 1 then 127 else 223 := by
    rcases hsrc with h | h <;> simp [h.1, h.2]
  have hwt0 : uAt p 4 1 ≠ 0 := by omega
  have hth0 : uAt p 24 2 ≠ 0 := by omega
  have htm0 : uAt p 26 2 ≠ 0 := by omega
  unfold dmaRingConfigReply
  dsimp only
  rw [if_pos hen, if_pos hen, hsource]
  refine guarded_pass s _ ?_
  simp only [notSec, rsv, hx, hlink, hbme, hoff, hen, hr7, hbase, hwb, hr28, hwt0, hth0, htm0, Nat.not_le.mpr hc, Nat.not_le.mpr h16, Nat.not_lt.mpr hsz,
    Nat.not_lt.mpr hsz2, Nat.not_lt.mpr hwt2, Nat.not_lt.mpr hlo, Nat.not_lt.mpr hth2, Nat.not_lt.mpr htop]
  rfl

/-- DMA_RING_CONFIG that disables a ring (R494). -/
theorem dmaRingConfigReply_off {s : State} {c : Nat} {p : List Byte} (hc : c < 4) (hx : s.part.featX = true) (h16 : uAt p 0 1 < 16)
    (hen : uAt p 1 1 = 0) (hsz : uAt p 2 1 = 0) (hsrc : uAt p 3 1 = 0) (hr7 : uAt p 7 1 = 0) (hr28 : uAt p 28 4 = 0) :
    dmaRingConfigReply c p s = okReply (s.ringOff (uAt p 0 1) false true) := by
  have hne : ¬ uAt p 1 1 = 1 := by omega
  unfold dmaRingConfigReply
  dsimp only
  rw [if_neg hne, if_neg hne]
  refine guarded_pass s _ ?_
  simp [notSec, rsv, hx, hen, hsz, hsrc, hr7, hr28, Nat.not_le.mpr hc, Nat.not_le.mpr h16]

/-- DMA_GET_STATUS of a ring, or of the local ring at 0xFF (R495, log entry 51). -/
theorem dmaGetStatusReply_ok {s : State} {p : List Byte} (hring : uAt p 0 1 < 16 ∧ s.part.featX = true ∨ uAt p 0 1 = 0xFF)
    (hr : uAt p 1 3 = 0) (c : Nat) :
    let r := uAt p 0 1
    let q := if r = 0xFF then s.host.loc else s.ring r
    dmaGetStatusReply c p s = okWith (leBytes 1 r ++ leBytes 1 (b2n (q.enable || decide (r = 0xFF)) + 2 * b2n s.host.bme + 4 * b2n s.host.linkUp) ++
      zeros 2 ++ leBytes 4 q.wr ++ leBytes 4 q.rd ++ leBytes 4 q.drop ++ leBytes 8 q.written ++ leBytes 8 (if r = 0xFF then 0 else q.lastWb)) s := by
  intro r q
  unfold dmaGetStatusReply
  simp only [decide_eq_true_eq]
  refine guarded_pass s _ ?_
  rcases hring with ⟨h16, hx⟩ | hloc
  · simp [rsv, hr, hx, Nat.not_le.mpr h16]
  · simp [rsv, hr, hloc]

/-- IRQ_ROUTE of a source there is, to a vector or, at 0xFF, to none (R496, log entry 44). -/
theorem irqRouteReply_ok {s : State} {c : Nat} {p : List Byte} (hc : c < 4) (h128 : uAt p 0 2 < 128) (hgap : uAt p 0 2 < 11 ∨ 16 ≤ uAt p 0 2)
    (hsrc : s.srcAbsent (uAt p 0 2) = false) (hv : uAt p 2 1 = 0xFF ∨ uAt p 2 1 ≤ 31 ∧ s.part.featX = true) (hpins : uAt p 3 1 < 4) :
    irqRouteReply c p s = okReply (s.modHost fun h =>
      { h with route := tset 0x100 h.route (uAt p 0 2) (put 0 5 (if uAt p 2 1 = 0xFF then 0 else uAt p 2 1) ||| putb 5 (decide (uAt p 2 1 = 0xFF)) |||
        put 8 2 (uAt p 3 1)) }) := by
  have hnumber : (decide (11 ≤ uAt p 0 2) && decide (uAt p 0 2 < 16)) = false := by
    simp only [Bool.and_eq_false_iff, decide_eq_false_iff_not]
    omega
  have hvector : (!s.part.featX && decide (uAt p 2 1 ≤ 31)) = false ∧ (decide (31 < uAt p 2 1) && decide (uAt p 2 1 ≠ 0xFF)) = false := by
    rcases hv with h | ⟨h, hx⟩
    · simp [h]
    · simp [hx, Nat.not_lt.mpr h]
  unfold irqRouteReply
  dsimp only
  rw [hnumber, hvector.1, hvector.2]
  refine guarded_pass s _ ?_
  simp [notSec, hsrc, Nat.not_le.mpr hc, Nat.not_le.mpr h128, Nat.not_le.mpr hpins]

/-- Settles O9: each command is ready and its checks pass, so it acknowledges with its effect. That a disabling DMA_RING_CONFIG and a route
without a vector ignore their other fields, and that the local ring always reads enabled, is the model's choice (log entries 44 and 51). -/
theorem dmaCommandsComplete : Obligations.DmaCommandsComplete := by
  unfold Obligations.DmaCommandsComplete
  intro s c m p r
  refine ⟨?on, fun h hc hx h16 hen hsz hsrc hr7 hr28 => ?off, fun h hring hr => ?status, fun h hc h128 hgap hsrc hv hpins => ?route⟩
  case on =>
    intro h hc hx hlink hbme hoff h16 hen hsz hsz2 hsrc hwt hwt2 hlo hr7 hbase hwb hth hth2 htm hr28
    exact State.runCmd_acks h (dmaRingConfigReply_on hc hx hlink hbme ⟨h16, hoff, hen, hsz, hsz2, hsrc, hwt, hwt2, hlo, hbase, hwb, hth, hth2, htm, hr7, hr28⟩)
  case off => exact State.runCmd_acks h (dmaRingConfigReply_off hc hx h16 hen hsz hsrc hr7 hr28)
  case status => exact State.runCmd_acks h (dmaGetStatusReply_ok hring hr c)
  case route => exact State.runCmd_acks h (irqRouteReply_ok hc h128 hgap hsrc hv hpins)

end Sys2Proof.Machine
end

section
/-! SUPPORT. The commands of the store (R520 to R524). -/

namespace Sys2Proof.Machine
open Sys2Proof

/-- The checks that name a die pass for a die that is up (R10, R12). -/
theorem dieAbsent_up {s : State} {d : Nat} (h : s.dieUp d = true) : dieAbsent s d = (false, retAbsent) := by
  have hfit : s.fitted d = true := (Bool.and_eq_true_iff.mp h).1
  simp [dieAbsent, hfit]

theorem dieDown_up {s : State} {d : Nat} (h : s.dieUp d = true) : dieDown s d = (false, retNotReady) := by
  simp [dieDown, h]

theorem firstErr_dieRead {s : State} {d : Nat} {p : List Byte} (hd : d < 8) (hup : s.dieUp d = true) (hr : uAt p 1 3 = 0) :
    firstErr [dieAbsent s d, dieDown s d, (decide (8 ≤ d) || !rsv p 1 3, retBadParam)] = none := by
  rw [dieAbsent_up hup, dieDown_up hup]
  simp [rsv, hr, Nat.not_le.mpr hd]

theorem nvRange_in {d part : Nat} (hd : d < 8) (hpart : part < 8) : nvRange d part = false := by
  simp [nvRange, Nat.not_le.mpr hd, Nat.not_le.mpr hpart]

section
variable {s : State} {c : Nat} {p : List Byte} (hup : uAt p 0 1 < 8 ∧ s.dieUp (uAt p 0 1) = true) (h1 : 1 ≤ uAt p 1 1) (h8 : uAt p 1 1 < 8)
include hup h1 h8

/-- The checks that the commands of a partition begin with: the die is up, and the partition is a user's that the channel may use (R525). -/
theorem firstErr_partChecks {usable : Bool} (hopen : usable = true) (l : List (Bool × Nat)) :
    firstErr (dieAbsent s (uAt p 0 1) :: (decide (uAt p 1 1 = 0), retDenied) ::
      (!nvRange (uAt p 0 1) (uAt p 1 1) && !usable, retDenied) :: dieDown s (uAt p 0 1) :: l) = firstErr l := by
  have h0 : uAt p 1 1 ≠ 0 := by omega
  rw [dieAbsent_up hup.2, dieDown_up hup.2]
  simp [h0, hopen]

theorem nvReadReply_ok (hopen : s.partOk c (uAt p 0 1) (uAt p 1 1) false = true) (hlen : 1 ≤ uAt p 2 1) (hlen2 : uAt p 2 1 ≤ 192)
    (hr : uAt p 3 1 = 0) (hend : uAt p 4 4 + uAt p 2 1 ≤ 24576) :
    nvReadReply c p s = okWith (p.take 8 ++ (List.range (uAt p 2 1)).map fun i =>
      tget 0xFF (s.dx (uAt p 0 1)).nv.cells (cellAt (uAt p 1 1) (uAt p 4 4 + i))) s := by
  have hlen0 : uAt p 2 1 ≠ 0 := by omega
  refine guarded_pass s _ ?_
  rw [firstErr_partChecks hup h1 h8 hopen]
  simp [nvRange_in hup.1 h8, rsv, hr, hlen0, Nat.not_lt.mpr hlen2, Nat.not_lt.mpr hend]

theorem nvWriteReply_ok (hopen : s.partOk c (uAt p 0 1) (uAt p 1 1) true = true) (hlen : 1 ≤ uAt p 2 1) (hlen2 : uAt p 2 1 ≤ 64)
    (hr : uAt p 3 1 = 0) (hend : uAt p 4 4 + uAt p 2 1 ≤ 24576) (hpage : uAt p 4 4 % 64 + uAt p 2 1 ≤ 64) :
    nvWriteReply c p s = { ret := retOK, wait := true, s := s.modNv (uAt p 0 1) fun n =>
      { n with queue := n.queue ++ [{ work := .cells (cellAt (uAt p 1 1) (uAt p 4 4)) (p.drop 8), chan := some c }] } } := by
  have hlen0 : uAt p 2 1 ≠ 0 := by omega
  unfold nvWriteReply
  dsimp only
  rw [firstErr_partChecks hup h1 h8 hopen]
  simp [nvRange_in hup.1 h8, rsv, hr, hlen0, Nat.not_lt.mpr hlen2, Nat.not_lt.mpr hend, Nat.not_lt.mpr hpage]

theorem nvSetPasswordReply_set (hopen : s.partOk c (uAt p 0 1) (uAt p 1 1) true = true) (hkind : uAt p 2 1 ≤ 1) (hr : uAt p 3 5 = 0) :
    let w := decide (uAt p 2 1 = 1)
    nvSetPasswordReply c p s =
      { ret := retOK, wait := true,
        s := s.queueSave (uAt p 0 1) 8 false (.pass ((s.dx (uAt p 0 1)).nv.passNext.set (passIdx (uAt p 1 1) w) ((p.drop 8).take 8))) (some c)
          (.grants (uAt p 1 1) w) } := by
  have h0 : uAt p 1 1 ≠ 0 := by omega
  have hk2 : uAt p 2 1 ≠ 2 := by omega
  have hk : uAt p 2 1 ≤ 2 := by omega
  intro w
  unfold nvSetPasswordReply
  dsimp only
  rw [dieAbsent_up hup.2, dieDown_up hup.2, if_neg hk2]
  simp [nvRange_in hup.1 h8, h0, hopen, hk2, rsv, hr, Nat.not_lt.mpr hk, w]

/-- NV_SET_PASSWORD of kind 2 by a secure channel erases the partition and its passwords (R523). -/
theorem nvSetPasswordReply_erase (hc : c < 4) (hkind : uAt p 2 1 = 2) (hr : uAt p 3 5 = 0) (hr8 : uAt p 8 8 = 0) :
    nvSetPasswordReply c p s =
      { ret := retOK, wait := true,
        s := (s.modNv (uAt p 0 1) fun v => { v with queue := v.queue ++ [{ work := .erase (uAt p 1 1) 384, chan := some c }] }).queueSave (uAt p 0 1) 8
          false (.pass (((s.dx (uAt p 0 1)).nv.passNext.set (passIdx (uAt p 1 1) false) (zeros 8)).set (passIdx (uAt p 1 1) true) (zeros 8)))
          (some c) (.unlock (uAt p 1 1)) } := by
  have h0 : uAt p 1 1 ≠ 0 := by omega
  unfold nvSetPasswordReply
  dsimp only
  rw [dieAbsent_up hup.2, dieDown_up hup.2, if_pos hkind]
  simp [nvRange_in hup.1 h8, h0, notSec, hkind, rsv, hr, hr8, Nat.not_le.mpr hc]

variable (hlock : (s.dx (uAt p 0 1)).nv.isLocked (uAt p 1 1) = false) (hr : uAt p 3 1 = 0)
include hlock

theorem firstErr_nvLogin : firstErr [dieAbsent s (uAt p 0 1), (decide (uAt p 1 1 = 0), retDenied),
    (!nvRange (uAt p 0 1) (uAt p 1 1) && (s.dx (uAt p 0 1)).nv.isLocked (uAt p 1 1), retDenied), dieDown s (uAt p 0 1)] = none := by
  have h0 : uAt p 1 1 ≠ 0 := by omega
  rw [dieAbsent_up hup.2, dieDown_up hup.2]
  simp [h0, hlock]

include hr

/-- NV_LOGIN with the right password grants what it names (R522). -/
theorem nvLoginReply_grant (hkind : uAt p 2 1 ≤ 1)
    (hpass : (s.dx (uAt p 0 1)).nv.passwords.getD (passIdx (uAt p 1 1) (decide (uAt p 2 1 = 1))) [] = p.drop 4) :
    let g := (uAt p 0 1, uAt p 1 1, decide (uAt p 2 1 = 1))
    nvLoginReply c p s = okReply ((s.modNv (uAt p 0 1) fun v => { v with wrong := tset 0 v.wrong (uAt p 1 1) 0 }).modGrants c fun l =>
      if l.contains g then l else l ++ [g]) := by
  have hk2 : uAt p 2 1 ≠ 2 := by omega
  have hk : uAt p 2 1 ≤ 2 := by omega
  intro g
  unfold nvLoginReply
  dsimp only
  rw [firstErr_nvLogin hup h1 h8 hlock, hpass, if_neg hk2]
  simp only [ne_eq, not_true_eq_false, decide_false, Bool.and_false, Bool.false_eq_true, if_false]
  refine guarded_pass s _ ?_
  simp [nvRange_in hup.1 h8, rsv, hr, hk2, Nat.not_lt.mpr hk]

/-- NV_LOGIN of kind 2 releases the channel's grants of the partition (R522). -/
theorem nvLoginReply_release (hkind : uAt p 2 1 = 2) (hr4 : uAt p 4 8 = 0) :
    nvLoginReply c p s = okReply (s.modGrants c fun l => l.filter fun x => !(decide (x.1 = uAt p 0 1) && decide (x.2.1 = uAt p 1 1))) := by
  have hk1 : ¬ uAt p 2 1 ≤ 1 := by omega
  unfold nvLoginReply
  dsimp only
  rw [firstErr_nvLogin hup h1 h8 hlock, if_pos hkind, decide_eq_false hk1, Bool.and_false, Bool.false_and, if_neg Bool.false_ne_true]
  refine guarded_pass s _ ?_
  simp [nvRange_in hup.1 h8, rsv, hr, hr4, hkind]

end

/-- The layout of NV_GET_STATUS: 32 bytes, with the five fields from the spares to the locks at 2 and the counters from 12 (R524). -/
theorem nvStatus_layout (d flags spares torn locked openR openW held heldW writes rejected refreshed aon chold : Nat) :
    let b := leBytes 1 d ++ leBytes 1 flags ++ leBytes 2 spares ++ leBytes 2 torn ++ leBytes 1 locked ++ leBytes 1 openR ++ leBytes 1 openW ++
      leBytes 1 held ++ leBytes 1 heldW ++ zeros 1 ++ leBytes 4 writes ++ leBytes 4 rejected ++ leBytes 4 refreshed ++ leBytes 2 aon ++
      leBytes 2 chold ++ zeros 4
    b.length = 32 ∧ b.take 1 = leBytes 1 d ∧ (b.drop 2).take 5 = leBytes 2 spares ++ leBytes 2 torn ++ leBytes 1 locked ∧
      b.drop 12 = leBytes 4 writes ++ leBytes 4 rejected ++ leBytes 4 refreshed ++ leBytes 2 aon ++ leBytes 2 chold ++ zeros 4 := by
  intro b
  simp only [b, leBytes, zeros, List.replicate_succ, List.replicate_zero, List.cons_append, List.nil_append]
  exact ⟨rfl, rfl, rfl, rfl⟩

/-- Settles O10: each command is ready and its checks pass, so it acknowledges with its effect, or waits for its page writes. -/
theorem nvCommandsComplete : Obligations.NvCommandsComplete := by
  unfold Obligations.NvCommandsComplete
  intro s c m p d part off up
  refine ⟨fun h hup h1 h8 hopen hlen hlen2 hr hend => ?read, fun h hup h1 h8 hopen hlen hlen2 hr hend hpage => ?write,
    fun h hup h1 h8 hlock hkind hr => ?grant, fun h hup h1 h8 hlock hkind hr hr4 => ?release, fun h hup h1 h8 hopen hkind hr => ?set,
    fun h hc hup h1 h8 hkind hr hr8 => ?erase, fun h hup hr => ?status⟩
  case read => exact State.runCmd_acks h (nvReadReply_ok hup h1 h8 hopen hlen hlen2 hr hend)
  case write => exact State.runCmd_waits h (nvWriteReply_ok hup h1 h8 hopen hlen hlen2 hr hend hpage)
  case grant =>
    intro g hpass
    exact State.runCmd_acks h (nvLoginReply_grant hup h1 h8 hlock hr hkind hpass)
  case release => exact State.runCmd_acks h (nvLoginReply_release hup h1 h8 hlock hr hkind hr4)
  case set => exact State.runCmd_waits h (nvSetPasswordReply_set hup h1 h8 hopen hkind hr)
  case erase => exact State.runCmd_waits h (nvSetPasswordReply_erase hup h1 h8 hc hkind hr hr8)
  case status =>
    exact ⟨_, State.runCmd_acks h (guarded_pass s _ (firstErr_dieRead hup.1 hup.2 hr)), nvStatus_layout ..⟩

end Sys2Proof.Machine
end

section
/-! SUPPORT. The commands of power, belay, the margin plan and the ageing record (R550 to R554). -/

namespace Sys2Proof.Machine
open Sys2Proof

theorem belayConfigReply_ok {s : State} {c : Nat} {p : List Byte} (hc : c < 4) (h10 : 10 ≤ uAt p 0 2) (h600 : uAt p 0 2 ≤ 600) (h1 : 1 ≤ uAt p 2 2)
    (h1000 : uAt p 2 2 ≤ 1000) (hf : uAt p 4 1 < 4) (hr : uAt p 5 3 = 0) :
    belayConfigReply c p s = okReply (s.modBelay fun b =>
      { b with wakeS := uAt p 0 2, debounceMs := uAt p 2 2, mainfailEn := (uAt p 4 1).testBit 0, autoSave := (uAt p 4 1).testBit 1 }) := by
  have h0 : uAt p 2 2 ≠ 0 := by omega
  refine guarded_pass s _ ?_
  simp [notSec, rsv, hr, h0, Nat.not_le.mpr hc, Nat.not_lt.mpr h10, Nat.not_lt.mpr h600, Nat.not_lt.mpr h1000, Nat.not_le.mpr hf]

theorem belayEnterReply_ok {s : State} {c : Nat} {p : List Byte} (hc : c < 4) (hmagic : uAt p 0 4 = 0x424C4159) (hen : s.tb.tbEn = true) :
    belayEnterReply c p s = okReply (s.modBelay fun b => { b with armed := some c, duration := uAt p 4 4 }) := by
  refine guarded_pass s _ ?_
  simp [notSec, hmagic, hen, Nat.not_le.mpr hc]

theorem powerGetStatusReply_ok {s : State} {p : List Byte} (hr : uAt p 0 4 = 0) (c : Nat) :
    powerGetStatusReply c p s = okWith (leBytes 1 s.belay.phase ++ leBytes 1 s.belay.rstCause ++ leBytes 1 (fld s.belay.hist 0 5) ++
      leBytes 1 s.belay.outs.length ++ leBytes 4 s.belay.cnt ++ leBytes 4 s.belay.seconds ++ zeros 4 ++ leBytes 8 s.belay.entryMts ++
      leBytesI 8 s.belayBound) s := by
  refine guarded_pass s _ ?_
  simp [rsv, hr]

/-- Settles O11: each command is ready and its checks pass, so it acknowledges with its effect. -/
theorem powerCommandsComplete : Obligations.PowerCommandsComplete := by
  unfold Obligations.PowerCommandsComplete
  intro s c m p d
  refine ⟨fun h hc h10 h600 h1 h1000 hf hr => ?config, fun h hc hmagic hen => ?enter, fun h hr => ?power, fun h hd hup hr => ?plan,
    fun h hd hup hr => ?ageing⟩
  case config => exact State.runCmd_acks h (belayConfigReply_ok hc h10 h600 h1 h1000 hf hr)
  case enter => exact State.runCmd_acks h (belayEnterReply_ok hc hmagic hen)
  case power => exact State.runCmd_acks h (powerGetStatusReply_ok hr c)
  case plan => exact State.runCmd_acks h (guarded_pass s _ (firstErr_dieRead hd hup hr))
  case ageing => exact State.runCmd_acks h (guarded_pass s _ (firstErr_dieRead hd hup hr))

end Sys2Proof.Machine
end
